-- ==== Sys2Proof/Word.lean ====
section
/-!
DEFINITION. Word.lean: the word types of the ZU1024 (00_scope, Numbers, units and bits) and the plainest arithmetic on them.
-/

namespace Sys2Proof

/-- A device register or an instruction word (R20, R112). -/
abbrev Word := BitVec 32

/-- One byte of memory (00_scope: memory is byte-addressed). -/
abbrev Byte := BitVec 8

/-- The integer value of a register (R117). -/
abbrev Dword := BitVec 64

/-- The data bits of a cell (R52). -/
abbrev Quad := BitVec 128

/-- A virtual address (R63, CURSOR). -/
abbrev VAddr := BitVec 56

/-- An engine id (R27). -/
abbrev Eid := BitVec 10

/-- A general register number, c0 to c31. -/
abbrev Reg := BitVec 5

/-- A guard field (R113). -/
abbrev Grd := BitVec 3

/-- The kinds a register or a well-formed memory cell can have (Table 02-1). -/
inductive Kind where
  | raw | int | cap | sealed | poison
  deriving DecidableEq, Repr

/-- A cell as a register holds it: 128 data bits and a kind (R52, R55). -/
structure Cell where
  bits : Quad
  kind : Kind
  deriving DecidableEq, Repr

/-- The null cell, which c0 reads as (R56). -/
def Cell.null : Cell := { bits := 0, kind := .int }

end Sys2Proof
end

