-- ==== Sys2Proof/Syntax.lean ====
section
/-!
DEFINITION. Syntax.lean: the commands the block takes, one constructor per row of spec/opcode_table.json, and the types of
their operands. An instruction command stands for the word an engine fetches at PCC; the other commands are the hardware's
own events, the masters' register writes, the firmware's service of a request and what arrives at the device's boundary,
each with the data it brings.
-/

namespace Sys2Proof

/-- imm13 and end13 (Table 03-2). -/
abbrev Imm13 := BitVec 13
/-- imm18 and off18 (Table 03-2). -/
abbrev Imm18 := BitVec 18
/-- A condition code, or the func[3:0] selector of SELECT (Table 03-4, R133). -/
abbrev Cnd := BitVec 4
/-- The key of a cell or a byte: a physical address, or an address of Cretal's space or of an engine's own memory (R38, R41, R491). -/
abbrev PKey := BitVec 48

/-- The masters that write registers, in the order their writes of one cycle take effect (R583). -/
inductive Master where
  | cretal | debug | trunk | engine (e : Eid)
  deriving DecidableEq, Repr

/-- The masters that have an MPU (R336). -/
inductive MpuUnit where
  | engine (e : Eid) | mover (t : BitVec 5) | port (p : BitVec 3) | cretal
  deriving DecidableEq, Repr

/-- The three runs of the scrubber (R377). -/
inductive ScrubUnit where
  | onchip | dramA | dramB
  deriving DecidableEq, Repr

/-- A clock source that fails or returns (R527): the 25 MHz reference or a PLL. -/
inductive ClkSrc where
  | xtal25 | plla | pllb | plld
  deriving DecidableEq, Repr

/-- An upstream partner frame as it arrives (R457, R458): whether its comma lies at group 0, whether groups 1 to 124 are free
of code and disparity errors, and the bytes of groups 1 to 124. -/
structure PFrame where
  comma : Bool
  codes : Bool
  bytes : List Byte
  deriving DecidableEq, Repr

/-- A received trunk frame (R475): header, payload and CRC-32C, byte 0 first. -/
structure TFrame where
  bytes : List Byte
  deriving DecidableEq, Repr

/-! ## The installation record (R508, Tables 14-8 and 14-9) -/

/-- A capability specification (Table 14-10). -/
structure CapSpec where
  res : Nat
  lin : Nat
  perm : Nat
  drop : Nat
  ofs : Nat
  size : Nat
  cur : Nat
  deriving DecidableEq, Repr

/-- A domain of the record, with the flags of Table 14-9. -/
structure Domain where
  id : Nat
  engines : List Nat
  chans : List Nat
  drop : Nat
  quota : Nat
  trustk : Bool
  heartbeat : Bool
  safety : Bool
  image : Bool
  cal : Bool
  sysmgr : Bool
  soft : List Nat
  deriving DecidableEq, Repr

/-- A resource of the record. -/
structure Resource where
  num : Nat
  base : Nat
  size : Nat
  vbase : Nat
  perm : Nat
  domains : List Nat
  mirror : Bool
  deriving DecidableEq, Repr

/-- An MPU region of the record: first and last byte, and the value of MPU_RATTR. -/
structure RegionRec where
  lo : Nat
  hi : Nat
  attr : Word
  deriving DecidableEq, Repr

/-- An engine of the record, with the specifications of its start record (Table 14-11). -/
structure EngineRec where
  id : Nat
  domain : Nat
  chan : Option Nat
  spillHw : Bool
  paired : Bool
  dtb : Nat
  regions : List RegionRec
  pcc : CapSpec
  ksp : CapSpec
  vbar : CapSpec
  restpc : CapSpec
  restsp : CapSpec
  drop : CapSpec
  vmode : Dword
  ttb1 : Dword
  tcr : Dword
  tlbage : Dword
  deriving DecidableEq, Repr

/-- A port of the record. -/
structure PortRec where
  port : Nat
  owner : Nat
  model : Word
  serial : Word
  base : List (Nat × Nat)
  deriving DecidableEq, Repr

/-- The device item of the record: register values, initial event bindings (event id, EVR_BIND value), and the regions to which firmware
narrows Cretal's MPU (R492). -/
structure DeviceRec where
  memCfgA : Word
  memCfgB : Word
  dcsize : List (Nat × Nat)
  safePol : Word
  calCfg : Word
  kcfg : Word
  hang : Word
  scrbPeriod : Word
  role : Nat
  refcal : Word
  tdrZero : List (Nat × Word)
  binds : List (Nat × Word)
  cretalMpu : List RegionRec
  deriving DecidableEq, Repr

/-- The installation record carried by a boot image. -/
structure InstallRec where
  domains : List Domain
  resources : List Resource
  engines : List EngineRec
  ports : List PortRec
  device : DeviceRec
  deriving DecidableEq, Repr

/-- The outcome of a noise measurement (R439): e_meas in 0.1 nV rms, and the reading of the sensor beside the resistor in mK. -/
structure NoiseReading where
  noise : BitVec 16
  temp : Word
  deriving DecidableEq, Repr

/-- What the ROM finds at boot (R489, R517): the flash size of SFDP as a power of two, the protocols it advertises, whether the
8D-8D-8D read of the SFDP header agrees, and the installation record that each slot's body carries. -/
structure BootInput where
  size : Nat
  adv8D : Bool
  hdr8D : Bool
  adv4S : Bool
  rec0 : InstallRec
  rec1 : InstallRec
  deriving DecidableEq, Repr


/-- The commands of spec/opcode_table.json, one constructor per row. An engine instruction names the engine `e` that commits it. -/
inductive Instr where
  /-- R128: Adds two integer registers, sets flags in a control task and traps on signed overflow when TSTAT.OVE is 1. -/
  | add (e : Eid) (g : Grd) (rd : Reg) (rs1 : Reg) (rs2 : Reg)
  /-- R128: Adds two integer registers without any overflow trap. -/
  | addu (e : Eid) (g : Grd) (rd : Reg) (rs1 : Reg) (rs2 : Reg)
  /-- R128: Subtracts two integer registers and traps on signed overflow when TSTAT.OVE is 1. -/
  | sub (e : Eid) (g : Grd) (rd : Reg) (rs1 : Reg) (rs2 : Reg)
  /-- R128: Subtracts two integer registers without any overflow trap. -/
  | subu (e : Eid) (g : Grd) (rd : Reg) (rs1 : Reg) (rs2 : Reg)
  /-- R128: Negates an integer register and traps on overflow of -2^63 when TSTAT.OVE is 1. -/
  | neg (e : Eid) (g : Grd) (rd : Reg) (rs1 : Reg)
  /-- R128: Sets the control-task flags from x - y and writes no register. -/
  | cmp (e : Eid) (g : Grd) (rs1 : Reg) (rs2 : Reg)
  /-- R125: Writes the bitwise and of two integer registers. -/
  | and (e : Eid) (g : Grd) (rd : Reg) (rs1 : Reg) (rs2 : Reg)
  /-- R125: Writes the bitwise or of two integer registers. -/
  | or (e : Eid) (g : Grd) (rd : Reg) (rs1 : Reg) (rs2 : Reg)
  /-- R125: Writes the bitwise exclusive or of two integer registers. -/
  | xor (e : Eid) (g : Grd) (rd : Reg) (rs1 : Reg) (rs2 : Reg)
  /-- R125: Writes x and not y. -/
  | andn (e : Eid) (g : Grd) (rd : Reg) (rs1 : Reg) (rs2 : Reg)
  /-- R125: Writes x or not y. -/
  | orn (e : Eid) (g : Grd) (rd : Reg) (rs1 : Reg) (rs2 : Reg)
  /-- R125: Sets the control-task flags from x and y and writes no register. -/
  | tst (e : Eid) (g : Grd) (rs1 : Reg) (rs2 : Reg)
  /-- R128: Shifts an integer left logically by a register amount. -/
  | sll (e : Eid) (g : Grd) (rd : Reg) (rs1 : Reg) (rs2 : Reg)
  /-- R128: Shifts an integer right logically by a register amount. -/
  | srl (e : Eid) (g : Grd) (rd : Reg) (rs1 : Reg) (rs2 : Reg)
  /-- R128: Shifts an integer right arithmetically by a register amount. -/
  | sra (e : Eid) (g : Grd) (rd : Reg) (rs1 : Reg) (rs2 : Reg)
  /-- R128: Rotates an integer left by the amount modulo 64. -/
  | rol (e : Eid) (g : Grd) (rd : Reg) (rs1 : Reg) (rs2 : Reg)
  /-- R128: Rotates an integer right by the amount modulo 64. -/
  | ror (e : Eid) (g : Grd) (rd : Reg) (rs1 : Reg) (rs2 : Reg)
  /-- R125: Writes the signed minimum of two integers. -/
  | min (e : Eid) (g : Grd) (rd : Reg) (rs1 : Reg) (rs2 : Reg)
  /-- R125: Writes the signed maximum of two integers. -/
  | max (e : Eid) (g : Grd) (rd : Reg) (rs1 : Reg) (rs2 : Reg)
  /-- R125: Writes the unsigned minimum of two integers. -/
  | minu (e : Eid) (g : Grd) (rd : Reg) (rs1 : Reg) (rs2 : Reg)
  /-- R125: Writes the unsigned maximum of two integers. -/
  | maxu (e : Eid) (g : Grd) (rd : Reg) (rs1 : Reg) (rs2 : Reg)
  /-- R125: Counts the leading zeros of an integer. -/
  | clz (e : Eid) (g : Grd) (rd : Reg) (rs1 : Reg)
  /-- R125: Counts the trailing zeros of an integer. -/
  | ctz (e : Eid) (g : Grd) (rd : Reg) (rs1 : Reg)
  /-- R125: Counts the one bits of an integer. -/
  | popc (e : Eid) (g : Grd) (rd : Reg) (rs1 : Reg)
  /-- R125: Sign-extends the low byte of an integer. -/
  | sxb (e : Eid) (g : Grd) (rd : Reg) (rs1 : Reg)
  /-- R125: Sign-extends the low halfword of an integer. -/
  | sxh (e : Eid) (g : Grd) (rd : Reg) (rs1 : Reg)
  /-- R125: Sign-extends the low word of an integer. -/
  | sxw (e : Eid) (g : Grd) (rd : Reg) (rs1 : Reg)
  /-- R125: Zero-extends the low byte of an integer. -/
  | zxb (e : Eid) (g : Grd) (rd : Reg) (rs1 : Reg)
  /-- R125: Zero-extends the low halfword of an integer. -/
  | zxh (e : Eid) (g : Grd) (rd : Reg) (rs1 : Reg)
  /-- R125: Zero-extends the low word of an integer. -/
  | zxw (e : Eid) (g : Grd) (rd : Reg) (rs1 : Reg)
  /-- R128: Writes the low 64 bits of the signed product and traps on overflow when TSTAT.OVE is 1. -/
  | mul (e : Eid) (g : Grd) (rd : Reg) (rs1 : Reg) (rs2 : Reg)
  /-- R128: Writes the low 64 bits of the unsigned product. -/
  | mulu (e : Eid) (g : Grd) (rd : Reg) (rs1 : Reg) (rs2 : Reg)
  /-- R128: Writes the high 64 bits of the signed product. -/
  | mulh (e : Eid) (g : Grd) (rd : Reg) (rs1 : Reg) (rs2 : Reg)
  /-- R128: Writes the high 64 bits of the unsigned product. -/
  | mulhu (e : Eid) (g : Grd) (rd : Reg) (rs1 : Reg) (rs2 : Reg)
  /-- R128: Writes the signed quotient, setting TSTAT.DZ and trapping on a zero divisor or overflow as enabled. -/
  | div (e : Eid) (g : Grd) (rd : Reg) (rs1 : Reg) (rs2 : Reg)
  /-- R128: Writes the unsigned quotient, setting TSTAT.DZ on a zero divisor without trapping. -/
  | divu (e : Eid) (g : Grd) (rd : Reg) (rs1 : Reg) (rs2 : Reg)
  /-- R128: Writes the signed remainder without trapping. -/
  | rem (e : Eid) (g : Grd) (rd : Reg) (rs1 : Reg) (rs2 : Reg)
  /-- R128: Writes the unsigned remainder without trapping. -/
  | remu (e : Eid) (g : Grd) (rd : Reg) (rs1 : Reg) (rs2 : Reg)
  /-- R126: Adds a sign-extended immediate as ADD does. -/
  | addi (e : Eid) (g : Grd) (rd : Reg) (rs1 : Reg) (imm : Imm13)
  /-- R126: Adds a sign-extended immediate as ADDU does. -/
  | addui (e : Eid) (g : Grd) (rd : Reg) (rs1 : Reg) (imm : Imm13)
  /-- R126: Ands a sign-extended immediate. -/
  | andi (e : Eid) (g : Grd) (rd : Reg) (rs1 : Reg) (imm : Imm13)
  /-- R126: Ors a sign-extended immediate. -/
  | ori (e : Eid) (g : Grd) (rd : Reg) (rs1 : Reg) (imm : Imm13)
  /-- R126: Exclusive-ors a sign-extended immediate. -/
  | xori (e : Eid) (g : Grd) (rd : Reg) (rs1 : Reg) (imm : Imm13)
  /-- R126: Sets control-task flags from a comparison with an immediate. -/
  | cmpi (e : Eid) (g : Grd) (rs1 : Reg) (imm : Imm13)
  /-- R127: Shifts or rotates by a 6-bit immediate amount selected by imm13[8:6]. -/
  | shi (e : Eid) (g : Grd) (rd : Reg) (rs1 : Reg) (imm : Imm13)
  /-- R132: Writes a sign-extended 18-bit immediate. -/
  | movi (e : Eid) (g : Grd) (rd : Reg) (imm : Imm18)
  /-- R132: Replaces one 16-bit field of an integer register with an immediate. -/
  | movk (e : Eid) (g : Grd) (rd : Reg) (imm : Imm18)
  /-- R133: Selects one of two integers by a condition or predicate. -/
  | sel (e : Eid) (g : Grd) (cond : Cnd) (rd : Reg) (rs1 : Reg) (rs2 : Reg)
  /-- R133: Moves an integer when a condition or predicate holds. -/
  | cmov (e : Eid) (g : Grd) (cond : Cnd) (rd : Reg) (rs1 : Reg)
  /-- R134: Branches PC-relative when the condition or guard holds, faulting if the target leaves PCC bounds. -/
  | b (e : Eid) (g : Grd) (cond : Cnd) (off : Imm18)
  /-- R135: Jumps PC-relative and writes a link capability. -/
  | jal (e : Eid) (g : Grd) (rd : Reg) (imm : Imm18)
  /-- R137: Jumps through a capability register, unsealing a call-entry capability, and writes a link. -/
  | jr (e : Eid) (g : Grd) (rd : Reg) (rs1 : Reg)
  /-- R77: Copies a register with all bits and kind. -/
  | cmove (e : Eid) (g : Grd) (rd : Reg) (rs1 : Reg)
  /-- R77: Sets the cursor of a capability, giving INT outside the representable window. -/
  | cmoveSet (e : Eid) (g : Grd) (rd : Reg) (rs1 : Reg) (rs2 : Reg)
  /-- R77: Adds a register to the cursor of a capability. -/
  | cmoveAdd (e : Eid) (g : Grd) (rd : Reg) (rs1 : Reg) (rs2 : Reg)
  /-- R77: Adds an immediate to the cursor of a capability. -/
  | cmoveAddi (e : Eid) (g : Grd) (rd : Reg) (rs1 : Reg) (imm : Imm13)
  /-- R68: Narrows a capability to base at the cursor and a given length. -/
  | cnarrow (e : Eid) (g : Grd) (rd : Reg) (rs1 : Reg) (rs2 : Reg)
  /-- R77: Clears permissions of a capability by a mask. -/
  | cmask (e : Eid) (g : Grd) (rd : Reg) (rs1 : Reg) (rs2 : Reg)
  /-- R81: Seals a capability with the object type given by an authority. -/
  | cseal (e : Eid) (g : Grd) (rd : Reg) (rs1 : Reg) (rs2 : Reg)
  /-- R77: Unseals a sealed capability with a matching UNSEAL authority. -/
  | copen (e : Eid) (g : Grd) (rd : Reg) (rs1 : Reg) (rs2 : Reg)
  /-- R139: Returns the kind of a register. -/
  | ckind (e : Eid) (g : Grd) (rd : Reg) (rs1 : Reg)
  /-- R139: Returns the permissions of a capability. -/
  | ckindPerm (e : Eid) (g : Grd) (rd : Reg) (rs1 : Reg)
  /-- R139: Returns the object type of a capability. -/
  | ckindOtype (e : Eid) (g : Grd) (rd : Reg) (rs1 : Reg)
  /-- R79: Returns the lineage index and generation of a capability. -/
  | ckindLin (e : Eid) (g : Grd) (rd : Reg) (rs1 : Reg)
  /-- R139: Returns the decoded base of a capability. -/
  | cbase (e : Eid) (g : Grd) (rd : Reg) (rs1 : Reg)
  /-- R139: Returns the cursor of a capability. -/
  | cbaseCur (e : Eid) (g : Grd) (rd : Reg) (rs1 : Reg)
  /-- R139: Returns top minus base of a capability. -/
  | clen (e : Eid) (g : Grd) (rd : Reg) (rs1 : Reg)
  /-- R69: Returns the smallest representable length not less than an integer. -/
  | clenR (e : Eid) (g : Grd) (rd : Reg) (rs1 : Reg)
  /-- R69: Returns the base alignment mask for a representable length. -/
  | clenM (e : Eid) (g : Grd) (rd : Reg) (rs1 : Reg)
  /-- R144: Loads a sign-extended byte through a capability. -/
  | ldb (e : Eid) (g : Grd) (rd : Reg) (rs1 : Reg) (imm : Imm13)
  /-- R144: Loads a zero-extended byte. -/
  | ldbu (e : Eid) (g : Grd) (rd : Reg) (rs1 : Reg) (imm : Imm13)
  /-- R144: Loads a sign-extended halfword. -/
  | ldh (e : Eid) (g : Grd) (rd : Reg) (rs1 : Reg) (imm : Imm13)
  /-- R144: Loads a zero-extended halfword. -/
  | ldhu (e : Eid) (g : Grd) (rd : Reg) (rs1 : Reg) (imm : Imm13)
  /-- R144: Loads a sign-extended word. -/
  | ldw (e : Eid) (g : Grd) (rd : Reg) (rs1 : Reg) (imm : Imm13)
  /-- R144: Loads a zero-extended word. -/
  | ldwu (e : Eid) (g : Grd) (rd : Reg) (rs1 : Reg) (imm : Imm13)
  /-- R144: Loads 8 bytes. -/
  | ldd (e : Eid) (g : Grd) (rd : Reg) (rs1 : Reg) (imm : Imm13)
  /-- R144: Loads a whole cell with its kind, needing LDC for capabilities. -/
  | ldq (e : Eid) (g : Grd) (rd : Reg) (rs1 : Reg) (imm : Imm13)
  /-- R144: Stores a byte and makes the cell RAW. -/
  | stb (e : Eid) (g : Grd) (rv : Reg) (rs1 : Reg) (imm : Imm13)
  /-- R144: Stores a halfword and makes the cell RAW. -/
  | sth (e : Eid) (g : Grd) (rv : Reg) (rs1 : Reg) (imm : Imm13)
  /-- R144: Stores a word and makes the cell RAW. -/
  | stw (e : Eid) (g : Grd) (rv : Reg) (rs1 : Reg) (imm : Imm13)
  /-- R144: Stores 8 bytes and makes the cell RAW. -/
  | std (e : Eid) (g : Grd) (rv : Reg) (rs1 : Reg) (imm : Imm13)
  /-- R144: Stores a whole cell with its kind, testing STC and STL for capabilities. -/
  | stq (e : Eid) (g : Grd) (rv : Reg) (rs1 : Reg) (imm : Imm13)
  /-- R142: Loads with a scaled-index, post-increment, modulo or bit-reversed addressing mode. -/
  | ldx (e : Eid) (g : Grd) (rd : Reg) (rs1 : Reg) (ix : Reg) (mode : BitVec 3) (size : BitVec 3) (sx : Bool)
  /-- R142: Stores with a scaled-index, post-increment, modulo or bit-reversed addressing mode. -/
  | stx (e : Eid) (g : Grd) (rv : Reg) (rs1 : Reg) (ix : Reg) (mode : BitVec 3) (size : BitVec 3)
  /-- R147: Loads at level K with the page check of a level T access. -/
  | ldu (e : Eid) (g : Grd) (rd : Reg) (rs1 : Reg) (ix : Reg) (mode : BitVec 3) (size : BitVec 3) (sx : Bool)
  /-- R147: Stores at level K with the page check of a level T access. -/
  | stu (e : Eid) (g : Grd) (rv : Reg) (rs1 : Reg) (ix : Reg) (mode : BitVec 3) (size : BitVec 3)
  /-- R150: Atomically reads a byte and writes 0x01. -/
  | tas (e : Eid) (g : Grd) (rd : Reg) (rs1 : Reg)
  /-- R149: Loads a cell and sets the engine's reservation on it. -/
  | lres (e : Eid) (g : Grd) (rd : Reg) (rs1 : Reg)
  /-- R151: Stores a cell only if the reservation holds and clears the reservation. -/
  | scnd (e : Eid) (g : Grd) (rd : Reg) (rs1 : Reg) (rs2 : Reg)
  /-- R155: Orders later loads after earlier loads and discards stale L1D data. -/
  | barAcq (e : Eid) (g : Grd)
  /-- R155: Waits until all earlier writes are visible before later writes. -/
  | barRel (e : Eid) (g : Grd)
  /-- R155: Acts as BAR.ACQ and BAR.REL and orders stores before loads. -/
  | barFull (e : Eid) (g : Grd)
  /-- R353: Waits for accesses checked under old MPU values and applies completed MPU writes. -/
  | msync (e : Eid) (g : Grd)
  /-- R156: Raises System Call with the trap number in EVAL. -/
  | trap (e : Eid) (g : Grd) (num : BitVec 12)
  /-- R157: Reads a system register into a general register. -/
  | gsr (e : Eid) (g : Grd) (rd : Reg) (sr : BitVec 12)
  /-- R157: Writes a system register, serialising the engine. -/
  | ssr (e : Eid) (g : Grd) (sr : BitVec 12) (rs1 : Reg)
  /-- R160: Has no effect. -/
  | nop (e : Eid) (g : Grd)
  /-- R291: Returns from an exception after checking EPCC and ESTAT, popping a frame if nested. -/
  | xret (e : Eid) (g : Grd)
  /-- R215: Resets the current task's direction counters and BTB entries. -/
  | pflush (e : Eid) (g : Grd)
  /-- R218: Flushes the predictor and puts the task in deterministic mode for life. -/
  | pbar (e : Eid) (g : Grd)
  /-- R329: Invalidates the whole TLB, walk cache and L1I after draining. -/
  | tinvAll (e : Eid) (g : Grd)
  /-- R329: Invalidates non-global TLB entries of one ASID, the walk cache and L1I. -/
  | tinvAsid (e : Eid) (g : Grd) (rs1 : Reg)
  /-- R329: Invalidates TLB entries covering one virtual address. -/
  | tinvVa (e : Eid) (g : Grd) (rs1 : Reg) (rs2 : Reg)
  /-- R333: Invalidates a virtual address on every engine of the device and waits for all acknowledgements. -/
  | tinvBcast (e : Eid) (g : Grd) (rs1 : Reg) (rs2 : Reg)
  /-- R253: Consumes pending wake vectors or makes the task WAITING, or ends a scheduler trap at K. -/
  | wait (e : Eid) (g : Grd)
  /-- R180: Starts a zero-overhead loop level with a count from a register. -/
  | loop (e : Eid) (g : Grd) (lvl : BitVec 2) (rs1 : Reg) (end13 : Imm13)
  /-- R180: Starts a zero-overhead loop level with an immediate count. -/
  | loopi (e : Eid) (g : Grd) (lvl : BitVec 2) (cnt : Reg) (end13 : Imm13)
  /-- R182: Ends loop levels k to 2. -/
  | lclr (e : Eid) (g : Grd) (lvl : BitVec 2)
  /-- R188: Copies a range chunk by chunk, as cells with kinds or as bytes. -/
  | cpyb (e : Eid) (g : Grd) (rd : Reg) (rs1 : Reg) (rs2 : Reg)
  /-- R189: Fills a range with a RAW or INT cell value. -/
  | fillb (e : Eid) (g : Grd) (rd : Reg) (rs1 : Reg) (rs2 : Reg)
  /-- R189: Fills a range with POISON cells. -/
  | fillbP (e : Eid) (g : Grd) (rd : Reg) (rs2 : Reg)
  /-- R108: Turns every capability in a range that fails its lineage check into INT. -/
  | sweep (e : Eid) (g : Grd) (rd : Reg) (rs2 : Reg)
  /-- R190: Multiplies elements of two ranges signed and accumulates them into an accumulator. -/
  | macr (e : Eid) (g : Grd) (w : BitVec 2) (acc : BitVec 2) (rd : Reg) (rs1 : Reg) (rs2 : Reg)
  /-- R190: Multiplies elements of two ranges unsigned and accumulates them. -/
  | macru (e : Eid) (g : Grd) (w : BitVec 2) (acc : BitVec 2) (rd : Reg) (rs1 : Reg) (rs2 : Reg)
  /-- R190: Multiplies elements of two ranges as fractions and accumulates them. -/
  | macrq (e : Eid) (g : Grd) (w : BitVec 2) (acc : BitVec 2) (rd : Reg) (rs1 : Reg) (rs2 : Reg)
  /-- R187: Checks and performs the next 64-byte chunk of a long instruction, or stops there with PROG written. -/
  | longChunk (e : Eid)
  /-- R167: Adds lanes modulo 2^w. -/
  | ladd (e : Eid) (g : Grd) (w : BitVec 2) (rd : Reg) (rs1 : Reg) (rs2 : Reg)
  /-- R167: Adds lanes with signed saturation. -/
  | ladds (e : Eid) (g : Grd) (w : BitVec 2) (rd : Reg) (rs1 : Reg) (rs2 : Reg)
  /-- R167: Adds lanes with unsigned saturation. -/
  | laddus (e : Eid) (g : Grd) (w : BitVec 2) (rd : Reg) (rs1 : Reg) (rs2 : Reg)
  /-- R167: Subtracts lanes modulo 2^w. -/
  | lsub (e : Eid) (g : Grd) (w : BitVec 2) (rd : Reg) (rs1 : Reg) (rs2 : Reg)
  /-- R167: Subtracts lanes with signed saturation. -/
  | lsubs (e : Eid) (g : Grd) (w : BitVec 2) (rd : Reg) (rs1 : Reg) (rs2 : Reg)
  /-- R167: Subtracts lanes with unsigned saturation. -/
  | lsubus (e : Eid) (g : Grd) (w : BitVec 2) (rd : Reg) (rs1 : Reg) (rs2 : Reg)
  /-- R167: Multiplies lanes keeping the low w bits. -/
  | lmul (e : Eid) (g : Grd) (w : BitVec 2) (rd : Reg) (rs1 : Reg) (rs2 : Reg)
  /-- R167: Multiplies fractional lanes with rounding and saturation. -/
  | lmulq (e : Eid) (g : Grd) (w : BitVec 2) (rd : Reg) (rs1 : Reg) (rs2 : Reg)
  /-- R167: Takes the signed lane minimum. -/
  | lmin (e : Eid) (g : Grd) (w : BitVec 2) (rd : Reg) (rs1 : Reg) (rs2 : Reg)
  /-- R167: Takes the signed lane maximum. -/
  | lmax (e : Eid) (g : Grd) (w : BitVec 2) (rd : Reg) (rs1 : Reg) (rs2 : Reg)
  /-- R167: Takes the unsigned lane minimum. -/
  | lminu (e : Eid) (g : Grd) (w : BitVec 2) (rd : Reg) (rs1 : Reg) (rs2 : Reg)
  /-- R167: Takes the unsigned lane maximum. -/
  | lmaxu (e : Eid) (g : Grd) (w : BitVec 2) (rd : Reg) (rs1 : Reg) (rs2 : Reg)
  /-- R167: Takes the saturated absolute value of each lane. -/
  | labs (e : Eid) (g : Grd) (w : BitVec 2) (rd : Reg) (rs1 : Reg)
  /-- R167: Negates each lane with saturation. -/
  | lnegs (e : Eid) (g : Grd) (w : BitVec 2) (rd : Reg) (rs1 : Reg)
  /-- R167: Ands lanes. -/
  | land (e : Eid) (g : Grd) (w : BitVec 2) (rd : Reg) (rs1 : Reg) (rs2 : Reg)
  /-- R167: Ors lanes. -/
  | lor (e : Eid) (g : Grd) (w : BitVec 2) (rd : Reg) (rs1 : Reg) (rs2 : Reg)
  /-- R167: Exclusive-ors lanes. -/
  | lxor (e : Eid) (g : Grd) (w : BitVec 2) (rd : Reg) (rs1 : Reg) (rs2 : Reg)
  /-- R167: Computes x and not y per lane. -/
  | landn (e : Eid) (g : Grd) (w : BitVec 2) (rd : Reg) (rs1 : Reg) (rs2 : Reg)
  /-- R167: Shifts lanes left logically. -/
  | lsll (e : Eid) (g : Grd) (w : BitVec 2) (rd : Reg) (rs1 : Reg) (rs2 : Reg)
  /-- R167: Shifts lanes right logically. -/
  | lsrl (e : Eid) (g : Grd) (w : BitVec 2) (rd : Reg) (rs1 : Reg) (rs2 : Reg)
  /-- R167: Shifts lanes right arithmetically. -/
  | lsra (e : Eid) (g : Grd) (w : BitVec 2) (rd : Reg) (rs1 : Reg) (rs2 : Reg)
  /-- R167: Copies lane 0 into every lane. -/
  | lsplat (e : Eid) (g : Grd) (w : BitVec 2) (rd : Reg) (rs1 : Reg)
  /-- R168: Permutes bytes by selector bytes. -/
  | lperm (e : Eid) (g : Grd) (rd : Reg) (rs1 : Reg) (rs2 : Reg)
  /-- R168: Reverses the lane order. -/
  | lrev (e : Eid) (g : Grd) (w : BitVec 2) (rd : Reg) (rs1 : Reg)
  /-- R168: Interleaves the low halves of two registers. -/
  | lziplo (e : Eid) (g : Grd) (w : BitVec 2) (rd : Reg) (rs1 : Reg) (rs2 : Reg)
  /-- R168: Interleaves the high halves of two registers. -/
  | lziphi (e : Eid) (g : Grd) (w : BitVec 2) (rd : Reg) (rs1 : Reg) (rs2 : Reg)
  /-- R168: Gathers the even lanes of two registers. -/
  | lunzipe (e : Eid) (g : Grd) (w : BitVec 2) (rd : Reg) (rs1 : Reg) (rs2 : Reg)
  /-- R168: Gathers the odd lanes of two registers. -/
  | lunzipo (e : Eid) (g : Grd) (w : BitVec 2) (rd : Reg) (rs1 : Reg) (rs2 : Reg)
  /-- R169: Inserts an integer into lane k. -/
  | lins (e : Eid) (g : Grd) (w : BitVec 2) (rd : Reg) (rs1 : Reg) (k : Reg)
  /-- R169: Extracts lane k zero-extended. -/
  | lext (e : Eid) (g : Grd) (w : BitVec 2) (rd : Reg) (rs1 : Reg) (k : Reg)
  /-- R169: Extracts lane k sign-extended. -/
  | lexts (e : Eid) (g : Grd) (w : BitVec 2) (rd : Reg) (rs1 : Reg) (k : Reg)
  /-- R168: Packs double-width lanes with signed saturation. -/
  | lpacks (e : Eid) (g : Grd) (w : BitVec 2) (rd : Reg) (rs1 : Reg) (rs2 : Reg)
  /-- R168: Packs double-width signed lanes with unsigned saturation. -/
  | lpackus (e : Eid) (g : Grd) (w : BitVec 2) (rd : Reg) (rs1 : Reg) (rs2 : Reg)
  /-- R168: Sign-extends the low lanes to double width. -/
  | lwidenLo (e : Eid) (g : Grd) (w : BitVec 2) (rd : Reg) (rs1 : Reg)
  /-- R168: Sign-extends the high lanes to double width. -/
  | lwidenHi (e : Eid) (g : Grd) (w : BitVec 2) (rd : Reg) (rs1 : Reg)
  /-- R171: Writes predicate bits for equal lanes. -/
  | pcmpEq (e : Eid) (g : Grd) (w : BitVec 2) (pd : Grd) (rs1 : Reg) (rs2 : Reg)
  /-- R171: Writes predicate bits for unequal lanes. -/
  | pcmpNe (e : Eid) (g : Grd) (w : BitVec 2) (pd : Grd) (rs1 : Reg) (rs2 : Reg)
  /-- R171: Writes predicate bits for signed less-than lanes. -/
  | pcmpLt (e : Eid) (g : Grd) (w : BitVec 2) (pd : Grd) (rs1 : Reg) (rs2 : Reg)
  /-- R171: Writes predicate bits for signed less-or-equal lanes. -/
  | pcmpLe (e : Eid) (g : Grd) (w : BitVec 2) (pd : Grd) (rs1 : Reg) (rs2 : Reg)
  /-- R171: Writes predicate bits for unsigned less-than lanes. -/
  | pcmpLtu (e : Eid) (g : Grd) (w : BitVec 2) (pd : Grd) (rs1 : Reg) (rs2 : Reg)
  /-- R171: Writes predicate bits for unsigned less-or-equal lanes. -/
  | pcmpLeu (e : Eid) (g : Grd) (w : BitVec 2) (pd : Grd) (rs1 : Reg) (rs2 : Reg)
  /-- R170: Ands two predicates. -/
  | pand (e : Eid) (g : Grd) (pd : Grd) (ps1 : Grd) (ps2 : Grd)
  /-- R170: Ors two predicates. -/
  | por (e : Eid) (g : Grd) (pd : Grd) (ps1 : Grd) (ps2 : Grd)
  /-- R170: Exclusive-ors two predicates. -/
  | pxor (e : Eid) (g : Grd) (pd : Grd) (ps1 : Grd) (ps2 : Grd)
  /-- R170: Computes ps1 and not ps2. -/
  | pandn (e : Eid) (g : Grd) (pd : Grd) (ps1 : Grd) (ps2 : Grd)
  /-- R170: Inverts a predicate. -/
  | pnot (e : Eid) (g : Grd) (pd : Grd) (ps1 : Grd)
  /-- R170: Sets a predicate from the low 16 bits of an integer. -/
  | pset (e : Eid) (g : Grd) (pd : Grd) (rs1 : Reg)
  /-- R170: Reads a predicate into an integer register. -/
  | pget (e : Eid) (g : Grd) (rd : Reg) (ps1 : Grd)
  /-- R170: Sets the low min(n,16) predicate bits. -/
  | ptail (e : Eid) (g : Grd) (pd : Grd) (rs1 : Reg)
  /-- R173: Adds signed lane products into accumulator lanes with saturation. -/
  | mac (e : Eid) (g : Grd) (w : BitVec 2) (ad : BitVec 2) (rs1 : Reg) (rs2 : Reg)
  /-- R173: Adds unsigned lane products into accumulator lanes. -/
  | macu (e : Eid) (g : Grd) (w : BitVec 2) (ad : BitVec 2) (rs1 : Reg) (rs2 : Reg)
  /-- R173: Subtracts signed lane products from accumulator lanes. -/
  | msu (e : Eid) (g : Grd) (w : BitVec 2) (ad : BitVec 2) (rs1 : Reg) (rs2 : Reg)
  /-- R173: Adds doubled fractional lane products into accumulator lanes. -/
  | macq (e : Eid) (g : Grd) (w : BitVec 2) (ad : BitVec 2) (rs1 : Reg) (rs2 : Reg)
  /-- R174: Clears guarded accumulator lanes and their S bits. -/
  | azero (e : Eid) (g : Grd) (ad : BitVec 2)
  /-- R174: Loads accumulator lanes 0 and 1 from a register. -/
  | asetlo (e : Eid) (g : Grd) (ad : BitVec 2) (rs1 : Reg)
  /-- R174: Loads accumulator lanes 2 and 3 from a register. -/
  | asethi (e : Eid) (g : Grd) (ad : BitVec 2) (rs1 : Reg)
  /-- R174: Reads accumulator lanes 0 and 1 into a register. -/
  | agetlo (e : Eid) (g : Grd) (rd : Reg) (src : BitVec 2)
  /-- R174: Reads accumulator lanes 2 and 3 into a register. -/
  | agethi (e : Eid) (g : Grd) (rd : Reg) (src : BitVec 2)
  /-- R175: Rounds, shifts and saturates accumulator lanes into narrow register lanes. -/
  | anarrow (e : Eid) (g : Grd) (w : BitVec 2) (rd : Reg) (src : BitVec 2) (rs2 : Reg)
  /-- R176: Sums enabled accumulator lanes into a saturated integer. -/
  | areduce (e : Eid) (g : Grd) (rd : Reg) (src : BitVec 2)
  /-- R174: Returns and clears the accumulator's S bits. -/
  | asat (e : Eid) (g : Grd) (rd : Reg) (src : BitVec 2)
  /-- R174: Copies accumulator lanes and S bits. -/
  | amove (e : Eid) (g : Grd) (ad : BitVec 2) (src : BitVec 2)
  /-- R206: Returns a missed line from memory into L1D and completes the waiting load. `upset` holds the errors that the stored codewords
  of the line take in L1D before its next read, cell by cell, none where it is short (R208, log entry 58). -/
  | l1dLineFill (e : Eid) (upset : List (BitVec 176))
  /-- R206: Writes the oldest store buffer entry to memory in program order. -/
  | storeBufferWrite (e : Eid)
  /-- R298: Takes Uncorrectable Memory Error with ESTAT.IMP at the next instruction boundary after a failed part-store merge. -/
  | impreciseUmeEntry (e : Eid)
  /-- R220: Fetches and fills L1I on a predicted path without any other architectural trace. -/
  | wrongPathFetch (e : Eid) (a : VAddr)
  /-- R92: Completes a filter miss read from the channel's lineage table copy and installs a LIVE entry. -/
  | lineageFilterFill (e : Eid)
  /-- R316: Completes a translation walk, installing a TLB entry or raising a walk or translation fault. -/
  | tableWalk (e : Eid)
  /-- R327: Invalidates a TLB or walk-cache entry whose age reaches TLBAGE. -/
  | tlbEntryExpire (e : Eid) (walkCache : Bool) (idx : BitVec 6)
  /-- R333: An engine discards its walks, invalidates the address and acknowledges a TINV.BCAST. -/
  | bcastInvalidateAck (e : Eid)
  /-- R252: The event router delivers a raised event to a task binding or to Cretal. -/
  | eventDelivery (id : BitVec 11)
  /-- R254: Takes an entry for the lowest pending entry vector at a preemption point. -/
  | eventEntry (e : Eid)
  /-- R247: Chooses the READY task of highest priority and starts a switch or preemption. -/
  | schedulingDecision (e : Eid)
  /-- R241: Completes the spill and fill of a switch and starts the new task. -/
  | taskSwitch (e : Eid)
  /-- R250: On slice expiry, moves the task to the tail of its priority or restarts its count. -/
  | sliceExpiry (e : Eid)
  /-- R258: A write raises a doorbell or software general event. -/
  | evrRaise (m : Master) (data : Word)
  /-- R260: A write changes an event binding, refusing changes that take safety events from Cretal. -/
  | evrBind (m : Master) (n : BitVec 11) (data : Word)
  /-- R231: Reads a descriptor and binds a task at a FREE slot. -/
  | bind (m : Master) (e : Eid) (slot : BitVec 6)
  /-- R227: Frees a slot, clearing PEND and emptying its chuck. -/
  | unbind (m : Master) (e : Eid) (slot : BitVec 6)
  /-- R227: Makes a task SUSPENDED. -/
  | suspend (m : Master) (e : Eid) (slot : BitVec 6)
  /-- R227: Returns a SUSPENDED task to WAITING or READY. -/
  | resume (m : Master) (e : Eid) (slot : BitVec 6)
  /-- R254: Sets PEND of a vector and records 0x800 as its event id. -/
  | wake (m : Master) (e : Eid) (slot : BitVec 6) (vec : BitVec 4)
  /-- R263: Copies a chuck to its task's save area and empties it. -/
  | spill (m : Master) (e : Eid) (chuck : BitVec 3)
  /-- R262: Loads the state, residency and PEND of a slot into SCHED_STAT. -/
  | query (m : Master) (e : Eid) (slot : BitVec 6)
  /-- R232: Reloads priority, entry mask and slice from the descriptor. -/
  | reload (m : Master) (e : Eid) (slot : BitVec 6)
  /-- R262: Completes a scheduler command, setting RESULT and raising tile event 2. -/
  | schedCommandComplete (e : Eid)
  /-- R96: Makes a FREE lineage entry LIVE with an owner. -/
  | alloc (m : Master) (idx : BitVec 16) (owner : Byte)
  /-- R96: Advances a LIVE entry's generation or sends it to SWEEP and broadcasts a filter invalidate. -/
  | revoke (m : Master) (idx : BitVec 16)
  /-- R96: Sends a LIVE entry to SWEEP and broadcasts a filter invalidate. -/
  | retire (m : Master) (idx : BitVec 16)
  /-- R110: Frees a SWEEP entry with a filter invalidate and register sweep. -/
  | free (m : Master) (idx : BitVec 16)
  /-- R98: Writes a checked capability image into a target cell. -/
  | mint (m : Master) (idx : BitVec 16)
  /-- R99: Reads and compares an entry's two copies into LIN_ENTRY. -/
  | read (m : Master) (idx : BitVec 16)
  /-- R99: Compares all entries of both lineage table copies. -/
  | check (m : Master) (idx : BitVec 16)
  /-- R101: An engine drains old-generation work and acknowledges a lineage filter invalidate. -/
  | filterInvalidateAck (e : Eid)
  /-- R104: After LIN_TMO, stops unacknowledging engines and completes with TIMEOUT. -/
  | linBroadcastTimeout
  /-- R97: Completes a lineage command, clearing BUSY, setting RESULT and raising event 1660. -/
  | linCommandComplete
  /-- R339: A write applies a region's pending address values and attributes as one change, subject to LOCKED. -/
  | mpuRattr (m : Master) (u : MpuUnit) (k : BitVec 4) (data : Word)
  /-- R354: A write of SYNC starts a wait for accesses checked before it. -/
  | mpuSync (m : Master) (u : MpuUnit)
  /-- R354: Clears MPU_SYNC.BUSY when the awaited accesses have completed. -/
  | mpuSyncDone (u : MpuUnit)
  /-- R355: A write of 1 to VALID clears the capture and its count. -/
  | mpuFinfoClear (m : Master) (u : MpuUnit)
  /-- R372: Writes a corrected cell back in the first free cycle unless a write overtook it. -/
  | ceWriteBack (a : PKey)
  /-- R363: Starts a change of a cluster's DRAM cache size. -/
  | apply (m : Master) (c : BitVec 7) (data : Word)
  /-- R363: Finishes writing back the cache, sets the new size, fills freed cells and raises tile event 6. -/
  | applyComplete (c : BitVec 7)
  /-- R366: Ends DRAM training by setting TRAINED or FAIL. -/
  | dramTrainingComplete (chB : Bool) (ok : Bool)
  /-- R364: Retrains DQS every 100 ms, setting FAIL and raising an event on failure. -/
  | dqsRetrain (chB : Bool) (ok : Bool)
  /-- R377: Starts a scrub pass at its period, flagging an overrun if the last pass is unfinished. -/
  | scrubPassStart (u : ScrubUnit)
  /-- R377: Reads and checks one cell, recording errors and completing a pass at its end. -/
  | scrubCellRead (u : ScrubUnit)
  /-- R380: A write of START checks the range and starts a POISON fill unit. -/
  | scrbFillStart (m : Master) (k : BitVec 1)
  /-- R380: A POISON fill finishes, clears BUSY and raises its event. -/
  | scrbFillComplete (k : BitVec 1)
  /-- R383: A write of the producer index lets the stream mover process descriptors. -/
  | smHead (m : Master) (t : BitVec 5) (data : Word)
  /-- R381: The stream mover reads a descriptor or copies one burst of at most 64 bytes. -/
  | smBurst (t : BitVec 5)
  /-- R383: A write of RESTART discards the current descriptor, zeroes HEAD and TAIL and applies the ring base. -/
  | smRestart (m : Master) (t : BitVec 5)
  /-- R382: Clearing ERR restarts the failed descriptor. -/
  | smErrClear (m : Master) (t : BitVec 5)
  /-- R397: A signature point is forced when TMAX has passed since the last one. -/
  | forcedSignaturePoint (p : BitVec 9)
  /-- R398: On arrival of the channel B signature, compares it with channel A's. -/
  | signatureCompare (p : BitVec 9)
  /-- R398: A channel B signature missing after 2 µs raises divergence TIMEOUT. -/
  | signatureTimeout (p : BitVec 9)
  /-- R392: A channel B engine held for 2 µs raises divergence LEAD. -/
  | leadTimeout (p : BitVec 9)
  /-- R401: No channel B act 2 µs after channel A's raises divergence TIMEOUT. -/
  | gatedActTimeout (p : BitVec 9)
  /-- R37: Forwards an unpaired engine's act after 2 XBAR cycles, or discards port acts outside RUN. -/
  | unpairedActForward (e : Eid)
  /-- R412: Stops an engine that made no progress for SAFE_HANG and raises event 1671. -/
  | engineHang (e : Eid)
  /-- R410: At each 4 µs window end, checks clocks and raises event 1666 on two bad windows. -/
  | clockMonitorWindow (monB : Bool) (bad : List Nat)
  /-- R411: A rail outside its window beyond the filter raises event 1667. -/
  | supplyMonitorTrip (coreMismatch : Bool)
  /-- R425: Every 10 ms in RUN tests the spare comparator, isolating all pairs on failure. -/
  | caliperSelfTest (pass : Bool)
  /-- R425: Every 1 s in RUN tests the clock and supply monitors. -/
  | monitorSelfTest (clockPass : Bool) (supplyPass : Bool)
  /-- R414: A generator drives the next SAFE_VERMILION edge 50 µs after the previous one. -/
  | vermilionEdge
  /-- R417: A persisting safe-output readback difference raises event 1669. -/
  | safeOutputMismatch (vermilion : Bool)
  /-- R416: The kick window closes and, in RUN, event 1670 is raised. -/
  | kickWindowExpire
  /-- R418: Differing device mode copies raise event 1676. -/
  | modeCopyMismatch
  /-- R419: A keyed write requests a device mode change under the transition table. -/
  | safeMode (m : Master) (data : Word)
  /-- R416: A keyed write opens or restarts the kick window. -/
  | safeKick (m : Master) (data : Word)
  /-- R416: A write of WINDOW applies at once, including to an open window. -/
  | safeKcfg (m : Master) (data : Word)
  /-- R423: A write sets class actions, refusing lowerings in RUN. -/
  | safePol (m : Master) (data : Word)
  /-- R495: Resets Cretal, applies class 8 and reloads firmware. -/
  | cretalLockstepMismatch
  /-- R457: Sends the next 1 µs downstream frame with the first waiting slot segment. -/
  | partnerFrameTransmit (p : BitVec 3)
  /-- R458: Takes an upstream frame, validates it and feeds its stream bits to the decimators. -/
  | partnerFrameReceive (p : BitVec 3) (f : PFrame)
  /-- R460: Asks again for the partner descriptor 10 ms after a refusal. -/
  | descRetry (p : BitVec 3)
  /-- R463: Resends an unacknowledged command after 8 frames, dropping it after 3 tries. -/
  | cmdRetransmit (p : BitVec 3)
  /-- R463: A released write queues a partner command or is discarded. -/
  | portCmd (m : Master) (p : BitVec 3) (data : Word)
  /-- R460: A write of LINKEN starts or stops link training. -/
  | portLinken (m : Master) (p : BitVec 3) (en : Bool)
  /-- R467: A write of RESTART ends isolation, flushes commands and retrains the link. -/
  | portCtlRestart (m : Master) (p : BitVec 3)
  /-- R471: Writes one sample line to both channel copies under the DMA's MPU. -/
  | portDmaBurst (p : BitVec 3)
  /-- R472: Clearing ERR resumes the DMA at the next block. -/
  | portDmaErrClear (m : Master) (p : BitVec 3)
  /-- R442: Starts a coarse reflectometer acquisition. -/
  | coarse (m : Master) (p : BitVec 3)
  /-- R443: Starts a fine reflectometer acquisition around a coarse bin. -/
  | fine (m : Master) (p : BitVec 3)
  /-- R447: Ends a running acquisition with code ABORTED. -/
  | abort (m : Master) (p : BitVec 3)
  /-- R447: No partner confirmation within 2 ms ends the acquisition with NOCONF. -/
  | tdrNoconfTimeout (p : BitVec 3)
  /-- R441: Sends one probe every 100 µs and accumulates its correlation. -/
  | tdrProbe (p : BitVec 3) (samples : List Int)
  /-- R444: Writes reflectogram results through the port DMA. -/
  | tdrResultWrite (p : BitVec 3)
  /-- R436: Setting RUN starts repeated scans. -/
  | senseRun (m : Master) (run : Bool)
  /-- R436: A write of SINGLE performs one scan while RUN is 0. -/
  | senseSingle (m : Master)
  /-- R436: Converts one input at a 1/RATE instant and completes a scan at its end. -/
  | senseConversion (code : Int)
  /-- R437: A read of SENSE_STAT takes a snapshot of the last results. -/
  | senseStatRead (m : Master)
  /-- R439: A write of SENSE_NCMD.START starts a noise measurement or is refused. -/
  | noiseStart (m : Master)
  /-- R439: After 100 s writes SENSE_ACH and raises event 1842. -/
  | noiseMeasurementComplete (r : NoiseReading)
  /-- R477: The manager sends ENUM every 10 ms. -/
  | enumSend
  /-- R477: A node takes an ENUM, taking a node number if it has none. -/
  | enumReceive (trk1 : Bool) (f : TFrame)
  /-- R479: The manager sends SYNC with its time every 1 ms. -/
  | syncSend
  /-- R479: A worker steers its time from the first SYNC copy and updates lock. -/
  | syncReceive (trk1 : Bool) (f : TFrame)
  /-- R479: 10 ms without SYNC clears LOCK and raises event 1793. -/
  | syncTimeout
  /-- R478: Each trunk port sends a DREQ every 1 ms. -/
  | dreqSend (trk1 : Bool)
  /-- R478: A neighbour answers a DREQ with a time-stamped DRSP. -/
  | dreqReceive (trk1 : Bool) (f : TFrame)
  /-- R478: Computes the hop delay from a DRSP. -/
  | drspReceive (trk1 : Bool) (f : TFrame)
  /-- R481: Writes a trunk mailbox message into its channel buffer and rings it, or drops it. -/
  | mbxFrameReceive (trk1 : Bool) (f : TFrame)
  /-- R539: The manager sends node shares every 10 ms. -/
  | budgetFrameSend
  /-- R539: A worker loads its share into PWR_BUDGET. -/
  | budgetFrameReceive (trk1 : Bool) (f : TFrame)
  /-- R539: 50 ms without BUDGET loads the fallback and raises event 1735. -/
  | budgetShareTimeout
  /-- R474: Clears TRK_STAT.LINK after 10 µs without block lock. -/
  | trunkLinkDown (trk1 : Bool)
  /-- R482: A write loads system time on a manager or standalone device. -/
  | timeSetHi (m : Master) (data : Word)
  /-- R485: A released write queues a frame for transmission. -/
  | ethTxcmd (m : Master) (eth1 : Bool) (data : Word)
  /-- R485: After a transmission loads TAG and the time stamp and raises the TX event. -/
  | ethTransmitComplete (eth1 : Bool)
  /-- R486: Writes a received frame into the receive ring or drops it on overflow. -/
  | ethFrameReceive (eth1 : Bool) (wire : List Byte)
  /-- R484: A link change sets LINKCHG and raises the link-change event. -/
  | ethLinkChange (eth1 : Bool) (up : Bool) (speed : BitVec 2)
  /-- R500: A write to a request buffer is accepted in IDLE or refused with COLL. -/
  | mbxReqWrite (m : Master) (n : BitVec 5) (ofs : BitVec 6) (data : Word)
  /-- R500: Moves a channel from IDLE to REQ, latching MBX_REQID and raising event 1856 + n. -/
  | ring (m : Master) (n : BitVec 5)
  /-- R500: Moves a channel from RESP to IDLE. -/
  | ack (m : Master) (n : BitVec 5)
  /-- R500: Moves a channel from REQ to SERVING. -/
  | take (m : Master) (n : BitVec 5)
  /-- R500: Moves a channel from SERVING to RESP and raises event 1888 + n. -/
  | done (m : Master) (n : BitVec 5)
  /-- R501: Returns a channel to IDLE with zeroed buffers, closing it for the cycle. -/
  | mbxReset (m : Master) (n : BitVec 5)
  /-- R496: Firmware serves pending Cretal events on its interrupt, safety events first. -/
  | cretalEventService
  /-- R496: Firmware scans EVR_CPEND every 1 ms. -/
  | cretalPeriodicScan
  /-- R505: Returns part, revision, interface version, lifecycle, mode and node. -/
  | getInfo (n : BitVec 5)
  /-- R514: Accepts a paired heartbeat and writes SAFE_KICK. -/
  | heartbeat (n : BitVec 5)
  /-- R505: Returns safety and scrub status registers. -/
  | getHealth (n : BitVec 5)
  /-- R505: Returns entries of the firmware log. -/
  | readLog (n : BitVec 5)
  /-- R518: Returns the state of both image slots. -/
  | imgList (n : BitVec 5)
  /-- R518: Writes data into a non-booted image slot. -/
  | imgWrite (n : BitVec 5)
  /-- R518: Checks an image slot and raises the minimum version in FIELD. -/
  | imgCommit (n : BitVec 5)
  /-- R518: Erases a non-booted image slot. -/
  | imgErase (n : BitVec 5)
  /-- R519: Advances the lifecycle state in OTP. -/
  | lifecycle (n : BitVec 5)
  /-- R519: Programs or revokes a key slot in OTP. -/
  | otpKey (n : BitVec 5)
  /-- R512: Configures an engine and its twin, writes the start record and releases them. -/
  | engineStart (n : BitVec 5)
  /-- R516: Writes a descriptor and save area, mints capabilities and binds a task. -/
  | taskCreate (n : BitVec 5)
  /-- R264: Suspends a task of the domain through SCHED_CMD. -/
  | taskSuspend (n : BitVec 5)
  /-- R264: Resumes a task of the domain through SCHED_CMD. -/
  | taskResume (n : BitVec 5)
  /-- R228: Unbinds a task of the domain. -/
  | taskUnbind (n : BitVec 5)
  /-- R505: Returns the state, residency and PEND of a task. -/
  | taskQuery (n : BitVec 5)
  /-- R232: Changes a task's priority, slice and entry mask. -/
  | taskReload (n : BitVec 5)
  /-- R505: Binds an event the domain owns to a task or back to Cretal. -/
  | eventBind (n : BitVec 5)
  /-- R505: Allocates the lowest FREE lineage within the domain's quota. -/
  | linAlloc (n : BitVec 5)
  /-- R510: Mints a capability from a specification into the domain's drop area. -/
  | grant (n : BitVec 5)
  /-- R505: Revokes a lineage of the domain through REVOKE. -/
  | linRevoke (n : BitVec 5)
  /-- R505: Retires a lineage of the domain through RETIRE. -/
  | linRetire (n : BitVec 5)
  /-- R109: Reports a sweep complete and frees the lineage through FREE. -/
  | linSwept (n : BitVec 5)
  /-- R505: Returns a lineage entry. -/
  | linQuery (n : BitVec 5)
  /-- R469: Performs partner discovery on a port. -/
  | portDiscover (n : BitVec 5)
  /-- R505: Returns a port's status registers. -/
  | portStatus (n : BitVec 5)
  /-- R467: Writes PORT_CTL.RESTART of a port. -/
  | portRestart (n : BitVec 5)
  /-- R446: Starts a reflectometer acquisition directly in any mode. -/
  | tdrRun (n : BitVec 5)
  /-- R453: Writes SENSE_REFCAL or a port's TDR_ZERO. -/
  | calWrite (n : BitVec 5)
  /-- R439: Runs a noise self-measurement and returns SENSE_ACH. -/
  | senseNoise (n : BitVec 5)
  /-- R432: Sets a stream's decimator with the port briefly disabled. -/
  | decSet (n : BitVec 5)
  /-- R540: Returns budget, grant and tile states. -/
  | powerStatus (n : BitVec 5)
  /-- R540: Requests a tile power state, also for its twin when paired. -/
  | tilePower (n : BitVec 5)
  /-- R540: Writes PWR_BUDGET on a manager or standalone device. -/
  | budgetSet (n : BitVec 5)
  /-- R505: Returns the device mode, START_OK and SAFE_CAUSE. -/
  | modeGet (n : BitVec 5)
  /-- R419: Requests RUN for a paired requester of a SAFETY domain. -/
  | runCommit (n : BitVec 5)
  /-- R505: Requests the SAFE mode and logs the reason. -/
  | safeEnter (n : BitVec 5)
  /-- R419: Moves SAFE through RECOVERY and TEST, runs the start-up tests and requests START. -/
  | recover (n : BitVec 5)
  /-- R423: Writes SAFE_POL, denied if it would lower a class in RUN. -/
  | policyRaise (n : BitVec 5)
  /-- R505: Returns time, lock state and hop delays. -/
  | timeStatus (n : BitVec 5)
  /-- R482: Loads system time for a SYSMGR domain. -/
  | timeSet (n : BitVec 5)
  /-- R505: Returns trunk port status and node count. -/
  | trunkStatus (n : BitVec 5)
  /-- R515: Sends an inner request to another node over the trunk. -/
  | remote (n : BitVec 5)
  /-- R515: Resends a remote request after 1 ms, answering TIMEOUT after three sends. -/
  | remoteRetry (n : BitVec 5)
  /-- R520: Returns a fresh debug nonce and the serial number. -/
  | dbgChallenge (n : BitVec 5)
  /-- R520: Verifies a signed response and opens the debug port with its scope. -/
  | dbgResponse (n : BitVec 5)
  /-- R520: Closes the debug port. -/
  | dbgClose (n : BitVec 5)
  /-- R521: Ends the 60 s authentication lockout. -/
  | authLockoutExpire
  /-- R507: A background command finishes and firmware answers its channel. -/
  | backgroundCommandComplete (n : BitVec 5)
  /-- R513: A write checks the start record and releases the engine at level K. -/
  | engRel (m : Master) (t : BitVec 5) (data : Word)
  /-- R528: A write of FREQ changes a tile clock, and its twin's when paired. -/
  | clkTile (m : Master) (t : BitVec 5) (data : Word)
  /-- R531: A write of REQ requests RUN, NAP or OFF for a tile, and its twin when paired. -/
  | pwrTileReq (m : Master) (t : BitVec 5) (data : Word)
  /-- R535: A write sets the budget, throttling tiles if the grant exceeds it. -/
  | pwrBudget (m : Master) (data : Word)
  /-- R532: Starts a tile wake once spacing and credits allow. -/
  | tileWakeStart (t : BitVec 5)
  /-- R533: The tile clock reaches its frequency and the tile runs. -/
  | tileWakeComplete (t : BitVec 5)
  /-- R530: A quiescent tile with AUTOIDLE enters IDLE. -/
  | tileIdleEntry (t : BitVec 5)
  /-- R531: A tile requested to NAP enters it when quiescent, freeing credits. -/
  | tileNapEntry (t : BitVec 5)
  /-- R544: A keyed write requests ACTIVE, DOZE or DORMANT. -/
  | pwrDevctl (m : Master) (data : Word)
  /-- R543: A wake source in DORMANT performs a warm reset. -/
  | dormantWake (src : BitVec 3)
  /-- R543: The umber alarm count ends and wakes the device. -/
  | umbAlarmExpire
  /-- R527: Switches the umber clock to RC backup and raises event 1729. -/
  | x32CrystalLoss
  /-- R527: Loss of the reference or a PLL lock raises event 1728. -/
  | pllLockLoss (src : ClkSrc)
  /-- R541: Reads all sensors every 100 µs and detects gradient, HOT and CRIT. -/
  | thermalReading (temps : List Int)
  /-- R542: Halves or doubles thermal limits every 1 ms. -/
  | thermalLimitStep
  /-- R545: Resets everything and starts start-up from step 1. -/
  | powerOnReset (pin : Bool) (straps : List Nat)
  /-- R577: A RESET_N low of 1 µs or more resets all but the umber domain. -/
  | warmReset
  /-- R545: A keyed write starts a warm reset. -/
  | rstDev (m : Master) (data : Word)
  /-- R546: Resets a tile, and its twin when paired. -/
  | rstTile (m : Master) (data : Word)
  /-- R546: Resets an engine, and its twin when paired. -/
  | rstEng (m : Master) (t : BitVec 5) (data : Word)
  /-- R547: After outstanding accesses drain, the engine reset completes and the engine is held. -/
  | engineResetComplete (e : Eid)
  /-- R549: Firmware runs the paired cross-check kernel, LIN CHECK and DRAM check in TEST. -/
  | channelCrossCheck (failed : List Nat)
  /-- R555: Drives pins from boundary scan when SCAN is held outside RUN. -/
  | extest (pins : List Bool)
  /-- R554: Selects the 32-bit identification register. -/
  | idcode
  /-- R554: Samples or preloads the boundary-scan register. -/
  | samplePreload (pins : List Bool)
  /-- R554: Selects the 1-bit bypass register. -/
  | bypass
  /-- R556: Reads 4 bytes at a physical address, denied in LOCKED or PAIRED regions. -/
  | busRead (a : BitVec 44)
  /-- R557: Writes 4 bytes at a physical address, making the cell RAW, unless denied. -/
  | busWrite (a : BitVec 44) (data : Word)
  /-- R556: Reads the kind of a cell. -/
  | cellKindRead (a : BitVec 44)
  /-- R563: Reads a register of a halted or stopped engine. -/
  | engineStateRead (a : BitVec 44)
  /-- R563: Writes a register of a halted or stopped engine without creating a capability. -/
  | engineStateWrite (a : BitVec 44) (data : Word)
  /-- R553: A DBGACC command completes in the background after capture showed BUSY. -/
  | dbgaccComplete
  /-- R559: A write of HALT requests a halt of the selected engine. -/
  | dbgHalt (m : Master)
  /-- R561: Steps a halted engine, or both twins of a coupled pair, by one instruction or chunk. -/
  | step (m : Master)
  /-- R561: Resumes a halted engine, channel A twin first. -/
  | dbgResume (m : Master)
  /-- R559: The engine takes a pending halt at its next boundary and raises event 1920. -/
  | engineHalt (e : Eid)
  /-- R561: The channel B twin halts on reaching the channel A halt count. -/
  | coupledHalt (p : BitVec 9)
  /-- R558: A Cretal write sets the debug scope, raising open or close events; debug writes are denied. -/
  | dbgAuth (m : Master) (data : Word)
  /-- R568: A write of CLR zeroes the four performance counters. -/
  | dbgPmcfgClr (m : Master)
  /-- R583: A write to a register without behaviour of its own, judged by access code and change class. -/
  | registerWrite (m : Master) (a : Dword) (data : Word)
  /-- R161: A fetched word that is no defined instruction, or breaks a decode rule, raises Illegal Instruction precisely and changes no state. -/
  | illegalInstruction (e : Eid) (w : Word)
  /-- R474: A trunk port gains Clause 49 block lock, sets TRK_STAT.BLOCK and LINK and raises its link-up event. -/
  | trunkLinkUp (trk1 : Bool)
  /-- R475: A received trunk frame with a bad CRC or an unknown type is discarded and sets TRK_STAT.CRCERR. -/
  | trunkFrameError (trk1 : Bool)
  /-- R527: The 25 MHz reference returns or a PLL locks again, setting CLK_STAT and, on a manager or standalone device, TIME_STAT.LOCK. -/
  | pllRelock (src : ClkSrc)
  /-- R517: Once the 25 MHz crystal is stable and PLLD locked, Cretal leaves reset in ROM, reads OTP, selects the xSPI protocol and verifies and loads the boot image. -/
  | romBoot (b : BootInput)
  /-- R545: A tile reset finishes within 10 µs, clears its RST_TILE bit and leaves the tile's engines held. -/
  | tileResetComplete (t : BitVec 5)
  deriving DecidableEq, Repr

end Sys2Proof
end

