-- ==== Sys2Proof/Machine/Bits.lean ====
section
/-!
DEFINITION. Machine/Bits.lean: bit fields, sign extension and byte order (00_scope, Numbers, units and bits), and the
sparse maps that the state holds its numbered items in.
-/

namespace Sys2Proof.Machine

open Sys2Proof

/-- Bits `hi` down to `lo` of `x`, as a number: x[hi:lo]. -/
def bits {n : Nat} (x : BitVec n) (hi lo : Nat) : Nat := (x.toNat >>> lo) % 2 ^ (hi + 1 - lo)

/-- Bit `i` of `x`. -/
def bit {n : Nat} (x : BitVec n) (i : Nat) : Bool := x.getLsbD i

/-- `x` with bits `hi` down to `lo` replaced by the low bits of `v`. -/
def setBits {n : Nat} (x : BitVec n) (hi lo v : Nat) : BitVec n :=
  BitVec.ofNat n (x.toNat - (bits x hi lo) * 2 ^ lo + (v % 2 ^ (hi + 1 - lo)) * 2 ^ lo)

/-- `x` with bit `i` set to `b`. -/
def setBit {n : Nat} (x : BitVec n) (i : Nat) (b : Bool) : BitVec n := setBits x i i b.toNat

/-- `v`, a number of `w` bits, read as a signed number. -/
def signed (w v : Nat) : Int := if 2 * (v % 2 ^ w) < 2 ^ w then (v % 2 ^ w : Int) else (v % 2 ^ w : Int) - 2 ^ w

/-- The low `w` bits of an integer. -/
def wrap (w : Nat) (v : Int) : Nat := (v % (2 ^ w : Int)).toNat

/-- satS of 04_isa_stream: clamps to the signed range of `w` bits. -/
def satS (w : Nat) (v : Int) : Int :=
  if v < -(2 ^ (w - 1) : Int) then -(2 ^ (w - 1) : Int) else if v > 2 ^ (w - 1) - 1 then 2 ^ (w - 1) - 1 else v

/-- satU of 04_isa_stream: clamps to the unsigned range of `w` bits. -/
def satU (w : Nat) (v : Int) : Int := if v < 0 then 0 else if v > 2 ^ w - 1 then 2 ^ w - 1 else v

/-- ceil_log2 of R68, for `n` at least 1. -/
def ceilLog2 (n : Nat) : Nat := if n ≤ 1 then 0 else Nat.log2 (n - 1) + 1

/-- The bytes of `v`, `n` of them, least significant first (little-endian). -/
def toBytes : Nat → Nat → List Byte
  | 0, _ => []
  | n + 1, v => BitVec.ofNat 8 v :: toBytes n (v / 256)

/-- The number a little-endian byte list stands for. -/
def ofBytes : List Byte → Nat
  | [] => 0
  | b :: bs => b.toNat + 256 * ofBytes bs

/-- Aligned down to a multiple of `n`. -/
def alignDown (a n : Nat) : Nat := a - a % n

/-! ## Sparse maps

Numbered items of the state are held as a list of number and value pairs, the numbers rising; a number that is not
listed holds the default the reader names. -/

/-- A sparse map from numbers. -/
abbrev Map (α : Type) := List (Nat × α)

/-- The value at `k`, or `d` where none is listed. -/
def Map.get {α : Type} (d : α) : Map α → Nat → α
  | [], _ => d
  | (j, v) :: m, k => if j = k then v else Map.get d m k

/-- Lists `v` at `k`, in place of what was listed there. -/
def Map.put {α : Type} (v : α) : Map α → Nat → Map α
  | [], k => [(k, v)]
  | (j, u) :: m, k => if j = k then (k, v) :: m else if k < j then (k, v) :: (j, u) :: m else (j, u) :: Map.put v m k

/-- Unlists `k`. -/
def Map.del {α : Type} : Map α → Nat → Map α
  | [], _ => []
  | (j, u) :: m, k => if j = k then Map.del m k else (j, u) :: Map.del m k

/-- Applies `f` to the value at `k`. -/
def Map.upd {α : Type} (d : α) (f : α → α) (m : Map α) (k : Nat) : Map α := Map.put (f (Map.get d m k)) m k

/-- Maps a list's values. -/
def Map.mapVal {α : Type} (f : α → α) (m : Map α) : Map α := m.map (fun p => (p.1, f p.2))

end Sys2Proof.Machine
end

