-- ==== Sys2Proof/Machine/Crc.lean ====
section
/-!
DEFINITION. Machine/Crc.lean: the cyclic redundancy checks of the spec: CRC-16 (Table 13-1), CRC-32 of IEEE 802.3 (Tables 13-4 and
14-6) and CRC-32C (R395, R475).
-/

namespace Sys2Proof.Machine

open Sys2Proof

/-- `n` shifts of a reflected CRC of polynomial `poly` (bit-reversed). -/
def crcShift (poly : Nat) : Nat → Nat → Nat
  | 0, r => r
  | n + 1, r => crcShift poly n (if r % 2 = 1 then (r / 2) ^^^ poly else r / 2)

/-- One byte into a reflected 32-bit CRC. -/
def crcByte (poly r : Nat) (b : Byte) : Nat := crcShift poly 8 (r ^^^ b.toNat)

/-- Bytes into a reflected CRC register. -/
def crcBytes (poly r : Nat) (l : List Byte) : Nat := l.foldl (crcByte poly) r

/-- CRC-32C as R395 keeps it: 0x1EDC_6F41 bit-reflected, no final inversion. -/
def crc32cReg (r : Word) (l : List Byte) : Word := BitVec.ofNat 32 (crcBytes 0x82F63B78 r.toNat l)

/-- CRC-32C of a frame (R475), with the initial value and final inversion of RFC 3720. -/
def crc32c (l : List Byte) : Nat := crcBytes 0x82F63B78 0xFFFFFFFF l ^^^ 0xFFFFFFFF

/-- CRC-32 of IEEE 802.3. -/
def crc32 (l : List Byte) : Nat := crcBytes 0xEDB88320 0xFFFFFFFF l ^^^ 0xFFFFFFFF

/-- `n` shifts of the CRC-16 of Table 13-1, most significant bit first. -/
def crc16Shift : Nat → Nat → Nat
  | 0, r => r
  | n + 1, r => crc16Shift n (if r ≥ 0x8000 then (2 * r % 0x10000) ^^^ 0x1021 else 2 * r)

/-- CRC-16, polynomial 0x1021, initial value 0xFFFF (Table 13-1). -/
def crc16 (l : List Byte) : Nat := l.foldl (fun r b => crc16Shift 8 (r ^^^ (b.toNat * 256))) 0xFFFF

end Sys2Proof.Machine
end

