-- ==== Sys2Proof/Machine/Encode.lean ====
section
/-!
DEFINITION. Machine/Encode.lean: the 32-bit words of the engine's instructions (03_isa_core, Tables 03-1 to 03-3), which words are
defined instructions (R161, R162 step 1) and which are K-only (R162 step 2).
-/

namespace Sys2Proof.Machine

open Sys2Proof

/-- The R format (Table 03-2). -/
def encR (g : Grd) (major : Nat) (rd rs1 rs2 : Reg) (func : Nat) : Word :=
  BitVec.ofNat 32 (g.toNat * 2 ^ 29 + major * 2 ^ 23 + rd.toNat * 2 ^ 18 + rs1.toNat * 2 ^ 13 + rs2.toNat * 2 ^ 8 + func)

/-- The I and S formats (Table 03-2). -/
def encI (g : Grd) (major : Nat) (rd rs1 : Reg) (imm : BitVec 13) : Word :=
  BitVec.ofNat 32 (g.toNat * 2 ^ 29 + major * 2 ^ 23 + rd.toNat * 2 ^ 18 + rs1.toNat * 2 ^ 13 + imm.toNat)

/-- The J format (Table 03-2). -/
def encJ (g : Grd) (major : Nat) (rd : Reg) (imm : BitVec 18) : Word :=
  BitVec.ofNat 32 (g.toNat * 2 ^ 29 + major * 2 ^ 23 + rd.toNat * 2 ^ 18 + imm.toNat)

/-- The B format (Table 03-2): the condition in bits [22:19], bit 18 zero. -/
def encB (g : Grd) (cond : BitVec 4) (off : BitVec 18) : Word :=
  BitVec.ofNat 32 (g.toNat * 2 ^ 29 + 0x21 * 2 ^ 23 + cond.toNat * 2 ^ 19 + off.toNat)

/-- The L format (Table 04-7). -/
def encL (g : Grd) (lvl : BitVec 2) (op : Nat) (rs1 : Reg) (end13 : BitVec 13) : Word :=
  BitVec.ofNat 32 (g.toNat * 2 ^ 29 + 0x28 * 2 ^ 23 + lvl.toNat * 2 ^ 21 + op * 2 ^ 18 + rs1.toNat * 2 ^ 13 + end13.toNat)

/-- The M format (Table 03-2). -/
def encM (g : Grd) (major : Nat) (rd rs1 ix : Reg) (mode size : BitVec 3) (sx u : Bool) : Word :=
  BitVec.ofNat 32 (g.toNat * 2 ^ 29 + major * 2 ^ 23 + rd.toNat * 2 ^ 18 + rs1.toNat * 2 ^ 13 + ix.toNat * 2 ^ 8 +
    mode.toNat * 2 ^ 5 + size.toNat * 2 ^ 2 + sx.toNat * 2 + u.toNat)

/-! ## Fields of a word -/

/-- The guard field. -/
def wG (w : Word) : Nat := bits w 31 29
/-- The major opcode. -/
def wMajor (w : Word) : Nat := bits w 28 23
/-- rd, or rv. -/
def wRd (w : Word) : Nat := bits w 22 18
/-- rs1. -/
def wRs1 (w : Word) : Nat := bits w 17 13
/-- rs2, or IX. -/
def wRs2 (w : Word) : Nat := bits w 12 8
/-- func. -/
def wFunc (w : Word) : Nat := bits w 7 0
/-- imm13. -/
def wImm13 (w : Word) : Nat := bits w 12 0

/-- The readable system register numbers (Table 03-14). -/
def sysRegs : List Nat :=
  [0x000, 0x001, 0x002, 0x003, 0x004, 0x005, 0x008, 0x010, 0x011, 0x012, 0x014, 0x015, 0x016, 0x018, 0x019, 0x01A,
   0x020, 0x021, 0x022, 0x023, 0x030, 0x031, 0x032, 0x033] ++
  [0x100, 0x101, 0x102, 0x103, 0x104, 0x105, 0x106, 0x107, 0x108, 0x109, 0x10A, 0x10B, 0x10C, 0x10D, 0x180, 0x181]

/-- The system registers marked RO (Table 03-14). -/
def sysRo : List Nat := [0x001, 0x002, 0x003, 0x004, 0x005, 0x030, 0x031, 0x032, 0x033, 0x107]

/-- Defined encodings of major ALU (Table 03-5). -/
def okAlu (w : Word) (stream : Bool) : Bool :=
  let f := wFunc w
  if f = 0x05 ∨ f = 0x0D then !stream && wRd w == 0
  else if f = 0x04 ∨ (0x20 ≤ f ∧ f ≤ 0x22) ∨ (0x28 ≤ f ∧ f ≤ 0x2D) then wRs2 w == 0
  else decide (f ≤ 0x03 ∨ (0x08 ≤ f ∧ f ≤ 0x0C) ∨ (0x10 ≤ f ∧ f ≤ 0x14) ∨ (0x18 ≤ f ∧ f ≤ 0x1B))

/-- Defined encodings of SHI (R127). -/
def okShi (w : Word) : Bool := decide (bits w 8 6 ≤ 4) && bits w 12 9 == 0

/-- Defined encodings of SELECT (R133, R123). -/
def okSelect (w : Word) (stream : Bool) : Bool :=
  bits w 6 4 == 0 && (if stream then !bit w 3 else decide (bits w 3 0 ≠ 15)) && (!bit w 7 || wRs2 w == 0)

/-- Defined encodings of CAP (Table 03-8). -/
def okCap (w : Word) : Bool :=
  let f := wFunc w
  if f = 0x00 ∨ (0x10 ≤ f ∧ f ≤ 0x18) then wRs2 w == 0 else decide (f = 1 ∨ f = 2 ∨ (8 ≤ f ∧ f ≤ 0x0B))

/-- Defined encodings of the M format but for the write-back rule (R141, R142). -/
def okM (w : Word) : Bool :=
  decide (bits w 4 2 ≤ 4) && decide (bits w 7 5 ≤ 3) && (decide (bits w 7 5 < 2) || bits w 12 10 == 0)

/-- Defined encodings of LDX (R141 to R143). -/
def okLdx (w : Word) : Bool :=
  okM w && (!bit w 1 || decide (bits w 4 2 ≤ 2)) && (bits w 7 5 == 0 || wRd w != wRs1 w)

/-- Defined encodings of STX (R141, R142). -/
def okStx (w : Word) : Bool := okM w && !bit w 1

/-- Defined encodings of SYS (Table 03-15, R162). -/
def okSys (w : Word) (bbm : Bool) : Bool :=
  let f := wFunc w
  if f = 0x09 then wRd w == 0 && wRs2 w == 0
  else if f = 0x0A then wRd w == 0
  else if f = 0x0B then wRd w == 0 && bbm
  else decide (f ≤ 3 ∨ f = 8 ∨ f = 0x10) && wRd w == 0 && wRs1 w == 0 && wRs2 w == 0

/-- Defined encodings of LOOP (R179). -/
def okLoop (w : Word) : Bool :=
  decide (bits w 22 21 ≠ 3) &&
  (if bits w 20 18 ≤ 1 then decide (wImm13 w ≠ 0) else bits w 20 18 == 2 && wRs1 w == 0 && wImm13 w == 0)

/-- Defined encodings of LONG (R185). -/
def okLong (w : Word) (stream : Bool) : Bool :=
  let f := wFunc w
  if f % 16 = 8 ∨ f % 16 = 9 ∨ f % 16 = 10 then stream && decide (f / 64 ≠ 3)
  else if f = 3 ∨ f = 4 then wRs1 w == 0 else decide (f = 1 ∨ f = 2)

/-- Defined encodings of LANE (R167). -/
def okLane (w : Word) : Bool :=
  let f := wFunc w % 64
  if f = 0x0C ∨ f = 0x0D ∨ f = 0x20 then wRs2 w == 0 else decide (f ≤ 0x0B ∨ (0x10 ≤ f ∧ f ≤ 0x16))

/-- Defined encodings of LMAC (R172, R173). -/
def okLmac (w : Word) : Bool := decide (wFunc w / 64 ≠ 3) && decide (wFunc w % 64 ≤ 3) && decide (wRd w < 4)

/-- Defined encodings of ACC (R174). -/
def okAcc (w : Word) : Bool :=
  let f := wFunc w % 64
  let a := wRd w
  let b := wRs1 w
  let c := wRs2 w
  (if f = 5 then decide (wFunc w / 64 ≠ 3) else wFunc w / 64 == 0) &&
  (if f = 0 then decide (a < 4) && b == 0 && c == 0
   else if f = 1 ∨ f = 2 then decide (a < 4) && c == 0
   else if f = 3 ∨ f = 4 ∨ f = 6 ∨ f = 7 then decide (b < 4) && c == 0
   else if f = 5 then decide (b < 4)
   else f == 8 && decide (a < 4) && decide (b < 4) && c == 0)

/-- Defined encodings of PRED (R170). -/
def okPred (w : Word) : Bool :=
  let f := wFunc w % 64
  let a := wRd w
  let b := wRs1 w
  let c := wRs2 w
  if f ≤ 5 then decide (a < 8)
  else wFunc w / 64 == 0 &&
    (if 0x10 ≤ f ∧ f ≤ 0x13 then decide (a < 8) && decide (b < 8) && decide (c < 8)
     else if f = 0x14 then decide (a < 8) && decide (b < 8) && c == 0
     else if f = 0x18 ∨ f = 0x1A then decide (a < 8) && c == 0
     else f == 0x19 && decide (b < 8) && c == 0)

/-- Defined encodings of LSHUF (R168, R169). -/
def okLshuf (w : Word) : Bool :=
  let f := wFunc w % 64
  let v := wFunc w / 64
  if f = 0 then v == 0
  else if f = 1 then wRs2 w == 0
  else if 2 ≤ f ∧ f ≤ 5 then true
  else if 8 ≤ f ∧ f ≤ 0x0A then decide (wRs2 w < 16 / 2 ^ v)
  else if f = 0x10 ∨ f = 0x11 then decide (v ≠ 3)
  else decide (f = 0x12 ∨ f = 0x13) && decide (v ≠ 3) && wRs2 w == 0

/-- R162 step 1: does the word name a defined instruction in a task of the class, with TCR.BBM as given. -/
def legalWord (w : Word) (stream bbm : Bool) : Bool :=
  let m := wMajor w
  (stream || wG w == 0) &&
  (match m with
   | 0x01 => okAlu w stream
   | 0x02 => decide (wFunc w ≤ 7)
   | 0x03 | 0x04 | 0x05 | 0x06 | 0x07 | 0x0A | 0x0B | 0x0E | 0x22 => true
   | 0x08 => !stream && wRd w == 0
   | 0x09 => okShi w
   | 0x0C => okSelect w stream
   | 0x0D => okCap w
   | 0x10 | 0x11 | 0x12 | 0x13 | 0x14 | 0x15 | 0x16 | 0x17 | 0x18 | 0x19 | 0x1A | 0x1B | 0x1C => true
   | 0x1D => okLdx w
   | 0x1E => okStx w
   | 0x1F => decide (wFunc w = 3) || (decide (wFunc w = 1 ∨ wFunc w = 2) && wRs2 w == 0)
   | 0x20 => decide (wFunc w = 1 ∨ wFunc w = 2 ∨ wFunc w = 3 ∨ wFunc w = 8) && wRd w == 0 && wRs1 w == 0 && wRs2 w == 0
   | 0x21 => !bit w 18 && (if stream then bits w 22 19 == 14 else decide (bits w 22 19 ≠ 15))
   | 0x23 => wFunc w == 0 && wRs2 w == 0
   | 0x24 => wRd w == 0 && wRs1 w == 0 && !bit w 12
   | 0x25 => wRs1 w == 0 && !bit w 12 && sysRegs.contains (bits w 11 0)
   | 0x26 => wRd w == 0 && !bit w 12 && sysRegs.contains (bits w 11 0) && !sysRo.contains (bits w 11 0)
   | 0x27 => okSys w bbm
   | 0x28 => okLoop w
   | 0x29 => okLong w stream
   | 0x30 => stream && okLane w
   | 0x31 => stream && okLmac w
   | 0x32 => stream && okAcc w
   | 0x33 => stream && okPred w
   | 0x34 => stream && okLshuf w
   | _ => false)

/-- R162 step 2 but for system registers: K-only functions (R147, Table 03-15). -/
def kOnlyWord (w : Word) : Bool :=
  match wMajor w with
  | 0x1D | 0x1E => bit w 0
  | 0x27 => decide (wFunc w = 1 ∨ (8 ≤ wFunc w ∧ wFunc w ≤ 0x0B))
  | _ => false

/-- Is the word under a stream major, which a lane guard governs (R116, R121). -/
def streamMajor (w : Word) : Bool := decide (0x30 ≤ wMajor w ∧ wMajor w ≤ 0x34)

end Sys2Proof.Machine
end

