-- ==== Sys2Proof/Machine/Flags.lean ====
section
/-!
DEFINITION. Machine/Flags.lean: every result and flag computation of the integer instructions (03_isa_core, R125 to R133).
-/

namespace Sys2Proof.Machine

open Sys2Proof

/-- A 64-bit result with its carry and overflow; N and Z follow from the result (Table 03-6). -/
structure Flagged where
  res : Dword
  c : Bool
  v : Bool
  deriving DecidableEq, Repr

/-- addc of R128. -/
def addc (x y : Dword) (cin : Bool) : Flagged :=
  let s := x.toNat + y.toNat + cin.toNat
  let res := BitVec.ofNat 64 s
  { res := res, c := decide (s ≥ 2 ^ 64), v := x.msb == y.msb && res.msb != x.msb }

/-- x + y. -/
def addF (x y : Dword) : Flagged := addc x y false
/-- x - y. -/
def subF (x y : Dword) : Flagged := addc x (~~~ y) true
/-- 0 - x. -/
def negF (x : Dword) : Flagged := addc 0 (~~~ x) true
/-- A result that leaves C and V 0. -/
def plainF (r : Dword) : Flagged := { res := r, c := false, v := false }

/-- Shift left logical by the unsigned amount `s` (R128). -/
def sllF (x s : Dword) : Flagged :=
  let n := s.toNat
  { res := if n ≥ 64 then 0 else x <<< n, c := if n = 0 ∨ n > 64 then false else x.getLsbD (64 - n), v := false }

/-- Shift right logical (R128). -/
def srlF (x s : Dword) : Flagged :=
  let n := s.toNat
  { res := if n ≥ 64 then 0 else x >>> n, c := if n = 0 ∨ n > 64 then false else x.getLsbD (n - 1), v := false }

/-- Shift right arithmetic (R128). -/
def sraF (x s : Dword) : Flagged :=
  let n := s.toNat
  { res := if n ≥ 64 then (if x.msb then BitVec.allOnes 64 else 0) else x.sshiftRight n
    c := if n = 0 then false else if n ≥ 64 then x.msb else x.getLsbD (n - 1), v := false }

/-- Rotate left by the amount modulo 64 (R128). -/
def rolF (x s : Dword) : Flagged := plainF (x.rotateLeft (s.toNat % 64))

/-- Rotate right by the amount modulo 64 (R128). -/
def rorF (x s : Dword) : Flagged := plainF (x.rotateRight (s.toNat % 64))

/-- MUL: low half of the signed product; V when it does not fit (R128). -/
def mulF (x y : Dword) : Flagged :=
  let p := x.toInt * y.toInt
  { res := BitVec.ofInt 64 p, c := false, v := decide (p < -(2 ^ 63) ∨ p > 2 ^ 63 - 1) }

/-- MULU: low half of the unsigned product; C when it does not fit. -/
def muluF (x y : Dword) : Flagged :=
  let p := x.toNat * y.toNat
  { res := BitVec.ofNat 64 p, c := decide (p ≥ 2 ^ 64), v := false }

/-- MULH: high half of the signed product. -/
def mulhF (x y : Dword) : Flagged := plainF (BitVec.ofInt 64 ((x.toInt * y.toInt) / 2 ^ 64))

/-- MULHU: high half of the unsigned product. -/
def mulhuF (x y : Dword) : Flagged := plainF (BitVec.ofNat 64 (x.toNat * y.toNat / 2 ^ 64))

/-- DIV for a non-zero divisor: quotient truncated toward zero; V only for -2^63 by -1 (R128, R131). -/
def divF (x y : Dword) : Flagged :=
  { res := if y = 0 then 0 else BitVec.ofInt 64 (x.toInt.tdiv y.toInt), c := false
    v := decide (y ≠ 0 ∧ x.toInt = -(2 ^ 63) ∧ y.toInt = -1) }

/-- DIVU: unsigned quotient, 0 for a zero divisor. -/
def divuF (x y : Dword) : Flagged := plainF (BitVec.ofNat 64 (x.toNat / y.toNat))

/-- REM: signed remainder with the dividend's sign; the dividend for a zero divisor. -/
def remF (x y : Dword) : Flagged := plainF (if y = 0 then x else BitVec.ofInt 64 (x.toInt.tmod y.toInt))

/-- REMU: unsigned remainder; the dividend for a zero divisor. -/
def remuF (x y : Dword) : Flagged := plainF (BitVec.ofNat 64 (x.toNat % y.toNat))

/-- Signed minimum. -/
def minF (x y : Dword) : Flagged := plainF (if x.slt y then x else y)
/-- Signed maximum. -/
def maxF (x y : Dword) : Flagged := plainF (if x.slt y then y else x)
/-- Unsigned minimum. -/
def minuF (x y : Dword) : Flagged := plainF (if x.ult y then x else y)
/-- Unsigned maximum. -/
def maxuF (x y : Dword) : Flagged := plainF (if x.ult y then y else x)

/-- Leading zeros of x, 0 to 64. -/
def clzF (x : Dword) : Flagged := plainF (BitVec.ofNat 64 (if x = 0 then 64 else 63 - Nat.log2 x.toNat))

/-- Trailing zeros among the low `n` bits, counted from bit `i`. -/
def ctzFrom (x : Dword) : Nat → Nat → Nat
  | 0, _ => 0
  | n + 1, i => if x.getLsbD i then 0 else 1 + ctzFrom x n (i + 1)

/-- Trailing zeros of x, 0 to 64. -/
def ctzF (x : Dword) : Flagged := plainF (BitVec.ofNat 64 (ctzFrom x 64 0))

/-- One bits among the low `n` bits. -/
def popFrom (x : Dword) : Nat → Nat
  | 0 => 0
  | n + 1 => (x.getLsbD n).toNat + popFrom x n

/-- Count of one bits in x. -/
def popcF (x : Dword) : Flagged := plainF (BitVec.ofNat 64 (popFrom x 64))

/-- sext of the low `n` bits. -/
def sxF (n : Nat) (x : Dword) : Flagged := plainF ((x.setWidth n).signExtend 64)

/-- zext of the low `n` bits. -/
def zxF (n : Nat) (x : Dword) : Flagged := plainF ((x.setWidth n).setWidth 64)

/-- The result of MOVK (R132): bits [16k+15:16k] of x replaced. -/
def movkR (x : Dword) (imm : BitVec 18) : Dword :=
  let k := bits imm 17 16
  setBits x (16 * k + 15) (16 * k) (bits imm 15 0)

/-- The condition codes of Table 03-4, over N, Z, C and V; code 0xF is never reached (R162). -/
def condHolds (code : Nat) (n z c v : Bool) : Bool :=
  match code with
  | 0 => z | 1 => !z | 2 => c | 3 => !c | 4 => n | 5 => !n | 6 => v | 7 => !v
  | 8 => c && !z | 9 => !c || z | 10 => n == v | 11 => n != v | 12 => !z && n == v | 13 => z || n != v
  | 14 => true | _ => false

end Sys2Proof.Machine
end

