-- ==== Sys2Proof/Config.lean ====
section
/-!
DEFINITION. Config.lean: what the spec leaves open. Each constant is opaque: it has no body, so no proof can use a value of it.
Most are applied to the counter `freeCtr` of the state, which each use advances (notes/assumptions/2.md).
-/

namespace Sys2Proof.Config

/-- Engine cycles (CYCLE, R209): the model has no clock. -/
opaque cycleCount : Nat → Dword
/-- System time elapsed since it was last set, in 1/16 ns (R482): the model has no clock. -/
opaque timeElapsed : Nat → Dword
/-- Draws of the LFSRs that choose a replaced lineage filter, TLB, BTB or walk-cache entry (R92, R213, R319, R325). -/
opaque lfsr : Nat → Nat
/-- The pseudo-LRU victim of L1D (Table 05-3). -/
opaque plru : Nat → Nat
/-- The TRNG (R497). -/
opaque trng : Nat → Quad
/-- The decoder's outcome for an error of three or more symbols (R371): 0 none, 1 CE, 2 UE, 3 ADDR. -/
opaque decodeWide : Nat → Nat
/-- The cell the decoder returns for such an error. -/
opaque decodeBits : Nat → Quad
/-- The tag symbol of that cell. -/
opaque decodeTag : Nat → Byte
/-- The position the decoder reports for such an error (Table 10-2). -/
opaque decodePos : Nat → Nat
/-- Verification of an ECDSA P-256 signature of a message by the key whose SHA-256 is given (R517, R520): hash, message, signature. -/
opaque ecdsaVerify : List Byte → List Byte → List Byte → Bool
/-- SHA-256 of a byte string (R517). -/
opaque sha256 : List Byte → List Byte
/-- The TRNG's health tests report a failure (R497). -/
opaque trngFailed : Nat → Bool
/-- The 60 s of a debug nonce have passed (R520). -/
opaque nonceExpired : Nat → Bool
/-- The device serial number (R520), 4 bytes. -/
opaque serial : Word
/-- The firmware build number (GET_INFO). -/
opaque fwBuild : Word
/-- The spec states no number for a reset of RST_CAUSE before any reset (IMP). -/
opaque rstCause : Word
/-- The outcome of a start-up or self test firmware runs (Table 11-12): the number of the failing test, or 0. -/
opaque testOutcome : Nat → Nat
/-- The trimmed value of the noise measurement's resistor in milliohms (R439). -/
opaque noiseOhms : Nat
/-- The numbers of a fine reflectogram whose parabolas have no vertex, or that its registers do not hold (R448): the spec states none. -/
opaque tdrFit : List Int → Nat → Word
/-- An unstated number the firmware reports or measures. -/
opaque unstated : Nat → Word

end Sys2Proof.Config
end

