-- ==== Sys2Proof/Machine/Cap.lean ====
section
/-!
DEFINITION. Machine/Cap.lean: capabilities as 128-bit cells (02_capabilities, R63 to R71): the fields of Table 02-3, bounds, windows
and the representable lengths.
-/

namespace Sys2Proof.Machine

open Sys2Proof

/-! ## Fields (Table 02-3) -/

/-- CURSOR, bits [55:0]. -/
def capCursor (c : Cell) : Nat := bits c.bits 55 0
/-- E, bits [61:56]. -/
def capE (c : Cell) : Nat := bits c.bits 61 56
/-- B, bits [75:62]. -/
def capB (c : Cell) : Nat := bits c.bits 75 62
/-- L, bits [89:76]. -/
def capL (c : Cell) : Nat := bits c.bits 89 76
/-- PERM, bits [99:90]. -/
def capPerm (c : Cell) : Nat := bits c.bits 99 90
/-- LIN, bits [115:100]. -/
def capLin (c : Cell) : Nat := bits c.bits 115 100
/-- GEN, bits [119:116]. -/
def capGen (c : Cell) : Nat := bits c.bits 119 116
/-- OTYPE, bits [127:120]. -/
def capOtype (c : Cell) : Nat := bits c.bits 127 120

/-- The permissions of Table 02-5, numbered as PERM numbers them. -/
inductive Perm where
  | ld | st | ex | ldc | stc | stl | seal | unseal | sys | gbl
  deriving DecidableEq, Repr

/-- The PERM bit of a permission (Table 02-5). -/
def Perm.idx : Perm → Nat
  | .ld => 0 | .st => 1 | .ex => 2 | .ldc => 3 | .stc => 4 | .stl => 5 | .seal => 6 | .unseal => 7 | .sys => 8 | .gbl => 9

/-- Does the capability carry the permission (R70). -/
def capHas (c : Cell) (p : Perm) : Bool := bit c.bits (90 + p.idx)

/-- `c` with another CURSOR; no kind rule applied. -/
def withCursor (c : Cell) (a : Nat) : Cell := { c with bits := setBits c.bits 55 0 a }
/-- A cell as PCC takes it: bits [1:0] of the cursor of PCC are 0 (R112). That PCC drops them where a cell is installed is a DESIGN CHOICE
(notes/assumptions/59.md). -/
def alignPcc (c : Cell) : Cell := withCursor c (alignDown (capCursor c) 4)

/-! ## Bounds -/

/-- decode of R65: base and top from E, B, L and a cursor. -/
def boundsOf (e b l cursor : Nat) : Nat × Nat :=
  let c := cursor >>> e
  let d := (c + 0x4000 - b % 0x4000) % 0x4000
  let low := if d ≥ 0x3000 then c + (0x4000 - d) else c + 2 ^ 56 - d
  let base := (low <<< e) % 2 ^ 56
  (base, base + (l <<< e))

/-- decode of R65. -/
def capDecode (c : Cell) : Nat × Nat := boundsOf (capE c) (capB c) (capL c) (capCursor c)

/-- The decoded base. -/
def capBase (c : Cell) : Nat := (capDecode c).1

/-- The decoded top. -/
def capTop (c : Cell) : Nat := (capDecode c).2

/-- R64: the cell, of kind CAP or SEALED, is malformed. -/
def capMalformed (c : Cell) : Bool :=
  capE c > 43 || capL c > 0x2000 || capTop c > 2 ^ 56 ||
  (c.kind == .cap && capOtype c != 0) || (c.kind == .sealed && capOtype c == 0)

/-- R66: a cursor lies in the representable window of `c`. -/
def inWindow (c : Cell) (a : Nat) : Bool :=
  capE c ≥ 42 || (a + 2 ^ 56 + 2 ^ (capE c + 12) - capBase c) % 2 ^ 56 < 2 ^ (capE c + 14)

/-- cursor_move of R67: the capability with a new cursor, or INT when the cursor lies outside the window. -/
def cursorMove (c : Cell) (a : Nat) : Cell :=
  if inWindow c (a % 2 ^ 56) then withCursor c a else { withCursor c a with kind := .int }

/-- encode of R68: E, B and L of base `b` and length `l`, or none. -/
def capEncode (b l : Nat) : Option (Nat × Nat × Nat) :=
  if l > 2 ^ 56 ∨ b + l > 2 ^ 56 then none
  else
    let e := if l ≤ 0x2000 then 0 else ceilLog2 l - 13
    if e > 0 ∧ (b % 2 ^ e ≠ 0 ∨ l % 2 ^ e ≠ 0) then none
    else some (e, (b >>> e) % 0x4000, l >>> e)

/-- The exponent of Table 02-4 for a requested length. -/
def lenExp (l : Nat) : Nat := if l ≤ 0x2000 then 0 else if l > 2 ^ 56 then 43 else ceilLog2 l - 13

/-- CLEN.R of Table 02-4. -/
def clenR (l : Dword) : Dword :=
  if l.toNat ≤ 0x2000 then l
  else if l.toNat > 2 ^ 56 then BitVec.ofNat 64 (2 ^ 56)
  else BitVec.ofNat 64 ((l.toNat + 2 ^ lenExp l.toNat - 1) / 2 ^ lenExp l.toNat * 2 ^ lenExp l.toNat)

/-- CLEN.M of Table 02-4. -/
def clenM (l : Dword) : Dword := ~~~ (BitVec.ofNat 64 (2 ^ lenExp l.toNat - 1))

/-- A capability image from its fields. -/
def capImage (otype gen lin perm l b e cursor : Nat) : Quad :=
  BitVec.ofNat 128 (otype % 2 ^ 8 * 2 ^ 120 + gen % 2 ^ 4 * 2 ^ 116 + lin % 2 ^ 16 * 2 ^ 100 + perm % 2 ^ 10 * 2 ^ 90 +
    l % 2 ^ 14 * 2 ^ 76 + b % 2 ^ 14 * 2 ^ 62 + e % 2 ^ 6 * 2 ^ 56 + cursor % 2 ^ 56)

/-- The kind a tag symbol names, or none where the cell is malformed (R52, R53). -/
def kindOfTag (t : Byte) : Option Kind :=
  if t = 0 then some .raw else if t = 1 then some .int else if t = 2 then some .cap
  else if t = 3 then some .sealed else if t = 4 then some .poison else none

/-- The tag symbol of a kind (Table 02-1). -/
def kindCode : Kind → Nat
  | .raw => 0 | .int => 1 | .cap => 2 | .sealed => 3 | .poison => 4

/-- The tag symbol of a kind, as stored. -/
def kindTag (k : Kind) : Byte := BitVec.ofNat 8 (kindCode k)

/-- A cell of kind CAP or SEALED carries a capability (Table 00-7). -/
def isCap (k : Kind) : Bool := k == .cap || k == .sealed

end Sys2Proof.Machine
end

