-- ==== Sys2Proof/Machine/Lanes.lean ====
section
/-!
DEFINITION. Machine/Lanes.lean: lane arithmetic, shuffles, predicates and accumulator arithmetic as pure functions (04_isa_stream,
R163 to R176). A register operand is its 128 bits; lanes are lists of numbers of w bits, lane 0 first.
-/

namespace Sys2Proof.Machine

open Sys2Proof

/-- The lane width of a W field (Table 04-1). -/
def laneWidth (w : BitVec 2) : Nat := 8 * 2 ^ w.toNat

/-- The lane count of a W field (Table 04-1). -/
def laneCount (w : BitVec 2) : Nat := 16 / 2 ^ w.toNat

/-- Lane `i` of width `w` (R163). -/
def lane (x : Quad) (w i : Nat) : Nat := (x.toNat >>> (w * i)) % 2 ^ w

/-- The first `n` lanes of width `w`. -/
def lanes (x : Quad) (w n : Nat) : List Nat := (List.range n).map (lane x w)

/-- A register value from its lanes of width `w`, lane 0 first. -/
def fromLanes (w : Nat) (l : List Nat) : Quad := BitVec.ofNat 128 (l.foldr (fun v acc => v % 2 ^ w + 2 ^ w * acc) 0)

/-- The LANE functions of two sources (Table 04-2). -/
inductive LaneFn where
  | add | adds | addus | sub | subs | subus | mul | mulq | min | max | minu | maxu | abs | negs
  | and | or | xor | andn | sll | srl | sra
  deriving DecidableEq, Repr

/-- The result lane of a LANE function at width `w` (Table 04-2). -/
def LaneFn.eval (f : LaneFn) (w x y : Nat) : Nat :=
  let sx := signed w x
  let sy := signed w y
  match f with
  | .add => (x + y) % 2 ^ w
  | .adds => wrap w (satS w (sx + sy))
  | .addus => wrap w (satU w (x + y))
  | .sub => wrap w ((x : Int) - y)
  | .subs => wrap w (satS w (sx - sy))
  | .subus => wrap w (satU w ((x : Int) - y))
  | .mul => x * y % 2 ^ w
  | .mulq => wrap w (satS w ((2 * sx * sy + 2 ^ (w - 1)) / 2 ^ w))
  | .min => if sx ≤ sy then x else y
  | .max => if sx ≤ sy then y else x
  | .minu => if x ≤ y then x else y
  | .maxu => if x ≤ y then y else x
  | .abs => wrap w (satS w (if sx < 0 then -sx else sx))
  | .negs => wrap w (satS w (-sx))
  | .and => Nat.land x y
  | .or => Nat.lor x y
  | .xor => Nat.xor x y
  | .andn => Nat.land x (2 ^ w - 1 - y)
  | .sll => if y ≥ w then 0 else (x <<< y) % 2 ^ w
  | .srl => if y ≥ w then 0 else x >>> y
  | .sra => if y ≥ w then (if sx < 0 then 2 ^ w - 1 else 0) else wrap w (sx / 2 ^ y)

/-- The result lanes of a LANE function (R167). -/
def laneMap (f : LaneFn) (w : BitVec 2) (x y : Quad) : List Nat :=
  (List.range (laneCount w)).map (fun i => f.eval (laneWidth w) (lane x (laneWidth w) i) (lane y (laneWidth w) i))

/-- LSPLAT: lane 0 of the source in every lane. -/
def laneSplat (w : BitVec 2) (x : Quad) : List Nat := List.replicate (laneCount w) (lane x (laneWidth w) 0)

/-! ## Shuffles (Table 04-3) -/

/-- LPERM. -/
def lperm (x y : Quad) : List Nat :=
  (List.range 16).map (fun i => if lane y 8 i ≥ 128 then 0 else lane x 8 (lane y 8 i % 16))

/-- LREV. -/
def lrev (w : BitVec 2) (x : Quad) : List Nat := (lanes x (laneWidth w) (laneCount w)).reverse

/-- LZIPLO and LZIPHI: lanes from `lo` on, interleaved. -/
def lzip (w : BitVec 2) (lo : Nat) (x y : Quad) : List Nat :=
  (List.range (laneCount w)).map (fun i => lane (if i % 2 = 0 then x else y) (laneWidth w) (lo + i / 2))

/-- LUNZIPE and LUNZIPO: the lanes of parity `p` of x, then of y. -/
def lunzip (w : BitVec 2) (p : Nat) (x y : Quad) : List Nat :=
  let h := laneCount w / 2
  (List.range (laneCount w)).map (fun i => if i < h then lane x (laneWidth w) (2 * i + p) else lane y (laneWidth w) (2 * (i - h) + p))

/-- LPACKS and LPACKUS: lanes of width 2w, saturated by `sat` to w bits. -/
def lpack (sat : Nat → Int → Int) (w : BitVec 2) (x y : Quad) : List Nat :=
  let n := laneWidth w
  let h := laneCount w / 2
  (List.range (laneCount w)).map (fun i => wrap n (sat n (signed (2 * n) (if i < h then lane x (2 * n) i else lane y (2 * n) (i - h)))))

/-- LWIDEN.LO and LWIDEN.HI: source lanes of width w from `lo` on, sign-extended to 2w. -/
def lwiden (w : BitVec 2) (lo : Nat) (x : Quad) : List Nat :=
  (List.range (laneCount w / 2)).map (fun i => wrap (2 * laneWidth w) (signed (laneWidth w) (lane x (laneWidth w) (lo + i))))

/-! ## Merging under a guard (R165) -/

/-- Do all the first `n` bits of a mask hold. -/
def maskAll (m : BitVec 16) (n : Nat) : Bool := m.toNat % 2 ^ n == 2 ^ n - 1

/-- Is none of the first `n` bits of a mask set. -/
def maskNone (m : BitVec 16) (n : Nat) : Bool := m.toNat % 2 ^ n == 0

/-- lwrite of R165: result lanes where the mask bit is 1, the old lanes elsewhere. -/
def mergeLanes (m : BitVec 16) (w : Nat) (res : List Nat) (old : Quad) : Quad :=
  fromLanes w (res.mapIdx (fun i v => if bit m i then v else lane old w i))

/-- R171: predicate bits below `n` change where the guard bit is 1. -/
def mergePred (m old : BitVec 16) (n : Nat) (f : Nat → Bool) : BitVec 16 :=
  BitVec.ofNat 16 ((List.range 16).foldr (fun i acc => (if decide (i < n) && bit m i then f i else bit old i).toNat + 2 * acc) 0)

/-- The comparisons of PCMP (Table 04-4). -/
inductive PcmpFn where
  | eq | ne | lt | le | ltu | leu
  deriving DecidableEq, Repr

/-- A PCMP comparison of two lanes of width `w`. -/
def PcmpFn.eval (f : PcmpFn) (w x y : Nat) : Bool :=
  match f with
  | .eq => x == y
  | .ne => x != y
  | .lt => decide (signed w x < signed w y)
  | .le => decide (signed w x ≤ signed w y)
  | .ltu => decide (x < y)
  | .leu => decide (x ≤ y)

/-! ## Accumulators (R172 to R176) -/

/-- One accumulator: four signed 64-bit lanes and their sticky bits (R172). -/
structure Accum where
  l0 : Dword
  l1 : Dword
  l2 : Dword
  l3 : Dword
  s : BitVec 4
  deriving DecidableEq, Repr

/-- An accumulator of zeros (R194). -/
def Accum.zero : Accum := { l0 := 0, l1 := 0, l2 := 0, l3 := 0, s := 0 }

/-- Lane `j` of an accumulator. -/
def Accum.lane (a : Accum) (j : Nat) : Dword :=
  match j with
  | 0 => a.l0 | 1 => a.l1 | 2 => a.l2 | _ => a.l3

/-- Accumulator with lane `j` set. -/
def Accum.setLane (a : Accum) (j : Nat) (v : Dword) : Accum :=
  match j with
  | 0 => { a with l0 := v } | 1 => { a with l1 := v } | 2 => { a with l2 := v } | _ => { a with l3 := v }

/-- Accumulator with sticky bit `j` set to `b`. -/
def Accum.setS (a : Accum) (j : Nat) (b : Bool) : Accum := { a with s := setBit a.s j b }

/-- Adds an exact number to lane `j` with saturation, S set when it saturates (R173). -/
def Accum.addSat (a : Accum) (j : Nat) (v : Int) : Accum :=
  let t := (a.lane j).toInt + v
  let a1 := if t > 2 ^ 63 - 1 ∨ t < -(2 ^ 63) then a.setS j true else a
  a1.setLane j (BitVec.ofInt 64 (satS 64 t))

/-- The products of LMAC and MACR (Table 04-5). -/
inductive MacFn where
  | mac | macu | msu | macq
  deriving DecidableEq, Repr

/-- The signed contribution of one product (Table 04-5; MSU subtracts). -/
def MacFn.product (f : MacFn) (w x y : Nat) : Int :=
  match f with
  | .mac => signed w x * signed w y
  | .macu => (x * y : Nat)
  | .msu => -(signed w x * signed w y)
  | .macq => 2 * signed w x * signed w y

/-- LMAC of R173: the guarded products of each quarter added into their lane. -/
def lmac (f : MacFn) (w : BitVec 2) (m : BitVec 16) (x y : Quad) (a : Accum) : Accum :=
  let n := laneCount w
  let wd := laneWidth w
  let part := fun (j : Nat) => (List.range (n / 4)).foldl (fun (s : Int) i =>
    if bit m (j * (n / 4) + i) then s + f.product wd (lane x wd (j * (n / 4) + i)) (lane y wd (j * (n / 4) + i)) else s) 0
  (List.range 4).foldl (fun acc j => acc.addSat j (part j)) a

/-- round of R175. -/
def accRound (v : Int) (s : Nat) : Int := if s = 0 then v else (v + 2 ^ (s - 1)) / 2 ^ s

/-- The four result lanes of ANARROW at width `w` (R175). -/
def anarrow (w s : Nat) (a : Accum) : List Nat :=
  (List.range 4).map (fun j => wrap w (satS w (accRound (a.lane j).toInt s)))

/-- The exact sum of the enabled lanes (R176). -/
def areduce (m : BitVec 16) (a : Accum) : Int :=
  (List.range 4).foldl (fun (s : Int) j => if bit m j then s + (a.lane j).toInt else s) 0

/-- bitrev of R177: the low `m` bits of `v` reversed. -/
def bitrev : Nat → Nat → Nat
  | 0, _ => 0
  | m + 1, v => (v % 2) * 2 ^ m + bitrev m (v / 2)

end Sys2Proof.Machine
end

