-- ==== Sys2Proof/Machine/Regs.lean ====
section
/-!
DEFINITION. Machine/Regs.lean: every device register of the spec with its fields' access codes, change classes, reset values and
reserved values (the register tables of chapters 00 and 02 to 16), as data, and the reading of it.
-/

namespace Sys2Proof.Machine

open Sys2Proof

/-- The access codes of Table 00-4. -/
inductive Acc where
  | rw | ro | wo | w1c | w1s | rc
  deriving DecidableEq, Repr

/-- The change classes of Table 00-5. -/
inductive Cls where
  | l | b | s
  deriving DecidableEq, Repr

/-- Which values of an encoded field are not reserved values (R17). -/
inductive Okv where
  | any
  | rng (lo hi : Nat)
  | oneOf (l : List Nat)
  | outer (lo hi : Nat)
  | mult (n : Nat)
  deriving DecidableEq, Repr

/-- Is the value one the field may take. -/
def Okv.ok : Okv → Nat → Bool
  | .any, _ => true
  | .rng lo hi, v => decide (lo ≤ v ∧ v ≤ hi)
  | .oneOf l, v => l.contains v
  | .outer lo hi, v => decide (v ≤ lo ∨ hi ≤ v)
  | .mult n, v => v % n == 0

/-- Which masters' writes a register accepts; another master's write changes nothing and sets CFGERR. -/
inductive Own where
  | anyone
  | mgmt
  | cretal
  | debug
  deriving DecidableEq, Repr

/-- A field of a register table (Table 00-3). -/
structure Fld where
  hi : Nat
  lo : Nat
  acc : Acc
  cls : Cls
  rst : Nat
  ok : Okv
  deriving DecidableEq, Repr

/-- A register table: offset, stride and count within its block, who may write it, and its fields. -/
structure RegRow where
  ofs : Nat
  stride : Nat
  count : Nat
  own : Own
  flds : List Fld
  deriving DecidableEq, Repr

/-- A field every value of which is allowed. -/
def fa (hi lo : Nat) (acc : Acc) (cls : Cls) (rst : Nat) : Fld := { hi := hi, lo := lo, acc := acc, cls := cls, rst := rst, ok := .any }
/-- A class L field that resets to 0. -/
def fl (hi lo : Nat) (acc : Acc) : Fld := fa hi lo acc .l 0
/-- A field with reserved values. -/
def fr (hi lo : Nat) (acc : Acc) (cls : Cls) (rst : Nat) (ok : Okv) : Fld := { hi := hi, lo := lo, acc := acc, cls := cls, rst := rst, ok := ok }
/-- A single register. -/
def r1 (ofs : Nat) (own : Own) (flds : List Fld) : RegRow := { ofs := ofs, stride := 4, count := 1, own := own, flds := flds }
/-- A row of registers. -/
def rN (ofs stride count : Nat) (own : Own) (flds : List Fld) : RegRow := { ofs := ofs, stride := stride, count := count, own := own, flds := flds }

/-- The kinds of register block (Table 01-7). -/
inductive Blk where
  | sysid | clk | pwr | rst | evr | mbx | safe | cal | lin | scrb | mem | time | therm | sense | port | trk | eth | xspi | gpio | dbg | tile
  deriving DecidableEq, Repr

/-- The block at an index, or none where the index is not assigned (Table 01-7, R19). -/
def blkOf (b : Nat) : Option Blk :=
  match b with
  | 0x00 => some .sysid | 0x01 => some .clk | 0x02 => some .pwr | 0x03 => some .rst | 0x04 => some .evr | 0x05 => some .mbx
  | 0x06 => some .safe | 0x07 => some .cal | 0x08 => some .lin | 0x09 => some .scrb | 0x0A => some .mem | 0x0B => some .mem
  | 0x0C => some .time | 0x0D => some .therm | 0x0E => some .sense
  | 0x18 => some .trk | 0x19 => some .trk | 0x1A => some .eth | 0x1B => some .eth | 0x1C => some .xspi | 0x1D => some .gpio
  | 0x1E => some .dbg
  | _ => if 0x10 ≤ b ∧ b ≤ 0x17 then some .port else if 0x20 ≤ b ∧ b ≤ 0x3F then some .tile else none

/-- Engine access to a block (Table 01-7): reads, writes. -/
def blkEngine : Blk → Bool × Bool
  | .sysid | .safe | .cal | .scrb | .mem | .time | .therm | .gpio => (true, false)
  | .evr | .mbx | .sense | .port | .eth | .tile => (true, true)
  | .clk | .pwr | .rst | .lin | .trk | .xspi | .dbg => (false, false)

/-- The blocks that cannot be disabled (R23). -/
def blkAlways : Blk → Bool
  | .clk | .pwr | .rst | .evr | .mbx | .safe | .cal | .lin | .scrb | .therm | .dbg | .tile => true
  | .sysid | .mem | .time | .sense | .port | .trk | .eth | .xspi | .gpio => false

/-- The block whose type code BLKID.TYPE gives (BLKID): the first instance of a repeated block. -/
def blkType (b : Nat) : Nat :=
  if 0x10 ≤ b ∧ b ≤ 0x17 then 0x10 else if 0x18 ≤ b ∧ b ≤ 0x19 then 0x18 else if 0x1A ≤ b ∧ b ≤ 0x1B then 0x1A
  else if 0x20 ≤ b ∧ b ≤ 0x3F then 0x20 else b

/-- The common header (R22). -/
def hdrRows (b : Nat) (always : Bool) : List RegRow :=
  [r1 0x00 .anyone [fa 31 16 .ro .l (blkType b), fa 15 8 .ro .l b, fa 7 0 .ro .l 1],
   r1 0x04 .anyone [if always then fa 0 0 .ro .l 1 else fl 0 0 .rw],
   r1 0x08 .anyone [fl 31 16 .ro, fl 1 1 .w1c, fl 0 0 .w1c]]

/-- MPU region registers (R339). -/
def mpuRegionRows (base count : Nat) : List RegRow :=
  [rN base 16 count .mgmt [fa 31 0 .rw .b 0], rN (base + 4) 16 count .mgmt [fa 31 0 .rw .b 0],
   rN (base + 8) 16 count .mgmt [fa 21 16 .rw .b 0, fa 5 0 .rw .b 0],
   rN (base + 12) 16 count .mgmt [fl 31 31 .rw, fl 30 30 .rw, fl 29 29 .rw, fl 9 8 .rw, fl 6 4 .rw, fl 2 0 .rw]]

/-- MPU control and capture registers (R347 to R355). -/
def mpuCtlRows (base count : Nat) : List RegRow :=
  [rN base 32 count .mgmt [fl 8 8 .ro, fl 0 0 .rw],
   rN (base + 0x04) 32 count .anyone [fl 31 0 .ro], rN (base + 0x08) 32 count .anyone [fl 11 0 .ro],
   rN (base + 0x0C) 32 count .anyone [fl 31 31 .w1c, fl 30 17 .ro, fl 15 0 .ro],
   rN (base + 0x10) 32 count .anyone [fl 15 0 .ro],
   rN (base + 0x14) 32 count .anyone [fl 1 1 .ro, fl 0 0 .wo]]

/-- The error log registers (R375). -/
def errRows : List RegRow :=
  [r1 0x40 .mgmt [fl 31 0 .ro], r1 0x44 .mgmt [fl 11 0 .ro],
   r1 0x48 .mgmt [fl 31 31 .w1c, fl 30 30 .ro, fl 29 28 .ro, fl 27 24 .ro, fl 20 16 .ro, fl 15 0 .ro],
   r1 0x4C .mgmt [fl 15 0 .rc], r1 0x50 .mgmt [fl 15 0 .rc], r1 0x54 .mgmt [fa 15 0 .rw .l 0x10]]

/-- Chapter 15, CLK. -/
def clkRows : List RegRow :=
  [r1 0x10 .mgmt [fl 4 0 .ro],
   rN 0x100 4 32 .mgmt [fl 31 31 .ro, fa 25 16 .ro .l 0x3E8, fr 9 0 .rw .l 0x3E8 (.rng 50 1000)]]

/-- Chapter 15, PWR. -/
def pwrRows : List RegRow :=
  [r1 0x10 .mgmt [fr 9 0 .rw .l 0x1E0 (.rng 80 1000)], r1 0x14 .mgmt [fl 31 31 .w1c, fa 25 16 .ro .l 0x088, fl 9 0 .ro],
   r1 0x18 .mgmt [fr 9 0 .rw .l 0x050 (.rng 80 1000)], r1 0x20 .mgmt [fl 31 16 .wo, fr 1 0 .rw .l 0 (.rng 0 2)],
   r1 0x30 .mgmt [fl 31 0 .rw], r1 0x34 .mgmt [fl 10 8 .ro, fl 2 2 .rw, fl 1 1 .rw, fa 0 0 .rw .l 1],
   rN 0x100 4 32 .mgmt [fl 16 16 .ro, fa 9 8 .ro .l 3, fa 4 4 .rw .l 1, fr 1 0 .rw .l 2 (.rng 0 2)],
   rN 0x200 4 32 .mgmt [fr 15 0 .rw .l 0 (.rng 0 1000)]]

/-- Chapter 15, RST. -/
def rstRows : List RegRow :=
  [r1 0x10 .mgmt [fl 3 0 .ro], r1 0x14 .mgmt [fl 31 16 .wo], r1 0x18 .mgmt [fl 31 0 .w1s], rN 0x100 4 32 .mgmt [fl 31 0 .w1s]]

/-- Chapter 06, EVR. -/
def evrRows : List RegRow :=
  [r1 0x10 .anyone [fl 10 0 .wo], r1 0x14 .anyone [fl 26 16 .ro, fl 1 1 .w1c, fl 0 0 .w1c],
   rN 0x100 4 64 .mgmt [fl 31 0 .w1c],
   rN 0x2000 4 2048 .mgmt [fa 31 31 .rw .l 1, fl 30 30 .rw, fl 29 29 .rw, fl 19 16 .rw, fl 15 0 .rw]]

/-- The channels MBX_ENGCH may name: 0 to 7 and 16 to 23. -/
def engch : Okv := .oneOf [0, 1, 2, 3, 4, 5, 6, 7, 16, 17, 18, 19, 20, 21, 22, 23]

/-- Chapter 14, MBX but for the channels (Mailbox.lean). -/
def mbxRows : List RegRow :=
  [rN 0x100 4 256 .mgmt [fl 31 31 .rw, fr 28 24 .rw .l 0 engch, fl 23 23 .rw, fr 20 16 .rw .l 0 engch, fl 15 15 .rw, fr 12 8 .rw .l 0 engch,
    fl 7 7 .rw, fr 4 0 .rw .l 0 engch]]

/-- Chapter 11, SAFE. -/
def safeRows : List RegRow :=
  [r1 0x10 .mgmt [fl 31 16 .wo, fr 10 8 .wo .l 0 (.rng 0 4), fl 2 0 .ro], r1 0x14 .mgmt [fl 31 31 .w1c, fl 30 30 .ro, fl 23 20 .ro, fl 15 0 .ro],
   r1 0x18 .mgmt [fa 29 0 .rw .l 0x1016AAA6], r1 0x1C .mgmt [fl 4 0 .ro], r1 0x20 .mgmt [fl 31 16 .wo],
   r1 0x24 .mgmt [fr 7 0 .rw .l 0x0A (.rng 1 100)], r1 0x28 .mgmt [fr 3 0 .rw .l 0xA (.rng 1 10)], r1 0x2C .mgmt [fl 5 0 .w1c],
   r1 0x30 .mgmt [fl 15 8 .ro, fl 0 0 .rw]]

/-- Chapter 11, CAL. -/
def calRows : List RegRow :=
  [r1 0x10 .mgmt [fr 12 8 .rw .b 0x10 (.rng 1 16), fr 4 0 .rw .b 0x10 (.rng 2 16)], r1 0x14 .mgmt [fl 31 16 .rc, fl 2 2 .w1c, fl 1 1 .w1c, fl 0 0 .w1c],
   r1 0x18 .mgmt [fl 31 28 .ro, fl 15 10 .ro, fl 8 0 .ro], rN 0x1C 4 6 .mgmt [fl 31 0 .ro],
   rN 0x1000 4 512 .mgmt [fl 31 31 .ro, fl 30 27 .ro, fl 15 0 .rc]]

/-- Chapter 02, LIN. -/
def linRows : List RegRow :=
  [r1 0x10 .mgmt [fl 31 16 .rw, fl 15 8 .rw, fr 3 0 .wo .l 0 (.rng 0 7)], r1 0x14 .mgmt [fl 11 8 .ro, fl 2 2 .w1c, fl 1 1 .w1c, fl 0 0 .ro],
   r1 0x18 .mgmt [fl 31 0 .ro], r1 0x1C .mgmt [fl 31 21 .ro, fl 9 0 .ro], r1 0x20 .mgmt [fr 15 0 .rw .l 0xA (.rng 1 65535)],
   r1 0x30 .mgmt [fl 31 4 .rw], r1 0x34 .mgmt [fl 11 0 .rw], rN 0x40 4 4 .mgmt [fl 31 0 .rw], r1 0x50 .mgmt [fr 2 0 .rw .l 2 (.rng 2 3)],
   r1 0x60 .mgmt [fl 31 16 .ro, fl 7 0 .rc]]

/-- Chapter 10, SCRB. -/
def scrbRows : List RegRow :=
  [r1 0x10 .mgmt [fr 31 16 .rw .b 0x3E8 (.rng 100 10000), fr 9 0 .rw .b 0x3C (.rng 10 600)],
   r1 0x14 .mgmt [fl 31 24 .ro, fl 23 16 .ro, fl 15 8 .ro, fl 0 0 .w1c],
   rN 0x20 16 2 .mgmt [fa 31 6 .rw .b 0], rN 0x24 16 2 .mgmt [fa 11 0 .rw .b 0], rN 0x28 16 2 .mgmt [fa 31 0 .rw .b 0],
   rN 0x2C 16 2 .mgmt [fl 7 4 .ro, fl 2 2 .w1c, fl 1 1 .ro, fl 0 0 .wo]] ++ errRows

/-- Chapter 10, MEMA and MEMB. -/
def memRows : List RegRow :=
  [r1 0x10 .mgmt [fr 11 8 .rw .s 0 (.oneOf [1, 2, 4, 6, 8]), fa 4 4 .rw .s 0, fr 2 0 .rw .s 0 (.rng 0 5)], r1 0x14 .mgmt [fl 2 0 .ro]] ++ errRows

/-- Chapter 13, TIME. -/
def timeRows : List RegRow :=
  [r1 0x10 .mgmt [fl 31 0 .ro], r1 0x14 .mgmt [fl 31 0 .ro], r1 0x18 .mgmt [fr 31 30 .rw .s 0 (.rng 0 2), fl 23 0 .rw],
   r1 0x1C .mgmt [fl 31 31 .ro, fl 20 16 .ro, fl 13 8 .ro, fl 0 0 .ro], rN 0x20 4 2 .mgmt [fl 31 0 .wo]]

/-- Chapter 15, THERM. -/
def thermRows : List RegRow :=
  [r1 0x10 .mgmt [fr 7 0 .rw .l 0x73 (.rng 85 120)], r1 0x14 .mgmt [fl 2 0 .w1c], r1 0x18 .mgmt [fl 31 0 .ro], rN 0x100 4 32 .mgmt [fl 31 16 .ro, fl 15 0 .ro]]

/-- Chapter 12, SENSE. -/
def senseRows : List RegRow :=
  [r1 0x10 .mgmt [fa 2 0 .rw .s 2], r1 0x14 .anyone [fa 15 0 .rw .b 0], r1 0x18 .anyone [fl 1 1 .wo, fl 0 0 .rw], r1 0x1C .anyone [fl 31 16 .ro, fl 15 0 .w1c],
   r1 0x20 .mgmt [fr 23 0 .rw .l 0 (.outer 50000 0xFF3CB0)], r1 0x24 .mgmt [fl 2 2 .w1c, fl 1 1 .ro, fl 0 0 .wo], r1 0x28 .anyone [fl 31 16 .ro, fl 15 0 .ro],
   rN 0x40 4 16 .anyone [fl 31 0 .ro]]

/-- Chapters 12, 13 and 09, PORT. -/
def portRows : List RegRow :=
  [r1 0x10 .mgmt [fl 1 1 .rw, fl 0 0 .wo], r1 0x14 .anyone [fl 31 16 .rc, fl 15 11 .ro, fl 5 5 .w1c, fl 4 4 .w1c, fl 3 0 .ro],
   r1 0x18 .anyone [fl 19 0 .ro], r1 0x100 .anyone [fl 21 16 .wo, fl 15 0 .wo], r1 0x104 .anyone [fl 31 31 .w1c, fl 29 24 .ro, fl 15 0 .ro],
   r1 0x200 .mgmt [fa 31 6 .rw .s 0], r1 0x204 .mgmt [fa 11 0 .rw .s 0],
   r1 0x208 .mgmt [fr 23 16 .rw .s 1 (.rng 1 255), fr 11 0 .rw .s 0xA0 (.rng 1 4095)],
   r1 0x20C .mgmt [fl 31 16 .rc, fl 15 12 .ro, fl 2 2 .w1c, fl 1 1 .w1c, fl 0 0 .ro],
   rN 0x400 4 32 .mgmt [fl 31 31 .rw, fa 30 30 .rw .s 0, fr 24 16 .rw .s 0x40 (.rng 16 256), fl 15 0 .rw],
   r1 0x480 .anyone [fl 31 0 .w1c], r1 0x484 .anyone [fl 31 0 .ro],
   r1 0x600 .anyone [fa 31 31 .rw .b 0, fa 20 16 .rw .b 0, fr 10 8 .rw .b 4 (.rng 0 4), fr 3 0 .rw .b 6 (.rng 0 10)],
   r1 0x604 .anyone [fa 14 0 .rw .b 0x200], r1 0x608 .anyone [fr 3 0 .wo .l 0 (.rng 0 3)],
   r1 0x60C .anyone [fl 31 28 .ro, fl 27 27 .ro, fl 26 26 .ro, fl 4 4 .w1c, fl 3 3 .w1c, fl 2 2 .w1c, fl 1 0 .ro],
   r1 0x610 .anyone [fr 31 0 .rw .b 0 (.mult 64)], r1 0x614 .anyone [fa 11 0 .rw .b 0], r1 0x618 .mgmt [fa 19 0 .rw .b 0],
   rN 0x620 4 2 .anyone [fl 31 0 .ro], rN 0x628 4 2 .anyone [fl 15 0 .ro], r1 0x630 .anyone [fl 16 16 .ro, fl 15 0 .ro],
   rN 0x800 4 64 .anyone [fl 31 0 .ro]] ++ mpuRegionRows 0x1000 16 ++ mpuCtlRows 0x1100 1

/-- Chapter 13, TRK. -/
def trkRows : List RegRow :=
  [r1 0x10 .mgmt [fl 31 16 .rc, fl 2 2 .w1c, fl 1 0 .ro], r1 0x14 .mgmt [fl 31 31 .ro, fl 23 0 .ro]]

/-- Chapter 13, ETH but for the packet memories. -/
def ethRows : List RegRow :=
  [r1 0x10 .mgmt [fa 2 2 .rw .s 1, fr 1 0 .rw .s 0 (.rng 0 1)], r1 0x14 .mgmt [fa 31 0 .rw .s 0], r1 0x18 .mgmt [fa 15 0 .rw .s 0],
   r1 0x20 .anyone [fl 31 28 .wo, fl 24 16 .wo, fl 10 0 .wo], r1 0x24 .anyone [fl 31 28 .ro, fl 2 0 .ro], rN 0x28 4 2 .anyone [fl 31 0 .ro],
   r1 0x30 .anyone [fl 14 4 .ro], r1 0x34 .anyone [fl 14 4 .rw], r1 0x38 .anyone [fl 31 16 .rc, fl 5 4 .ro, fl 1 1 .w1c, fl 0 0 .ro]]

/-- Chapter 16, DBG. -/
def dbgRows : List RegRow :=
  [r1 0x10 .cretal [fl 31 31 .rw, fl 4 0 .rw], r1 0x14 .debug [fl 9 0 .rw], r1 0x18 .debug [fl 3 3 .rw, fl 2 2 .wo, fl 1 1 .wo, fl 0 0 .wo],
   r1 0x1C .debug [fl 31 29 .ro, fl 27 24 .ro, fl 18 14 .ro, fl 9 0 .ro], r1 0x30 .debug [fl 31 31 .rw, fl 3 0 .rw], rN 0x34 4 4 .debug [fl 9 0 .rw],
   rN 0x100 16 6 .debug [fl 31 0 .rw], rN 0x104 16 6 .debug [fl 23 0 .rw],
   rN 0x108 16 6 .debug [fl 31 27 .rw, fl 21 20 .rw, fr 19 16 .rw .l 0 (.rng 0 12), fl 11 0 .rw],
   r1 0x200 .debug [fl 31 31 .wo, fr 15 12 .rw .l 0 (.rng 0 10), fr 11 8 .rw .l 0 (.rng 0 10), fr 7 4 .rw .l 0 (.rng 0 10), fr 3 0 .rw .l 0 (.rng 0 10)],
   rN 0x208 8 4 .debug [fl 31 0 .ro], rN 0x20C 8 4 .debug [fl 15 0 .ro]]

/-- Chapters 06, 07, 09, 10 and 14, TILE. -/
def tileRows : List RegRow :=
  [rN 0x100 4 32 .mgmt [fa 1 1 .rw .b 0, fa 0 0 .rw .b 0], rN 0x180 4 32 .mgmt [fa 29 0 .rw .b 0],
   rN 0x200 8 32 .anyone [fl 21 16 .rw, fr 14 12 .rw .l 0 (.rng 0 6), fl 11 8 .rw, fr 3 0 .wo .l 0 (.rng 0 8)],
   rN 0x204 8 32 .anyone [fl 31 16 .ro, fl 15 15 .ro, fl 14 12 .ro, fl 11 9 .ro, fl 8 5 .ro, fl 1 1 .w1c, fl 0 0 .ro],
   r1 0x300 .mgmt [fl 31 0 .w1s], r1 0x304 .anyone [fl 31 0 .ro], r1 0x308 .mgmt [fl 31 0 .w1s],
   rN 0x400 4 4 .mgmt [fl 9 9 .ro, fl 8 8 .wo, fr 1 0 .rw .b 0 (.rng 0 2)],
   r1 0x500 .mgmt [fa 31 13 .rw .b 0], r1 0x504 .mgmt [fa 11 0 .rw .b 0], r1 0x508 .mgmt [fl 0 0 .wo], r1 0x50C .anyone [fl 7 0 .rw],
   r1 0x510 .anyone [fl 31 31 .w1c, fl 27 24 .ro, fl 23 16 .ro, fl 8 8 .ro, fl 7 0 .ro]] ++
  mpuRegionRows 0x3000 16 ++ mpuCtlRows 0x3400 32 ++ mpuCtlRows 0x3800 1 ++
  (List.range 32).flatMap (fun n => mpuRegionRows (0x1000 + 0x100 * n) 16)

/-- SYSID (R2): part and silicon revision of Tables 16-2 and 17-18. The spec gives the register no offset or layout: DESIGN CHOICE
(notes/assumptions/61.md). -/
def sysidRows : List RegRow := [r1 0x10 .anyone [fa 23 16 .ro .l 0xA2, fa 15 0 .ro .l 0x1024]]

/-- The register tables of a block kind. -/
def blkRows : Blk → List RegRow
  | .sysid => sysidRows | .gpio => [] | .xspi => [r1 0x10 .mgmt [fl 31 24 .ro, fl 1 0 .ro]]
  | .clk => clkRows | .pwr => pwrRows | .rst => rstRows | .evr => evrRows | .mbx => mbxRows | .safe => safeRows | .cal => calRows
  | .lin => linRows | .scrb => scrbRows | .mem => memRows | .time => timeRows | .therm => thermRows | .sense => senseRows
  | .port => portRows | .trk => trkRows | .eth => ethRows | .dbg => dbgRows | .tile => tileRows

/-- The first row of a list that holds an offset. -/
def findRow : List RegRow → Nat → Option RegRow
  | [], _ => none
  | r :: rs, o => if r.ofs ≤ o ∧ (o - r.ofs) % r.stride = 0 ∧ (o - r.ofs) / r.stride < r.count then some r else findRow rs o

/-- The register at an offset of a block, or none (R18); block 0x100 stands for the space of Cretal's MPU (Table 14-2). -/
def regRow (b o : Nat) : Option RegRow :=
  match blkOf b with
  | none => if b = 0x100 then findRow (mpuRegionRows 0x1000 16 ++ mpuCtlRows 0x1100 1) o else none
  | some k => if o < 0x10 then findRow (hdrRows b (blkAlways k)) o else findRow (blkRows k) o

/-- The value of a list of fields at reset. -/
def fldsReset (l : List Fld) : Word := l.foldl (fun w f => setBits w f.hi f.lo f.rst) 0

/-- The value of the register at an offset of a block after reset; 0 where there is none. -/
def resetWord (b o : Nat) : Word :=
  match regRow b o with
  | none => 0
  | some r => fldsReset r.flds

/-- The key of a register: block index and offset. -/
def regKey (b o : Nat) : Nat := b * 0x10000 + o

end Sys2Proof.Machine
end

