-- ==== Sys2Proof/Machine/State.lean ====
section
/-!
DEFINITION. Machine/State.lean: the whole state of the ZU1024 as plain data, the reasons a step can stop, and the state after reset.
-/

namespace Sys2Proof.Machine

open Sys2Proof

/-! ## Engines -/

/-- The levels of R269. -/
inductive Level where
  | t | k | rest
  deriving DecidableEq, Repr

/-- The memory types of Table 08-5. -/
inductive MemType where
  | normal | device | mirror
  deriving DecidableEq, Repr

/-- Accesses as translation and the MPU class them (R321, R342). -/
inductive Access where
  | read | write | exec
  deriving DecidableEq, Repr

/-- One register bank (R237, R238): general registers c1 to c31, PCC, the 64-bit registers of Table 06-5 by their system
register number, predicates, accumulators, and the slot whose task it holds. -/
structure Chuck where
  regs : Map Cell
  pcc : Cell
  sys : Map Dword
  preds : Map (BitVec 16)
  accs : Map Accum
  occ : Option Nat
  deriving DecidableEq, Repr

/-- An empty chuck: every cell null (Table 06-9, UNBIND). -/
def Chuck.empty : Chuck := { regs := [], pcc := Cell.null, sys := [], preds := [], accs := [], occ := none }

/-- The task states of Table 06-1. -/
inductive TaskState where
  | free | ready | running | waiting | suspended | stopped
  deriving DecidableEq, Repr

/-- A task slot: the scheduler's copy of the descriptor (Tables 06-3, 06-4), state, PEND and the recorded event ids; `sliceNow` is the
slice its last dispatch took (R232), and `used` counts the instructions committed at level T since the dispatch or the restart of the
slice (R267). -/
structure Slot where
  st : TaskState
  wasWaiting : Bool
  save : Cell
  emask : BitVec 16
  domain : Byte
  paired : Bool
  det : Bool
  cls : Bool
  prio : BitVec 4
  slice : BitVec 16
  sliceNow : BitVec 16
  psalt : BitVec 60
  ttb0 : Dword
  asid : BitVec 12
  ceil : BitVec 2
  pend : BitVec 16
  evids : Map (BitVec 12)
  chuck : Option Nat
  firstFill : Bool
  readyAt : Nat
  lastRun : Nat
  used : Nat
  suspendReq : Bool
  unbindReq : Bool
  deriving DecidableEq, Repr

/-- A slot with no task (R226). -/
def Slot.free : Slot :=
  { st := .free, wasWaiting := false, save := Cell.null, emask := 0, domain := 0, paired := false, det := false
    cls := false, prio := 0, slice := 0, sliceNow := 0, psalt := 0, ttb0 := 0, asid := 0, ceil := 0, pend := 0, evids := [], chuck := none
    firstFill := false, readyAt := 0, lastRun := 0, used := 0, suspendReq := false, unbindReq := false }

/-- A TLB entry (R325); its age is left to TLB_ENTRY_EXPIRE. -/
structure TlbEntry where
  half : Bool
  vbase : Nat
  shift : Nat
  asid : Nat
  g : Bool
  u : Bool
  xt : Bool
  xk : Bool
  w : Bool
  df : Bool
  mt : MemType
  pbase : Nat
  deriving DecidableEq, Repr

/-- A walk-cache entry (R319): the table found for the virtual address bits above a level. -/
structure WalkEntry where
  owner : Nat
  half : Bool
  tb : Nat
  level : Nat
  vaTag : Nat
  next : Nat
  deriving DecidableEq, Repr

/-- A memory cell as a read returns it: data bits and tag symbol (R52). -/
structure MCell where
  bits : Quad
  tag : Byte
  deriving DecidableEq, Repr

/-- A line of L1I or L1D: the line number, its four cells and the errors of their stored codewords (Table 05-3, R208). -/
structure L1Line where
  line : Nat
  cells : List MCell
  errs : List (BitVec 176)
  deriving DecidableEq, Repr

/-- A store buffer entry (R206): bytes `ofs` to `ofs + n - 1` of a cell, with the kind written; `sync` says that an MPU_SYNC waits for
it (R354). -/
structure SbEntry where
  cell : Nat
  ofs : Nat
  n : Nat
  data : Nat
  kind : Kind
  sync : Bool
  deriving DecidableEq, Repr

/-- What an exception writes to EVAL and ECAUSE (Table 07-2). -/
structure Exc where
  code : Nat
  val : Nat
  reg : Option Nat
  acc : Nat
  deriving DecidableEq, Repr

/-- A walk outstanding (R315): the address and the access that missed, and whether the cluster's walker has started it. -/
structure WalkReq where
  va : Nat
  acc : Access
  lvl : Level
  user : Bool
  reg : Option Nat
  accCode : Nat
  started : Bool
  discard : Bool
  deriving DecidableEq, Repr

/-- A load waiting for a line (R206): its destination, size and base, whether the line is read again for an error (R208), and whether
an MPU_SYNC waits for it (R354). -/
structure LoadReq where
  rd : Nat
  n : Nat
  sx : Bool
  base : Cell
  rs1 : Nat
  wb : Option Cell
  va : Nat
  pa : Nat
  refetch : Bool
  sync : Bool
  deriving DecidableEq, Repr

/-- A gated act or register write at the output gate (R401): address, data, the issuing engine's count and signature, and whether an
MPU_SYNC waits for it (R354). -/
structure Act where
  addr : Nat
  data : Word
  va : Nat
  count : Nat
  sig : Word
  rs1 : Nat
  wb : Option Cell
  sync : Bool
  deriving DecidableEq, Repr

/-- The long instructions (Table 04-8). -/
inductive LongFn where
  | cpyb | fillb | fillbP | sweep | mac (f : MacFn) (w : BitVec 2) (a : BitVec 2)
  deriving DecidableEq, Repr

/-- A long instruction in progress (R191): operands read at the start and the bytes done. -/
structure LongOp where
  fn : LongFn
  dst : Cell
  src : Cell
  rdN : Nat
  rs1N : Nat
  len : Nat
  down : Bool
  done : Nat
  deriving DecidableEq, Repr

/-- A switch in progress (R241): the incoming slot, its chuck and the victim's slot. -/
structure Switch where
  slot : Nat
  chuck : Nat
  victim : Option Nat
  deriving DecidableEq, Repr

/-- A direction counter (R210, R211): value and owner slot. -/
structure DirCtr where
  val : BitVec 2
  owner : Option Nat
  deriving DecidableEq, Repr

/-- A branch target buffer entry (R213). -/
structure BtbEntry where
  task : Nat
  addr : Nat
  target : Nat
  kind : Nat
  deriving DecidableEq, Repr

/-- Debug state of an engine (16_debug). -/
structure DbgEngine where
  halted : Bool
  reason : Nat
  bp : Nat
  haltReq : Option Nat
  solo : Bool
  stepping : Bool
  skip : Option Nat
  regs : Map Word
  counts : Map (BitVec 48)
  deriving DecidableEq, Repr

/-- One engine. `sys` and `csys` hold the engine registers of Table 03-14 by number; `cmd` holds the RESULT of a scheduler command that
has had its effect and has still to complete (R262). `lchk` holds the lineage checks that the instruction or chunk in progress has made:
each index with the generation the check found LIVE, or none (R101, R102). -/
structure Engine where
  held : Bool
  stopped : Bool
  level : Level
  cur : Nat
  slot : Nat
  running : Bool
  trap : Bool
  chucks : Map Chuck
  slots : Map Slot
  sys : Map Dword
  csys : Map Cell
  resv : Option Nat
  filt : List (Nat × Nat)
  lchk : List (Nat × Option Nat)
  lfill : Option Nat
  tlb : List TlbEntry
  l1i : List L1Line
  l1d : List L1Line
  sb : List SbEntry
  walk : Option WalkReq
  load : Option LoadReq
  act : Option Act
  long : Option LongOp
  sw : Option Switch
  imp : Option Nat
  bcast : Bool
  dirc : Map DirCtr
  btb : List BtbEntry
  commits : Nat
  sig : Word
  readyCtr : Nat
  cmd : Option Nat
  resetPend : Bool
  dbg : DbgEngine
  deriving DecidableEq, Repr

/-- The debug state of an engine after reset. -/
def DbgEngine.reset : DbgEngine :=
  { halted := false, reason := 0, bp := 0, haltReq := none, solo := false, stepping := false, skip := none, regs := [], counts := [] }

/-- An engine after a reset that reaches it: held (R511), every slot FREE. -/
def Engine.reset : Engine :=
  { held := true, stopped := false, level := .k, cur := 7, slot := 0, running := false, trap := false
    chucks := [], slots := [], sys := [], csys := [], resv := none, filt := [], lchk := [], lfill := none, tlb := [], l1i := []
    l1d := [], sb := [], walk := none, load := none, act := none, long := none, sw := none, imp := none, bcast := false
    dirc := [], btb := [], commits := 0, sig := 0xFFFFFFFF, readyCtr := 0, cmd := none, resetPend := false,
    dbg := DbgEngine.reset }

/-! ## Memory -/

/-- Memory in canonical form: bytes, tag symbols by cell address, and the errors of stored codewords by cell address (the
exclusive or of what a read finds with the codeword, symbol i at bits 8i + 7 to 8i; at positions 20 and 21 the difference of the
address symbols where the array returns another cell; Table 10-2). -/
structure Memory where
  bytes : List Host.Cell
  tags : List (Nat × Byte)
  errs : List (Nat × BitVec 176)
  deriving DecidableEq, Repr

/-! ## Pairs and safety -/

/-- When the channel B engine delivers its signature at a point (R397, R398): when it commits the count, when it has carried out the
decision of the count, or when it has taken the Rest entry of the count. -/
inductive PointKind where
  | commit | decision | rest
  deriving DecidableEq, Repr

/-- A read performed for a pair (R393): block, offset, and the data or a Bus Error. -/
structure PairRead where
  count : Nat
  blk : Nat
  ofs : Nat
  data : Option Dword
  deriving DecidableEq, Repr

/-- A signature of an engine at a point (R398). -/
structure SigPoint where
  count : Nat
  sig : Word
  kind : PointKind
  deriving DecidableEq, Repr

/-- What a scheduler decides at a preemption point (R266, R279): the switch to a slot, no task, the running task to the tail of its
priority or its slice restarted (R250), an event entry (R254). -/
inductive Choice where
  | slot (n : Nat)
  | none
  | tail
  | restart
  | event (vec : Nat)
  deriving DecidableEq, Repr

/-- A decision (R266): the count it is made at, what is decided, and whether the engine had no RUNNING task. -/
structure Decision where
  count : Nat
  choice : Choice
  idle : Bool
  deriving DecidableEq, Repr

/-- Caliper state of a pair (R390 to R407): the act held, reads made for channel B, points of channel A, decisions of channel A that
channel B has not carried out, signatures channel B has delivered, a decision channel B presents ahead of channel A (R392). -/
structure Pair where
  held : Option Act
  reads : List PairRead
  points : List SigPoint
  decisions : List Decision
  bSigs : List SigPoint
  bHeld : Bool
  bDec : Option Decision
  since : Nat
  lastGood : Nat
  haltAt : Option Nat
  deriving DecidableEq, Repr

/-- A pair with nothing pending. -/
def Pair.reset : Pair :=
  { held := none, reads := [], points := [], decisions := [], bSigs := [], bHeld := false, bDec := none, since := 0, lastGood := 0, haltAt := none }

/-- The device modes of Table 11-8. -/
inductive Mode where
  | start | run | safe | test | recovery
  deriving DecidableEq, Repr

/-- The SAFE block's state that is no plain register (R413 to R418): mode copies, kick window, pin level of SAFE_VERMILION, the
clocks each monitor found bad in its last window, and port DMAs and stream movers stopped under class 8. -/
structure Safe where
  modeA : Mode
  modeB : Mode
  kickOpen : Bool
  vermilion : Bool
  badA : List Nat
  badB : List Nat
  dmaStop : Bool
  deriving DecidableEq, Repr

/-! ## Lineage block -/

/-- The phases of a lineage command (Table 02-10). -/
inductive LinPhase where
  | idle | bcast | done
  deriving DecidableEq, Repr

/-- The lineage command in progress and the filter invalidate broadcast (R96 to R104): the engines still to acknowledge, the
indices broadcast, copy mismatches the command found, and mismatches found outside a command whose handling goes on (R100). Since the
block's reset: whether start-up has filled memory with POISON, and the resources firmware has filled before a grant (R87). -/
structure Lin where
  phase : LinPhase
  op : Nat
  idx : Nat
  result : Nat
  sweep : Bool
  pend : List Nat
  bidx : List Nat
  found : Nat
  solo : Nat
  filled : Bool
  fills : List Nat
  deriving DecidableEq, Repr

/-- A TINV.BCAST in progress or waiting (R334). -/
structure TlbBcast where
  issuer : Nat
  va : Nat
  asid : Nat
  pend : List Nat
  deriving DecidableEq, Repr

/-! ## Memory units (10_memory_integrity) -/

/-- A scrubber run: a pass in progress and its next cell (R377). -/
structure ScrubRun where
  active : Bool
  next : Nat
  deriving DecidableEq, Repr

/-- A stream mover's descriptor in progress (R381): source, destination, length, flags and bytes done. -/
structure SmRun where
  src : Nat
  dst : Nat
  len : Nat
  flags : Nat
  done : Nat
  deriving DecidableEq, Repr

/-! ## Partner ports (12_measurement, 13_ports_links) -/

/-- The link states of Table 13-3; `off` while LINKEN is 0. -/
inductive LinkState where
  | off | train | desc | delay | up
  deriving DecidableEq, Repr

/-- A partner command in the queue (R463): output, value, its sequence once sent, resends made, frames since the last, and a resend that is due. -/
structure PCmd where
  output : Nat
  value : Nat
  seq : Option Nat
  tries : Nat
  age : Nat
  due : Bool
  deriving DecidableEq, Repr

/-- A sample block being collected (R470): its number, the time of sample 0, bad instants, overrange, samples by stream, and whether it
was in progress as the DMA resumed, which writes the next one first (R472). -/
structure Block where
  num : Nat
  start : Dword
  bad : Nat
  ovr : Bool
  samples : Map (List Int)
  skip : Bool
  deriving DecidableEq, Repr

/-- A line the port DMA has to write (R471): its address in channel A, its 64 bytes, the stream, and whether it is the slot's header. -/
structure DmaLine where
  addr : Nat
  data : List Byte
  src : Nat
  last : Bool
  deriving DecidableEq, Repr

/-- The phases of an acquisition (R445). -/
inductive AcqPhase where
  | asked | running | writing
  deriving DecidableEq, Repr

/-- A reflectometer acquisition in progress (R442 to R445), under the register values taken at its start. -/
structure Acq where
  fine : Bool
  phase : AcqPhase
  navg : Nat
  klog : Nat
  cable : Nat
  twin : Bool
  buf : Nat
  centre : Nat
  zero : Nat
  ldly : Nat
  rep : Nat
  sums : Map Int
  next : Nat
  tbase : Bool
  deriving DecidableEq, Repr

/-- A partner port's state that is no register. `hist` holds the newest bits of each stream as +1, -1 or 0, newest first;
`badBits` marks those of invalid frames; `sent` is the last downstream frame, as it left the device; `means` the sum and the count of
the samples of each stream since discovery set the decimators (R469). -/
structure Port where
  link : LinkState
  valid : Nat
  invalid : Nat
  rxSeq : Option Nat
  txSeq : Nat
  descNext : Nat
  descIn : Map (List Byte)
  retry : Bool
  marks : Nat
  markGap : Nat
  echoes : Nat
  markTx : Map Dword
  delays : List Nat
  cq : List PCmd
  flight : List PCmd
  cqWait : List PCmd
  cmdSeq : Nat
  vals : Map Nat
  settle : Map Nat
  badRep : Map Nat
  segOut : List (List Byte)
  epoch : Bool
  hist : Map (List Int)
  badBits : List Bool
  nbits : Nat
  blk : Option Block
  blkNum : Nat
  out : List DmaLine
  sent : List Byte
  tdr : Option Acq
  means : Map (Int × Nat)
  deriving DecidableEq, Repr

/-- A port after reset. -/
def Port.reset : Port :=
  { link := .off, valid := 0, invalid := 0, rxSeq := none, txSeq := 0, descNext := 0, descIn := [], retry := false, marks := 0
    markGap := 0, echoes := 0, markTx := [], delays := [], cq := [], flight := [], cqWait := [], cmdSeq := 0, vals := [], settle := []
    badRep := [], segOut := [], epoch := false, hist := [], badBits := [], nbits := 0, blk := none, blkNum := 0, out := []
    sent := [], tdr := none, means := [] }

/-- The sense block's state that is no register (R436 to R439): inputs still to convert, results of the scan in progress and of
the last complete scan, snapshots by reading master, and a RUN that waits for a noise measurement. -/
structure Sense where
  scan : Option (List Nat)
  cur : Map Word
  results : Map Word
  snaps : Map (Map Word)
  runWait : Bool
  deriving DecidableEq, Repr

/-! ## Trunk and Ethernet (13_ports_links) -/

/-- Trunk state (R475 to R479, R503): the last 64 sequence numbers seen of each source, the count of frames originated, the departure
time of the outstanding DREQ and the last 16 hop delays of each port, SYNCs in a row within 1 ns, the frames last sent, the source
node of the request on each trunk channel, and whether the device is a worker that found itself at more than 31 hops. -/
structure Trunk where
  seen : Map (List Nat)
  seq : Nat
  dreq : Map Dword
  hops : Map (List Nat)
  syncOk : Nat
  out : Map (List Byte)
  src : Map Nat
  far : Bool
  deriving DecidableEq, Repr

/-- A frame queued for transmission (R485). -/
structure TxFrame where
  tag : Nat
  ofs : Nat
  len : Nat
  deriving DecidableEq, Repr

/-- An Ethernet MAC's state that is no register or packet memory: queued frames, commands waiting at a full queue, and the frame
last transmitted. -/
structure Eth where
  txq : List TxFrame
  wait : List TxFrame
  out : List Byte
  deriving DecidableEq, Repr

/-! ## Cretal and its firmware (14_cretal_mailboxes) -/

/-- What firmware keeps of the last request it answered on a channel (R506). -/
structure Kept where
  seq : Nat
  crc : Nat
  resp : List Byte
  deriving DecidableEq, Repr

/-- A command that goes on in the background (R507), with what it has learnt. -/
structure Bg where
  cmd : Nat
  val : Nat
  aux : Nat
  deriving DecidableEq, Repr

/-- A firmware log entry (READ_LOG). -/
structure LogEntry where
  time : Dword
  id : Nat
  unit : Nat
  data : Word
  deriving DecidableEq, Repr

/-- A debug nonce (R520). -/
structure Nonce where
  val : Quad
  scope : Nat
  deriving DecidableEq, Repr

/-- A discovery in progress on a port (R469): the channel of the PORT_DISCOVER that asked, the cable whose acquisition runs, the buffer of
its results, the streams with a load leakage and the cables that changed. -/
structure Disc where
  chan : Option Nat
  cable : Option Nat
  buf : Nat
  leak : Nat
  bad : Nat
  deriving DecidableEq, Repr

/-- Firmware state: the copied requests (R502), kept answers, background commands, the last heartbeat, the log, sends of remote
requests, the nonce in force, signature failures in a row and the lockout (R521), first zeros of streams, each a sum of samples with
their number, and discoveries by port (R469), and the channel whose request was taken last (R507). -/
structure Fw where
  req : Map (List Byte)
  kept : Map Kept
  bg : Map Bg
  hb : Option Nat
  log : List LogEntry
  nonce : Option Nonce
  fails : Nat
  locked : Bool
  zeros : Map (Int × Nat)
  disc : Map Disc
  rr : Nat
  deriving DecidableEq, Repr

/-- Firmware with nothing kept. -/
def Fw.reset : Fw :=
  { req := [], kept := [], bg := [], hb := none, log := [], nonce := none, fails := 0, locked := false, zeros := [], disc := [], rr := 31 }

/-- An OTP key slot (R517): use 0 unprogrammed, 1 image, 2 debug; the SHA-256 of the key. -/
structure OtpKey where
  use : Nat
  revoked : Bool
  hash : List Byte
  deriving DecidableEq, Repr

/-- One-time-programmable memory (R517 to R519): lifecycle of Table 14-15, key slots, minimum image version. -/
structure Otp where
  life : Nat
  keys : Map OtpKey
  minVer : Nat
  deriving DecidableEq, Repr

/-- The image slots (R517, R518): the state IMG_LIST reports of each, the slot booted, and the records the slots carry. -/
structure Images where
  st : Map Nat
  booted : Option Nat
  recs : Map InstallRec
  deriving DecidableEq, Repr

/-! ## Power and debug (15_power_clock_reset, 16_debug) -/

/-- Power and thermal state that is no register: budget and thermal limits of tiles in MHz, wakes requested in order, wakes under
way, wakes that have raised event 1730, resets deferred to a wake (tile number with the engine bits), gradients in a row and
gradient throttles by tile pair, and whether HOT and CRIT throttles are under way (R531 to R547). -/
structure Power where
  blim : Map Nat
  tlim : Map Nat
  wakeQ : List Nat
  waking : List Nat
  waited : List Nat
  defer : Map Word
  gradN : Map Nat
  gradOn : Map Nat
  hotOn : Bool
  deriving DecidableEq, Repr

/-- Trace state (R566, R567): the bytes waiting, packets lost in the overflow in progress, bytes since the last SYNC. -/
structure Trace where
  buf : List Byte
  lost : Nat
  since : Nat
  started : Bool
  deriving DecidableEq, Repr

/-- A DBGACC command that goes on after it was captured BUSY (R554): the access to be made. -/
inductive DbgCmd where
  | busRead (a : Nat) | busWrite (a : Nat) (w : Word) | kind (a : Nat) | stateRead (a : Nat) | stateWrite (a : Nat) (w : Word)
  deriving DecidableEq, Repr

/-- The test access port: instruction register, DBGACC status, address and data, a command in progress, boundary cells, and what
the selected data register captures next (R554, R555, Table 16-3). -/
structure Jtag where
  ir : Nat
  status : Nat
  addr : Nat
  data : Word
  busy : Option DbgCmd
  cells : List Bool
  dr : BitVec 80
  deriving DecidableEq, Repr

/-! ## The state -/

/-- The whole machine. Engines, clusters, pairs, ports and MACs that are not listed are as their reset. A register that `regs`
does not list holds its reset value; `eff` holds the values of class B fields in force (R12), the reset value where it lists none;
`walkRr` the local engine number whose walk each cluster's walker started last (R315); `applying` the DCSIZE code each cluster's apply
took at its start (R363); `events` holds the events raised and not yet delivered with the bindings they were raised under; `shadow` the upper halves of R21 by master and register. -/
structure State where
  pending : List Instr
  freeCtr : Nat
  regs : Map Word
  eff : Map Word
  shadow : Map Word
  eng : Map Engine
  wcache : Map (List WalkEntry)
  walkRr : Map Nat
  mem : Memory
  linA : Map Word
  linB : Map Word
  lin : Lin
  bcasts : List TlbBcast
  events : List (Nat × Word)
  pairs : Map Pair
  safe : Safe
  timeBase : Dword
  scrub : Map ScrubRun
  sm : Map SmRun
  ceq : List (Nat × MCell)
  applying : Map Nat
  ports : Map Port
  sense : Sense
  trunk : Trunk
  eth : Map Eth
  fw : Fw
  inst : Option InstallRec
  otp : Otp
  img : Images
  cretalReset : Bool
  pw : Power
  trace : Trace
  jtag : Jtag
  vsel : List Nat
  deriving DecidableEq, Repr

/-- Why a step stops with a fault. No command of this model does: exceptions are taken (07_exceptions_privilege). -/
inductive Fault where
  /-- Raised by no meaning; safe. -/
  | none
  deriving DecidableEq, Repr

/-- Why a command has no meaning. -/
inductive Refusal where
  /-- Raised by a dispatch arm that has no meaning yet; safe, since nothing follows from it. -/
  | notModelled (mnemonic : String)
  deriving DecidableEq, Repr

/-- An empty memory: nothing listed. -/
def Memory.empty : Memory := { bytes := [], tags := [], errs := [] }

/-- No lineage command in progress. -/
def Lin.idle : Lin := { phase := .idle, op := 0, idx := 0, result := 0, sweep := false, pend := [], bidx := [], found := 0, solo := 0, filled := false, fills := [] }

/-- The SAFE block after reset: both mode copies START, the kick window closed (R418, R419). -/
def Safe.reset : Safe := { modeA := .start, modeB := .start, kickOpen := false, vermilion := false, badA := [], badB := [], dmaStop := false }

/-- The tables after reset: entry 0 of both copies LIVE with owner 0 (R90). -/
def linTableReset : Map Word := [(0, 0x10)]

/-- The registers of an MPU region that runs from address `lo` to `hi` inclusive (R339), at a base offset of a block. -/
def regionWords (blk ofs lo hi : Nat) (attr : Word) : Map Word :=
  [(regKey blk ofs, BitVec.ofNat 32 (lo >>> 6)), (regKey blk (ofs + 4), BitVec.ofNat 32 (hi >>> 6)),
   (regKey blk (ofs + 8), BitVec.ofNat 32 ((hi >>> 38) * 0x10000 + (lo >>> 38))), (regKey blk (ofs + 12), attr)]

/-- The MPU regions of Cretal after a reset that reaches it (Table 14-3), at the pseudo block 0x100 of its private space. -/
def cretalMpuReset : Map Word :=
  regionWords 0x100 0x1000 0 0x3FFFFFF 0x80000130 ++ regionWords 0x100 0x1010 0x10000000 0x10FFFFFF 0x80000230 ++
  regionWords 0x100 0x1020 0x20000000 0x2FFFFFFF 0x80000110 ++ regionWords 0x100 0x1030 0x40000000 0x4007FFFF 0x80000010 ++
  regionWords 0x100 0x1040 0x10000000000 0x101FFFFFFFF 0x80000130 ++ regionWords 0x100 0x1050 0x10200000000 0x103FFFFFFFF 0x80000130

/-- The debug scope of a lifecycle after reset (Table 16-1): OPEN and all of SCOPE outside FIELD. -/
def dbgAuthReset (life : Nat) : Word := if life = 2 then 0 else 0x8000001F

/-- The machine after a power-on reset, before its first command (R545, Table 15-6). -/
def State.reset : State :=
  { pending := [], freeCtr := 0, regs := Map.put (dbgAuthReset 0) cretalMpuReset (regKey 0x1E 0x10), eff := cretalMpuReset, shadow := []
    eng := [], wcache := [], walkRr := [], mem := Memory.empty, linA := linTableReset, linB := linTableReset, lin := Lin.idle, bcasts := []
    events := [], pairs := [], safe := Safe.reset, timeBase := 0, scrub := [], sm := [], ceq := [], applying := [], ports := []
    sense := { scan := none, cur := [], results := [], snaps := [], runWait := false }
    trunk := { seen := [], seq := 0, dreq := [], hops := [], syncOk := 0, out := [], src := [], far := false }
    eth := [], fw := Fw.reset, inst := none, otp := { life := 0, keys := [], minVer := 0 }
    img := { st := [], booted := none, recs := [] }, cretalReset := true
    pw := { blim := [], tlim := [], wakeQ := [], waking := [], waited := [], defer := [], gradN := [], gradOn := [], hotOn := false }
    trace := { buf := [], lost := 0, since := 0, started := false }
    jtag := { ir := 1, status := 0, addr := 0, data := 0, busy := none, cells := [], dr := 0x21024735 }, vsel := [] }

end Sys2Proof.Machine
end

