-- ==== Sys2Proof/Machine/Ops.lean ====
section
/-!
DEFINITION. Machine/Ops.lean: the named operations over the parts of the state: engines, device registers, events, time, memory
under the symbol code (10_memory_integrity), the error logs and the fault reactions (11_pairing_safety).
-/

namespace Sys2Proof.Machine

open Sys2Proof

/-! ## Parts of the state -/

/-- The engine of an id. -/
def State.engine (s : State) (e : Nat) : Engine := Map.get Engine.reset s.eng e
/-- Replaces an engine. -/
def State.setEngine (s : State) (e : Nat) (x : Engine) : State := { s with eng := Map.put x s.eng e }
/-- Applies `f` to an engine. -/
def State.updEngine (s : State) (e : Nat) (f : Engine → Engine) : State := s.setEngine e (f (s.engine e))
/-- The pair of a number. -/
def State.pair (s : State) (p : Nat) : Pair := Map.get Pair.reset s.pairs p
/-- Applies `f` to a pair. -/
def State.updPair (s : State) (p : Nat) (f : Pair → Pair) : State := { s with pairs := Map.put (f (s.pair p)) s.pairs p }
/-- The port of a number. -/
def State.port (s : State) (p : Nat) : Port := Map.get Port.reset s.ports p
/-- Applies `f` to a port. -/
def State.updPort (s : State) (p : Nat) (f : Port → Port) : State := { s with ports := Map.put (f (s.port p)) s.ports p }
/-- Applies `f` to the safety state. -/
def State.updSafe (s : State) (f : Safe → Safe) : State := { s with safe := f s.safe }
/-- Applies `f` to the firmware's state. -/
def State.updFw (s : State) (f : Fw → Fw) : State := { s with fw := f s.fw }
/-- Applies `f` to the power state. -/
def State.updPw (s : State) (f : Power → Power) : State := { s with pw := f s.pw }

/-- The argument of the next free value, and the state with it used up. -/
def State.draw (s : State) : Nat × State := (s.freeCtr, { s with freeCtr := s.freeCtr + 1 })

/-- System time (R482): the last load plus the time elapsed, a free value. -/
def State.now (s : State) : Dword × State := (s.timeBase + Config.timeElapsed s.freeCtr, { s with freeCtr := s.freeCtr + 1 })

/-! ## Device registers as stored -/

/-- The stored value of a register. -/
def State.reg (s : State) (b o : Nat) : Word := Map.get (resetWord b o) s.regs (regKey b o)
/-- Stores a register. -/
def State.setReg (s : State) (b o : Nat) (w : Word) : State := { s with regs := Map.put w s.regs (regKey b o) }
/-- The values of a register's class B fields in force (R12). -/
def State.effReg (s : State) (b o : Nat) : Word := Map.get (resetWord b o) s.eff (regKey b o)
/-- The boundary of a register's class B fields: the written values come into force (R12). -/
def State.boundary (s : State) (b o : Nat) : State := { s with eff := Map.put (s.reg b o) s.eff (regKey b o) }
/-- Bits `hi` to `lo` of a register. -/
def State.fld (s : State) (b o hi lo : Nat) : Nat := bits (s.reg b o) hi lo
/-- Sets bits `hi` to `lo` of a register. -/
def State.setFld (s : State) (b o hi lo v : Nat) : State := s.setReg b o (setBits (s.reg b o) hi lo v)
/-- Bits of a class B value in force. -/
def State.effFld (s : State) (b o hi lo : Nat) : Nat := bits (s.effReg b o) hi lo
/-- Adds 1 to a 16-bit count that saturates at 0xFFFF. -/
def State.count16 (s : State) (b o lo : Nat) : State := s.setFld b o (lo + 15) lo (min (s.fld b o (lo + 15) lo + 1) 0xFFFF)
/-- An offending write at an offset sets CFGERR, or CFGERR_OVF where CFGERR is already 1 (BLKSTAT). Cretal's private space (Table 14-2)
has no BLKSTAT. -/
def State.cfgerr (s : State) (b o : Nat) : State :=
  if 0x100 ≤ b then s
  else if s.fld b 8 0 0 = 1 then s.setFld b 8 1 1 1 else (s.setFld b 8 31 16 o).setFld b 8 0 0 1
/-- Is BLKCTRL.EN of a block 1. -/
def State.blkEn (s : State) (b : Nat) : Bool := s.fld b 4 0 0 == 1

/-- Raises an event under the binding in force (R50, class L); EVENT_DELIVERY delivers it. -/
def State.raise (s : State) (id : Nat) : State := { s with events := s.events ++ [(id, s.reg 4 (0x2000 + 4 * id))] }

/-- Sets TIME_STAT.LOCK; acquisitions in progress as it is lost do not end with TBASE 1 (R450, R479). -/
def State.setLock (s : State) (v : Bool) : State :=
  let t := s.setFld 0x0C 0x1C 31 31 v.toNat
  if v then t else { t with ports := Map.mapVal (fun q => { q with tdr := q.tdr.map (fun a => { a with tbase := false }) }) t.ports }

/-! ## Numbers of units (R27, Table 01-7) -/

/-- The twin of an engine: the id that differs in bit 9 alone. -/
def twinOf (e : Nat) : Nat := e ^^^ 512
/-- Is the engine in channel B. -/
def inB (e : Nat) : Bool := decide (512 ≤ e)
/-- The pair number of an engine. -/
def pairOf (e : Nat) : Nat := e % 512
/-- The tile of an engine. -/
def tileOf (e : Nat) : Nat := e / 32
/-- The register block of a tile. -/
def tileBlk (t : Nat) : Nat := 0x20 + t
/-- The cluster of an engine. -/
def clusterOf (e : Nat) : Nat := e / 8
/-- SCHED_ECFGn.PAIRED of an engine, the value in force. -/
def State.pairedEng (s : State) (e : Nat) : Bool := s.effFld (tileBlk (tileOf e)) (0x100 + 4 * (e % 32)) 1 1 == 1
/-- Does any engine of a tile have PAIRED = 1 (R528). -/
def State.pairedTile (s : State) (t : Nat) : Bool := (List.range 32).any (fun n => s.pairedEng (32 * t + n))
/-- PWR_TILEt.CUR: 0 RUN, 1 IDLE, 2 NAP, 3 OFF. -/
def State.tileCur (s : State) (t : Nat) : Nat := s.fld 2 (0x100 + 4 * t) 9 8

/-! ## Device mode and fault reactions (R418 to R424) -/

/-- The code of a mode (Table 11-8). -/
def Mode.code : Mode → Nat
  | .start => 0 | .run => 1 | .safe => 2 | .test => 3 | .recovery => 4

/-- The mode of a code. -/
def Mode.ofCode : Nat → Option Mode
  | 0 => some .start | 1 => some .run | 2 => some .safe | 3 => some .test | 4 => some .recovery | _ => none

/-- SAFE_MODE.CUR: SAFE where the copies differ. -/
def State.mode (s : State) : Mode := if s.safe.modeA = s.safe.modeB then s.safe.modeA else .safe

/-- SAFE_OCHRE as driven: both stages conduct (R413). -/
def State.ochre (s : State) : Bool := s.safe.modeA == .run && s.safe.modeB == .run

/-- A mode change (R418, R419): both copies, START_OK cleared on entry to SAFE or RECOVERY, event 1668; on leaving RUN the last
falling edge of SAFE_VERMILION (R414). -/
def State.setMode (s : State) (m : Mode) : State :=
  let s1 := s.updSafe (fun f => { f with modeA := m, modeB := m, vermilion := f.vermilion && m == .run })
  (if m = .safe ∨ m = .recovery then s1.setFld 6 0x30 0 0 0 else s1).raise 1668

/-- The reaction of a safety class with its unit number (R420 to R422); taking the unit out of service is the caller's. -/
def State.react (s : State) (cls unit : Nat) : State :=
  let act := s.fld 6 0x18 (2 * cls + 1) (2 * cls)
  if act = 0 then s
  else
    let s1 := if s.fld 6 0x14 31 31 = 1 then s
      else s.setReg 6 0x14 (BitVec.ofNat 32 (0x80000000 + (if act = 2 then 0x40000000 else 0) + cls * 0x100000 + unit % 0x10000))
    if act = 2 ∧ (s1.mode = .start ∨ s1.mode = .run ∨ s1.safe.modeA ≠ s1.safe.modeB) then s1.setMode .safe else s1

/-! ## The physical address map (Table 01-6) -/

/-- Where a physical address lies. -/
inductive Region where
  | cluster (c : Nat)
  | priv (ofs : Nat)
  | regs (b o : Nat)
  | xspi
  | lin (chB : Bool) (idx : Nat)
  | dram (chB : Bool)
  | none
  deriving DecidableEq, Repr

/-- Bytes of a DCSIZE code. -/
def cacheBytes (d : Nat) : Nat := if d = 1 then 0x20000 else if d = 2 then 0x40000 else 0

/-- The part of a cluster's memory that is DRAM cache: the size in force, or the new one from the start of an apply (R39, R363). -/
def State.cacheOf (s : State) (c : Nat) : Nat :=
  let b := tileBlk (c / 4)
  let o := 0x400 + 4 * (c % 4)
  if s.fld b o 9 9 = 1 then max (cacheBytes (s.effFld b o 1 0)) (cacheBytes (Map.get 0 s.applying c)) else cacheBytes (s.effFld b o 1 0)

/-- Is an offset in the usable part of a trained DRAM (R40, R366). -/
def State.dramOk (s : State) (chB : Bool) (ofs : Nat) : Bool :=
  let b := if chB then 0x0B else 0x0A
  s.fld b 0x14 1 1 == 1 && s.fld b 0x14 2 2 == 0 && decide (ofs < s.fld b 0x10 11 8 * 0x30000000)

/-- The row of Table 01-6 an address lies in, the ranges of R39, R40, R41, R366 and R489 taken out. -/
def State.region (s : State) (pa : Nat) : Region :=
  if pa < 0x4000000 then (if pa % 0x80000 < 0x80000 - s.cacheOf (pa / 0x80000) then .cluster (pa / 0x80000) else .none)
  else if 0x8000000 ≤ pa ∧ pa < 0x8002000 then .priv (pa - 0x8000000)
  else if 0x10000000 ≤ pa ∧ pa < 0x11000000 then .regs ((pa - 0x10000000) / 0x10000) (pa % 0x10000)
  else if 0x20000000 ≤ pa ∧ pa < 0x30000000 then
    (if s.fld 0x1C 0x10 31 24 ≠ 0 ∧ pa - 0x20000000 < 2 ^ s.fld 0x1C 0x10 31 24 then .xspi else .none)
  else if 0x40000000 ≤ pa ∧ pa < 0x40080000 then .lin (decide (0x40040000 ≤ pa)) ((pa - 0x40000000) / 4 % 65536)
  else if 0x10000000000 ≤ pa ∧ pa < 0x10200000000 then (if s.dramOk false (pa - 0x10000000000) then .dram false else .none)
  else if 0x10200000000 ≤ pa ∧ pa < 0x10400000000 then (if s.dramOk true (pa - 0x10200000000) then .dram true else .none)
  else .none

/-- The twin location of a channel A address (R45), or none for any other address. -/
def twinLoc (pa : Nat) : Option Nat :=
  if pa < 0x2000000 then some (pa + 0x2000000)
  else if 0x10000000000 ≤ pa ∧ pa < 0x10200000000 then some (pa + 0x200000000) else none

/-- The channel A address of a location in channel B memory (R45, R395); any other address is itself. -/
def channelA (pa : Nat) : Nat :=
  if 0x2000000 ≤ pa ∧ pa < 0x4000000 then pa - 0x2000000
  else if 0x10200000000 ≤ pa ∧ pa < 0x10400000000 then pa - 0x200000000 else pa

/-- The key of a byte of an engine's private memory (R41). -/
def privKey (e ofs : Nat) : Nat := 2 ^ 46 + e * 0x2000 + ofs

/-- The base of Cretal's RAM (Table 14-2). -/
def cretalRam : Nat := 0x100010000000

/-! ## Memory in canonical form -/

/-- What an unlisted byte reads as: 0, but erased flash 0xFF (Table 01-6). -/
def byteDefault (k : Nat) : Byte := if 0x20000000 ≤ k ∧ k < 0x30000000 then 0xFF else 0
/-- What an unlisted cell's tag reads as: POISON (R360, R548); the xSPI window reads RAW. -/
def tagDefault (k : Nat) : Byte := if 0x20000000 ≤ k ∧ k < 0x30000000 then 0 else 4

/-- The value listed at `k`, or the default. -/
def assocGet {α : Type} (d : α) : List (Nat × α) → Nat → α
  | [], _ => d
  | (j, v) :: m, k => if j = k then v else assocGet d m k

/-- Lists `v` at `k` in rising order, unlisting `k` where `v` is the default. -/
def assocPut {α : Type} [DecidableEq α] (d v : α) : List (Nat × α) → Nat → List (Nat × α)
  | [], k => if v = d then [] else [(k, v)]
  | (j, u) :: m, k =>
    if j = k then (if v = d then m else (k, v) :: m)
    else if k < j then (if v = d then (j, u) :: m else (k, v) :: (j, u) :: m)
    else (j, u) :: assocPut d v m k

/-- One byte. -/
def Memory.byte (m : Memory) (k : Nat) : Byte := assocGet (byteDefault k) m.bytes k
/-- Writes one byte. -/
def Memory.setByte (m : Memory) (k : Nat) (v : Byte) : Memory := { m with bytes := assocPut (byteDefault k) v m.bytes k }
/-- The tag symbol of the cell at a cell address. -/
def Memory.tag (m : Memory) (k : Nat) : Byte := assocGet (tagDefault k) m.tags k
/-- Writes a tag symbol. -/
def Memory.setTag (m : Memory) (k : Nat) (v : Byte) : Memory := { m with tags := assocPut (tagDefault k) v m.tags k }
/-- The error of a stored codeword. -/
def Memory.err (m : Memory) (k : Nat) : BitVec 176 := assocGet 0 m.errs k
/-- Sets the error of a stored codeword. -/
def Memory.setErr (m : Memory) (k : Nat) (v : BitVec 176) : Memory := { m with errs := assocPut 0 v m.errs k }
/-- The bytes from `k` on. -/
def Memory.read (m : Memory) (k : Nat) : Nat → List Byte
  | 0 => []
  | n + 1 => m.byte k :: m.read (k + 1) n
/-- Writes bytes from `k` on. -/
def Memory.write (m : Memory) (k : Nat) : List Byte → Memory
  | [] => m
  | b :: bs => (m.setByte k b).write (k + 1) bs
/-- A cell as it was encoded: its 16 bytes and its tag symbol. -/
def Memory.cell (m : Memory) (k : Nat) : MCell :=
  { bits := BitVec.ofNat 128 (ofBytes (m.read (alignDown k 16) 16)), tag := m.tag (alignDown k 16) }
/-- Writes a whole cell with a fresh codeword (R369). -/
def Memory.setCell (m : Memory) (k : Nat) (c : MCell) : Memory :=
  ((m.write (alignDown k 16) (toBytes 16 c.bits.toNat)).setTag (alignDown k 16) c.tag).setErr (alignDown k 16) 0
/-- The canonical form: addresses strictly rising and nothing listed at its default. -/
def Memory.wf (m : Memory) : Bool :=
  decide (m.bytes.Pairwise (fun a b => a.1 < b.1)) && m.bytes.all (fun p => p.2 != byteDefault p.1) &&
  decide (m.tags.Pairwise (fun a b => a.1 < b.1)) && m.tags.all (fun p => p.2 != tagDefault p.1) &&
  decide (m.errs.Pairwise (fun a b => a.1 < b.1)) && m.errs.all (fun p => p.2 != 0)

/-! ## The symbol code and the error logs (R367 to R375) -/

/-- One bit of afold: address bit 20 + k folded into the 16-bit f (R368). -/
def afoldBit (pa k f : Nat) : Nat :=
  if pa.testBit (20 + k) then f ^^^ (2 ^ (k % 8)) ^^^ (2 ^ (8 + (k % 8 + k / 8) % 8)) else f

/-- The address symbols A0 and A1 of a cell (R368). -/
def afold (pa : Nat) : Byte × Byte :=
  let f := (List.range 24).foldl (fun f k => afoldBit pa k f) (pa / 16 % 65536)
  (BitVec.ofNat 8 (f % 256), BitVec.ofNat 8 (f / 256))

/-- Multiplication in GF(2^8) by the polynomial of R367, over `n` bits of `b`. -/
def gfMul (a b : Nat) : Nat → Nat
  | 0 => 0
  | n + 1 =>
    let r := 2 * gfMul a b n
    let r := if 256 ≤ r then r ^^^ 0x11D else r
    if b.testBit (7 - n) then r ^^^ a else r

/-- The product of two symbols. -/
def gf (a b : Nat) : Nat := gfMul a b 8

/-- Is the cell of a key in channel B memory (R369): the cluster memory, engine-private memory, lineage table or DRAM of channel B. -/
def keyInB (k : Nat) : Bool :=
  decide (0x2000000 ≤ k ∧ k < 0x4000000) || decide (0x40040000 ≤ k ∧ k < 0x40080000) || decide (0x10200000000 ≤ k ∧ k < 0x10400000000) ||
  decide (2 ^ 46 + 512 * 0x2000 ≤ k)

/-- The coefficients of x^0, x^1 and x^2 of the generator of a channel's memory (R369). -/
def genOf (chB : Bool) : Nat × Nat × Nat :=
  let r := fun (i : Nat) => 2 ^ (i + if chB then 3 else 0)
  (gf (gf (r 0) (r 1)) (r 2), gf (r 0) (r 1) ^^^ gf (r 0) (r 2) ^^^ gf (r 1) (r 2), r 0 ^^^ r 1 ^^^ r 2)

/-- One step of the division by a generator: the next symbol of the message. -/
def rsStep (g : Nat × Nat × Nat) (r : Nat × Nat × Nat) (v : Nat) : Nat × Nat × Nat :=
  let q := v ^^^ r.2.2
  (gf q g.1, r.1 ^^^ gf q g.2.1, r.2.1 ^^^ gf q g.2.2)

/-- The remainder of message symbols, the highest first, under a generator (R369). -/
def rsCheck (g : Nat × Nat × Nat) (syms : List Nat) : Nat × Nat × Nat := syms.foldl (rsStep g) (0, 0, 0)

/-- The message of a cell's codeword, positions 21, 20, 16 down to 0 (Table 10-2). -/
def MCell.message (c : MCell) (pa : Nat) : List Nat :=
  [(afold pa).2.toNat, (afold pa).1.toNat, c.tag.toNat] ++ ((toBytes 16 c.bits.toNat).reverse.map BitVec.toNat)

/-- The 20 stored symbols of a cell (R369, Table 10-2): data and tag, inverted in channel B memory, then the check symbols C0 to C2. The
order of the message in the encoding is PRESUMED (notes/assumptions/11.md). -/
def MCell.stored (c : MCell) (chB : Bool) (pa : Nat) : List Byte :=
  let k := rsCheck (genOf chB) (c.message pa)
  (toBytes 16 c.bits.toNat ++ [c.tag]).map (fun b => if chB then ~~~ b else b) ++ [k.1, k.2.1, k.2.2].map (BitVec.ofNat 8)

/-- The error that a read meets at the address symbols where the array returns the cell of `pb` for that of `pa` (R370, R371). -/
def addrErr (pa pb : Nat) : BitVec 176 :=
  BitVec.ofNat 176 (((afold pa).1 ^^^ (afold pb).1).toNat * 2 ^ 160 + ((afold pa).2 ^^^ (afold pb).2).toNat * 2 ^ 168)

/-- The number of wrong symbols of a codeword and the highest of them. -/
def errWeight (v : BitVec 176) : Nat × Nat :=
  (List.range 22).foldl (fun r i => if bits v (8 * i + 7) (8 * i) ≠ 0 then (r.1 + 1, i) else r) (0, 0)

/-- The outcomes of Table 10-3 for a stored codeword. -/
inductive Outcome3 where
  | clean (c : MCell)
  | ce (c : MCell) (pos : Nat)
  | ue (ty pos : Nat)
  deriving DecidableEq, Repr

/-- Decodes a codeword of the cell `c` with an error (R370, R371): an error of one stored symbol is corrected, one of an address symbol is
ADDR, one of two symbols is UE, a wider one is the free value `n`. -/
def decodeErr (c : MCell) (v : BitVec 176) (n : Nat) : Outcome3 :=
  let w := errWeight v
  if w.1 = 0 then .clean c
  else if w.1 = 1 then (if w.2 < 20 then .ce c w.2 else .ue 2 w.2)
  else if w.1 = 2 then .ue 1 0
  else
    let d : MCell := { bits := Config.decodeBits n, tag := Config.decodeTag n }
    match Config.decodeWide n % 4 with
    | 0 => .clean d
    | 1 => .ce d (Config.decodePos n % 20)
    | 2 => .ue 1 0
    | _ => .ue 2 (20 + Config.decodePos n % 2)

/-- Decodes the codeword at a cell address. -/
def State.decode (s : State) (k : Nat) : Outcome3 × State :=
  let v := s.mem.err (alignDown k 16)
  (decodeErr (s.mem.cell k) v s.freeCtr, if (errWeight v).1 ≤ 2 then s else { s with freeCtr := s.freeCtr + 1 })

/-- The log of a key: the block and its first event (R375, Table 10-5). -/
def logBlk (k : Nat) : Nat × Nat :=
  if 0x10000000000 ≤ k ∧ k < 0x10200000000 then (0x0A, 1603)
  else if 0x10200000000 ≤ k ∧ k < 0x10400000000 then (0x0B, 1606) else (0x09, 1600)

/-- Logs an error (R375): `pa` the address requested, `ty` 0 CE, 1 UE, 2 ADDR, with its position, source and master. An
uncorrectable one that is captured raises the event of class 11. -/
def State.logError (s : State) (key pa ty pos src master : Nat) : State :=
  let b := (logBlk key).1
  let ev := (logBlk key).2
  let o := if ty = 0 then 0x4C else 0x50
  let was := s.fld b o 15 0
  let s1 := s.count16 b o 0
  let valid := s1.fld b 0x48 31 31
  let take := valid = 0 ∨ (ty ≠ 0 ∧ s1.fld b 0x48 30 30 = 0)
  let s2 := if take then
      let t := ((s1.setReg b 0x40 (BitVec.ofNat 32 pa)).setReg b 0x44 (BitVec.ofNat 32 (pa >>> 32))).setReg b 0x48
        (BitVec.ofNat 32 (0x80000000 + (if ty = 0 then 0 else 0x40000000) + ty * 0x10000000 + src * 0x1000000 +
          (if ty = 1 then 0 else pos) * 0x10000 + master % 0x10000))
      if ty = 0 then t.raise ev else (t.raise (ev + 1)).react 11 0
    else s1
  if ty = 0 ∧ s.fld b 0x54 15 0 ≠ 0 ∧ was < s.fld b 0x54 15 0 ∧ s.fld b 0x54 15 0 ≤ s1.fld b o 15 0 then s2.raise (ev + 2) else s2

/-- Reads a cell through the symbol code for a source and master (R370 to R375): the cell, or none where the outcome is ADDR or
UE. A corrected cell waits for its write-back (R372). `pa` is the address requested, aligned here to its cell. -/
def State.readCell (s : State) (key pa src master : Nat) : Option MCell × State :=
  if 0x20000000 ≤ key ∧ key < 0x30000000 then (some (s.mem.cell key), s)
  else
    match s.decode key with
    | (.clean c, t) => (some c, t)
    | (.ce c pos, t) => (some c, { t.logError key (alignDown pa 16) 0 pos src master with ceq := t.ceq ++ [(alignDown key 16, c)] })
    | (.ue ty pos, t) => (none, t.logError key (alignDown pa 16) ty pos src master)

/-- Writes a whole cell: no read is made, a write-back waiting for it is dropped and reservations of other engines on it are broken
(R372, Table 03-12, Table 10-4). `by_` is the writing engine, or none. -/
def State.writeCell (s : State) (key : Nat) (c : MCell) : State :=
  { s with mem := s.mem.setCell key c, ceq := s.ceq.filter (fun p => p.1 != alignDown key 16)
           eng := Map.mapVal (fun x => if x.resv = some (alignDown key 16) then { x with resv := none } else x) s.eng }

/-- A cell with `n` bytes from offset `o` replaced by those of `v`. -/
def mergeBytes (c : Quad) (o n v : Nat) : Quad := setBits c (8 * (o + n) - 1) (8 * o) v

/-- Merges a part store at the memory (R58, Table 10-4): the cell becomes RAW with the new bytes, or POISON zero where its read is
uncorrectable; false says the latter. -/
def State.mergeCell (s : State) (key pa n v src master : Nat) : Bool × State :=
  match s.readCell key pa src master with
  | (some c, t) => (true, t.writeCell key { bits := mergeBytes c.bits (key % 16) n v, tag := 0 })
  | (none, t) => (false, t.writeCell key { bits := 0, tag := 4 })

/-- A cell of kind POISON with zero bits. -/
def MCell.poison : MCell := { bits := 0, tag := 4 }

/-- Fills `n` cells from a cell address with a cell. -/
def State.fillCells (s : State) (key : Nat) (c : MCell) : Nat → State
  | 0 => s
  | n + 1 => (s.writeCell key c).fillCells (key + 16) c n

/-! ## Master-side protection units (09_master_mpu) -/

/-- The masters an MPU belongs to, with where its registers lie: block, region base, control base. -/
def mpuAt : MpuUnit → Nat × Nat × Nat
  | .engine e => (tileBlk (tileOf e.toNat), 0x1000 + 0x100 * (e.toNat % 32), 0x3400 + 0x20 * (e.toNat % 32))
  | .mover t => (tileBlk t.toNat, 0x3000, 0x3800)
  | .port p => (0x10 + p.toNat, 0x1000, 0x1100)
  | .cretal => (0x100, 0x1000, 0x1100)

/-- The MPU whose registers lie at an offset of a block: its region `k` with the word of the region, or its
control word. Cretal's private space is the pseudo block 0x100 (Table 14-2). -/
def mpuOf (b o : Nat) : Option (MpuUnit × Option Nat × Nat) :=
  let t := b - 0x20
  if 0x20 ≤ b ∧ b ≤ 0x3F then
    if 0x1000 ≤ o ∧ o < 0x3000 then some (.engine (BitVec.ofNat 10 (32 * t + (o - 0x1000) / 0x100)), some (o % 0x100 / 16), o % 16)
    else if 0x3000 ≤ o ∧ o < 0x3100 then some (.mover (BitVec.ofNat 5 t), some (o % 0x100 / 16), o % 16)
    else if 0x3400 ≤ o ∧ o < 0x3800 then some (.engine (BitVec.ofNat 10 (32 * t + (o - 0x3400) / 0x20)), none, o % 0x20)
    else if 0x3800 ≤ o ∧ o < 0x3820 then some (.mover (BitVec.ofNat 5 t), none, o % 0x20)
    else none
  else if 0x10 ≤ b ∧ b ≤ 0x17 then
    if 0x1000 ≤ o ∧ o < 0x1100 then some (.port (BitVec.ofNat 3 (b - 0x10)), some (o % 0x100 / 16), o % 16)
    else if 0x1100 ≤ o ∧ o < 0x1120 then some (.port (BitVec.ofNat 3 (b - 0x10)), none, o % 0x20)
    else none
  else if b = 0x100 then
    if 0x1000 ≤ o ∧ o < 0x1100 then some (.cretal, some (o % 0x100 / 16), o % 16)
    else if 0x1100 ≤ o ∧ o < 0x1120 then some (.cretal, none, o % 0x20)
    else none
  else none

/-- R347: STRICT mode. -/
def State.mpuStrict (s : State) (u : MpuUnit) : Bool :=
  decide (s.mode = .start ∨ s.mode = .test ∨ s.mode = .recovery) || s.fld (mpuAt u).1 (mpuAt u).2.2 0 0 == 1

/-- R340: does region `k` of an MPU match the line of an address. -/
def State.mpuMatch (s : State) (b base k pa : Nat) : Bool :=
  let o := base + 16 * k
  let lo := s.effFld b (o + 8) 5 0 * 2 ^ 32 + (s.effReg b o).toNat
  let hi := s.effFld b (o + 8) 21 16 * 2 ^ 32 + (s.effReg b (o + 4)).toNat
  s.fld b (o + 12) 31 31 == 1 && decide (lo ≤ pa >>> 6 ∧ pa >>> 6 ≤ hi)

/-- R341: the highest-numbered matching region below `n`. -/
def State.mpuWin (s : State) (b base pa : Nat) : Nat → Option Nat
  | 0 => none
  | n + 1 => if s.mpuMatch b base n pa then some n else s.mpuWin b base pa n

/-- The index of an access in MPU_RATTR and ACC (R342, MPU_FINFO). -/
def Access.idx : Access → Nat
  | .read => 0 | .write => 1 | .exec => 2

/-- The MT code of a memory type. -/
def MemType.code : MemType → Nat
  | .normal => 1 | .device => 2 | .mirror => 3

/-- R344: the memory type of an untranslated access. -/
def plainMt (pa : Nat) : MemType := if 0x10000000 ≤ pa ∧ pa < 0x11000000 then .device else .normal

/-- R342, R346: does an address lie in cluster memory, the usable part of a DRAM row (R40) or the xSPI window, whatever the rows of
Table 01-6 then make of an access. -/
def State.execRow (s : State) (pa : Nat) : Bool :=
  decide (pa < 0x4000000 ∨ (0x20000000 ≤ pa ∧ pa < 0x30000000)) ||
  decide (0x10000000000 ≤ pa ∧ pa < 0x10000000000 + s.fld 0x0A 0x10 11 8 * 0x30000000) ||
  decide (0x10200000000 ≤ pa ∧ pa < 0x10200000000 + s.fld 0x0B 0x10 11 8 * 0x30000000)

/-- mpu_check of R342: 0, or the REASON of the first test that fails, with the winning region. -/
def State.mpuDecide (s : State) (u : MpuUnit) (pa : Nat) (acc : Access) (atK paired : Bool) (mt : MemType) : Nat × Nat :=
  let b := (mpuAt u).1
  let base := (mpuAt u).2.1
  match s.mpuWin b base pa 16 with
  | none =>
    if s.mpuStrict u || !atK then (1, 0x1F)
    else if acc == .exec && !s.execRow pa then (2, 0x1F)
    else (0, 0x1F)
  | some w =>
    let a := s.reg b (base + 16 * w + 12)
    let isEng := match u with | .engine _ => true | _ => false
    if bit a 29 && isEng && !paired then (3, w)
    else if !bit a ((if atK then 4 else 0) + acc.idx) then (2, w)
    else if bits a 9 8 ≠ 0 ∧ bits a 9 8 ≠ mt.code then (4, w)
    else (0, w)

/-- The scope held (R552, Table 16-1). -/
def State.scope (s : State) : Nat := if s.fld 0x1E 0x10 31 31 = 1 then s.fld 0x1E 0x10 4 0 else 0
/-- Is every scope bit of a mask held. -/
def State.inScope (s : State) (mask : Nat) : Bool := Nat.land s.scope mask == mask

/-- R557: does the line of an address lie in an enabled LOCKED or PAIRED region of the MPU of any engine, stream mover or port DMA. A
region is enabled by its stored MPU_RATTR. -/
def State.guarded (s : State) (pa : Nat) : Bool :=
  s.regs.any (fun p =>
    match mpuOf (p.1 / 0x10000) (p.1 % 0x10000) with
    | some (u, some k, 12) => u != .cretal && (bit p.2 30 || bit p.2 29) && s.mpuMatch (mpuAt u).1 (mpuAt u).2.1 k pa
    | _ => false)

/-- R553: the registers that need no scope: DBG_AUTH and MBX channels 24 to 27. -/
def scopeFree (b o : Nat) : Bool := (b == 0x1E && o == 0x10) || (b == 5 && decide (0x7000 ≤ o ∧ o < 0x8000))

/-- The registers of the DBG block whose writes need the TRACE scope: those of the trace port (Table 16-1). -/
def traceOfs (o : Nat) : Bool := decide (0x30 ≤ o ∧ o < 0x44)

/-- Has the debug port the scope of an access to a register (R553, Tables 16-1 and 16-4): READ or WRITE; for a write that halts, steps,
resumes, sets a comparator or configures a counter HALT, for one of the trace port TRACE; either of WRITE and HALT for DBG_SEL. DEDUCED from
Tables 16-1 and 16-9, whose debugger writes comparators under READ and HALT (notes/assumptions/21.md). -/
def State.inDebugScope (s : State) (b o : Nat) (wr : Bool) : Bool :=
  scopeFree b o ||
  (if !wr then s.inScope 1
   else if b = 0x1E ∧ 0x14 ≤ o then (if o = 0x14 then s.inScope 2 || s.inScope 4 else s.inScope (if traceOfs o then 8 else 4))
   else s.inScope 2)

/-- The capture event of an MPU (Table 09-4). -/
def mpuEvent : MpuUnit → Option Nat
  | .engine e => some (1024 + 8 * tileOf e.toNat + 4)
  | .mover t => some (1024 + 8 * t.toNat + 5)
  | .port p => some (1280 + 32 * p.toNat + 30)
  | .cretal => none

/-- R355: captures the first violation, counts a later one. -/
def State.mpuCapture (s : State) (u : MpuUnit) (pa reason region : Nat) (acc : Access) (lvl src : Nat) : State :=
  let b := (mpuAt u).1
  let c := (mpuAt u).2.2
  if s.fld b (c + 0xC) 31 31 = 1 then s.count16 b (c + 0x10) 0
  else
    let t := ((s.setReg b (c + 4) (BitVec.ofNat 32 pa)).setReg b (c + 8) (BitVec.ofNat 32 (pa >>> 32))).setReg b (c + 0xC)
      (BitVec.ofNat 32 (0x80000000 + reason * 0x8000000 + region * 0x400000 + (acc.idx + 1) * 0x100000 + lvl * 0x40000 +
        (s.mpuStrict u).toNat * 0x20000 + src % 0x10000))
    match mpuEvent u with
    | some id => t.raise id
    | none => t

/-- Checks an access and captures a refusal; 0 lets it pass. -/
def State.mpuCheck (s : State) (u : MpuUnit) (pa : Nat) (acc : Access) (atK paired : Bool) (mt : MemType) (lvl src : Nat) : Nat × State :=
  match s.mpuDecide u pa acc atK paired mt with
  | (0, _) => (0, s)
  | (r, w) => (r, s.mpuCapture u pa r w acc lvl src)

/-! ## Stopping engines (R227, R288, R405) -/

/-- The task of a slot becomes STOPPED (Table 06-2). -/
def Slot.stop (t : Slot) : Slot := if t.st = .free then t else { t with st := .stopped }

/-- The stop of an engine (R288, R405): nothing further commits, EPCC, ECAUSE with CODE 0x3F and EVAL are written, ENG_STOP is
set, and every task bound to it becomes STOPPED. An engine already stopped stays as it is. -/
def State.stopEngine (s : State) (e orig : Nat) (val : Dword) : State :=
  let x := s.engine e
  if x.stopped then s
  else
    let c := Map.get Chuck.empty x.chucks x.cur
    let x1 := { x with stopped := true, running := false, csys := Map.put c.pcc x.csys 0x100
                       sys := Map.put val (Map.put (BitVec.ofNat 64 (orig * 2 ^ 24 + 0x3F)) x.sys 0x102) 0x103
                       slots := Map.mapVal Slot.stop x.slots, walk := none, load := none, lfill := none, long := none
                       sw := none, resv := none, lchk := [] }
    (s.setEngine e x1).setFld (tileBlk (tileOf e)) 0x304 (e % 32) (e % 32) 1

/-- The first cluster of a range from `c` on, `n` of them, that sets memory aside as DRAM cache. -/
def State.cacheIn (s : State) (c : Nat) : Nat → Bool
  | 0 => false
  | n + 1 => decide (s.cacheOf c ≠ 0) || s.cacheIn (c + 1) n

/-- Does the range of `n` bytes from `lo` lie wholly in one of: channel A cluster memory (1), channel B cluster memory (2), usable
DRAM A (3), usable DRAM B (4); 0 otherwise (R39, R40, R366, R380). -/
def State.oneRegion (s : State) (lo n : Nat) : Nat :=
  let hi := if n = 0 then lo else lo + n - 1
  match s.region lo, s.region hi with
  | .cluster a, .cluster b =>
    if a / 64 = b / 64 ∧ (a = b ∨ ¬s.cacheIn a (b - a)) then (if a < 64 then 1 else 2) else 0
  | .dram x, .dram y => if x = y then (if x then 4 else 3) else 0
  | _, _ => 0

end Sys2Proof.Machine
end

