-- ==== Sys2Proof/Machine/Safety.lean ====
section
/-!
DEFINITION. Machine/Safety.lean: pair divergence, signature comparison, the monitors, the safe outputs and the device modes
(11_pairing_safety).
-/

namespace Sys2Proof.Machine

open Sys2Proof

/-! ## Pair divergence (R404 to R407, R584) -/

/-- Drops every act held for a pair (step 1 of R405). -/
def State.dropActs (s : State) (p : Nat) : State :=
  let s1 := s.updPair p (fun q => { q with held := none, bHeld := false, bDec := none })
  (s1.updEngine p (fun x => { x with act := none })).updEngine (twinOf p) (fun x => { x with act := none })

/-- R407: captures the first divergence, marks a later one. -/
def State.captureDiv (s : State) (p reason cnt : Nat) (sigA sigB : Word) : State :=
  if s.fld 7 0x14 0 0 = 1 then s.setFld 7 0x14 1 1 1
  else
    let good := (s.pair p).lastGood
    let s1 := (s.setFld 7 0x14 0 0 1).setReg 7 0x18 (BitVec.ofNat 32 (reason * 2 ^ 28 + (s.engine p).slot * 1024 + p))
    let s2 := (s1.setReg 7 0x1C (BitVec.ofNat 32 cnt)).setReg 7 0x20 (BitVec.ofNat 32 (cnt >>> 32))
    let s3 := (s2.setReg 7 0x24 (BitVec.ofNat 32 good)).setReg 7 0x28 (BitVec.ofNat 32 (good >>> 32))
    (s3.setReg 7 0x2C sigA).setReg 7 0x30 sigB

/-- What the caliper still has to compare for a pair. -/
def Pair.clear (q : Pair) : Pair := { q with points := [], bSigs := [], reads := [], decisions := [], bDec := none }

/-- A Pair Divergence (R405): acts discarded, both engines stopped with ORIG 0x17, CAL_PSTATn and the capture written, event 1664
and the reaction of class 0. -/
def State.diverge (s : State) (p reason cnt : Nat) (sigA sigB : Word) : State :=
  let s1 := s.captureDiv p reason cnt sigA sigB
  let s2 := ((s1.dropActs p).stopEngine p 0x17 0).stopEngine (twinOf p) 0x17 0
  let s3 := (s2.setFld 7 (0x1000 + 4 * p) 31 31 1).setFld 7 (0x1000 + 4 * p) 30 27 reason
  ((s3.updPair p Pair.clear).raise 1664).react 0 p

/-- Has a pair diverged (CAL_PSTATn.STOP). -/
def State.pairStopped (s : State) (p : Nat) : Bool := s.fld 7 (0x1000 + 4 * p) 31 31 == 1

/-- The channel A signature at a count: that of a point of the count, or the engine's own. -/
def State.sigAtA (s : State) (p cnt : Nat) : Word := ((s.pair p).points.find? (fun t => t.count == cnt)).elim (s.engine p).sig SigPoint.sig

/-- A divergence at a count, where the pair has not diverged; CAL_DSIGB reads 0 for TIMEOUT and LEAD (R407). -/
def State.divergeAt (s : State) (p reason cnt : Nat) : State :=
  if s.pairStopped p then s
  else s.diverge p reason cnt (s.sigAtA p cnt) (if reason = 4 ∨ reason = 5 then 0 else (s.engine (twinOf p)).sig)

/-- A divergence at the channel A engine's current count. -/
def State.divergeNow (s : State) (p reason : Nat) : State := s.divergeAt p reason (s.engine p).commits

/-- The stop of an engine with its event and class, and the divergence STOP where it is paired (R288, R397, R412). -/
def State.stopWith (s : State) (e orig : Nat) (val : Dword) (event cls : Nat) : State :=
  let s1 := ((s.stopEngine e orig val).raise event).react cls e
  if s1.pairedEng e then s1.divergeNow (pairOf e) 7 else s1

/-- The isolation of class 2 (R584): the caliper compares nothing further of an isolated pair. -/
def State.isolatePairs (s : State) : State :=
  (List.range 512).foldl (fun t p =>
    if t.pairedEng p || t.pairedEng (twinOf p) then
      (((t.dropActs p).stopEngine p 0x17 0).stopEngine (twinOf p) 0x17 0).updPair p Pair.clear
    else t) s

/-! ## Signature points (R397 to R399) -/

/-- Are both engines of a pair halted: the caliper's timers stand still (R399). -/
def State.pairHalted (s : State) (p : Nat) : Bool := (s.engine p).dbg.halted && (s.engine (twinOf p)).dbg.halted

/-- Adds a signature point of the channel A engine at its current count, and the channel B signature where that engine has
already committed the count of a point that it delivers at commit (R398). Points at one count are one point (R397): a decision there is
then compared before the signatures. -/
def State.addPoint (s : State) (p : Nat) (kind : PointKind) : State :=
  let a := s.engine p
  let b := s.engine (twinOf p)
  s.updPair p (fun q =>
    if q.points.any (fun t => t.count == a.commits) then
      (if kind = .decision ∧ ¬q.bSigs.any (fun t => t.count == a.commits) then
         { q with points := q.points.map (fun t => if t.count = a.commits then { t with kind := .decision } else t) }
       else q)
    else { q with points := q.points ++ [{ count := a.commits, sig := a.sig, kind := kind }], since := a.commits
                  bSigs := if kind = .commit ∧ b.commits = a.commits then q.bSigs ++ [{ count := b.commits, sig := b.sig, kind := .commit }]
                           else q.bSigs })

/-- The channel B engine delivers its signature at the point of its current count that has the kind (R398). -/
def State.deliverSig (s : State) (p : Nat) (kind : PointKind) : State :=
  let b := s.engine (twinOf p)
  s.updPair p (fun q =>
    if q.points.any (fun t => t.count == b.commits && t.kind == kind) then
      { q with bSigs := q.bSigs ++ [{ count := b.commits, sig := b.sig, kind := kind }] }
    else q)

/-- The point of a Rest entry (R397): channel A's own; for an entry of channel B at the count channel A stands at, its signature waits
for channel A's entry, and where channel A is past the count the point is channel A's current one. -/
def State.restPoint (s : State) (e : Nat) : State :=
  let p := pairOf e
  if !s.pairedEng e then s
  else if !inB e then s.addPoint p .rest
  else
    let b := s.engine e
    if (s.pair p).points.any (fun t => t.count == b.commits && t.kind == .rest) then s.deliverSig p .rest
    else if b.commits < (s.engine p).commits then s.addPoint p .commit
    else s.updPair p (fun q => { q with bSigs := q.bSigs ++ [{ count := b.commits, sig := b.sig, kind := .rest }] })

/-- FORCED_SIGNATURE_POINT (R397): TMAX has passed since the last point and channel A has committed since. -/
def execForcedSignaturePoint (p : BitVec 9) (s : State) : Host.Outcome State Fault Refusal :=
  let a := s.engine p.toNat
  .next (if s.pairedEng p.toNat && !s.pairStopped p.toNat && !s.pairHalted p.toNat && !a.stopped && decide ((s.pair p.toNat).since < a.commits)
    then s.addPoint p.toNat .commit else s)

/-- The comparison of a point both of whose signatures are there (R398). -/
def State.compareSigs (s : State) (p : Nat) (a b : SigPoint) : State :=
  let rest := fun (q : Pair) => { q with points := q.points.filter (fun t => t.count != a.count), bSigs := q.bSigs.filter (fun t => t.count != a.count) }
  if a.sig = b.sig then
    let n := s.freeCtr
    let lag := max (s.fld 7 (0x1000 + 4 * p) 15 0) (bits (Config.unstated n) 15 0)
    ({ s with freeCtr := n + 1 }.updPair p (fun q => { rest q with lastGood := a.count })).setFld 7 (0x1000 + 4 * p) 15 0 lag
  else s.diverge p 1 a.count a.sig b.sig

/-- SIGNATURE_COMPARE (R398): compares the oldest point whose channel B signature has arrived. -/
def execSignatureCompare (p : BitVec 9) (s : State) : Host.Outcome State Fault Refusal :=
  let q := s.pair p.toNat
  if s.pairStopped p.toNat then .next s
  else
    match q.points.find? (fun a => q.bSigs.any (fun b => b.count == a.count)) with
    | none => .next s
    | some a =>
      match q.bSigs.find? (fun b => b.count == a.count) with
      | none => .next s
      | some b => .next (s.compareSigs p.toNat a b)

/-- SIGNATURE_TIMEOUT (R398): a point still waits for its channel B signature. -/
def execSignatureTimeout (p : BitVec 9) (s : State) : Host.Outcome State Fault Refusal :=
  let q := s.pair p.toNat
  if s.pairStopped p.toNat || s.pairHalted p.toNat then .next s
  else
    match q.points.find? (fun a => !q.bSigs.any (fun b => b.count == a.count)) with
    | none => .next s
    | some a => .next (s.diverge p.toNat 4 a.count a.sig 0)

/-- LEAD_TIMEOUT (R392): the channel B engine has been held for 2 µs. -/
def execLeadTimeout (p : BitVec 9) (s : State) : Host.Outcome State Fault Refusal :=
  .next (if (s.pair p.toNat).bHeld && !s.pairHalted p.toNat then s.divergeNow p.toNat 5 else s)

/-- GATED_ACT_TIMEOUT (R401): the act held for the pair has met no channel B act. -/
def execGatedActTimeout (p : BitVec 9) (s : State) : Host.Outcome State Fault Refusal :=
  match (s.pair p.toNat).held with
  | none => .next s
  | some a => .next (if s.pairStopped p.toNat || s.pairHalted p.toNat then s else s.diverge p.toNat 4 a.count a.sig 0)

/-! ## Monitors (R410 to R412, R425) -/

/-- Is an engine under the hang monitor (R412): a RUNNING task, or level K or Rest, and not held, stopped or halted. -/
def State.monitored (s : State) (e : Nat) : Bool :=
  let x := s.engine e
  !x.held && !x.stopped && !x.dbg.halted && (x.running || x.level != .t) && decide (s.tileCur (tileOf e) ≤ 1)

/-- ENGINE_HANG (R412): stops the engine with ORIG 0x00 and raises event 1671 in place of 1672. -/
def execEngineHang (e : Eid) (s : State) : Host.Outcome State Fault Refusal :=
  .next (if s.monitored e.toNat then s.stopWith e.toNat 0 0 1671 1 else s)

/-- The number of a tile's clock among the clocks that the monitors compare: 0 to 7 are the 25 MHz reference, PLLA, PLLB, CRETAL, XBAR,
MEMA, MEMB and the other safety oscillator. -/
def tileClk (t : Nat) : Nat := 32 + t

/-- Does a monitor compare a clock (R410, R533): a tile's only while the tile is in RUN and its clock does not ramp. -/
def State.compares (s : State) (c : Nat) : Bool :=
  decide (c < 8) || (decide (32 ≤ c ∧ c < 64) && s.tileCur (c - 32) == 0 && s.fld 1 (0x100 + 4 * (c - 32)) 31 31 == 0)

/-- Restarts both monitors' windows of a clock (R410, R533). -/
def State.restartWindow (s : State) (c : Nat) : State :=
  s.updSafe (fun f => { f with badA := f.badA.filter (· != c), badB := f.badB.filter (· != c) })

/-- CLOCK_MONITOR_WINDOW (R410): `bad` are the clocks found absent or off in the window that ends; those the monitor compares count. -/
def execClockMonitorWindow (monB : Bool) (bad : List Nat) (s : State) : Host.Outcome State Fault Refusal :=
  let bad := bad.filter s.compares
  let prev := if monB then s.safe.badB else s.safe.badA
  let s1 := s.updSafe (fun f => if monB then { f with badB := bad } else { f with badA := bad })
  .next (if bad.any (fun c => prev.contains c) then ((s1.setFld 6 0x2C 0 0 1).raise 1666).react 3 0 else s1)

/-- SUPPLY_MONITOR_TRIP (R411, R523): a rail outside its window, or core rails that differ, beyond the filter. -/
def execSupplyMonitorTrip (_coreMismatch : Bool) (s : State) : Host.Outcome State Fault Refusal :=
  .next (((s.setFld 6 0x2C 1 1 1).raise 1667).react 4 0)

/-- A failed self-test of the caliper: STFAIL, the isolation of every pair, class 2 (R425, R584). -/
def State.caliperFailed (s : State) : State := (((s.setFld 7 0x14 2 2 1).isolatePairs).raise 1665).react 2 0
/-- A failed clock monitor (R410, R425). -/
def State.clockFailed (s : State) : State := ((s.setFld 6 0x2C 0 0 1).raise 1666).react 3 0
/-- A failed supply monitor (R411, R425). -/
def State.supplyFailed (s : State) : State := ((s.setFld 6 0x2C 1 1 1).raise 1667).react 4 0
/-- A safe-output readback failure (R417, R425). -/
def State.outputFailed (s : State) : State := ((s.setFld 6 0x2C 2 2 1).raise 1669).react 5 0

/-- CALIPER_SELF_TEST (R425): a round in RUN; a failure isolates every pair and takes class 2. -/
def execCaliperSelfTest (pass : Bool) (s : State) : Host.Outcome State Fault Refusal :=
  if s.mode = .run then
    let s1 := s.setFld 6 0x30 15 8 (s.fld 6 0x30 15 8 + 1)
    .next (if pass then s1 else s1.caliperFailed)
  else .next s

/-- MONITOR_SELF_TEST (R425): a failure of a clock or supply monitor in RUN takes class 3 or 4. -/
def execMonitorSelfTest (clockPass supplyPass : Bool) (s : State) : Host.Outcome State Fault Refusal :=
  if s.mode = .run then
    let s1 := if clockPass then s else s.clockFailed
    .next (if supplyPass then s1 else s1.supplyFailed)
  else .next s

/-! ## Safe outputs (R413 to R417) -/

/-- Do both generators drive edges (R414). -/
def State.vermRun (s : State) : Bool := s.ochre && s.safe.kickOpen

/-- VERMILION_EDGE (R414): the generator whose turn it is drives its edge. -/
def execVermilionEdge (s : State) : Host.Outcome State Fault Refusal :=
  .next (if s.vermRun then s.updSafe (fun f => { f with vermilion := !f.vermilion }) else s)

/-- SAFE_OUTPUT_MISMATCH (R417): a readback difference that lasted. -/
def execSafeOutputMismatch (_vermilion : Bool) (s : State) : Host.Outcome State Fault Refusal :=
  .next (((s.setFld 6 0x2C 2 2 1).raise 1669).react 5 0)

/-- The kick window closes (R416): a high SAFE_VERMILION falls; in RUN event 1670 and class 6. -/
def State.closeKick (s : State) : State :=
  let s1 := s.updSafe (fun f => { f with kickOpen := false, vermilion := false })
  if s.mode = .run then ((s1.setFld 6 0x2C 3 3 1).raise 1670).react 6 0 else s1

/-- KICK_WINDOW_EXPIRE (R416). -/
def execKickWindowExpire (s : State) : Host.Outcome State Fault Refusal := .next (if s.safe.kickOpen then s.closeKick else s)

/-- A mode other than `m`; `n` chooses it. -/
def Mode.other (m : Mode) (n : Nat) : Mode := ([Mode.start, .run, .safe, .test, .recovery].filter (· != m)).getD (n % 4) .safe

/-- A fault leaves the mode copies different (R418): where they are equal, channel B's takes a mode that is a free value. -/
def State.splitMode (s : State) : State :=
  if s.safe.modeA = s.safe.modeB then
    { (s.updSafe (fun f => { f with modeB := f.modeA.other (Config.unstated s.freeCtr).toNat })) with freeCtr := s.freeCtr + 1 }
  else s

/-- MODE_COPY_MISMATCH (R418): the copies have differed for more than one cycle. -/
def execModeCopyMismatch (s : State) : Host.Outcome State Fault Refusal :=
  .next (((s.splitMode.setFld 6 0x2C 4 4 1).raise 1676).react 7 0)

/-! ## Writes to the SAFE block -/

/-- Is a master one that writes the management blocks. -/
def isMgmt : Master → Bool
  | .cretal | .debug => true
  | .trunk | .engine _ => false

/-- Does Table 01-7 allow an engine the access. -/
def engineMay (b : Nat) (wr : Bool) : Bool :=
  match blkOf b with
  | none => false
  | some k => if wr then (blkEngine k).2 else (blkEngine k).1

/-- R419: does Table 11-9 allow a request. -/
def State.modeAllowed (s : State) (m : Master) (q : Mode) : Bool :=
  match s.mode, q with
  | .start, .test => true
  | .test, .start => s.fld 6 0x30 0 0 == 1
  | .start, .run => m == .cretal && s.fld 6 0x30 0 0 == 1 && s.fld 7 0x14 2 2 == 0 && s.safe.kickOpen
  | .safe, .recovery => true
  | .recovery, .test => true
  | .safe, .safe => false
  | _, .safe => true
  | _, _ => false

/-- A write to SAFE_MODE (R419). Writes by engines never reach the block (R48). -/
def State.writeSafeMode (s : State) (m : Master) (data : Word) : State :=
  if !isMgmt m then s
  else if bits data 31 16 ≠ 0x5AFE then s.cfgerr 6 0x10
  else
    match Mode.ofCode (bits data 10 8) with
    | none => s.cfgerr 6 0x10
    | some q => if s.modeAllowed m q then s.setMode q else s.cfgerr 6 0x10

/-- An entry of firmware's log. -/
def State.fwLog (s : State) (id unit : Nat) (data : Word) : State :=
  let n := s.now
  n.2.updFw (fun f => { f with log := f.log ++ [{ time := n.1, id := id, unit := unit, data := data }] })

/-- A refusal by Cretal's MPU (R493): the capture goes into the log and SAFE is requested. -/
def State.cretalRefused (s : State) : State := (s.fwLog 0 0 (s.reg 0x100 0x110C)).writeSafeMode .cretal 0x5AFE0200

/-- The physical address of a register; the pseudo block 0x100 lies in Cretal's private space (Tables 01-6, 14-2). -/
def regAddr (b o : Nat) : Nat := if b < 0x100 then 0x10000000 + 0x10000 * b + o else 0x100020000000 + o

/-- May a master make an access to a register: an engine by Table 01-7 (R48), Cretal by its MPU, which checks addresses of Table 01-6
at level K (R337, R344, R492), the debug port under the scope of its access and R557 (R34, R553). -/
def State.lets (s : State) (m : Master) (b o : Nat) (acc : Access) : Bool :=
  match m with
  | .engine _ => engineMay b (acc != .read)
  | .cretal => decide (0x100 ≤ b) || (s.mpuDecide .cretal (regAddr b o) acc true false .device).1 == 0
  | .debug => s.inDebugScope b o (acc != .read) && !s.guarded (regAddr b o)
  | .trunk => true

/-- What an access leaves that a master may not make: nothing at an engine but a Bus Error (R48), the capture and what follows it at
Cretal (R493), event 1921 for a write that R557 drops. -/
def State.turned (s : State) (m : Master) (b o : Nat) (acc : Access) : State :=
  match m with
  | .engine _ | .trunk => s
  | .cretal => (s.mpuCheck .cretal (regAddr b o) acc true false .device 3 0).2.cretalRefused
  | .debug => if acc != .read && s.inDebugScope b o true then s.raise 1921 else s

/-- A write by a master to a register, where it may make it. -/
def State.admits (s : State) (m : Master) (b o : Nat) (f : State → State) : State :=
  if s.lets m b o .write then f s else s.turned m b o .write

/-- A write to SAFE_KICK (R416). -/
def State.writeSafeKick (s : State) (m : Master) (data : Word) : State :=
  if !isMgmt m then s
  else if bits data 31 16 = 0x5AFE then s.updSafe (fun f => { f with kickOpen := true }) else s.cfgerr 6 0x20

/-- A write to SAFE_KCFG (R416). The close at once that a shorter window can bring is KICK_WINDOW_EXPIRE. -/
def State.writeSafeKcfg (s : State) (m : Master) (data : Word) : State :=
  if !isMgmt m then s
  else if 1 ≤ bits data 7 0 ∧ bits data 7 0 ≤ 100 then s.setFld 6 0x24 7 0 (bits data 7 0) else s.cfgerr 6 0x24

/-- The least action of a class (Table 11-11). -/
def polMin (c : Nat) : Nat := if c = 0 ∨ c = 1 ∨ c = 9 ∨ c = 10 ∨ c = 14 then 1 else if 2 ≤ c ∧ c ≤ 8 then 2 else 0

/-- Is the new action of a class refused (R421, R423). -/
def State.polBad (s : State) (data : Word) (c : Nat) : Bool :=
  let v := bits data (2 * c + 1) (2 * c)
  v == 3 || decide (v < polMin c) || (s.mode == .run && decide (v < s.fld 6 0x18 (2 * c + 1) (2 * c)))

/-- A write to SAFE_POL (R423): refused fields stay, the others take effect (R14). -/
def State.writeSafePol (s : State) (m : Master) (data : Word) : State :=
  if !isMgmt m then s
  else
    let w := (List.range 15).foldl (fun (w : Word) c => if s.polBad data c then w else setBits w (2 * c + 1) (2 * c) (bits data (2 * c + 1) (2 * c))) (s.reg 6 0x18)
    let s1 := s.setReg 6 0x18 w
    if (List.range 15).any (fun c => s.polBad data c) then s1.cfgerr 6 0x18 else s1

/-- SAFE_MODE (R419). -/
def execSafeMode (m : Master) (data : Word) (s : State) : Host.Outcome State Fault Refusal := .next (s.admits m 6 0x10 (fun t => t.writeSafeMode m data))
/-- SAFE_KICK (R416). -/
def execSafeKick (m : Master) (data : Word) (s : State) : Host.Outcome State Fault Refusal := .next (s.admits m 6 0x20 (fun t => t.writeSafeKick m data))
/-- SAFE_KCFG (R416). -/
def execSafeKcfg (m : Master) (data : Word) (s : State) : Host.Outcome State Fault Refusal := .next (s.admits m 6 0x24 (fun t => t.writeSafeKcfg m data))
/-- SAFE_POL (R423). -/
def execSafePol (m : Master) (data : Word) (s : State) : Host.Outcome State Fault Refusal := .next (s.admits m 6 0x18 (fun t => t.writeSafePol m data))

/-! ## Cretal lockstep (R495) -/

/-- Unlists the registers of a block whose offset satisfies `f`. -/
def State.resetRegs (s : State) (b : Nat) (f : Nat → Bool) : State :=
  let keep := fun (p : Nat × Word) => !(p.1 / 0x10000 == b && f (p.1 % 0x10000))
  { s with regs := s.regs.filter keep, eff := s.eff.filter keep }

/-- The Cretal reset of Table 15-6: Cretal's RAM and MPU and the MBX block (R492, R504); what firmware held is lost with its RAM. -/
def State.resetCretal (s : State) : State :=
  let s1 := (s.resetRegs 5 (fun _ => true)).resetRegs 0x100 (fun _ => true)
  let ram := fun (k : Nat) => cretalRam ≤ k ∧ k < cretalRam + 0x100000
  { s1 with regs := s1.regs ++ cretalMpuReset, eff := s1.eff ++ cretalMpuReset, cretalReset := true
            fw := { Fw.reset with log := [] }
            mem := { bytes := s1.mem.bytes.filter (fun p => !decide (ram p.1)), tags := s1.mem.tags.filter (fun p => !decide (ram p.1))
                     errs := s1.mem.errs.filter (fun p => !decide (ram p.1)) }
            ceq := s1.ceq.filter (fun p => !decide (ram p.1)) }

/-- Cretal is reset, SAFE_MON.CRETAL is set, class 8 is applied, port DMAs and stream movers stop (R495). -/
def State.lockstep (s : State) : State :=
  let s1 := s.resetCretal.updSafe (fun f => { f with dmaStop := true })
  ((s1.setFld 6 0x2C 5 5 1).raise 1675).react 8 0

/-- CRETAL_LOCKSTEP_MISMATCH (R495). -/
def execCretalLockstepMismatch (s : State) : Host.Outcome State Fault Refusal := .next s.lockstep

/-- The cells of Cretal's RAM whose stored codewords hold errors. -/
def State.ramErrs (s : State) : List Nat := (s.mem.errs.map (·.1)).filter (fun k => decide (cretalRam ≤ k ∧ k < cretalRam + 0x100000))

/-- Firmware runs (R494): which cells of its RAM it fetches and loads the spec does not say, so a free value says whether it meets one
whose codeword holds an error. An uncorrectable one resets Cretal as a lockstep mismatch does, and is logged with SOURCE 8. -/
def State.cretalRun (s : State) (f : State → State) : State :=
  match s.ramErrs with
  | [] => f s
  | k :: ks =>
    let n := (Config.unstated s.freeCtr).toNat % ((k :: ks).length + 1)
    let s1 := { s with freeCtr := s.freeCtr + 1 }
    match (k :: ks)[n]? with
    | none => f s1
    | some a =>
      match s1.readCell a (a - cretalRam + 0x10000000) 8 0 with
      | (some _, t) => f t
      | (none, t) => t.lockstep

end Sys2Proof.Machine
end

