-- ==== Sys2Proof/Machine/Power.lean ====
section
/-!
DEFINITION. Machine/Power.lean: tile clocks and power states, the power arbiter, thermal supervision, the umber domain and the
resets (15_power_clock_reset).
-/

namespace Sys2Proof.Machine

open Sys2Proof

/-! ## Clocks and the arbiter (R528, R534 to R538) -/

/-- The twin tile. -/
def twinTile (t : Nat) : Nat := t ^^^ 16
/-- A tile and, where it is paired, its twin. -/
def State.withTwin (s : State) (t : Nat) : List Nat := if s.pairedTile t then [t, twinTile t] else [t]
/-- CLK_TILEt.FREQ. -/
def State.freq (s : State) (t : Nat) : Nat := s.fld 1 (0x100 + 4 * t) 9 0
/-- The budget limit of a tile in MHz; an unlimited tile has 1,000. -/
def State.blim (s : State) (t : Nat) : Nat := Map.get 1000 s.pw.blim t
/-- The thermal limit of a tile in MHz. -/
def State.tlim (s : State) (t : Nat) : Nat := Map.get 1000 s.pw.tlim t
/-- The effective frequency (CLK_TILEt.EFF): FREQ under the limits of the tile; a paired tile, which no budget limit touches (R537), is
under its own and its twin's thermal limits (R528). -/
def State.effFreq (s : State) (t : Nat) : Nat :=
  if s.pairedTile t then (s.withTwin t).foldl (fun f u => min f (s.tlim u)) (s.freq t)
  else min (s.freq t) (min (s.blim t) (s.tlim t))
/-- Stores EFF of every tile and THERM_THR. -/
def State.refreshClk (s : State) : State :=
  let s1 := (List.range 32).foldl (fun u t => u.setFld 1 (0x100 + 4 * t) 25 16 (s.effFreq t)) s
  s1.setReg 0x0D 0x18 (BitVec.ofNat 32 ((List.range 32).foldl (fun a t =>
    if (s.withTwin t).any (fun u => decide (s.tlim u < s.freq t)) then a + 2 ^ t else a) 0))
/-- The cost of a tile in credits at a frequency (Table 15-4). -/
def tileCost (f : Nat) : Nat := 2 + (20 * f + 999) / 1000
/-- Is a tile charged: in RUN or IDLE, or waking. -/
def State.charged (s : State) (t : Nat) : Bool := decide (s.tileCur t ≤ 1) || s.pw.waking.contains t
/-- RESV (R535). -/
def State.resv (s : State) : Nat := (List.range 32).foldl (fun a t => if s.pairedTile t then a + tileCost (s.freq t) else a) 0
/-- The floor of R535. -/
def State.pwFloor (s : State) : Nat :=
  136 + s.resv + (List.range 32).foldl (fun a t => if !s.pairedTile t && s.charged t then a + 3 else a) 0
/-- The grant (R536). -/
def State.grant (s : State) : Nat :=
  (List.range 32).foldl (fun a t =>
    if s.charged t then a + tileCost (s.effFreq t) else if s.pairedTile t then a + tileCost (s.freq t) else a) 136
/-- PWR_BUDGET. -/
def State.budget (s : State) : Nat := s.fld 2 0x10 9 0

/-- The highest-numbered unpaired tile below `n` that runs above 50 MHz. -/
def State.throttleTile (s : State) : Nat → Option Nat
  | 0 => none
  | n + 1 => if !s.pairedTile n && s.charged n && decide (50 < s.effFreq n) then some n else s.throttleTile n

/-- R537: halves budget limits until the grant fits, at most `n` times. -/
def State.throttle (s : State) : Nat → State
  | 0 => s
  | n + 1 =>
    if s.grant ≤ s.budget then s
    else
      match s.throttleTile 32 with
      | none => s
      | some t => (s.updPw (fun p => { p with blim := Map.put (max 50 (s.effFreq t / 2)) p.blim t })).throttle n

/-- Doubles a tile's budget limit while the grant still fits, at most `n` times. -/
def State.unthrottle (s : State) (t : Nat) : Nat → State
  | 0 => s
  | n + 1 =>
    if s.blim t ≥ 1000 then s
    else
      let s1 := s.updPw (fun p => { p with blim := Map.put (min 1000 (2 * s.blim t)) p.blim t })
      if s1.grant ≤ s1.budget then s1.unthrottle t n else s

/-- The arbiter after a change (R536, R537): a tile that is throttled raises event 1731. -/
def State.arbitrate (s : State) : State :=
  if s.grant > s.budget then
    let t := s.throttle 256
    (if t.pw.blim = s.pw.blim then t else t.raise 1731).refreshClk
  else ((List.range 32).foldl (fun u t => if u.pairedTile t then u else u.unthrottle t 5) s).refreshClk

/-- A write to CLK_TILEt.FREQ, which for a paired tile writes its twin's as well (R528); a change restarts the monitors' windows (R410). -/
def State.writeClkTile (s : State) (m : Master) (t : Nat) (data : Word) : State :=
  if !isMgmt m then s
  else if 50 ≤ bits data 9 0 ∧ bits data 9 0 ≤ 1000 then
    ((s.withTwin t).foldl (fun u x =>
      if u.freq x = bits data 9 0 then u else (u.setFld 1 (0x100 + 4 * x) 9 0 (bits data 9 0)).restartWindow (tileClk x)) s).arbitrate
  else s.cfgerr 1 (0x100 + 4 * t)

/-- A write to PWR_BUDGET (R535). -/
def State.writeBudget (s : State) (m : Master) (data : Word) : State :=
  if !isMgmt m then s
  else
    let v := bits data 9 0
    if v < s.pwFloor ∨ v < 80 ∨ v > 1000 then s.cfgerr 2 0x10 else (s.setFld 2 0x10 9 0 v).arbitrate

/-- A worker's share (R539): 0 leaves the budget; a share below the floor loads the floor, sets SHORT and raises event 1735. -/
def State.loadShare (s : State) (v : Nat) : State :=
  if v = 0 then s
  else if v < s.pwFloor then ((((s.setFld 2 0x10 9 0 s.pwFloor).setFld 2 0x14 31 31 1).raise 1735)).arbitrate
  else (s.setFld 2 0x10 9 0 (min v 1000)).arbitrate

/-! ## Tile power states (R529 to R533, R547) -/

/-- Has an engine an access outstanding. -/
def Engine.busy (x : Engine) : Bool :=
  !x.sb.isEmpty || x.load.isSome || x.walk.isSome || x.act.isSome || x.lfill.isSome || x.sw.isSome || x.long.isSome
/-- Does an engine commit: a RUNNING task, or level K or Rest, and neither held, stopped nor halted. -/
def Engine.committing (x : Engine) : Bool := !x.held && !x.stopped && !x.dbg.halted && (x.running || x.level != .t)
/-- Does an engine keep its tile from IDLE: a READY or RUNNING task, level K or Rest where it is not held, or an access outstanding (R530). -/
def Engine.awake (x : Engine) : Bool :=
  x.slots.any (fun p => p.2.st == .ready || p.2.st == .running) || (!x.held && x.level != .t) || x.busy
/-- Is every slot FREE. -/
def Engine.allFree (x : Engine) : Bool := x.slots.all (fun p => p.2.st == .free)
/-- Has an engine a READY task. -/
def Engine.hasReady (x : Engine) : Bool := x.slots.any (fun p => p.2.st == .ready)
/-- The engines of a tile. -/
def State.tileEngines (s : State) (t : Nat) : List Engine := (List.range 32).map (fun n => s.engine (32 * t + n))

/-- An engine as a reset that reaches it leaves it (R545): held; its commit count and signature (R390, R395), and what the debug
block holds for it, stand. -/
def Engine.afterReset (x : Engine) : Engine :=
  { Engine.reset with commits := x.commits, sig := x.sig
                      dbg := { x.dbg with halted := false, reason := 0, stepping := false, skip := none } }

/-- The registers of a TILE block that belong to local engine `n` (Table 15-6). -/
def engineOfs (n o : Nat) : Bool :=
  o == 0x100 + 4 * n || o == 0x180 + 4 * n || o == 0x200 + 8 * n || o == 0x204 + 8 * n ||
  decide (0x1000 + 0x100 * n ≤ o ∧ o < 0x1100 + 0x100 * n) || decide (0x3400 + 0x20 * n ≤ o ∧ o < 0x3420 + 0x20 * n)

/-- The engine reset of Table 15-6; its TLB and walk-cache entries end (R319, R327). A reset of a paired engine reaches both of the pair
(R546), so it clears CAL_PSTATn (R545). -/
def State.resetEngine (s : State) (e : Nat) : State :=
  let b := tileBlk (tileOf e)
  let n := e % 32
  let s1 := (s.resetRegs b (engineOfs n)).setEngine e (s.engine e).afterReset
  let s2 := ((s1.setFld b 0x300 n n 0).setFld b 0x304 n n 0).setFld b 0x308 n n 0
  { (if s.pairedEng e then s2.setReg 7 (0x1000 + 4 * pairOf e) 0 else s2) with
    pairs := Map.del s.pairs (pairOf e)
    wcache := Map.put ((Map.get [] s.wcache (clusterOf e)).filter (fun w => w.owner != e)) s.wcache (clusterOf e)
    bcasts := s.bcasts.filter (fun q => q.issuer != e) }

/-- Invalidates TLBs of the tile's engines and walk caches of its clusters (R327). -/
def State.dropTlbs (s : State) (t : Nat) : State :=
  let s1 := (List.range 32).foldl (fun u n => u.updEngine (32 * t + n) (fun x => { x with tlb := [] })) s
  { s1 with wcache := (List.range 4).foldl (fun w c => Map.del w (4 * t + c)) s1.wcache }

/-- Drops what memory lists in a range of keys, which then reads POISON zero. -/
def Memory.dropRange (m : Memory) (lo n : Nat) : Memory :=
  let out := fun (k : Nat) => !decide (lo ≤ k ∧ k < lo + n)
  { bytes := m.bytes.filter (fun p => out p.1), tags := m.tags.filter (fun p => out p.1), errs := m.errs.filter (fun p => out p.1) }

/-- A range of cells loses what memory lists in it and the write-backs that wait for it. -/
def State.dropCells (s : State) (lo n : Nat) : State :=
  { s with mem := s.mem.dropRange lo n, ceq := s.ceq.filter (fun p => !decide (lo ≤ p.1 ∧ p.1 < lo + n)) }

/-- The registers of a tile that OFF loses with its supply: the TILE block's; the cache sizes of its cluster memory, which is kept, stay
(Table 15-3). -/
def offOfs (o : Nat) : Bool := !decide (0x400 ≤ o ∧ o < 0x410)

/-- A tile enters OFF: it keeps its cluster memory only (Table 15-3); private memory reads POISON again (R360). -/
def State.tileOff (s : State) (t : Nat) : State :=
  let s1 := ((List.range 32).foldl (fun u n => u.resetEngine (32 * t + n)) s).resetRegs (tileBlk t) offOfs
  let s2 := { s1.dropCells (privKey (32 * t) 0) (32 * 0x2000) with sm := Map.del s1.sm t }
  (((s2.dropTlbs t).setFld 2 (0x100 + 4 * t) 9 8 3).setFld 2 (0x100 + 4 * t) 16 16 0).updPw (fun p =>
    { p with wakeQ := p.wakeQ.filter (· != t), waking := p.waking.filter (· != t), waited := p.waited.filter (· != t) })

/-- Requests the wake of a tile that sleeps (R531, R532); PEND reads 1 until the arbiter starts it. -/
def State.wakeTile (s : State) (t : Nat) : State :=
  if s.tileCur t = 0 ∨ t ∈ s.pw.wakeQ ∨ t ∈ s.pw.waking then s
  else (s.updPw (fun p => { p with wakeQ := p.wakeQ ++ [t] })).setFld 2 (0x100 + 4 * t) 16 16 1

/-- A tile in IDLE wakes where one of its engines has work again (R530). -/
def State.leaveIdle (s : State) (t : Nat) : State := if s.tileCur t = 1 then s.wakeTile t else s

/-- The reservations of a tile's engines end when it leaves RUN (Table 03-12). -/
def State.dropResv (s : State) (t : Nat) : State :=
  (List.range 32).foldl (fun u n => u.updEngine (32 * t + n) (fun x => { x with resv := none })) s

/-- Work for a tile: in IDLE it wakes; in NAP its REQ, and that of a paired tile's twin, becomes RUN and it wakes (R530, R531). -/
def State.touchTile (s : State) (t : Nat) : State :=
  if s.tileCur t = 1 then s.wakeTile t
  else if s.tileCur t = 2 then (s.withTwin t).foldl (fun u x => (u.setFld 2 (0x100 + 4 * x) 1 0 0).wakeTile x) s
  else s

/-- A delivery to a task of a tile that does not run starts the tile's wake (R255): from OFF as from NAP. -/
def State.wakeForDelivery (s : State) (t : Nat) : State :=
  if s.tileCur t = 3 then (s.withTwin t).foldl (fun u x => (u.setFld 2 (0x100 + 4 * x) 1 0 0).wakeTile x) s else s.touchTile t

/-- A write to PWR_TILEt (R531): AUTOIDLE, and a request for the tile and a paired tile's twin. -/
def State.writePwrTile (s : State) (m : Master) (t : Nat) (data : Word) : State :=
  if !isMgmt m then s
  else
    let o := 0x100 + 4 * t
    let s1 := s.setFld 2 o 4 4 (bits data 4 4)
    let ts := s.withTwin t
    match bits data 1 0 with
    | 0 => ts.foldl (fun u x => (u.setFld 2 (0x100 + 4 * x) 1 0 0).wakeTile x) s1
    | 1 => ts.foldl (fun u x => u.setFld 2 (0x100 + 4 * x) 1 0 1) s1
    | 2 =>
      if ts.all (fun x => (s.tileEngines x).all Engine.allFree) then
        (ts.foldl (fun u x => (u.setFld 2 (0x100 + 4 * x) 1 0 2).tileOff x) s1).arbitrate
      else s1.cfgerr 2 o
    | _ => s1.cfgerr 2 o

/-- CLK_TILE (R528). -/
def execClkTile (m : Master) (t : BitVec 5) (data : Word) (s : State) : Host.Outcome State Fault Refusal := .next (s.admits m 1 (0x100 + 4 * t.toNat) (fun u => u.writeClkTile m t.toNat data))
/-- PWR_TILE_REQ (R531). -/
def execPwrTileReq (m : Master) (t : BitVec 5) (data : Word) (s : State) : Host.Outcome State Fault Refusal := .next (s.admits m 2 (0x100 + 4 * t.toNat) (fun u => u.writePwrTile m t.toNat data))
/-- PWR_BUDGET (R535). -/
def execPwrBudget (m : Master) (data : Word) (s : State) : Host.Outcome State Fault Refusal := .next (s.admits m 2 0x10 (fun u => u.writeBudget m data))

/-- Is a wake first in its channel's order, wakes that wait for credits left aside (R532). -/
def State.wakeTurn (s : State) (t : Nat) : Bool :=
  match s.pw.wakeQ.find? (fun u => u / 16 == t / 16 && !(s.pw.waited.contains u && u != t)) with
  | none => false
  | some u => u == t

/-- TILE_WAKE_START (R532, R533, R538): an unpaired tile from NAP or OFF waits with PEND = 1 until its cost at FREQ fits. -/
def execTileWakeStart (t : BitVec 5) (s : State) : Host.Outcome State Fault Refusal :=
  let t := t.toNat
  if !(s.pw.wakeQ.contains t && s.wakeTurn t) then .next s
  else if decide (2 ≤ s.tileCur t) && !s.pairedTile t && decide (s.grant + tileCost (s.freq t) > s.budget) then
    if s.pw.waited.contains t then .next s
    else .next ((s.updPw (fun p => { p with waited := p.waited ++ [t] })).raise 1730)
  else
    let s1 := s.updPw (fun p => { p with wakeQ := p.wakeQ.filter (· != t), waking := p.waking ++ [t], waited := p.waited.filter (· != t) })
    .next (((s1.setFld 2 (0x100 + 4 * t) 16 16 0).setFld 1 (0x100 + 4 * t) 31 31 1).refreshClk)

/-- The tile reset of Table 15-6: TILE block, engines, walk caches, stream mover. -/
def State.resetTile (s : State) (t : Nat) : State :=
  let s1 := (List.range 32).foldl (fun u n => u.resetEngine (32 * t + n)) (s.dropTlbs t)
  let s2 := s1.resetRegs (tileBlk t) (fun _ => true)
  { s2 with sm := Map.del s2.sm t, applying := s2.applying.filter (fun p => p.1 / 4 != t) }

/-- Applies the resets deferred to a tile's wake (R547), the tile's own where RST_TILE asks for it. -/
def State.deferredResets (s : State) (t : Nat) : State :=
  let w := Map.get 0 s.pw.defer t
  let whole := w != 0 && s.fld 3 0x18 t t == 1
  let s0 := if whole then (s.resetTile t).setFld 3 0x18 t t 0 else s
  let s1 := (List.range 32).foldl (fun u n =>
    if bit w n then (if whole then u else u.resetEngine (32 * t + n)).setFld 3 (0x100 + 4 * t) n n 0 else u) s0
  s1.updPw (fun p => { p with defer := Map.del p.defer t })

/-- TILE_WAKE_COMPLETE (R533): the clock has reached its frequency, its monitor windows restart and the tile runs; deferred resets are
applied. -/
def execTileWakeComplete (t : BitVec 5) (s : State) : Host.Outcome State Fault Refusal :=
  let t := t.toNat
  if s.pw.waking.contains t then
    let s1 := s.updPw (fun p => { p with waking := p.waking.filter (· != t) })
    .next ((((s1.setFld 2 (0x100 + 4 * t) 9 8 0).setFld 1 (0x100 + 4 * t) 31 31 0).restartWindow (tileClk t)).deferredResets t)
  else .next s

/-- TILE_IDLE_ENTRY (R530). -/
def execTileIdleEntry (t : BitVec 5) (s : State) : Host.Outcome State Fault Refusal :=
  let o := 0x100 + 4 * t.toNat
  let quiet := (s.tileEngines t.toNat).all (fun x => !x.awake)
  .next (if s.tileCur t.toNat = 0 ∧ s.fld 2 o 4 4 = 1 ∧ quiet then (s.setFld 2 o 9 8 1).dropResv t.toNat else s)

/-- TILE_NAP_ENTRY (R531): TLBs and walk caches are invalidated and the credits freed. -/
def execTileNapEntry (t : BitVec 5) (s : State) : Host.Outcome State Fault Refusal :=
  let o := 0x100 + 4 * t.toNat
  let quiet := (s.tileEngines t.toNat).all (fun x => !x.committing && !x.busy)
  .next (if s.tileCur t.toNat ≤ 1 ∧ s.fld 2 o 1 0 = 1 ∧ quiet then (((s.setFld 2 o 9 8 2).dropTlbs t.toNat).dropResv t.toNat).arbitrate else s)

/-! ## Clock failures (R527) -/

/-- X32_CRYSTAL_LOSS (R527). -/
def execX32CrystalLoss (s : State) : Host.Outcome State Fault Refusal := .next ((s.setFld 1 0x10 4 4 1).raise 1729)

/-- The CLK_STAT bit of a clock source. -/
def ClkBit : ClkSrc → Nat
  | .plla => 0 | .pllb => 1 | .plld => 2 | .xtal25 => 3

/-- Is the reference of system time locked: the 25 MHz reference and PLLD (R479, Table 15-2). -/
def State.refLocked (s : State) : Bool := s.fld 1 0x10 3 3 == 1 && s.fld 1 0x10 2 2 == 1

/-- On a manager or standalone device TIME_STAT.LOCK follows the reference; on a worker it is 0 while EN is 0 (R479, R483). -/
def State.followLock (s : State) : State :=
  if s.fld 0x0C 0x18 31 30 = 2 then (if s.blkEn 0x0C then s else s.setLock false) else s.setLock s.refLocked

/-- PLL_LOCK_LOSS (R527): the loss of a lock, or of the 25 MHz reference, that was there is a clock failure under R410. -/
def execPllLockLoss (src : ClkSrc) (s : State) : Host.Outcome State Fault Refusal :=
  .next (if s.fld 1 0x10 (ClkBit src) (ClkBit src) = 1 then
      (((s.setFld 1 0x10 (ClkBit src) (ClkBit src) 0).followLock).raise 1728).clockFailed
    else s)

/-- PLL_RELOCK (R527, R479). -/
def execPllRelock (src : ClkSrc) (s : State) : Host.Outcome State Fault Refusal :=
  .next ((s.setFld 1 0x10 (ClkBit src) (ClkBit src) 1).followLock)

/-! ## Thermal supervision (R541, R542) -/

/-- The place of a tile on the die (R541). -/
def tilePos (t : Nat) : Nat × Nat := (t % 16 / 4, t % 4 + 4 * (t / 16))
/-- Do two tiles share an edge. -/
def adjacent (t u : Nat) : Bool :=
  let a := tilePos t
  let b := tilePos u
  (a.1 == b.1 && (a.2 + 1 == b.2 || b.2 + 1 == a.2)) || (a.2 == b.2 && (a.1 + 1 == b.1 || b.1 + 1 == a.1))
/-- The temperature of a tile as last read, in 1/16 °C. -/
def State.temp (s : State) (t : Nat) : Int :=
  max (signed 16 (s.fld 0x0D (0x100 + 4 * t) 15 0)) (signed 16 (s.fld 0x0D (0x100 + 4 * t) 31 16))
/-- THERM_CFG.HOT in 1/16 °C. -/
def State.hot16 (s : State) : Int := 16 * (s.fld 0x0D 0x10 7 0 : Int)
/-- Halves a thermal limit, not below 50 MHz. -/
def State.coolTile (s : State) (t : Nat) : State := s.updPw (fun p => { p with tlim := Map.put (max 50 (min (s.tlim t) (s.freq t) / 2)) p.tlim t })
/-- Doubles a thermal limit back. -/
def State.warmTile (s : State) (t : Nat) : State := s.updPw (fun p => { p with tlim := Map.put (min 1000 (2 * s.tlim t)) p.tlim t })

/-- One ordered pair of adjacent tiles, `t` the hotter, at a reading: the third reading in a row above 30 °C throttles `t`. -/
def State.gradient (s : State) (t u : Nat) : State :=
  let k := 32 * t + u
  if adjacent t u && decide (s.temp t - s.temp u > 480) then
    let n := Map.get 0 s.pw.gradN k + 1
    let s1 := s.updPw (fun p => { p with gradN := Map.put n p.gradN k })
    if n ≥ 3 ∧ Map.get 0 s.pw.gradOn k = 0 then
      (((s1.updPw (fun p => { p with gradOn := Map.put 1 p.gradOn k })).coolTile t).setFld 0x0D 0x14 0 0 1).raise 1732
    else s1
  else s.updPw (fun p => { p with gradN := Map.del p.gradN k })

/-- THERMAL_READING (R541, R542): `temps` are the 64 readings in 1/16 °C, two per tile. A sensor reaches a temperature at the first reading
of it after one at which no sensor had (notes/assumptions/30.md). -/
def execThermalReading (temps : List Int) (s : State) : Host.Outcome State Fault Refusal :=
  let s1 := (List.range 32).foldl (fun u t =>
    u.setReg 0x0D (0x100 + 4 * t) (BitVec.ofNat 32 (wrap 16 (temps.getD (2 * t) 0) + 65536 * wrap 16 (temps.getD (2 * t + 1) 0)))) s
  let s2 := (List.range 1024).foldl (fun u k => u.gradient (k / 32) (k % 32)) s1
  let reached := fun (u : State) (v : Int) => (List.range 32).any (fun t => decide (u.temp t ≥ v))
  let s3 := if reached s2 s.hot16 && !reached s s.hot16 then
      ((s2.setFld 0x0D 0x14 1 1 1).updPw (fun p => { p with hotOn := true })).raise 1733
    else s2
  let s4 := if reached s3 2000 && !reached s 2000 then
      ((s3.setFld 0x0D 0x14 2 2 1).updPw (fun p => { p with tlim := (List.range 32).map (fun t => (t, 50)), hotOn := true })).raise 1734
    else s3
  .next s4.arbitrate

/-- THERMAL_LIMIT_STEP (R542): every 1 ms limits halve while HOT or a gradient lasts, then double back. -/
def execThermalLimitStep (s : State) : Host.Outcome State Fault Refusal :=
  let still := s.pw.hotOn && (List.range 32).any (fun t => decide (s.temp t ≥ s.hot16 - 80))
  if still then .next ((List.range 32).foldl (fun u t => u.coolTile t) s).arbitrate
  else
    let s1 := (List.range 32).foldl (fun u t =>
      if s.pw.gradOn.any (fun p => p.1 / 32 == t && decide (s.temp t - s.temp (p.1 % 32) > 480)) then u.coolTile t else u) s
    let holds := fun (t : Nat) => s.pw.gradOn.any (fun p => p.1 / 32 == t && decide (s.temp t - s.temp (p.1 % 32) > 400))
    let s2 := (List.range 32).foldl (fun u t => if holds t then u else u.warmTile t) s1
    .next (s2.updPw (fun p => { p with
      gradOn := p.gradOn.filter (fun q => decide (s.temp (q.1 / 32) - s.temp (q.1 % 32) > 400) || decide (s2.tlim (q.1 / 32) < 1000))
      hotOn := s.pw.hotOn && (List.range 32).any (fun t => decide (s2.tlim t < 1000)) })).arbitrate

/-! ## Resets (R545 to R548, R577) -/

/-- The contents of the flash device, which no reset changes. -/
def Memory.flash (m : Memory) : Memory :=
  let keep := fun (k : Nat) => decide (0x20000000 ≤ k ∧ k < 0x30000000)
  { bytes := m.bytes.filter (fun p => keep p.1), tags := m.tags.filter (fun p => keep p.1), errs := [] }

/-- A power-on reset (Table 15-6): everything but the flash, OTP and what the flash slots hold. -/
def State.coldReset (s : State) (cause : Nat) (straps : List Nat) : State :=
  let r := State.reset
  ({ r with pending := s.pending, freeCtr := s.freeCtr, otp := s.otp, mem := s.mem.flash, vsel := straps
            img := { s.img with booted := none }
            regs := Map.put (dbgAuthReset s.otp.life) r.regs (regKey 0x1E 0x10) }).setReg 3 0x10 (BitVec.ofNat 32 cause)

/-- A warm reset (Table 15-6): as a power-on reset, but for the umber domain: UMB_ALARM, UMB_WAKE, the slow clock's source and the
straps (R543, R572). -/
def State.warmRst (s : State) (cause : Nat) : State :=
  (((s.coldReset cause s.vsel).setReg 2 0x30 (s.reg 2 0x30)).setReg 2 0x34 (s.reg 2 0x34)).setFld 1 0x10 4 4 (s.fld 1 0x10 4 4)

/-- POWER_ON_RESET (R545): by PORST_N where `pin` is true, else by the internal power-on reset; the VSEL straps are sampled. -/
def execPowerOnReset (pin : Bool) (straps : List Nat) (s : State) : Host.Outcome State Fault Refusal :=
  .next (s.coldReset (if pin then 2 else 1) straps)

/-- WARM_RESET (R577): RESET_N. -/
def execWarmReset (s : State) : Host.Outcome State Fault Refusal := .next (s.warmRst 3)

/-- A write to RST_DEV (R545). -/
def State.writeRstDev (s : State) (m : Master) (data : Word) : State :=
  if !isMgmt m then s
  else if bits data 31 16 ≠ 0x5AFE then s.cfgerr 3 0x14
  else s.warmRst (if m = .debug then 5 else 4)

/-- RST_DEV (R545). -/
def execRstDev (m : Master) (data : Word) (s : State) : Host.Outcome State Fault Refusal := .next (s.admits m 3 0x14 (fun u => u.writeRstDev m data))

/-- Defers resets of a tile in NAP or OFF to its next wake (R547). -/
def State.deferReset (s : State) (t : Nat) (w : Word) : State :=
  s.updPw (fun p => { p with defer := Map.put (Map.get 0 p.defer t ||| w) p.defer t })

/-- One tile of a write to RST_TILE. A bit that already reads 1 has no further effect (R8). -/
def State.startTileReset (s : State) (t : Nat) : State :=
  if s.fld 3 0x18 t t = 1 then s
  else
    let s1 := s.setFld 3 0x18 t t 1
    if s.tileCur t ≥ 2 then s1.deferReset t (BitVec.allOnes 32) else s1.resetTile t

/-- A write to RST_TILE (R545, R546). -/
def State.writeRstTile (s : State) (m : Master) (data : Word) : State :=
  if !isMgmt m then s
  else (List.range 32).foldl (fun u t => if bit data t then (s.withTwin t).foldl (fun v x => v.startTileReset x) u else u) s

/-- RST_TILE (R545). -/
def execRstTile (m : Master) (data : Word) (s : State) : Host.Outcome State Fault Refusal := .next (s.admits m 3 0x18 (fun u => u.writeRstTile m data))

/-- TILE_RESET_COMPLETE (R545): the bit clears; a deferred reset completes at the wake instead. -/
def execTileResetComplete (t : BitVec 5) (s : State) : Host.Outcome State Fault Refusal :=
  .next (if Map.get 0 s.pw.defer t.toNat = 0 then s.setFld 3 0x18 t.toNat t.toNat 0 else s)

/-- One engine of a write to RST_ENGt: commit stops at once (R547). -/
def State.startEngReset (s : State) (e : Nat) : State :=
  let t := tileOf e
  let n := e % 32
  if s.fld 3 (0x100 + 4 * t) n n = 1 then s
  else
    let s1 := s.setFld 3 (0x100 + 4 * t) n n 1
    if s.tileCur t ≥ 2 then s1.deferReset t (BitVec.ofNat 32 (2 ^ n)) else s1.updEngine e (fun x => { x with resetPend := true })

/-- A write to RST_ENGt (R545, R546). -/
def State.writeRstEng (s : State) (m : Master) (t : Nat) (data : Word) : State :=
  if !isMgmt m then s
  else (List.range 32).foldl (fun u n =>
    let e := 32 * t + n
    if bit data n then (if s.pairedEng e then (u.startEngReset e).startEngReset (twinOf e) else u.startEngReset e) else u) s

/-- RST_ENG (R545). -/
def execRstEng (m : Master) (t : BitVec 5) (data : Word) (s : State) : Host.Outcome State Fault Refusal := .next (s.admits m 3 (0x100 + 4 * t.toNat) (fun u => u.writeRstEng m t.toNat data))

/-- ENGINE_RESET_COMPLETE (R547): once the stores in the store buffer have completed, the engine is reset and held. -/
def execEngineResetComplete (e : Eid) (s : State) : Host.Outcome State Fault Refusal :=
  let x := s.engine e.toNat
  .next (if x.resetPend && x.sb.isEmpty then
      (s.resetEngine e.toNat).setFld 3 (0x100 + 4 * tileOf e.toNat) (e.toNat % 32) (e.toNat % 32) 0
    else s)

/-! ## Device power states (R543, R544) -/

/-- A write to PWR_DEVCTL (R544). DOZE turns every tile off and stops the data plane; DORMANT leaves the umber domain alone. -/
def State.writeDevctl (s : State) (m : Master) (data : Word) : State :=
  if !isMgmt m then s
  else if bits data 31 16 ≠ 0x5AFE then s.cfgerr 2 0x20
  else
    let ok := (s.mode == .start || s.mode == .safe) && (List.range 32).all (fun t => (s.tileEngines t).all Engine.allFree)
    match bits data 1 0 with
    | 0 => s.setFld 2 0x20 1 0 0
    | 1 => if ok then ((List.range 32).foldl (fun u t => (u.setFld 2 (0x100 + 4 * t) 1 0 2).tileOff t) (s.setFld 2 0x20 1 0 1)).arbitrate
           else s.cfgerr 2 0x20
    | 2 => if ok then (s.warmRst (s.fld 3 0x10 3 0)).setFld 2 0x20 1 0 2 else s.cfgerr 2 0x20
    | _ => s.cfgerr 2 0x20

/-- PWR_DEVCTL (R544). -/
def execPwrDevctl (m : Master) (data : Word) (s : State) : Host.Outcome State Fault Refusal := .next (s.admits m 2 0x20 (fun u => u.writeDevctl m data))

/-- A wake of a DORMANT device by an enabled source: UMB_WAKE.CAUSE and a warm reset (R543). -/
def State.dormantWake (s : State) (src : Nat) : State :=
  if s.fld 2 0x20 1 0 = 2 ∧ ((src = 1 ∧ s.fld 2 0x34 0 0 = 1) ∨ (src = 2 ∧ s.fld 2 0x34 1 1 = 1) ∨ (src = 4 ∧ s.fld 2 0x34 2 2 = 1)) then
    (s.warmRst 6).setFld 2 0x34 10 8 src
  else s

/-- DORMANT_WAKE (R543): WAKE_N (1), the alarm (2) or a trunk signal (4). -/
def execDormantWake (src : BitVec 3) (s : State) : Host.Outcome State Fault Refusal := .next (s.dormantWake src.toNat)
/-- UMB_ALARM_EXPIRE (R543). -/
def execUmbAlarmExpire (s : State) : Host.Outcome State Fault Refusal := .next (if s.reg 2 0x30 = 0 then s else s.dormantWake 2)

/-! ## Channel cross-check (R549) -/

/-- The reaction to the outcome of the TEST tests of Table 11-12: 0 passed, 1 output gate, 2 clock monitors, 3 supply monitors, 4 safe
outputs, 5 + t tile logic of tile t, whose failure is that the tiles are not used. -/
def State.testFailed (s : State) : Nat → State
  | 0 => s
  | 1 => s.caliperFailed
  | 2 => s.clockFailed
  | 3 => s.supplyFailed
  | 4 => s.outputFailed
  | _ => s

/-- The tile whose logic test failed, by the outcome of the tests. -/
def badLogic (tests t : Nat) : Bool := decide (5 ≤ tests) && ((tests - 5) % 32 == t || twinTile ((tests - 5) % 32) == t)

end Sys2Proof.Machine
end

