-- ==== Sys2Proof/Machine/Lineage.lean ====
section
/-!
DEFINITION. Machine/Lineage.lean: the lineage table, the LIN block's commands and broadcasts, and the lineage filters
(02_capabilities, R88 to R111).
-/

namespace Sys2Proof.Machine

open Sys2Proof

/-! ## The table (R88 to R91) -/

/-- The state codes of Table 02-9: FREE 0, LIVE 1, SWEEP 2. -/
def entState (w : Word) : Nat := bits w 5 4
/-- GEN of an entry. -/
def entGen (w : Word) : Nat := bits w 3 0
/-- OWNER of an entry. -/
def entOwner (w : Word) : Nat := bits w 15 8
/-- An entry from its fields. -/
def mkEntry (owner st gen : Nat) : Word := BitVec.ofNat 32 (owner % 256 * 256 + st * 16 + gen % 16)

/-- The key of an entry in its window (R88). -/
def linKey (chB : Bool) (i : Nat) : Nat := (if chB then 0x40040000 else 0x40000000) + 4 * i

/-- The stored entry of a copy. -/
def State.linEntry (s : State) (chB : Bool) (i : Nat) : Word := Map.get 0 (if chB then s.linB else s.linA) i

/-- Stores an entry in one copy. -/
def State.setLin (s : State) (chB : Bool) (i : Nat) (w : Word) : State :=
  if chB then { s with linB := Map.put w s.linB i } else { s with linA := Map.put w s.linA i }

/-- Reads the cell of an entry in a copy through the symbol code (R369, Table 10-4): the entry, or none where the read is uncorrectable. -/
def State.linRead (s : State) (chB : Bool) (i src master : Nat) : Option Word × State :=
  let k := linKey chB i
  if s.mem.err (alignDown k 16) = 0 then (some (s.linEntry chB i), s)
  else
    match s.decode k with
    | (.clean c, t) => (some (BitVec.ofNat 32 (c.bits.toNat >>> (32 * (i % 4)))), t)
    | (.ce c pos, t) => (some (s.linEntry chB i), { t.logError k (alignDown k 16) 0 pos src master with ceq := t.ceq ++ [(alignDown k 16, c)] })
    | (.ue ty pos, t) => (none, t.logError k (alignDown k 16) ty pos src master)

/-- Both copies take an entry with a fresh codeword, and write-backs that wait for the cells are dropped (R372). DESIGN CHOICE: the
codeword of the entry's whole cell is fresh, so an error the cell held is gone for its other entries too (notes/assumptions/33.md). -/
def State.setLinBoth (s : State) (i : Nat) (w : Word) : State :=
  let t := (s.setLin false i w).setLin true i w
  let a := alignDown (linKey false i) 16
  let b := alignDown (linKey true i) 16
  { t with mem := (t.mem.setErr a 0).setErr b 0, ceq := t.ceq.filter (fun p => p.1 != a && p.1 != b) }

/-! ## Acknowledgements (R93, R101, R103, R110, R511) -/

/-- Every engine id. -/
def allEngines : List Nat := List.range 1024

/-- An engine invalidates its filter entries of the indices broadcast, and discards a fill in flight, whose check then reads the entry
again (R93, R101). -/
def Engine.dropFilt (x : Engine) (l : List Nat) : Engine :=
  { x with filt := x.filt.filter (fun p => !l.contains p.1), lchk := x.lchk.filter (fun p => !l.contains p.1)
           lfill := match x.lfill with
             | some i => if l.contains i then none else some i
             | none => none }

/-- A cell as the register sweep of R110 leaves it. -/
def sweepCell (i : Nat) (c : Cell) : Cell := if isCap c.kind && capLin c == i then { c with kind := .int } else c

/-- The register sweep of R110: every chuck and every system register that holds a cell. -/
def Engine.sweepRegs (x : Engine) (i : Nat) : Engine :=
  { x with csys := Map.mapVal (sweepCell i) x.csys
           chucks := Map.mapVal (fun c => { c with regs := Map.mapVal (sweepCell i) c.regs, pcc := sweepCell i c.pcc }) x.chucks }

/-- Has an engine completed every access, derivation and store that it checked against an index broadcast (R101). -/
def Engine.drained (x : Engine) (l : List Nat) : Bool :=
  x.sb.isEmpty && x.load.isNone && x.act.isNone && x.lchk.all (fun p => p.2.isNone || !l.contains p.1)

/-- Do an engine's acknowledgements come at once: held (R511), or in a tile that sleeps (R103). -/
def State.acksAtOnce (s : State) (e : Nat) : Bool := (s.engine e).held || decide (1 ≤ s.tileCur (tileOf e))

/-- What an engine does as it acknowledges: the invalidate, for FREE the register sweep, and in a tile that sleeps the clearing of its
whole filter (R103). -/
def State.ackLin (s : State) (e : Nat) : State :=
  s.updEngine e (fun x =>
    let x1 := x.dropFilt s.lin.bidx
    let x2 := if 1 ≤ s.tileCur (tileOf e) then { x1 with filt := [] } else x1
    if s.lin.sweep then x2.sweepRegs s.lin.idx else x2)

/-- Event 1661 with the reaction of class 12. -/
def State.linEvent (s : State) : Nat → State
  | 0 => s
  | n + 1 => ((s.raise 1661).react 12 0).linEvent n

/-- The end of a broadcast: a command reaches its completion, mismatches found outside a command raise their events (R97, R100). -/
def State.linBroadcastEnd (s : State) : State :=
  if s.lin.pend.isEmpty then
    ({ s with lin := { s.lin with bidx := [], sweep := false, solo := 0, phase := if s.lin.phase = LinPhase.bcast then .done else s.lin.phase } }).linEvent s.lin.solo
  else s

/-- Takes engines off those still to acknowledge, as they acknowledge. -/
def State.ackAll (s : State) (l : List Nat) : State :=
  let t := l.foldl (fun u e => u.ackLin e) s
  { t with lin := { t.lin with pend := t.lin.pend.filter (fun e => !l.contains e) } }.linBroadcastEnd

/-- Broadcasts a filter invalidate for an index: every engine is to acknowledge, and those that do so at once have. -/
def State.linBroadcast (s : State) (i : Nat) : State :=
  ({ s with lin := { s.lin with pend := allEngines, bidx := s.lin.bidx ++ [i] } }).ackAll (allEngines.filter s.acksAtOnce)

/-- FILTER_INVALIDATE_ACK (R101, R103, R110): an engine whose accesses checked under the old generation have ended invalidates and
acknowledges; an engine of a tile that sleeps does so through its tile controller. -/
def execFilterInvalidateAck (e : Eid) (s : State) : Host.Outcome State Fault Refusal :=
  let e := e.toNat
  .next (if s.lin.pend.contains e && ((s.engine e).drained s.lin.bidx || s.acksAtOnce e) then s.ackAll [e] else s)

/-- Does an engine that executes nothing acknowledge as the time-out finds it: held, asleep, or halted or stopped with nothing
outstanding (R103, R511). -/
def State.acksIdle (s : State) (e : Nat) : Bool :=
  s.acksAtOnce e || (((s.engine e).dbg.halted || (s.engine e).stopped) && (s.engine e).drained s.lin.bidx)

/-- LIN_BROADCAST_TIMEOUT (R104): the engines that have not acknowledged are stopped as hung, whatever the broadcast is for; a command
completes with TIMEOUT once their accesses have ended. DESIGN CHOICE: so does one that found a MISMATCH, with events 1661 and 1662
(notes/assumptions/33.md). -/
def execLinBroadcastTimeout (s : State) : Host.Outcome State Fault Refusal :=
  let t := s.ackAll (s.lin.pend.filter s.acksIdle)
  if t.lin.pend.isEmpty then .next t
  else
    let u := t.lin.pend.foldl (fun u e => if (u.engine e).stopped then u else u.stopWith e 0 0 1671 1) t
    .next { u with lin := { u.lin with result := if u.lin.phase = .bcast then 6 else u.lin.result } }

/-! ## Comparisons (R99, R100) -/

/-- Writes and broadcasts what R100 states for a mismatch at an index; the event is the caller's. -/
def State.linMismatch (s : State) (i : Nat) : State :=
  let s1 := if s.fld 8 0x14 2 2 = 1 then s else s.setFld 8 0x60 31 16 i
  let s2 := (s1.setFld 8 0x14 2 2 1).setFld 8 0x60 7 0 (min 255 (s.fld 8 0x60 7 0 + 1))
  if i = 0 then s2.setLinBoth 0 0x10
  else (s2.setLinBoth i (mkEntry (entOwner (s.linEntry false i)) 2 (entGen (s.linEntry false i)))).linBroadcast i

/-- A mismatch found outside a command (R100): its event is raised when its handling ends, at once for entry 0. -/
def State.linMismatchSolo (s : State) (i : Nat) : State :=
  if i = 0 then (s.linMismatch 0).linEvent 1 else ({ s with lin := { s.lin with solo := s.lin.solo + 1 } }).linMismatch i

/-- Reads an entry from both copies and compares them (R99): the common value, or none after a mismatch. -/
def State.linCompare (s : State) (i src : Nat) : Option Word × State :=
  let a := s.linRead false i src 0
  let b := a.2.linRead true i src 0
  match a.1, b.1 with
  | some x, some y => if x = y then (some x, b.2) else (none, b.2)
  | _, _ => (none, b.2)

/-- Reads cell `c` of both copies once, four entries in each, and compares them: the entries that differ or that an uncorrectable read
leaves unknown, and whether both reads were good. -/
def State.linCompareCell (s : State) (c src : Nat) : List Nat × Bool × State :=
  let a := s.linRead false (4 * c) src 0
  let b := a.2.linRead true (4 * c) src 0
  let l := (List.range 4).map (fun j => 4 * c + j)
  match a.1, b.1 with
  | some _, some _ => (l.filter (fun i => s.linEntry false i ≠ s.linEntry true i), true, b.2)
  | _, _ => (l, false, b.2)

/-! ## Commands (R95 to R100) -/

/-- The MINT image (LIN_MINT_D0 to D3). -/
def State.mintImage (s : State) : Quad :=
  BitVec.ofNat 128 ((s.reg 8 0x40).toNat + (s.reg 8 0x44).toNat * 2 ^ 32 + (s.reg 8 0x48).toNat * 2 ^ 64 + (s.reg 8 0x4C).toNat * 2 ^ 96)

/-- The MINT target's address. -/
def State.mintAddr (s : State) : Nat := bits (s.reg 8 0x30) 31 4 * 16 + bits (s.reg 8 0x34) 11 0 * 2 ^ 32

/-- Puts a command at its completion, or at its broadcast. -/
def State.linEnd (s : State) (result : Nat) : State := { s with lin := { s.lin with phase := .done, result := result } }

/-- Is a physical address in cluster memory or a usable DRAM row. -/
def State.isMemory (s : State) (pa : Nat) : Bool := match s.region pa with
  | .cluster _ | .dram _ => true
  | _ => false

/-- The mismatch of a command at its index: R100, and completion with MISMATCH once any broadcast has ended. -/
def State.linFail (s : State) (i : Nat) : State :=
  ({ s with lin := { s.lin with found := 1, result := 5, sweep := false, phase := if i = 0 then .done else .bcast } }).linMismatch i

/-- A command writes its entry in both copies, reads both back and compares them, and only then goes on (R99). -/
def State.linWrite (s : State) (i : Nat) (w : Word) (next : State → State) : State :=
  match (s.setLinBoth i w).linCompare i 0xA with
  | (none, t) => t.linFail i
  | (some _, t) => next t

/-- What a command does where both copies hold the entry `v` (Table 02-10). -/
def State.linPerform (s : State) (op i owner : Nat) (v : Word) : State :=
  let bcast := fun (w : Word) (sweep : Bool) =>
    s.linWrite i w (fun t => ({ t with lin := { t.lin with phase := .bcast, result := 0, sweep := sweep } }).linBroadcast i)
  match op with
  | 1 => if entState v = 0 then s.linWrite i (mkEntry owner 1 (entGen v)) (fun t => t.linEnd 0) else s.linEnd 1
  | 2 => if entState v ≠ 1 then s.linEnd 1
         else bcast (if entGen v < 15 then mkEntry (entOwner v) 1 (entGen v + 1) else mkEntry (entOwner v) 2 0) false
  | 3 => if entState v ≠ 1 then s.linEnd 1 else bcast (mkEntry (entOwner v) 2 (entGen v + 1)) false
  | 4 => if entState v ≠ 2 then s.linEnd 1 else bcast (mkEntry 0 0 (entGen v)) true
  | 5 =>
    let c : Cell := { bits := s.mintImage, kind := if s.fld 8 0x50 2 0 = 3 then .sealed else .cap }
    if entState v = 1 ∧ entGen v = capGen c then (s.writeCell s.mintAddr { bits := c.bits, tag := kindTag c.kind }).linEnd 0 else s.linEnd 1
  | _ => s.linEnd 0

/-- CHECK: reads every cell of both copies and compares their entries, then handles the mismatches (R99, R100). -/
def State.linCheckAll (s : State) : State :=
  let r := (List.range 16384).foldl (fun (r : List Nat × State) c =>
    let t := r.2.linCompareCell c 0xA
    (r.1 ++ t.1, t.2.2)) ([], s)
  if r.1.isEmpty then r.2.linEnd 0
  else
    let t := { r.2 with lin := { r.2.lin with found := r.1.length, result := 5, phase := if r.1.all (· == 0) then .done else .bcast } }
    r.1.foldl (fun u i => u.linMismatch i) t

/-- The refusals that R96 makes before the entry is read. -/
def State.linRefused (s : State) (op i : Nat) : Option Nat :=
  let c : Cell := { bits := s.mintImage, kind := if s.fld 8 0x50 2 0 = 3 then .sealed else .cap }
  if i = 0 ∧ 1 ≤ op ∧ op ≤ 4 then some 2
  else if op = 5 ∧ (capMalformed c ∨ capLin c ≠ i) then some 3
  else if op = 5 ∧ ¬s.isMemory s.mintAddr then some 4
  else none

/-- A write to LIN_CMD (R83, R95, R96, R99). -/
def State.linCmd (s : State) (m : Master) (op i owner : Nat) : State :=
  if !isMgmt m then s
  else if 8 ≤ op ∨ (op = 5 ∧ m = .debug) then s.cfgerr 8 0x10
  else if op ≠ 0 ∧ s.fld 8 0x14 0 0 = 1 then s.setFld 8 0x14 1 1 1
  else
    let s1 := (s.setFld 8 0x10 31 16 i).setFld 8 0x10 15 8 owner
    if op = 0 then s1
    else
      let s2 := { (s1.setFld 8 0x14 0 0 1) with lin := { s1.lin with op := op, idx := i, found := 0, result := 0 } }
      if op = 7 then s2.linCheckAll
      else
        match s2.linRefused op i with
        | some r => s2.linEnd r
        | none =>
          match s2.linCompare i 0xA with
          | (none, t) => t.linFail i
          | (some v, t) => t.linPerform op i owner v

/-- The completion of a command: BUSY, RESULT, LIN_ENTRY and the events (R97, R100, R104). -/
def State.linComplete (s : State) : State :=
  let s1 := ((s.setFld 8 0x14 0 0 0).setFld 8 0x14 11 8 s.lin.result).setReg 8 0x18 (s.linEntry false s.lin.idx)
  let s2 := (s1.raise 1660).linEvent s.lin.found
  let s3 := if s.lin.result = 6 then s2.raise 1662 else s2
  { s3 with lin := { s3.lin with phase := .idle, found := 0 } }

/-- LIN_COMMAND_COMPLETE (R97). -/
def execLinCommandComplete (s : State) : Host.Outcome State Fault Refusal :=
  .next (if s.lin.phase = .done then s.linComplete else s)

/-- ALLOC (R96). -/
def execAlloc (m : Master) (idx : BitVec 16) (owner : Byte) (s : State) : Host.Outcome State Fault Refusal :=
  .next (s.admits m 8 0x10 (fun t => t.linCmd m 1 idx.toNat owner.toNat))
/-- REVOKE (R96, R101). -/
def execRevoke (m : Master) (idx : BitVec 16) (s : State) : Host.Outcome State Fault Refusal := .next (s.admits m 8 0x10 (fun t => t.linCmd m 2 idx.toNat 0))
/-- RETIRE (R96, R101). -/
def execRetire (m : Master) (idx : BitVec 16) (s : State) : Host.Outcome State Fault Refusal := .next (s.admits m 8 0x10 (fun t => t.linCmd m 3 idx.toNat 0))
/-- FREE (R96, R110). -/
def execFree (m : Master) (idx : BitVec 16) (s : State) : Host.Outcome State Fault Refusal := .next (s.admits m 8 0x10 (fun t => t.linCmd m 4 idx.toNat 0))
/-- MINT (R96, R98). -/
def execMint (m : Master) (idx : BitVec 16) (s : State) : Host.Outcome State Fault Refusal := .next (s.admits m 8 0x10 (fun t => t.linCmd m 5 idx.toNat 0))
/-- READ (R99). -/
def execRead (m : Master) (idx : BitVec 16) (s : State) : Host.Outcome State Fault Refusal := .next (s.admits m 8 0x10 (fun t => t.linCmd m 6 idx.toNat 0))
/-- CHECK (R99). -/
def execCheck (m : Master) (idx : BitVec 16) (s : State) : Host.Outcome State Fault Refusal := .next (s.admits m 8 0x10 (fun t => t.linCmd m 7 idx.toNat 0))

/-! ## Filters (R92, R93) -/

/-- Installs a LIVE generation in a filter of 64 entries, a full one replacing an entry the LFSR chooses. -/
def State.filtInstall (s : State) (e i g : Nat) : State :=
  let x := s.engine e
  if x.filt.length < 64 then s.setEngine e { x with filt := x.filt ++ [(i, g)] }
  else { (s.setEngine e { x with filt := x.filt.eraseIdx (Config.lfsr s.freeCtr % x.filt.length) ++ [(i, g)] }) with freeCtr := s.freeCtr + 1 }

/-- The read of an entry that a filter miss makes (R92, Table 10-4): the generation that the copy of the engine's own channel holds LIVE,
which is installed, or none. An uncorrectable entry is a mismatch. -/
def State.filtFill (s : State) (e i : Nat) : Option Nat × State :=
  match s.linRead (inB e) i 0xA e with
  | (none, t) => (none, t.linMismatchSolo i)
  | (some v, t) => if entState v = 1 then (some (entGen v), t.filtInstall e i (entGen v)) else (none, t)

/-- LINEAGE_FILTER_FILL (R92): the fill an engine's check waits for returns, and the check is decided by what it read (R102). -/
def execLineageFilterFill (e : Eid) (s : State) : Host.Outcome State Fault Refusal :=
  match (s.engine e.toNat).lfill with
  | none => .next s
  | some i =>
    let r := s.filtFill e.toNat i
    .next (r.2.updEngine e.toNat (fun x => { x with lfill := none, lchk := x.lchk ++ [(i, r.1)] }))

end Sys2Proof.Machine
end

