-- ==== Sys2Proof/Machine/Engine.lean ====
section
/-!
DEFINITION. Machine/Engine.lean: what every engine instruction shares: registers of the running chuck, signatures, trace and counters,
the lineage check and the capability check (Table 02-6), translation (08_translation) and the engine's MPU check.
-/

namespace Sys2Proof.Machine

open Sys2Proof

/-! ## The engine monad -/

/-- How an instruction ends before it completes: an exception, a wait for another command, a halt by a comparator (R565). -/
inductive Abort where
  | exc (x : Exc)
  | wait
  | halt (reason bp : Nat)
  deriving DecidableEq, Repr

/-- Steps of an instruction; the state changes made before an abort stay made. -/
abbrev EM := EStateM Abort State

/-- Raises a cause with EVAL, the register at fault and ACC (Table 07-2). -/
def fault {α : Type} (code val : Nat) (reg : Option Nat) (acc : Nat) : EM α := throw (.exc { code := code, val := val, reg := reg, acc := acc })

/-! ## Registers of the running chuck -/

/-- The chuck an engine runs in. -/
def State.chuck (s : State) (e : Nat) : Chuck := Map.get Chuck.empty (s.engine e).chucks (s.engine e).cur
/-- Applies `f` to the chuck an engine runs in. -/
def State.updChuck (s : State) (e : Nat) (f : Chuck → Chuck) : State :=
  s.updEngine e (fun x => { x with chucks := Map.upd Chuck.empty f x.chucks x.cur })
/-- A general register; c0 is the null cell (R56). -/
def Chuck.reg (c : Chuck) (r : Nat) : Cell := if r = 0 then Cell.null else Map.get Cell.null c.regs r
/-- Writes a general register; c0 ignores it (R56). -/
def Chuck.setReg (c : Chuck) (r : Nat) (v : Cell) : Chuck := if r = 0 then c else { c with regs := Map.put v c.regs r }
/-- A 64-bit register of a chuck; TSTAT that nothing has written has the reset values of R124. -/
def Chuck.sysr (c : Chuck) (n : Nat) : Dword := Map.get (if n = 0 then 0x20300 else 0) c.sys n
/-- Writes a 64-bit register of a chuck. -/
def Chuck.setSysr (c : Chuck) (n : Nat) (v : Dword) : Chuck := { c with sys := Map.put v c.sys n }
/-- A predicate; p0 reads all ones (R121). -/
def Chuck.pred (c : Chuck) (p : Nat) : BitVec 16 := if p = 0 then BitVec.allOnes 16 else Map.get 0 c.preds p
/-- Writes a predicate; p0 ignores it (R121). -/
def Chuck.setPred (c : Chuck) (p : Nat) (v : BitVec 16) : Chuck := if p = 0 then c else { c with preds := Map.put v c.preds p }
/-- An accumulator. -/
def Chuck.acc (c : Chuck) (a : Nat) : Accum := Map.get Accum.zero c.accs a
/-- Writes an accumulator. -/
def Chuck.setAcc (c : Chuck) (a : Nat) (v : Accum) : Chuck := { c with accs := Map.put v c.accs a }

/-- The reset values of the 64-bit engine registers (R306, R327): TCR 0xD, TLBAGE 0x1_0000. -/
def engSysReset (n : Nat) : Dword := if n = 0x10A then 0xD else if n = 0x10C then 0x10000 else 0
/-- A 64-bit engine register of Table 03-14. -/
def State.esys (s : State) (e n : Nat) : Dword := Map.get (engSysReset n) (s.engine e).sys n
/-- Writes a 64-bit engine register. -/
def State.setEsys (s : State) (e n : Nat) (v : Dword) : State := s.updEngine e (fun x => { x with sys := Map.put v x.sys n })
/-- A system register that holds a cell. -/
def State.ecell (s : State) (e n : Nat) : Cell := Map.get Cell.null (s.engine e).csys n
/-- Writes a system register that holds a cell. -/
def State.setEcell (s : State) (e n : Nat) (c : Cell) : State := s.updEngine e (fun x => { x with csys := Map.put c x.csys n })

/-- The slot named by TASKID. -/
def State.curSlot (s : State) (e : Nat) : Slot := Map.get Slot.free (s.engine e).slots (s.engine e).slot
/-- Applies `f` to a slot. -/
def State.updSlot (s : State) (e n : Nat) (f : Slot → Slot) : State :=
  s.updEngine e (fun x => { x with slots := Map.upd Slot.free f x.slots n })

/-- The global task id of a slot of an engine as TASKID names it (R224). -/
def taskIdOf (e slot : Nat) (paired : Bool) : Nat := (if paired then e % 512 else e) * 64 + slot
/-- TASKID (R224, R225). -/
def State.taskId (s : State) (e : Nat) : Nat :=
  (s.curSlot e).paired.toNat * 65536 + taskIdOf e (s.engine e).slot (s.curSlot e).paired
/-- The code of a level (ESTAT.PL, DBG_ESTAT.LEVEL). -/
def Level.code : Level → Nat
  | .t => 0 | .k => 1 | .rest => 2
/-- Does the engine execute a stream task; chuck 7 executes as a control task (R270). -/
def State.stream (s : State) (e : Nat) : Bool := (s.engine e).cur != 7 && bit ((s.chuck e).sysr 0) 16
/-- Is an engine access from a paired context (R345). -/
def State.pairedCtx (s : State) (e : Nat) : Bool := if (s.engine e).level = .t then (s.curSlot e).paired else s.pairedEng e
/-- Is the task named by TASKID in deterministic mode (R218). -/
def State.detMode (s : State) (e : Nat) : Bool := (s.curSlot e).det

/-! ## Signatures, counters and trace -/

/-- Bytes into the signature of an engine of a pair (R395). -/
def State.sigTake (s : State) (e : Nat) (l : List Byte) : State :=
  if s.pairedEng e then s.updEngine e (fun x => { x with sig := crc32cReg x.sig l }) else s

/-- An address as records 0x01 and 0x04 take it: at Rest a channel B engine takes the channel A location (R395). -/
def State.sigAddr (s : State) (e a : Nat) : Nat := if (s.engine e).level = .rest && inB e then channelA a else a

/-- Record 0x01 of a write of `n` bytes at virtual address `a`. -/
def State.sigWrite (s : State) (e a n data : Nat) (k : Kind) : State :=
  s.sigTake e ([0x01] ++ toBytes 7 (s.sigAddr e a) ++ [BitVec.ofNat 8 n] ++ toBytes n data ++ [kindTag k])

/-- Counter `k` of an engine counts an event code where it selects the code (R568). -/
def pmTake (cfg : Word) (code : Nat) (m : Map (BitVec 48)) (k : Nat) : Map (BitVec 48) :=
  if bits cfg (4 * k + 3) (4 * k) = code then Map.upd 0 (· + 1) m k else m

/-- The performance counters of an engine that select an event code count it (R568, Table 05-5A). -/
def State.perf (s : State) (e code : Nat) : State :=
  s.updEngine e (fun x =>
    let m := (List.range 4).foldl (pmTake (Map.get 0 x.dbg.regs 0x200) code) x.dbg.counts
    { x with dbg := { x.dbg with counts := m } })

/-- One trace packet of a source (R566, R567): SYNC goes first, after 1,024 bytes and after an overflow; a full buffer drops it. -/
def State.tracePut (s : State) (k ty : Nat) (body : List Byte) : State :=
  let t := s.trace
  let hdr := fun (ty : Nat) => [BitVec.ofNat 8 (ty * 16 + k * 4)]
  let sync := !t.started || decide (1024 ≤ t.since) || decide (0 < t.lost)
  let n := s.now
  let pre := (if t.lost > 0 then hdr 7 ++ toBytes 2 t.lost else []) ++ (if sync then hdr 1 ++ toBytes 8 n.1.toNat else [])
  let out := pre ++ hdr ty ++ body
  if t.buf.length + out.length > 4096 then
    let s1 := { s with trace := { t with lost := min 0xFFFF (t.lost + 1) } }
    if t.lost = 0 then s1.raise 1922 else s1
  else { (if sync then n.2 else s) with
         trace := { buf := t.buf ++ out, lost := 0, since := if sync then (hdr ty ++ body).length else t.since + out.length, started := true } }

/-- The trace port takes the oldest byte of the buffer (R566). -/
def State.traceOut (s : State) : State := { s with trace := { s.trace with buf := s.trace.buf.drop 1 } }

/-- Trace of an engine to every source that names it; a channel B engine of a pair is traced as its channel A twin (R566, R567). -/
def State.traceEv (s : State) (e ty : Nat) (body : List Byte) : State :=
  if s.fld 0x1E 0x30 31 31 = 1 && s.fld 0x1E 0x10 3 3 == 1 then
    (List.range 4).foldl (fun u k =>
      let src := u.fld 0x1E (0x34 + 4 * k) 9 0
      let src := if u.pairedEng src then src % 512 else src
      if u.fld 0x1E 0x30 k k = 1 ∧ src = e then u.tracePut k ty body else u) s
  else s

/-! ## Integer operands -/

/-- Kinds that an integer operand may have (Table 02-2, first row). -/
def kindInt : Kind → Bool
  | .raw | .int => true
  | .cap | .sealed | .poison => false

/-- An integer operand of 128 bits (R165). -/
def ival128 (e r : Nat) : EM Quad := do
  let c := ((← get).chuck e).reg r
  if kindInt c.kind then pure c.bits else fault 3 0 (some r) 0

/-- ival of R117, with the ACC a fault reports. -/
def ivalA (e r acc : Nat) : EM Dword := do
  let c := ((← get).chuck e).reg r
  if kindInt c.kind then pure (c.bits.setWidth 64) else fault 3 0 (some r) acc

/-- ival of R117. -/
def ival (e r : Nat) : EM Dword := ivalA e r 0

/-- An integer result as a register holds it (R117). -/
def intCell (v : Dword) : Cell := { bits := v.setWidth 128, kind := .int }

/-- Writes a register. -/
def putReg (e r : Nat) (c : Cell) : EM Unit := modify (fun s => s.updChuck e (fun k => k.setReg r c))
/-- wint of R117. -/
def wint (e r : Nat) (v : Dword) : EM Unit := putReg e r (intCell v)

/-! ## The lineage check (R91, R92) -/

/-- The lineage check of a capability. One that the instruction in progress has made stands (R102); a filter miss waits for
LINEAGE_FILTER_FILL, or with `inl` reads the entry here and leaves nothing behind. -/
def linkOk (e : Nat) (c : Cell) (inl : Bool) : EM Bool := do
  let i := capLin c
  if i = 0 then pure (capGen c == 0)
  else
    let x := (← get).engine e
    match (if inl then none else x.lchk.find? (fun p => p.1 == i)) with
    | some p => pure (p.2 == some (capGen c))
    | none =>
      match x.filt.find? (fun p => p.1 == i) with
      | some p =>
        if !inl then modify (fun s => s.updEngine e (fun x => { x with lchk := x.lchk ++ [(i, some p.2)] }))
        pure (p.2 == capGen c)
      | none =>
        if inl then
          let r := ((← get).perf e 10).filtFill e i
          set r.2
          pure (r.1 == some (capGen c))
        else
          modify (fun s => (s.perf e 10).updEngine e (fun x => { x with lfill := some i }))
          throw .wait

/-! ## The capability check (Table 02-6) -/

/-- Tests 2 to 6 of Table 02-6, with what a failure reports. -/
def capSource (e : Nat) (c : Cell) (val : Nat) (reg : Option Nat) (acc : Nat) (inl : Bool) : EM Unit := do
  if c.kind = .poison then fault 3 val reg acc
  else if !isCap c.kind || capMalformed c then fault 4 val reg acc
  else if c.kind = .sealed then fault 7 val reg acc
  else if !(← linkOk e c inl) then fault 8 val reg acc

/-- Tests 2 to 8 of Table 02-6 for `n` bytes at `a` (the SYS part of test 7 is made after translation, R72). -/
def capTests (e : Nat) (c : Cell) (a n : Nat) (need : List Perm) (reg : Option Nat) (acc : Nat) (inl : Bool) : EM Unit := do
  capSource e c a reg acc inl
  if !need.all (capHas c) then fault 6 a reg acc
  else if a < capBase c ∨ capTop c < a + n then fault 5 a reg acc

/-! ## Translation (08_translation) -/

/-- One access to translate: address, class, level, LDU or STU, KGU, walks made here, what a fault reports. -/
structure XReq where
  va : Nat
  acc : Access
  lvl : Level
  user : Bool
  kgu : Bool
  inl : Bool
  reg : Option Nat
  accCode : Nat
  deriving DecidableEq, Repr

/-- The result of a walk (R316): a leaf with its AF, or a cause and subtype. -/
inductive WalkRes where
  | leaf (t : TlbEntry) (af : Bool)
  | fail (code sub : Nat)
  deriving DecidableEq, Repr

/-- Adds a walk-cache entry, a full cache of 64 replacing one at random (R319). -/
def State.wcPut (s : State) (e : Nat) (w : WalkEntry) : State :=
  let c := clusterOf e
  let l := Map.get [] s.wcache c
  if l.length < 64 then { s with wcache := Map.put (l ++ [w]) s.wcache c }
  else { s with wcache := Map.put (l.eraseIdx (Config.lfsr s.freeCtr % 64) ++ [w]) s.wcache c, freeCtr := s.freeCtr + 1 }

/-- A leaf descriptor at level `l` (Table 08-4, R310 to R314). -/
def State.leafOf (s : State) (e va l : Nat) (d : Dword) : WalkRes :=
  let low := if l = 2 then bits d 20 12 else if l = 3 then bits d 29 12 else 0
  let mt := bits d 11 10
  let pa := bits d 43 12 * 4096
  let cont := bit d 8
  if l ≥ 4 then .fail 0x0E (l * 16 + 5)
  else if bits d 63 44 ≠ 0 ∨ low ≠ 0 then .fail 0x0E (l * 16 + 4)
  else if mt = 3 ∨ (mt = 1 ∧ (bit d 5 ∨ bit d 6)) ∨ (cont ∧ l ≠ 1) then .fail 0x0E (l * 16 + 5)
  else if cont ∧ bits d 15 12 ≠ bits (BitVec.ofNat 56 va) 15 12 then .fail 0x0E (l * 16 + 6)
  else
    let shift := if l = 3 then 30 else if l = 2 then 21 else if cont then 16 else 12
    let base := alignDown pa (2 ^ shift)
    let r := s.oneRegion pa 1
    if mt = 2 ∧ r ≠ 1 ∧ r ≠ 3 then .fail 0x0E (l * 16 + 7)
    else
      let twin := (twinLoc base).getD 0
      if mt = 2 ∧ inB e ∧ ((twinLoc base).isNone ∨ (s.oneRegion twin (2 ^ shift) ≠ 2 ∧ s.oneRegion twin (2 ^ shift) ≠ 4)) then .fail 0x0E (l * 16 + 7)
      else
        .leaf { half := va.testBit 55, vbase := va >>> shift, shift := shift, asid := bits (s.esys e 0x10B) 11 0, g := bit d 9, u := bit d 4
                xt := bit d 5, xk := bit d 6, w := bit d 7, df := bit d 3
                mt := if mt = 0 then .normal else if mt = 1 then .device else .mirror
                pbase := if mt = 2 ∧ inB e then twin else base } (bit d 2)

/-- The walk of R316 from the table `tb` at level `l` on. -/
def State.walkFrom (s : State) (e va ttb : Nat) (reloc : Bool) (tb : Nat) : Nat → WalkRes × State
  | 0 => (.fail 0x0A 3, s)
  | n + 1 =>
    let l := n + 1
    let i := if l = 5 then bits (BitVec.ofNat 56 va) 54 48 else bits (BitVec.ofNat 56 va) (12 + 9 * n + 8) (12 + 9 * n)
    let a0 := tb + 8 * i
    let a := if reloc then (twinLoc a0).getD a0 else a0
    if !s.isMemory a then (.fail 0x0E (l * 16 + 1), s)
    else
      match s.readCell a a 4 e with
      | (none, t) => (.fail 0x0E (l * 16 + 2), t)
      | (some m, t) =>
        match kindOfTag m.tag with
        | some .raw | some .int =>
          let d : Dword := BitVec.ofNat 64 (m.bits.toNat >>> (8 * (a % 16)))
          if !bit d 0 then (.fail 0x0A (l * 16 + 3), t)
          else if bit d 1 then
            if l = 1 then (.fail 0x0E (l * 16 + 5), t)
            else if bits d 63 44 ≠ 0 ∨ bits d 11 2 ≠ 0 then (.fail 0x0E (l * 16 + 4), t)
            else
              let next := bits d 43 12 * 4096
              (t.wcPut e { owner := e, half := va.testBit 55, tb := ttb, level := n, vaTag := va >>> (12 + 9 * n), next := next }).walkFrom
                e va ttb reloc next n
          else (t.leafOf e va l d, t)
        | _ => (.fail 0x0E (l * 16 + 3), t)

/-- The deepest walk-cache entry that an address hits at levels 1 to `n - 1` (R316, R319). Entries made under a wider VASZ go on translating
(R307). -/
def wcFind (w : List WalkEntry) (e va ttb : Nat) : Nat → Option WalkEntry
  | 0 => none
  | n + 1 =>
    match wcFind w e va ttb n with
    | some r => some r
    | none => w.find? (fun r => r.owner == e && r.half == va.testBit 55 && r.tb == ttb && r.level == n && r.vaTag == va >>> (12 + 9 * n) && r.level != 0)

/-- The walk of R316 with the walk cache (R318, R319). -/
def State.walkVa (s : State) (e va : Nat) : WalkRes × State :=
  let half := va.testBit 55
  let ttb := bits (s.esys e (if half then 0x109 else 0x108)) 43 12 * 4096
  let l := match bits (s.esys e 0x10A) 1 0 with | 0 => 3 | 1 => 4 | _ => 5
  let reloc := inB e && !half && (s.curSlot e).paired
  match wcFind (Map.get [] s.wcache (clusterOf e)) e va ttb 5 with
  | some w => s.walkFrom e va ttb reloc w.next w.level
  | none => s.walkFrom e va ttb reloc ttb l

/-- Installs a TLB entry: an invalid one is filled, else one chosen by an LFSR is replaced (R325). -/
def State.tlbPut (s : State) (e : Nat) (t : TlbEntry) : State :=
  let x := s.engine e
  if x.tlb.length < 32 then s.setEngine e { x with tlb := x.tlb ++ [t] }
  else { (s.setEngine e { x with tlb := x.tlb.eraseIdx (Config.lfsr s.freeCtr % 32) ++ [t] }) with freeCtr := s.freeCtr + 1 }

/-- R326: does an entry match an address under an ASID. -/
def TlbEntry.hit (t : TlbEntry) (va asid : Nat) : Bool := t.half == va.testBit 55 && va >>> t.shift == t.vbase && (t.g || t.asid == asid)

/-- The physical address a leaf gives. -/
def TlbEntry.pa (t : TlbEntry) (va : Nat) : Nat := t.pbase + va % 2 ^ t.shift

/-- page_check of R321: the cause and subtype, or none. -/
def pageCheck (t : TlbEntry) (af : Bool) (acc : Access) (lvl : Level) (user kgu : Bool) : Option (Nat × Nat) :=
  let k := lvl == .k
  if k && !user && t.u && acc == .exec then some (0x1C, 0)
  else if k && !user && t.u && kgu then some (0x1B, 0)
  else if (lvl == .t || user) && !t.u then some (0x0B, 1)
  else if acc == .write && !t.w then some (0x0B, 2)
  else if acc == .exec && lvl == .t && !t.xt then some (0x0B, 3)
  else if acc == .exec && k && !t.xk then some (0x0B, 4)
  else if !af then some (0x0C, 0)
  else if acc == .write && !t.df then some (0x0D, 0)
  else none

/-- The outcome of a walk for an access: the entry is installed where AF = 1, then checked (R323, R325). -/
def State.walked (s : State) (e va : Nat) (acc : Access) (lvl : Level) (user kgu : Bool) : Except (Nat × Nat) TlbEntry × State :=
  match s.walkVa e va with
  | (.fail c sub, t) => (.error (c, sub), t)
  | (.leaf l af, t) =>
    let u := if af then t.tlbPut e l else t
    match pageCheck l af acc lvl user kgu with
    | some f => (.error f, u)
    | none => (.ok l, u)

/-- EVAL of a translation fault (R324). -/
def xval (va sub : Nat) : Nat := sub * 2 ^ 56 + va % 2 ^ 56

/-- The number of walks that a cluster's walker has under way. -/
def State.walksOn (s : State) (c : Nat) : Nat :=
  ((List.range 8).filter (fun i => (s.engine (8 * c + i)).walk.any WalkReq.started)).length

/-- The walker of a cluster starts one more walk where fewer than two are under way: that of the next engine in the order of local numbers
that waits (R315). -/
def State.walkStart1 (s : State) (c : Nat) : State :=
  if 2 ≤ s.walksOn c then s
  else
    match ((List.range 8).map (fun k => (Map.get 7 s.walkRr c + 1 + k) % 8)).find? (fun i => (s.engine (8 * c + i)).walk.any (fun w => !w.started)) with
    | none => s
    | some i =>
      { (s.updEngine (8 * c + i) (fun x => { x with walk := x.walk.map (fun w => { w with started := true }) })) with
        walkRr := Map.put i s.walkRr c }

/-- The walker of a cluster starts what it can serve. -/
def State.walkServe (s : State) (c : Nat) : State := (s.walkStart1 c).walkStart1 c

/-- A TLB miss: the engine waits for TABLE_WALK, or with `inl` the walk is made here (R315). -/
def tlbMiss (e : Nat) (r : XReq) : EM (Nat × MemType) := do
  if r.inl then
    match (← get).walked e r.va r.acc r.lvl r.user r.kgu with
    | (.error f, t) => set t; fault f.1 (xval r.va f.2) r.reg r.accCode
    | (.ok l, t) => set t; pure (l.pa r.va, l.mt)
  else
    modify (fun s => (s.updEngine e (fun x => { x with walk := some { va := r.va, acc := r.acc, lvl := r.lvl, user := r.user, reg := r.reg
                                                                      accCode := r.accCode, started := false, discard := false } })).walkServe (clusterOf e))
    throw .wait

/-- The tests of R302 before the TLB: the subtype of the Translation Fault an address raises, or none. -/
def State.halfFault (s : State) (e va : Nat) : Option Nat :=
  let tcr := s.esys e 0x10A
  if bit tcr (if va.testBit 55 then 3 else 2) then some 2
  else if (bits tcr 1 0 = 0 ∧ bits (BitVec.ofNat 56 va) 54 39 ≠ 0) ∨ (bits tcr 1 0 = 1 ∧ bits (BitVec.ofNat 56 va) 54 48 ≠ 0) then some 1
  else none

/-- Translation of one access (R301, R302, R321 to R326): the physical address and the leaf's memory type. -/
def translate (e : Nat) (r : XReq) : EM (Nat × MemType) := do
  let s ← get
  if r.lvl = .rest then pure (r.va, plainMt r.va)
  else
    match s.halfFault e r.va with
    | some f => fault 0x0A (xval r.va f) r.reg r.accCode
    | none =>
      match (s.engine e).tlb.filter (fun t => t.hit r.va (bits (s.esys e 0x10B) 11 0)) with
      | [t] =>
        match pageCheck t true r.acc r.lvl r.user r.kgu with
        | some (0x0D, _) =>
          set (s.updEngine e (fun x => { x with tlb := x.tlb.filter (· != t) }))
          tlbMiss e r
        | some f => fault f.1 (xval r.va f.2) r.reg r.accCode
        | none => pure (t.pa r.va, t.mt)
      | [] => tlbMiss e r
      | l =>
        set (s.updEngine e (fun x => { x with tlb := x.tlb.filter (fun t => !l.contains t) }))
        tlbMiss e r

/-! ## The MPU, register space and comparators -/

/-- The MPU check of an engine access (R342 to R345). -/
def mpuE (e pa : Nat) (acc : Access) (lvl : Level) (paired : Bool) (mt : MemType) (reg : Option Nat) (accCode : Nat) : EM Unit := do
  let s ← get
  let r := s.mpuCheck (.engine (BitVec.ofNat 10 e)) pa acc (lvl != .t) paired mt lvl.code (s.taskId e % 65536)
  set r.2
  if r.1 ≠ 0 then fault 0x0F pa reg accCode

/-- The SYS part of test 7 (R72), at the end of rank 9. -/
def sysTest (c : Cell) (a pa : Nat) (reg : Option Nat) (accCode : Nat) : EM Unit := do
  match (← get).region pa with
  | .regs _ _ => if !capHas c .sys then fault 6 a reg accCode
  | _ => pure ()

/-- The address a comparator holds. -/
def bpAddr (m : Map Word) (k : Nat) : Nat :=
  (Map.get 0 m (0x100 + 16 * k)).toNat + bits (Map.get 0 m (0x104 + 16 * k)) 23 0 * 2 ^ 32

/-- Conditions that instruction and data comparators share (R564). -/
def State.bpArmed (s : State) (e k : Nat) : Bool :=
  let x := s.engine e
  let ctl := Map.get 0 x.dbg.regs (0x108 + 16 * k)
  bit ctl 31 && ((x.level == .t && bit ctl 28) || (x.level == .k && bit ctl 29)) &&
  (!bit ctl 27 || bits ctl 11 0 == bits (s.esys e 0x10B) 11 0) && x.dbg.skip != some k

/-- The first of a list of comparators that matches. -/
def bpTake (e : Nat) (hits : List Nat) (val reason acc : Nat) : EM Unit := do
  match hits with
  | [] => pure ()
  | k :: _ =>
    if bit (Map.get 0 ((← get).engine e).dbg.regs (0x108 + 16 * k)) 30 then throw (.halt reason k)
    else fault 0x13 val none acc

/-- Instruction comparators, rank 1. -/
def bpFetch (e a : Nat) : EM Unit := do
  let s ← get
  bpTake e ([0, 1, 2, 3].filter (fun k => s.bpArmed e k && decide (bpAddr (s.engine e).dbg.regs k / 4 = a / 4))) a 3 3

/-- Data comparators, rank 11. -/
def bpData (e a n : Nat) (rd wr : Bool) (acc : Nat) : EM Unit := do
  let s ← get
  let m := (s.engine e).dbg.regs
  bpTake e ([4, 5].filter (fun k =>
    let ctl := Map.get 0 m (0x108 + 16 * k)
    let sz := 2 ^ bits ctl 19 16
    s.bpArmed e k && ((rd && bit ctl 21) || (wr && bit ctl 20)) &&
    decide (alignDown (bpAddr m k) sz < a + n ∧ a < alignDown (bpAddr m k) sz + sz))) a 4 acc

/-- One data access through a capability: tests 1 to 9 of Table 02-6, translation, the SYS test, the MPU and the data comparators
(ranks 8 to 11). -/
structure DReq where
  cap : Cell
  a : Nat
  n : Nat
  need : List Perm
  rd : Bool
  wr : Bool
  align : Bool
  user : Bool
  inl : Bool
  reg : Option Nat
  accCode : Nat
  deriving DecidableEq, Repr

/-- The access of R144: the physical address and memory type. `test9` stands for test 9. -/
def dataAccess (e : Nat) (r : DReq) (test9 : EM Unit) : EM (Nat × MemType) := do
  if r.align ∧ r.a % r.n ≠ 0 then fault 9 r.a r.reg r.accCode
  else
    capTests e r.cap r.a r.n r.need r.reg r.accCode r.inl
    test9
    let s ← get
    let lvl := (s.engine e).level
    let p ← translate e { va := r.a, acc := if r.wr then .write else .read, lvl := lvl, user := r.user, kgu := bit ((s.chuck e).sysr 0) 17
                          inl := r.inl, reg := r.reg, accCode := r.accCode }
    sysTest r.cap r.a p.1 r.reg r.accCode
    if r.rd then mpuE e p.1 .read lvl (s.pairedCtx e) p.2 r.reg 1
    if r.wr then mpuE e p.1 .write lvl (s.pairedCtx e) p.2 r.reg r.accCode
    bpData e r.a r.n r.rd r.wr r.accCode
    pure p

end Sys2Proof.Machine
end

