-- ==== Sys2Proof/Machine/Access.lean ====
section
/-!
DEFINITION. Machine/Access.lean: an engine's memory path: L1 caches, store buffer, cell reads and writes, and the fetch of an
instruction (05_engine_pipeline, 07_exceptions_privilege Table 07-3 ranks 1 to 6).
-/

namespace Sys2Proof.Machine

open Sys2Proof

/-- The memory key of a physical address as an engine reaches it: its own private memory in the window of R41. -/
def keyOf (e pa : Nat) : Nat := if 0x8000000 ≤ pa ∧ pa < 0x8002000 then privKey e (pa - 0x8000000) else pa
/-- The physical address of a key. -/
def paOfKey (k : Nat) : Nat := if 2 ^ 46 ≤ k then 0x8000000 + (k - 2 ^ 46) % 0x2000 else k

/-- Table 08-6, R148, R153 and R43: does the memory path refuse an access of `n` bytes with a Bus Error. -/
def State.busBad (s : State) (pa n : Nat) (mt : MemType) (wr atom : Bool) : Bool :=
  match s.region pa with
  | .none | .lin _ _ => true
  | .xspi => wr || atom
  | .regs _ _ => mt != .device || n != 4 || atom
  | .cluster _ | .priv _ | .dram _ => atom && mt == .device

/-! ## The store buffer (R206) -/

/-- A cell with a buffered store put into it. -/
def SbEntry.apply (b : SbEntry) (c : MCell) : MCell :=
  if b.n = 16 then { bits := BitVec.ofNat 128 b.data, tag := kindTag b.kind } else { bits := mergeBytes c.bits b.ofs b.n b.data, tag := 0 }

/-- A cell as the engine's own buffered stores leave it. -/
def sbOver (sb : List SbEntry) (cell : Nat) (c : MCell) : MCell := sb.foldl (fun c b => if b.cell = cell then b.apply c else c) c

/-- Are `n` bytes from `o` of a cell all held in the buffer. -/
def sbCovers (sb : List SbEntry) (cell o n : Nat) : Bool :=
  (List.range n).all (fun i => sb.any (fun b => b.cell == cell && decide (b.ofs ≤ o + i ∧ o + i < b.ofs + b.n)))

/-- Writes one entry to memory (R206, R298): an uncorrectable merge leaves an imprecise error. -/
def State.sbWrite (s : State) (e : Nat) (b : SbEntry) : State :=
  if b.n = 16 then s.writeCell b.cell { bits := BitVec.ofNat 128 b.data, tag := kindTag b.kind }
  else
    let r := s.mergeCell (b.cell + b.ofs) (paOfKey b.cell) b.n b.data 2 e
    if r.1 then r.2 else r.2.updEngine e (fun x => { x with imp := some (paOfKey b.cell) })

/-- Writes the whole buffer to memory in program order. -/
def State.sbDrain (s : State) (e : Nat) : State :=
  let l := (s.engine e).sb
  l.foldl (fun u b => u.sbWrite e b) (s.updEngine e (fun x => { x with sb := [] }))

/-! ## L1 caches (Table 05-3) -/

/-- The line of a list with a number. -/
def l1Find (l : List L1Line) (line : Nat) : Option L1Line := l.find? (fun x => x.line == line)
/-- The cell at an offset of a line. -/
def L1Line.cell (x : L1Line) (ofs : Nat) : MCell := x.cells.getD (ofs / 16) MCell.poison
/-- The error of the codeword of that cell. -/
def L1Line.err (x : L1Line) (ofs : Nat) : BitVec 176 := x.errs.getD (ofs / 16) 0
/-- A line as a fill installs it, every codeword fresh. -/
def L1Line.filled (line : Nat) (cells : List MCell) : L1Line := { line := line, cells := cells, errs := [] }

/-- The cell that a hit of a line gives (R208): an error of one stored symbol is corrected as the line is read; none where the error is
uncorrectable. No error log covers the L1 caches (10_memory_integrity, Error logs). -/
def State.hitCell (s : State) (l : L1Line) (ofs : Nat) : Option MCell × State :=
  let t := if (errWeight (l.err ofs)).1 ≤ 2 then s else { s with freeCtr := s.freeCtr + 1 }
  match decodeErr (l.cell ofs) (l.err ofs) s.freeCtr with
  | .clean c | .ce c _ => (some c, t)
  | .ue _ _ => (none, t)

/-- The first `n` lines of a set, and every line of the other sets. -/
def l1Keep (sets set : Nat) : Nat → List L1Line → List L1Line
  | _, [] => []
  | n, x :: l =>
    if x.line % sets ≠ set then x :: l1Keep sets set n l
    else
      match n with
      | 0 => l1Keep sets set 0 l
      | m + 1 => x :: l1Keep sets set m l

/-- Reads the four cells of a line from memory, each by its own decoding. -/
def State.readCells (s : State) (key pa src e : Nat) : List (Option MCell) × State :=
  (List.range 4).foldl (fun (r : List (Option MCell) × State) i =>
    let t := r.2.readCell (key + 16 * i) (pa + 16 * i) src e
    (r.1 ++ [t.1], t.2)) ([], s)

/-- Puts a line into L1I, the most recent first: 2 ways, 64 sets, LRU. -/
def Engine.putL1i (x : Engine) (l : L1Line) : Engine :=
  { x with l1i := l :: l1Keep 64 (l.line % 64) 1 (x.l1i.filter (fun y => y.line != l.line)) }

/-- Puts a line into L1D: 4 ways, 32 sets; a full set loses a way that the pseudo-LRU chooses. -/
def State.putL1d (s : State) (e : Nat) (l : L1Line) : State :=
  let x := s.engine e
  let old := x.l1d.filter (fun y => y.line != l.line)
  let set := old.filter (fun y => y.line % 32 == l.line % 32)
  if set.length < 4 then s.setEngine e { x with l1d := l :: old }
  else
    let v := set.getD (Config.plru s.freeCtr % 4) l
    { (s.setEngine e { x with l1d := l :: old.filter (fun y => y.line != v.line) }) with freeCtr := s.freeCtr + 1 }

/-- A write by the engine updates a matching L1D line (R206, R207); a `whole` cell written gets a fresh codeword, a part of one leaves the
error of its cell for the next read of it to find (R208). -/
def Engine.updL1d (x : Engine) (cell : Nat) (whole : Bool) (f : MCell → MCell) : Engine :=
  let at_ := fun (i : Nat) => i == cell % 64 / 16
  { x with l1d := x.l1d.map (fun y => if y.line = cell / 64 then
      { y with cells := y.cells.mapIdx (fun i c => if at_ i then f c else c)
               errs := if whole then y.errs.mapIdx (fun i v => if at_ i then 0 else v) else y.errs }
      else y) }

/-- A matching L1D line is invalidated (R207). -/
def Engine.dropL1d (x : Engine) (cell : Nat) : Engine := { x with l1d := x.l1d.filter (fun y => y.line != cell / 64) }

/-! ## Cells -/

/-- An Uncorrectable Memory Error at a cell (Tables 07-2, 10-4). -/
def ume {α : Type} (pa : Nat) (reg : Option Nat) (acc : Nat) : EM α := fault 0x16 (alignDown pa 16) reg acc

/-- Reads a cell of memory with the engine's own buffered stores over it; an Uncorrectable Memory Error has `val` in EVAL. -/
def readMemVal (e pa src val : Nat) (reg : Option Nat) (acc : Nat) : EM MCell := do
  let s ← get
  let r := s.readCell (keyOf e pa) pa src e
  set r.2
  match r.1 with
  | some c => pure (sbOver (r.2.engine e).sb (alignDown (keyOf e pa) 16) c)
  | none => fault 0x16 val reg acc

/-- Reads a cell of memory; EVAL of an Uncorrectable Memory Error is the cell's address (Tables 07-2, 10-4). -/
def readMem (e pa src : Nat) (reg : Option Nat) (acc : Nat) : EM MCell := readMemVal e pa src (alignDown pa 16) reg acc

/-- The tests on a cell read by a load and the value it gives (test 10 of Table 02-6, R53, R59, R60, R146). -/
def loadValue (base : Cell) (a n : Nat) (sx : Bool) (m : MCell) (reg : Option Nat) : EM Cell := do
  match kindOfTag m.tag with
  | none => fault 3 a reg 1
  | some k =>
    if n = 16 then
      if isCap k && !capHas base .ldc then fault 6 a reg 1 else pure { bits := m.bits, kind := k }
    else if isCap k then fault 3 a reg 1
    else
      let v := bits m.bits (8 * (a % 16 + n) - 1) (8 * (a % 16))
      let w := if sx then wrap 64 (signed (8 * n) v) else v
      pure { bits := BitVec.ofNat 128 w, kind := if k = .poison then .poison else .int }

/-- R94: the kind a capability is written to memory with. -/
def storeKind (e : Nat) (c : Cell) (inl : Bool) : EM Kind := do
  if !isCap c.kind then pure c.kind
  else if ← linkOk e c inl then pure c.kind
  else pure .int

/-- Test 9 of Table 02-6 (R73). -/
def test9 (base v : Cell) (a : Nat) (reg : Option Nat) : EM Unit := do
  if isCap v.kind then
    if !capHas base .stc then fault 6 a reg 2
    else if !capHas v .gbl && !capHas base .stl then fault 6 a reg 2

/-- Performs a checked store to memory: buffered, or at once where the page is DEVICE (R206, Table 05-2). A full buffer, or a buffer
that a DEVICE store must let empty first, waits. -/
def storeMem (e a pa n data : Nat) (k : Kind) (mt : MemType) : EM Unit := do
  let x := (← get).engine e
  let key := keyOf e pa
  let b : SbEntry := { cell := alignDown key 16, ofs := key % 16, n := n, data := data, kind := if n = 16 then k else .raw, sync := false }
  if mt = .device then
    if !x.sb.isEmpty then throw .wait
    modify (fun s => (s.sbWrite e b).updEngine e (fun x => x.updL1d b.cell (n == 16) b.apply))
  else
    if 4 ≤ x.sb.length then throw .wait
    modify (fun s => s.updEngine e (fun x => { (x.updL1d b.cell (n == 16) b.apply) with sb := x.sb ++ [b] }))
  modify (fun s => s.sigWrite e a n data b.kind)

/-! ## Instruction fetch (R76, ranks 1 to 5 of Table 07-3) -/

/-- Reads the line of a fetch from memory, counted under `code`, and installs it in L1I where every cell is correctable; L1I holds no line of
engine-private memory (Table 05-3). -/
def fetchFill (e pa code : Nat) : EM MCell := do
  let key := keyOf e pa
  let priv := decide (2 ^ 46 ≤ key)
  let s ← get
  let r := (if priv then s else s.perf e code).readCells (alignDown key 64) (alignDown pa 64) 1 e
  set (match r.1.mapM id with
    | some cs => if priv then r.2 else r.2.updEngine e (fun x => x.putL1i (L1Line.filled (key / 64) cs))
    | none => r.2)
  match r.1.getD (key % 64 / 16) none with
  | some c => pure c
  | none => ume pa none 3

/-- Reads the cell of a fetch from L1I, filling its line on a miss (L1I_MISS), or again where it holds an uncorrectable error (L1_REFETCH,
R208). -/
def fetchLine (e pa : Nat) : EM MCell := do
  let s ← get
  let key := keyOf e pa
  match l1Find (s.engine e).l1i (key / 64) with
  | none => fetchFill e pa 4
  | some l =>
    match s.hitCell l (key % 64) with
    | (some c, t) =>
      set (t.updEngine e (fun x => x.putL1i l))
      pure c
    | (none, t) =>
      set (t.updEngine e (fun x => { x with l1i := x.l1i.filter (fun y => y.line != key / 64) }))
      fetchFill e pa 7

/-- Fetches the word at PCC (ranks 1 to 5 of Table 07-3); the cursor of PCC is a multiple of 4 (R112, `alignPcc`). -/
def fetch (e : Nat) (inl : Bool) : EM Word := do
  let s ← get
  let pcc := (s.chuck e).pcc
  let a := capCursor pcc
  bpFetch e a
  capTests e pcc a 4 [.ex] none 3 inl
  let lvl := (s.engine e).level
  let p ← translate e { va := a, acc := .exec, lvl := lvl, user := false, kgu := false, inl := inl, reg := none, accCode := 3 }
  sysTest pcc a p.1 none 3
  mpuE e p.1 .exec lvl (s.pairedCtx e) p.2 none 3
  match (← get).region p.1 with
  | .none | .lin _ _ | .regs _ _ => fault 0x15 p.1 none 3
  | .cluster _ | .priv _ | .dram _ | .xspi =>
    let m ← fetchLine e p.1
    match kindOfTag m.tag with
    | some .raw | some .int => pure (BitVec.ofNat 32 (m.bits.toNat >>> (8 * (a % 16))))
    | _ => fault 3 a none 3

/-! ## Decode (R161, R162, R273 to R275) -/

/-- Registers whose SSR needs SYS in PCC (Table 07-1). -/
def ssrSys (n : Nat) : Bool := decide (0x104 ≤ n ∧ n ≤ 0x106) || decide (0x108 ≤ n ∧ n ≤ 0x10C) || n == 0x180 || n == 0x181
/-- Registers that level T may read, and write where they are not read-only (Table 07-1). -/
def sysAtT (n : Nat) : Bool := decide (n < 0x100) || n == 0x10D

/-- The reason a word raises Privileged Instruction, or 0 (R273, R275). -/
def State.privReason (s : State) (e : Nat) (w : Word) : Nat :=
  let t := (s.engine e).level == .t
  let n := bits w 11 0
  let major := wMajor w
  if t && kOnlyWord w then 1
  else if major = 0x25 then (if t && !sysAtT n then 1 else 0)
  else if major = 0x26 then
    (if t && !sysAtT n then 1
     else if !t && ssrSys n && !capHas (s.chuck e).pcc .sys then 2
     else if decide (n = 0x180 ∨ n = 0x181) && s.fld (tileBlk (tileOf e)) 0x300 (e % 32) (e % 32) == 1 then 3
     else 0)
  else 0

/-- Rank 6: Illegal Instruction, then Privileged Instruction (R162). -/
def decodeWord (e : Nat) (w : Word) : EM Unit := do
  let s ← get
  if !legalWord w (s.stream e) (bit (s.esys e 0x10A) 4) then fault 1 w.toNat none 0
  else if s.privReason e w ≠ 0 then fault 2 (w.toNat + s.privReason e w * 2 ^ 32) none 0

/-- R121: is a scalar instruction's guard on. -/
def State.guardOn (s : State) (e : Nat) (w : Word) : Bool :=
  !s.stream e || streamMajor w || bit ((s.chuck e).pred (wG w)) 0

end Sys2Proof.Machine
end

