-- ==== Sys2Proof/Machine/Except.lean ====
section
/-!
DEFINITION. Machine/Except.lean: branch prediction (R210 to R218), the loop-end test, commit and retirement, exception entry at K and
Rest, stops (07_exceptions_privilege), and the issue of one instruction.
-/

namespace Sys2Proof.Machine

open Sys2Proof

/-! ## Prediction (R210 to R218) -/

/-- dir_index of R210. -/
def dirIndex (pc : Nat) (psalt : Dword) : Nat :=
  let v := (pc / 4) ^^^ bits psalt 53 0
  let r := bits psalt 59 54 % 54
  let v := ((v <<< r) ||| (v >>> (54 - r))) % 2 ^ 54
  (v ^^^ (v / 2 ^ 9) ^^^ (v / 2 ^ 18) ^^^ (v / 2 ^ 27) ^^^ (v / 2 ^ 36) ^^^ (v / 2 ^ 45)) % 512

/-- A direction counter as a task reads it: 0b01 where it is not the owner (R211). -/
def Engine.dirRead (x : Engine) (i : Nat) : BitVec 2 :=
  let d := Map.get { val := 1, owner := none } x.dirc i
  if d.owner = some x.slot then d.val else 1

/-- The update of R211. -/
def Engine.dirUpdate (x : Engine) (i : Nat) (taken : Bool) : Engine :=
  let v := (x.dirRead i).toNat
  let d : DirCtr := { val := BitVec.ofNat 2 (if taken then min 3 (v + 1) else v - 1), owner := some x.slot }
  { x with dirc := Map.put d x.dirc i }

/-- Makes or refreshes a BTB entry; a full buffer loses the entry the LFSR chooses (R213). That an invalid place is filled before an entry is
replaced is a DESIGN CHOICE (notes/assumptions/16.md). -/
def State.btbPut (s : State) (e : Nat) (b : BtbEntry) : State :=
  let x := s.engine e
  let l := x.btb.filter (fun y => !(y.task == b.task && y.addr == b.addr))
  if l.length < 32 then s.setEngine e { x with btb := l ++ [b] }
  else { (s.setEngine e { x with btb := l.eraseIdx (Config.lfsr s.freeCtr % 32) ++ [b] }) with freeCtr := s.freeCtr + 1 }

/-- What a committed branch, jump or register jump does to the predictor and its counts (R211 to R214, R218, Table 05-4): `cond` for a
conditional branch, `kind` 0 B, 1 JAL, 2 JR. BR_MISPREDICT counts what costs 3 cycles: a conditional branch mispredicted either way or
predicted to a wrong target, and a JR without its target in the BTB. -/
def State.predict (s : State) (e pc : Nat) (cond taken : Bool) (target kind : Nat) : State :=
  if s.detMode e then s
  else
    let x := s.engine e
    let i := dirIndex pc (s.esys e 0x10D)
    let guess := !cond || decide (2 ≤ (x.dirRead i).toNat)
    let hit := x.btb.find? (fun b => b.task == s.taskId e && b.addr == pc)
    let right := match hit with
      | some b => b.target == target
      | none => false
    let s1 := if taken && hit.isNone then s.perf e 3 else s
    let s2 := if (cond && (guess != taken || (taken && hit.isSome && !right))) || (kind == 2 && !right) then s1.perf e 2 else s1
    let s3 := if cond then s2.updEngine e (fun x => x.dirUpdate i taken) else s2
    if taken then s3.btbPut e { task := s.taskId e, addr := pc, target := target, kind := kind } else s3

/-- The effect of PFLUSH for a slot and TASKID (R215, R216). -/
def Engine.pflush (x : Engine) (slot task : Nat) : Engine :=
  { x with dirc := x.dirc.filter (fun p => p.2.owner != some slot), btb := x.btb.filter (fun b => b.task != task) }

/-! ## Halts and stops -/

/-- The engine halts (R559, R561, R565): event 1920, trace HALT. A coupled halt of the channel A engine names its count to the twin. -/
def State.haltEngine (s : State) (e reason : Nat) (bp : Option Nat) : State :=
  let x := s.engine e
  let d := { x.dbg with halted := true, reason := reason, bp := bp.getD 0, haltReq := none, skip := bp, stepping := false }
  let s1 := ((s.setEngine e { x with dbg := d, lchk := [] }).raise 1920).traceEv e 5 []
  if s.pairedEng e && !inB e && !x.dbg.solo && !x.dbg.stepping then s1.updPair (pairOf e) (fun q => { q with haltAt := some x.commits }) else s1

/-- The stop of R288 at a PCC: event 1672 with its class, and the divergence STOP of a pair. -/
def State.stopAt (s : State) (e orig : Nat) (val : Dword) (epc : Cell) : State :=
  let was := (s.engine e).stopped
  let t := s.stopWith e orig val 1672 14
  if was then t else t.setEcell e 0x100 epc

/-! ## Commit (R181, R390, R395 to R398) -/

/-- The loop-end test of R181 at address x: the address looped back to, if any. -/
def loopEnd (x : Nat) (atK : Bool) : Nat → Chuck → Option Nat × Chuck
  | 0, c => (none, c)
  | k + 1, c =>
    let lc := c.sysr (0x18 + k)
    if bits lc 62 0 ≠ 0 ∧ (c.sysr (0x14 + k)).toNat = x ∧ bit lc 63 = atK then
      if 1 < bits lc 62 0 then (some (c.sysr (0x10 + k)).toNat, c.setSysr (0x18 + k) (lc - 1))
      else loopEnd x atK k (c.setSysr (0x18 + k) 0)
    else loopEnd x atK k c

/-- Record 0x04 and trace FLOW of a taken target. -/
def State.flow (s : State) (e target : Nat) : State :=
  (s.sigTake e ([0x04] ++ toBytes 7 (s.sigAddr e target))).traceEv e 2 (toBytes 7 target)

/-- What a channel B engine that commits the count `n` passes by: an act held for the pair, a read or a decision of channel A of a count
it has now left behind (R392, R393, R401), as the reason and count of the divergence. -/
def Pair.passedByB (q : Pair) (n : Nat) : Option (Nat × Nat) :=
  match q.held.filter (fun h => decide (h.count ≤ n)), q.reads.find? (fun r => decide (r.count ≤ n)), q.decisions.find? (fun d => decide (d.count < n)) with
  | some h, _, _ => some (2, h.count)
  | none, some r, _ => some (3, r.count)
  | none, none, some d => some (6, d.count)
  | none, none, none => none

/-- What a channel A engine that commits the count `n` passes by: a decision that channel B presents, or a Rest entry that channel B took
and channel A did not (R392, R397). -/
def Pair.passedByA (q : Pair) (n : Nat) : Option (Nat × Nat) :=
  match q.bDec.filter (fun d => decide (d.count < n)),
    q.bSigs.find? (fun b => b.kind == .rest && decide (b.count < n) && !q.points.any (fun t => t.count == b.count)) with
  | some d, _ => some (6, d.count)
  | none, some b => some (1, b.count)
  | none, none => none

/-- The commit of an instruction by an engine of a pair: its count, the points of Table 11-3 and the signatures that channel B owes them,
and what the commit passes by. -/
def State.commitPair (s : State) (e : Nat) : State :=
  let p := pairOf e
  let s1 := s.updEngine e (fun x => { x with commits := x.commits + 1 })
  let n := (s1.engine e).commits
  let owed := fun (q : Pair) (t : SigPoint) => (t.kind == .commit && t.count == n) ||
    (t.kind == .rest && decide (t.count < n) && !q.bSigs.any (fun b => b.count == t.count))
  let s2 := s1.updPair p (fun q =>
    { q with bHeld := false
             bSigs := if inB e then q.bSigs ++ (q.points.filter (owed q)).map (fun t => { t with sig := (s1.engine e).sig }) else q.bSigs })
  match if inB e then (s2.pair p).passedByB n else (s2.pair p).passedByA n with
  | some r => s2.divergeAt p r.1 r.2
  | none => if !inB e && (n % 256 == 0 || (s2.pair p).reads.any (fun r => r.count == n)) then s2.addPoint p .commit else s2

/-- An instruction commits: counts, the end of what it checked, and a step ends (R561). -/
def State.commit (s : State) (e : Nat) : State :=
  let s0 := if (s.engine e).level = .t then s.updSlot e (s.engine e).slot (fun t => { t with used := t.used + 1 }) else s
  let s1 := (s0.perf e 1).updEngine e (fun x => { x with lchk := [], dbg := { x.dbg with skip := none } })
  let s2 := if s1.pairedEng e then s1.commitPair e else s1
  if (s2.engine e).dbg.stepping then s2.haltEngine e 2 none else s2

/-- How PCC goes on after an instruction: to the next word with the loop-end test, to a taken target, past a skipped loop body, or
not yet, where the instruction completes later. -/
inductive Next where
  | seq
  | jump (c : Cell)
  | skip (c : Cell)
  | hold
  deriving DecidableEq, Repr

/-- Sets PCC (R112). -/
def State.setPcc (s : State) (e : Nat) (c : Cell) : State := s.updChuck e (fun k => { k with pcc := alignPcc c })

/-- PCC after an instruction that goes on in sequence (R181). -/
def State.advance (s : State) (e : Nat) : State :=
  let c := s.chuck e
  let x := capCursor c.pcc
  let lvl := (s.engine e).level
  let r := if lvl = .rest then (none, c) else loopEnd x (lvl == .k) 3 c
  match r.1 with
  | some t => ((s.updChuck e (fun _ => { r.2 with pcc := alignPcc (withCursor c.pcc t) })).flow e t)
  | none => s.updChuck e (fun _ => { r.2 with pcc := withCursor c.pcc (x + 4) })

/-- Retires an instruction. -/
def State.retire (s : State) (e : Nat) : Next → State
  | .seq => (s.advance e).commit e
  | .jump c => ((s.setPcc e c).flow e (capCursor c)).commit e
  | .skip c => (s.setPcc e c).commit e
  | .hold => s

/-! ## Frames (R285, Table 07-4) -/

/-- The cells of a frame. -/
def State.frameCells (s : State) (e : Nat) (epcKind : Kind) : List Cell :=
  [{ s.ecell e 0x100 with kind := epcKind },
   { bits := (s.esys e 0x101).setWidth 128 + (s.esys e 0x102).setWidth 128 <<< 64, kind := .int },
   { bits := (s.esys e 0x103).setWidth 128, kind := .int }, Cell.null]

/-- Writes one cell to memory at once, past an empty store buffer. -/
def State.writeNow (s : State) (e va pa : Nat) (c : Cell) : State :=
  let key := keyOf e pa
  let m : MCell := { bits := c.bits, tag := kindTag c.kind }
  ((s.writeCell key m).updEngine e (fun x => x.updL1d key true (fun _ => m))).sigWrite e va 16 c.bits.toNat c.kind

/-- push_frame of R285 through the stack register `sr` (KSP or RESTSP): 0, or a subtype of Table 07-5. -/
def State.pushFrame (s : State) (e sr : Nat) (rest : Bool) : Nat × State :=
  let c := s.ecell e sr
  let ep := s.ecell e 0x100
  let a := capCursor c - 64
  if c.kind ≠ .cap ∨ capMalformed c then (1, s)
  else
    match (linkOk e c true).run s with
    | .error _ t => (2, t)
    | .ok false t => (2, t)
    | .ok true t =>
      if !(capHas c .ld && capHas c .st && capHas c .ldc && capHas c .stc) then (3, t)
      else if isCap ep.kind && !capHas ep .gbl && !capHas c .stl then (3, t)
      else if capCursor c % 64 ≠ 0 ∨ capCursor c < capBase c + 64 ∨ capTop c < capCursor c then (4, t)
      else
        match (translate e { va := a, acc := .write, lvl := if rest then .rest else .k, user := false, kgu := true, inl := true
                             reg := none, accCode := 2 }).run t with
        | .error _ u => (5, u)
        | .ok p u =>
          let m := u.mpuCheck (.engine (BitVec.ofNat 10 e)) p.1 .write true (u.pairedEng e) p.2 (if rest then 2 else 1) (u.taskId e % 65536)
          if m.1 ≠ 0 then (6, m.2)
          else if m.2.busBad p.1 16 p.2 true false then (7, m.2)
          else
            let v := m.2.sbDrain e
            let k := match (storeKind e ep true).run v with
              | .ok k w => (k, w)
              | .error _ w => (.int, w)
            let l := k.2.frameCells e k.1
            let w := (List.range 4).foldl (fun u i => u.writeNow e (a + 16 * i) (p.1 + 16 * i) (l.getD i Cell.null)) k.2
            (0, w.setEcell e sr (withCursor c a))

/-! ## Entry (R283 to R286) -/

/-- Does a level run in a task's chuck (ESTAT.TCH). -/
def State.inTask (s : State) (e : Nat) : Bool := (s.engine e).cur != 7

/-- What an entry ends: the reservation (Table 03-12) and everything that waited for the instruction. -/
def Engine.endWork (x : Engine) : Engine :=
  { x with resv := none, walk := none, load := none, lfill := none, lchk := [], long := none }

/-- Record 0x05 and trace EXC of an entry (R395): for a physical address a channel B engine takes in the channel A location. -/
def State.sigExc (s : State) (e code val : Nat) : State :=
  let v := if inB e ∧ (code = 0x0F ∨ code = 0x15 ∨ code = 0x16) then channelA val else val
  (s.sigTake e ([0x05, BitVec.ofNat 8 code] ++ toBytes 8 v)).traceEv e 3 ([BitVec.ofNat 8 code] ++ toBytes 8 val)

/-- Goes to chuck 7 at a level. -/
def State.toLevel (s : State) (e : Nat) (l : Level) : State := s.updEngine e (fun x => { x.endWork with level := l, cur := 7 })

/-- Does the first fetch at PCC raise an exception (R283, R286). -/
def State.firstFetch (s : State) (e : Nat) : Bool × State :=
  match (fetch e true).run s with
  | .error (.exc _) t => (false, t)
  | .error _ t => (true, t)
  | .ok _ t => (true, t)

/-- enter_rest of R286; `epc` is the PCC at which the escalation arose. -/
def State.enterRest (s : State) (e orig : Nat) (val : Nat) (epc : Cell) : State :=
  let v := BitVec.ofNat 64 val
  if (s.engine e).level = .rest then s.stopAt e orig v epc
  else
    let f := s.pushFrame e 0x181 true
    if f.1 ≠ 0 then f.2.stopAt e orig v epc
    else
      let t := f.2
      let st := (t.engine e).level.code + 4 * (t.inTask e).toNat
      let t1 := (((t.setEsys e 0x101 (BitVec.ofNat 64 st)).setEcell e 0x100 epc).setEsys e 0x102 (BitVec.ofNat 64 (orig * 2 ^ 24 + 0x3F))).setEsys e 0x103 v
      let t2 := (t1.toLevel e .rest).sigExc e 0x3F val
      let t3 := t2.restPoint e
      let c := t3.ecell e 0x180
      if c.kind ≠ .cap ∨ capMalformed c then t3.stopAt e orig v epc
      else
        match (linkOk e c true).run t3 with
        | .error _ u => u.stopAt e orig v epc
        | .ok ok u =>
          if !ok || !capHas c .ex then u.stopAt e orig v epc
          else
            let g := (u.setPcc e c).firstFetch e
            if g.1 then g.2 else g.2.stopAt e orig v epc

/-- One cell load at K or Rest through a system register's capability that needs `need`, under a value of KGU, walks and fills made here
(R284, R291). -/
def loadAtK (e : Nat) (c : Cell) (a : Nat) (lvl : Level) (need : List Perm) (kgu : Bool) : EM Cell := do
  if a % 16 ≠ 0 then fault 9 a none 1
  capTests e c a 16 need none 1 true
  let p ← translate e { va := a, acc := .read, lvl := lvl, user := false, kgu := kgu, inl := true, reg := none, accCode := 1 }
  sysTest c a p.1 none 1
  mpuE e p.1 .read lvl ((← get).pairedEng e) p.2 none 1
  if (← get).busBad p.1 16 p.2 false false then fault 0x15 p.1 none 1
  let m ← readMem e p.1 0 none 1
  loadValue c a 16 false m none

/-- vector of R284: the handler capability, or none. The engine executes in chuck 7, whose TSTAT.KGU the load of a TABLE entry is checked
under (R321). -/
def State.vector (s : State) (e v : Nat) : Option Cell × State :=
  let c := s.ecell e 0x105
  let test := fun (h : Cell) (t : State) =>
    match (linkOk e h true).run t with
    | .ok true u => (if capHas h .ex then some h else none, u)
    | .ok false u => (none, u)
    | .error _ u => (none, u)
  if bits (s.esys e 0x106) 1 0 = 0 then
    if c.kind ≠ .cap ∨ capMalformed c ∨ capCursor c % 128 ≠ 0 then (none, s)
    else
      let r := test c s
      (r.1.map (fun h => withCursor h (capCursor h + 128 * v)), r.2)
  else
    match (loadAtK e c ((capCursor c + 16 * v) % 2 ^ 56) .k [.ld] (bit ((s.chuck e).sysr 0) 17)).run s with
    | .error _ t => (none, t)
    | .ok d t =>
      if d.kind ≠ .sealed ∨ capOtype d ≠ 0xFE then (none, t)
      else test { bits := setBits d.bits 127 120 0, kind := .cap } t

/-- enter_k of R283 and the stop of R288 at Rest. -/
def State.enterK (s : State) (e : Nat) (x : Exc) (epc : Cell) (imp : Bool) : State :=
  match (s.engine e).level with
  | .rest => s.stopAt e x.code (BitVec.ofNat 64 x.val) epc
  | lvl =>
    let f := if lvl = .k then s.pushFrame e 0x104 false else (0, s)
    if f.1 ≠ 0 then f.2.enterRest e 0x19 (x.code * 256 + f.1) epc
    else
      let t := f.2
      let st := lvl.code + 4 * (t.inTask e).toNat + 8 * (lvl == .k).toNat + 128 * imp.toNat
      let cause := x.code + x.acc * 2 ^ 16 + (match x.reg with
        | some r => 2 ^ 13 + r * 256
        | none => 0)
      let t1 := (((t.setEcell e 0x100 epc).setEsys e 0x101 (BitVec.ofNat 64 st)).setEsys e 0x103 (BitVec.ofNat 64 x.val)).setEsys e 0x102
        (BitVec.ofNat 64 cause)
      let t2 := (t1.toLevel e .k).sigExc e x.code x.val
      let h := t2.vector e x.code
      match h.1 with
      | none => h.2.enterRest e 0x19 (x.code * 256 + 8) epc
      | some c =>
        let g := (h.2.setPcc e c).firstFetch e
        if g.1 then g.2 else g.2.enterRest e 0x19 (x.code * 256 + 9) epc

/-- What the end of an instruction before its completion does to the state. -/
def State.takeAbort (s : State) (e : Nat) : Abort → State
  | .wait => s
  | .halt r k => s.haltEngine e r (some k)
  | .exc x =>
    let t := s.enterK e x (s.chuck e).pcc false
    if (t.engine e).dbg.stepping && !(t.engine e).stopped then t.haltEngine e 2 none else t

/-! ## Issue -/

/-- Does the running task have to leave at the next preemption point, or does a READY task of higher priority wait (R227, R249). -/
def State.decisionDue (s : State) (e : Nat) : Bool :=
  let t := s.curSlot e
  t.suspendReq || t.unbindReq || (s.engine e).slots.any (fun p => p.2.st == .ready && decide (t.prio.toNat < p.2.prio.toNat))

/-- Is the slice of a paired task, as its dispatch took it (R232), used up (R267). -/
def State.sliceDue (s : State) (e : Nat) : Bool :=
  let t := s.curSlot e
  s.pairedEng e && t.sliceNow != 0 && decide (256 * t.sliceNow.toNat ≤ t.used)

/-- Is an asynchronous entry due at level T (R279). The channel B scheduler of a pair goes by the decisions that channel A has sent it
for its count, and by the decision it presents itself (R266, R392); a decision that channel A made after a WAIT waits for channel B's. -/
def State.asyncDue (s : State) (e : Nat) : Bool :=
  if s.pairedEng e && inB e then
    (s.pair (pairOf e)).bDec.isSome ||
    (s.pair (pairOf e)).decisions.any (fun d => decide (d.count ≤ (s.engine e).commits) && !d.idle)
  else s.sliceDue e || s.decisionDue e || (s.curSlot e).pend &&& (s.curSlot e).emask != 0

/-- Does an engine execute: nothing outstanding, and at level T a RUNNING task with no asynchronous entry due (R279). An imprecise error
waits for the end of a long instruction at K or Rest, which has no boundary inside (R192, R298). -/
def State.ready (s : State) (e : Nat) : Bool :=
  let x := s.engine e
  !x.held && !x.stopped && !x.dbg.halted && x.dbg.haltReq.isNone && !x.resetPend && (x.imp.isNone || (x.long.isSome && x.level != .t)) &&
  s.tileCur (tileOf e) == 0 && x.sw.isNone && x.walk.isNone && x.load.isNone && x.lfill.isNone && x.act.isNone && !x.bcast &&
  (x.level != .t || (x.running && !s.asyncDue e))

/-- Is a word a WAIT. -/
def isWait (w : Word) : Bool := wMajor w == 0x27 && wFunc w == 0x10

/-- Has the channel A engine waited, without a commit, where its channel B twin stands (R253, R266): its next decision for that count was
made with no task RUNNING, or it stands there so. -/
def State.twinWaits (s : State) (e : Nat) : Bool :=
  let a := s.engine (twinOf e)
  let b := s.engine e
  s.pairedEng e && inB e && match (s.pair (pairOf e)).decisions with
  | d :: _ => d.idle && decide (d.count ≤ b.commits)
  | [] => a.commits == b.commits && a.level == .t && !a.running

/-- R391, R561: may an engine of a pair commit at its count. -/
def State.pairGo (s : State) (e : Nat) : Bool :=
  if s.pairedEng e && inB e then
    let b := s.engine e
    let a := s.engine (twinOf e)
    let q := s.pair (pairOf e)
    (decide (b.commits < a.commits) || (b.commits == a.commits && q.held.isSome)) &&
    (b.dbg.stepping || match q.haltAt with
      | some c => decide (b.commits < c)
      | none => true)
  else true

/-- The guarded-off form of a scalar instruction (R122); a B is then a conditional branch not taken (R212, R396). -/
def guardedOff (e : Nat) (w : Word) : EM Next := do
  if wMajor w = 0x21 then
    modify (fun s => (s.predict e (capCursor (s.chuck e).pcc) true false 0 0).sigTake e [0x03, 0x00])
  pure .seq

/-- An instruction from its decode on: the guard, then what it does. -/
def execute (e : Nat) (w : Word) (body : EM Next) : EM Next := do
  decodeWord e w
  if (← get).guardOn e w then body else guardedOff e w

/-- The command of an engine instruction: the engine fetches at PCC; where the word fetched is `w` it executes it (R161, R196, R197).
A channel B engine that may not commit yet is held (R391), but for a
WAIT that waits where channel A waits. -/
def State.issue (s : State) (e : Nat) (w : Word) (body : EM Next) : State :=
  if !s.ready e || (s.engine e).long.isSome then s
  else if !s.pairGo e && !(isWait w && s.twinWaits e) then s.updPair (pairOf e) (fun q => { q with bHeld := true })
  else
    match (fetch e false).run s with
    | .error a t => t.takeAbort e a
    | .ok v t =>
      if v ≠ w then s
      else
        match (execute e w body).run t with
        | .error a u => u.takeAbort e a
        | .ok nx u => u.retire e nx

/-- An engine instruction as a command. -/
def run1 (s : State) (e : Eid) (w : Word) (body : Nat → EM Next) : Host.Outcome State Fault Refusal := .next (s.issue e.toNat w (body e.toNat))

end Sys2Proof.Machine
end

