-- ==== Sys2Proof/Machine/Operands.lean ====
section
/-!
DEFINITION. Machine/Operands.lean: the operand forms of the instructions: a register as a cell, and the addressing modes of loads and
stores (R140 to R143, R177, Table 03-10).
-/

namespace Sys2Proof.Machine

open Sys2Proof

/-- A general register of the running chuck. -/
def getReg (e : Nat) (r : Reg) : EM Cell := do
  pure (((← get).chuck e).reg r.toNat)

/-- The address forms of R140 and Table 03-10. -/
inductive Addr where
  | ofs (imm : Imm13)
  | idx (ix : Reg) (lg : Nat)
  | post (imm : Reg)
  | modulo (k : Nat)
  | rev (k : Nat)
  deriving DecidableEq, Repr

/-- The address form of an M-format MODE and IX for an access of 2^lg bytes (R142). -/
def addrOf (mode : BitVec 3) (ix : Reg) (lg : Nat) : Addr :=
  match mode.toNat with
  | 0 => .idx ix lg | 1 => .post ix | 2 => .modulo (bits ix 1 0) | _ => .rev (bits ix 1 0)

/-- modaddr of R177 on the value of MODk: the address and the new cursor, or none for its Alignment Fault. -/
def modaddr (md : Dword) (c : Cell) (n : Nat) (rev : Bool) : Option (Nat × Nat) :=
  let len := bits md 27 0
  let step := signed 16 (bits md 47 32) * n
  if len = 0 ∨ len % n ≠ 0 then none
  else
    let b := capBase c
    let o : Nat := (capCursor c + 2 ^ 56 - b) % 2 ^ 56 % len
    let q := len / n
    let nc := (b + (((o : Int) + step) % (len : Int)).toNat) % 2 ^ 56
    if !rev then some ((b + o) % 2 ^ 56, nc)
    else if 2 ^ Nat.log2 q ≠ q then none
    else some ((b + bitrev (Nat.log2 q) (o / n) * n + o % n) % 2 ^ 56, nc)

/-- The address of an access of `n` bytes and the new cursor of its base, if the mode writes one (R140, R142, R177). EVAL of modaddr's Alignment
Fault, where no address is formed, is the cursor: a DESIGN CHOICE (notes/assumptions/60.md). -/
def Addr.eval (f : Addr) (e : Nat) (base : Cell) (n : Nat) (reg : Option Nat) (acc : Nat) : EM (Nat × Option Nat) := do
  let cur := capCursor base
  let md := fun (k : Nat) (rev : Bool) => show EM (Nat × Option Nat) from do
    if !isCap base.kind || capMalformed base then pure (cur, none)
    else
      match modaddr (((← get).chuck e).sysr (0x20 + k)) base n rev with
      | none => fault 9 cur reg acc
      | some r => pure (r.1, some r.2)
  match f with
  | .ofs imm => pure ((cur + (imm.signExtend 56).toNat) % 2 ^ 56, none)
  | .idx ix lg =>
    let x ← ivalA e ix.toNat acc
    pure ((cur + x.toNat * 2 ^ lg) % 2 ^ 56, none)
  | .post imm => pure (cur, some ((cur + wrap 56 (signed 5 imm.toNat * n)) % 2 ^ 56))
  | .modulo k => md k false
  | .rev k => md k true

end Sys2Proof.Machine
end

