-- ==== Sys2Proof/Machine/CapInstr.lean ====
section
/-!
DEFINITION. Machine/CapInstr.lean: the capability instructions (R77 to R82, R138, R139, Tables 02-2 and 02-7).
-/

namespace Sys2Proof.Machine

open Sys2Proof

/-- A capability source (R77, R78): tests 2 to 6 of Table 02-6, EVAL 0. -/
def capReg (e : Nat) (r : Reg) : EM Cell := do
  let c ← getReg e r
  capSource e c 0 (some r.toNat) 0 false
  pure c

/-- The sealed operand of COPEN (Table 02-2). -/
def sealedReg (e : Nat) (r : Reg) : EM Cell := do
  let c ← getReg e r
  if c.kind = .poison then fault 3 0 (some r.toNat) 0
  else if !isCap c.kind || capMalformed c then fault 4 0 (some r.toNat) 0
  else if c.kind = .cap then fault 7 0 (some r.toNat) 0
  else if !(← linkOk e c false) then fault 8 0 (some r.toNat) 0
  pure c

/-- R79: a result of lineage 0 needs level K or Rest and SYS in PCC. -/
def rule79 (e : Nat) (c : Cell) (r : Reg) : EM Unit := do
  let s ← get
  if capLin c = 0 ∧ ((s.engine e).level = .t ∨ capHas (s.chuck e).pcc .sys = false) then fault 6 0 (some r.toNat) 0

/-- Is a cursor within a capability's bounds. -/
def inBounds (c : Cell) (a : Nat) : Bool := decide (capBase c ≤ a ∧ a < capTop c)

/-- CMOVE (Table 02-7). -/
def cmoveBody (rd rs1 : Reg) (e : Nat) : EM Next := do
  putReg e rd.toNat (← getReg e rs1)
  pure .seq

/-- CMOVE.SET, CMOVE.ADD and CMOVE.ADDI: the new cursor from the old one and an integer (R67). -/
def moveEnd (e : Nat) (rd rs1 : Reg) (f : Nat → Nat → Nat) (y : Dword) : EM Next := do
  let c ← capReg e rs1
  putReg e rd.toNat (cursorMove c (f (capCursor c) y.toNat))
  pure .seq

/-- A cursor move by a register. -/
def moveBody (f : Nat → Nat → Nat) (rd rs1 rs2 : Reg) (e : Nat) : EM Next := do
  moveEnd e rd rs1 f (← ival e rs2.toNat)

/-- CNARROW (R68, Table 02-7). -/
def cnarrowBody (rd rs1 rs2 : Reg) (e : Nat) : EM Next := do
  let l ← ival e rs2.toNat
  let c ← capReg e rs1
  rule79 e c rs1
  let b := capCursor c
  match capEncode b l.toNat with
  | none => fault 5 0 (some rs1.toNat) 0
  | some (ex, bm, lm) =>
    if b < capBase c ∨ capTop c < b + l.toNat then fault 5 0 (some rs1.toNat) 0
    else
      putReg e rd.toNat { c with bits := setBits (setBits (setBits c.bits 61 56 ex) 75 62 bm) 89 76 lm }
      pure .seq

/-- CMASK (Table 02-7). -/
def cmaskBody (rd rs1 rs2 : Reg) (e : Nat) : EM Next := do
  let m ← ival e rs2.toNat
  let c ← capReg e rs1
  rule79 e c rs1
  putReg e rd.toNat { c with bits := setBits c.bits 99 90 (Nat.land (capPerm c) (bits m 9 0)) }
  pure .seq

/-- CSEAL (R81, Table 02-7). -/
def csealBody (rd rs1 rs2 : Reg) (e : Nat) : EM Next := do
  let c ← capReg e rs1
  let a ← capReg e rs2
  let cur := capCursor a
  if !capHas a .seal || (decide (0xF0 ≤ cur ∧ cur ≤ 0xFF) && !capHas a .sys) then fault 6 0 (some rs2.toNat) 0
  else
    rule79 e c rs1
    if !inBounds a cur || decide (cur < 1 ∨ 0xFF < cur) then fault 5 0 (some rs2.toNat) 0
    else
      putReg e rd.toNat { bits := setBits c.bits 127 120 cur, kind := .sealed }
      pure .seq

/-- COPEN (Table 02-7): GBL of the result is GBL of both. -/
def copenBody (rd rs1 rs2 : Reg) (e : Nat) : EM Next := do
  let c ← sealedReg e rs1
  let a ← capReg e rs2
  let cur := capCursor a
  if !capHas a .unseal || cur != capOtype c then fault 6 0 (some rs2.toNat) 0
  else
    rule79 e c rs1
    if !inBounds a cur then fault 5 0 (some rs2.toNat) 0
    else
      putReg e rd.toNat { bits := setBit (setBits c.bits 127 120 0) 99 (capHas c .gbl && capHas a .gbl), kind := .cap }
      pure .seq

/-- CKIND: the kind of the register (Table 02-2). -/
def ckindBody (rd rs1 : Reg) (e : Nat) : EM Next := do
  let c ← getReg e rs1
  wint e rd.toNat (BitVec.ofNat 64 (kindCode c.kind))
  pure .seq

/-- The other field extractors (Table 02-2): `f` of a CAP or SEALED cell, `d` of a RAW or INT cell, Kind Fault for POISON. -/
def extract (f d : Cell → Nat) (rd rs1 : Reg) (e : Nat) : EM Next := do
  let c ← getReg e rs1
  if c.kind = .poison then fault 3 0 (some rs1.toNat) 0
  else
    wint e rd.toNat (BitVec.ofNat 64 (if isCap c.kind then f c else d c))
    pure .seq

/-- CLEN.R and CLEN.M (R69, R139). -/
def lenBody (f : Dword → Dword) (rd rs1 : Reg) (e : Nat) : EM Next := do
  let x ← ival e rs1.toNat
  wint e rd.toNat (f x)
  pure .seq

/-- CMOVE (R77). -/
def execCmove (e : Eid) (g : Grd) (rd rs1 : Reg) (s : State) : Host.Outcome State Fault Refusal := run1 s e (encR g 0x0D rd rs1 0 0x00) (cmoveBody rd rs1)

/-- CMOVE.SET (R77). -/
def execCmoveSet (e : Eid) (g : Grd) (rd rs1 rs2 : Reg) (s : State) : Host.Outcome State Fault Refusal := run1 s e (encR g 0x0D rd rs1 rs2 0x01) (moveBody (fun _ y => y) rd rs1 rs2)

/-- CMOVE.ADD (R77). -/
def execCmoveAdd (e : Eid) (g : Grd) (rd rs1 rs2 : Reg) (s : State) : Host.Outcome State Fault Refusal := run1 s e (encR g 0x0D rd rs1 rs2 0x02) (moveBody (· + ·) rd rs1 rs2)

/-- CMOVE.ADDI (R138): offset sext(imm13), modulo 2^56. -/
def execCmoveAddi (e : Eid) (g : Grd) (rd rs1 : Reg) (imm : Imm13) (s : State) : Host.Outcome State Fault Refusal :=
  run1 s e (encI g 0x0E rd rs1 imm) (fun n => moveEnd n rd rs1 (· + ·) (imm.signExtend 64))

/-- CNARROW (R77). -/
def execCnarrow (e : Eid) (g : Grd) (rd rs1 rs2 : Reg) (s : State) : Host.Outcome State Fault Refusal := run1 s e (encR g 0x0D rd rs1 rs2 0x08) (cnarrowBody rd rs1 rs2)

/-- CMASK (R77). -/
def execCmask (e : Eid) (g : Grd) (rd rs1 rs2 : Reg) (s : State) : Host.Outcome State Fault Refusal := run1 s e (encR g 0x0D rd rs1 rs2 0x09) (cmaskBody rd rs1 rs2)

/-- CSEAL (R77, R81). -/
def execCseal (e : Eid) (g : Grd) (rd rs1 rs2 : Reg) (s : State) : Host.Outcome State Fault Refusal := run1 s e (encR g 0x0D rd rs1 rs2 0x0A) (csealBody rd rs1 rs2)

/-- COPEN (R77). -/
def execCopen (e : Eid) (g : Grd) (rd rs1 rs2 : Reg) (s : State) : Host.Outcome State Fault Refusal := run1 s e (encR g 0x0D rd rs1 rs2 0x0B) (copenBody rd rs1 rs2)

/-- CKIND (R139). -/
def execCkind (e : Eid) (g : Grd) (rd rs1 : Reg) (s : State) : Host.Outcome State Fault Refusal := run1 s e (encR g 0x0D rd rs1 0 0x10) (ckindBody rd rs1)

/-- CKIND.PERM (R139). -/
def execCkindPerm (e : Eid) (g : Grd) (rd rs1 : Reg) (s : State) : Host.Outcome State Fault Refusal := run1 s e (encR g 0x0D rd rs1 0 0x11) (extract capPerm (fun _ => 0) rd rs1)

/-- CKIND.OTYPE (R139). -/
def execCkindOtype (e : Eid) (g : Grd) (rd rs1 : Reg) (s : State) : Host.Outcome State Fault Refusal := run1 s e (encR g 0x0D rd rs1 0 0x12) (extract capOtype (fun _ => 0) rd rs1)

/-- CKIND.LIN: LIN and GEN in bits [19:0] (R139). -/
def execCkindLin (e : Eid) (g : Grd) (rd rs1 : Reg) (s : State) : Host.Outcome State Fault Refusal := run1 s e (encR g 0x0D rd rs1 0 0x13) (extract (fun c => capLin c * 16 + capGen c) (fun _ => 0) rd rs1)

/-- CBASE (R139). -/
def execCbase (e : Eid) (g : Grd) (rd rs1 : Reg) (s : State) : Host.Outcome State Fault Refusal := run1 s e (encR g 0x0D rd rs1 0 0x14) (extract capBase (fun _ => 0) rd rs1)

/-- CBASE.CUR (R139). -/
def execCbaseCur (e : Eid) (g : Grd) (rd rs1 : Reg) (s : State) : Host.Outcome State Fault Refusal := run1 s e (encR g 0x0D rd rs1 0 0x15) (extract capCursor capCursor rd rs1)

/-- CLEN (R139). -/
def execClen (e : Eid) (g : Grd) (rd rs1 : Reg) (s : State) : Host.Outcome State Fault Refusal := run1 s e (encR g 0x0D rd rs1 0 0x16) (extract (fun c => capTop c - capBase c) (fun _ => 0) rd rs1)

/-- CLEN.R (R69). -/
def execClenR (e : Eid) (g : Grd) (rd rs1 : Reg) (s : State) : Host.Outcome State Fault Refusal := run1 s e (encR g 0x0D rd rs1 0 0x17) (lenBody clenR rd rs1)

/-- CLEN.M (R69). -/
def execClenM (e : Eid) (g : Grd) (rd rs1 : Reg) (s : State) : Host.Outcome State Fault Refusal := run1 s e (encR g 0x0D rd rs1 0 0x18) (lenBody clenM rd rs1)

end Sys2Proof.Machine
end

