-- ==== Sys2Proof/Machine/Integer.lean ====
section
/-!
DEFINITION. Machine/Integer.lean: the integer instructions (03_isa_core, R125 to R133).
-/

namespace Sys2Proof.Machine

open Sys2Proof

/-- TSTAT of the running chuck. -/
def State.tstat (s : State) (e : Nat) : Dword := (s.chuck e).sysr 0

/-- setflags of R128: N, Z, C and V of TSTAT, in a control task only (R119). -/
def setFlags (e : Nat) (f : Flagged) : EM Unit :=
  modify (fun s => if s.stream e then s else
    s.updChuck e (fun c => c.setSysr 0 (setBits (c.sysr 0) 3 0 (f.res.msb.toNat * 8 + (f.res == 0).toNat * 4 + f.c.toNat * 2 + f.v.toNat))))

/-- The end of an integer instruction (R128, R129): Integer Overflow where it traps and TSTAT.OVE is 1, else flags and, where it
writes one, the result. -/
def aluEnd (e : Nat) (rd : Reg) (traps wr : Bool) (f : Flagged) : EM Next := do
  if f.v && traps && bit ((← get).tstat e) 9 then fault 0x11 f.res.toNat (some rd.toNat) 0
  else
    setFlags e f
    if wr then wint e rd.toNat f.res
    pure .seq

/-- A function of two integer registers. -/
def alu2 (f : Dword → Dword → Flagged) (traps wr : Bool) (rd rs1 rs2 : Reg) (e : Nat) : EM Next := do
  let x ← ival e rs1.toNat
  let y ← ival e rs2.toNat
  aluEnd e rd traps wr (f x y)

/-- A function of one integer register. -/
def alu1 (f : Dword → Flagged) (traps : Bool) (rd rs1 : Reg) (e : Nat) : EM Next := do
  let x ← ival e rs1.toNat
  aluEnd e rd traps true (f x)

/-- A function of a register and sext(imm13, 64) (R126). -/
def aluI (f : Dword → Dword → Flagged) (traps wr : Bool) (rd rs1 : Reg) (imm : Imm13) (e : Nat) : EM Next := do
  let x ← ival e rs1.toNat
  aluEnd e rd traps wr (f x (imm.signExtend 64))

/-- Division (R128): a zero divisor sets TSTAT.DZ, and DIV then traps where TSTAT.DZE is 1. -/
def aluDiv (f : Dword → Dword → Flagged) (isDiv : Bool) (rd rs1 rs2 : Reg) (e : Nat) : EM Next := do
  let x ← ival e rs1.toNat
  let y ← ival e rs2.toNat
  if y = 0 then
    modify (fun s => s.updChuck e (fun c => c.setSysr 0 (setBit (c.sysr 0) 4 true)))
    if isDiv && bit ((← get).tstat e) 8 then fault 0x10 x.toNat (some rd.toNat) 0
    else aluEnd e rd isDiv true (f x y)
  else aluEnd e rd isDiv true (f x y)

/-- The shift that SHI selects by imm13[8:6] (R127); the other values are Illegal Instruction. -/
def shiFn (op : Nat) : Dword → Dword → Flagged :=
  match op with
  | 0 => sllF | 1 => srlF | 2 => sraF | 3 => rolF | _ => rorF

/-- SHI (R127). -/
def shiBody (rd rs1 : Reg) (imm : Imm13) (e : Nat) : EM Next := do
  let x ← ival e rs1.toNat
  aluEnd e rd false true (shiFn (bits imm 8 6) x (BitVec.ofNat 64 (bits imm 5 0)))

/-- Does a condition of Table 03-4 hold under TSTAT. -/
def condT (t : Dword) (code : Nat) : Bool := condHolds code (bit t 3) (bit t 2) (bit t 1) (bit t 0)

/-- The selector of SELECT (R133): a condition in a control task, a predicate's bit 0 in a stream task. -/
def State.selector (s : State) (e : Nat) (cond : Cnd) : Bool :=
  if s.stream e then bit ((s.chuck e).pred (bits cond 2 0)) 0 else condT (s.tstat e) cond.toNat

/-- SEL (R133). -/
def selBody (cond : Cnd) (rd rs1 rs2 : Reg) (e : Nat) : EM Next := do
  let x ← ival e rs1.toNat
  let y ← ival e rs2.toNat
  wint e rd.toNat (if (← get).selector e cond then x else y)
  pure .seq

/-- CMOV (R133): rd is left as it is where the selector is false. -/
def cmovBody (cond : Cnd) (rd rs1 : Reg) (e : Nat) : EM Next := do
  let x ← ival e rs1.toNat
  if (← get).selector e cond then wint e rd.toNat x
  pure .seq

/-- MOVI (R132). -/
def moviBody (rd : Reg) (imm : Imm18) (e : Nat) : EM Next := do
  wint e rd.toNat (imm.signExtend 64)
  pure .seq

/-- MOVK (R132). -/
def movkBody (rd : Reg) (imm : Imm18) (e : Nat) : EM Next := do
  let x ← ival e rd.toNat
  wint e rd.toNat (movkR x imm)
  pure .seq

/-- ADD (R125, R128, Table 03-5). -/
def execAdd (e : Eid) (g : Grd) (rd rs1 rs2 : Reg) (s : State) : Host.Outcome State Fault Refusal := run1 s e (encR g 1 rd rs1 rs2 0x00) (alu2 addF true true rd rs1 rs2)

/-- ADDU (R125, R128, Table 03-5). -/
def execAddu (e : Eid) (g : Grd) (rd rs1 rs2 : Reg) (s : State) : Host.Outcome State Fault Refusal := run1 s e (encR g 1 rd rs1 rs2 0x01) (alu2 addF false true rd rs1 rs2)

/-- SUB (R125, R128, Table 03-5). -/
def execSub (e : Eid) (g : Grd) (rd rs1 rs2 : Reg) (s : State) : Host.Outcome State Fault Refusal := run1 s e (encR g 1 rd rs1 rs2 0x02) (alu2 subF true true rd rs1 rs2)

/-- SUBU (R125, R128, Table 03-5). -/
def execSubu (e : Eid) (g : Grd) (rd rs1 rs2 : Reg) (s : State) : Host.Outcome State Fault Refusal := run1 s e (encR g 1 rd rs1 rs2 0x03) (alu2 subF false true rd rs1 rs2)

/-- NEG (R125, R128). -/
def execNeg (e : Eid) (g : Grd) (rd rs1 : Reg) (s : State) : Host.Outcome State Fault Refusal := run1 s e (encR g 1 rd rs1 0 0x04) (alu1 negF true rd rs1)

/-- CMP (R125, R128): flags only. -/
def execCmp (e : Eid) (g : Grd) (rs1 rs2 : Reg) (s : State) : Host.Outcome State Fault Refusal := run1 s e (encR g 1 0 rs1 rs2 0x05) (alu2 subF false false 0 rs1 rs2)

/-- AND (R125, Table 03-5). -/
def execAnd (e : Eid) (g : Grd) (rd rs1 rs2 : Reg) (s : State) : Host.Outcome State Fault Refusal := run1 s e (encR g 1 rd rs1 rs2 0x08) (alu2 (fun x y => plainF (x &&& y)) false true rd rs1 rs2)

/-- OR (R125, Table 03-5). -/
def execOr (e : Eid) (g : Grd) (rd rs1 rs2 : Reg) (s : State) : Host.Outcome State Fault Refusal := run1 s e (encR g 1 rd rs1 rs2 0x09) (alu2 (fun x y => plainF (x ||| y)) false true rd rs1 rs2)

/-- XOR (R125, Table 03-5). -/
def execXor (e : Eid) (g : Grd) (rd rs1 rs2 : Reg) (s : State) : Host.Outcome State Fault Refusal := run1 s e (encR g 1 rd rs1 rs2 0x0A) (alu2 (fun x y => plainF (x ^^^ y)) false true rd rs1 rs2)

/-- ANDN (R125, Table 03-5). -/
def execAndn (e : Eid) (g : Grd) (rd rs1 rs2 : Reg) (s : State) : Host.Outcome State Fault Refusal := run1 s e (encR g 1 rd rs1 rs2 0x0B) (alu2 (fun x y => plainF (x &&& ~~~ y)) false true rd rs1 rs2)

/-- ORN (R125, Table 03-5). -/
def execOrn (e : Eid) (g : Grd) (rd rs1 rs2 : Reg) (s : State) : Host.Outcome State Fault Refusal := run1 s e (encR g 1 rd rs1 rs2 0x0C) (alu2 (fun x y => plainF (x ||| ~~~ y)) false true rd rs1 rs2)

/-- TST (R125): flags of x and y only. -/
def execTst (e : Eid) (g : Grd) (rs1 rs2 : Reg) (s : State) : Host.Outcome State Fault Refusal :=
  run1 s e (encR g 1 0 rs1 rs2 0x0D) (alu2 (fun x y => plainF (x &&& y)) false false 0 rs1 rs2)

/-- SLL (R125, R128, Table 03-5). -/
def execSll (e : Eid) (g : Grd) (rd rs1 rs2 : Reg) (s : State) : Host.Outcome State Fault Refusal := run1 s e (encR g 1 rd rs1 rs2 0x10) (alu2 sllF false true rd rs1 rs2)

/-- SRL (R125, R128, Table 03-5). -/
def execSrl (e : Eid) (g : Grd) (rd rs1 rs2 : Reg) (s : State) : Host.Outcome State Fault Refusal := run1 s e (encR g 1 rd rs1 rs2 0x11) (alu2 srlF false true rd rs1 rs2)

/-- SRA (R125, R128, Table 03-5). -/
def execSra (e : Eid) (g : Grd) (rd rs1 rs2 : Reg) (s : State) : Host.Outcome State Fault Refusal := run1 s e (encR g 1 rd rs1 rs2 0x12) (alu2 sraF false true rd rs1 rs2)

/-- ROL (R125, R128, Table 03-5). -/
def execRol (e : Eid) (g : Grd) (rd rs1 rs2 : Reg) (s : State) : Host.Outcome State Fault Refusal := run1 s e (encR g 1 rd rs1 rs2 0x13) (alu2 rolF false true rd rs1 rs2)

/-- ROR (R125, R128, Table 03-5). -/
def execRor (e : Eid) (g : Grd) (rd rs1 rs2 : Reg) (s : State) : Host.Outcome State Fault Refusal := run1 s e (encR g 1 rd rs1 rs2 0x14) (alu2 rorF false true rd rs1 rs2)

/-- MIN (R125, R128, Table 03-5). -/
def execMin (e : Eid) (g : Grd) (rd rs1 rs2 : Reg) (s : State) : Host.Outcome State Fault Refusal := run1 s e (encR g 1 rd rs1 rs2 0x18) (alu2 minF false true rd rs1 rs2)

/-- MAX (R125, R128, Table 03-5). -/
def execMax (e : Eid) (g : Grd) (rd rs1 rs2 : Reg) (s : State) : Host.Outcome State Fault Refusal := run1 s e (encR g 1 rd rs1 rs2 0x19) (alu2 maxF false true rd rs1 rs2)

/-- MINU (R125, R128, Table 03-5). -/
def execMinu (e : Eid) (g : Grd) (rd rs1 rs2 : Reg) (s : State) : Host.Outcome State Fault Refusal := run1 s e (encR g 1 rd rs1 rs2 0x1A) (alu2 minuF false true rd rs1 rs2)

/-- MAXU (R125, R128, Table 03-5). -/
def execMaxu (e : Eid) (g : Grd) (rd rs1 rs2 : Reg) (s : State) : Host.Outcome State Fault Refusal := run1 s e (encR g 1 rd rs1 rs2 0x1B) (alu2 maxuF false true rd rs1 rs2)

/-- CLZ (R125, Table 03-5). -/
def execClz (e : Eid) (g : Grd) (rd rs1 : Reg) (s : State) : Host.Outcome State Fault Refusal := run1 s e (encR g 1 rd rs1 0 0x20) (alu1 clzF false rd rs1)

/-- CTZ (R125, Table 03-5). -/
def execCtz (e : Eid) (g : Grd) (rd rs1 : Reg) (s : State) : Host.Outcome State Fault Refusal := run1 s e (encR g 1 rd rs1 0 0x21) (alu1 ctzF false rd rs1)

/-- POPC (R125, Table 03-5). -/
def execPopc (e : Eid) (g : Grd) (rd rs1 : Reg) (s : State) : Host.Outcome State Fault Refusal := run1 s e (encR g 1 rd rs1 0 0x22) (alu1 popcF false rd rs1)

/-- SXB (R125, Table 03-5). -/
def execSxb (e : Eid) (g : Grd) (rd rs1 : Reg) (s : State) : Host.Outcome State Fault Refusal := run1 s e (encR g 1 rd rs1 0 0x28) (alu1 (sxF 8) false rd rs1)

/-- SXH (R125, Table 03-5). -/
def execSxh (e : Eid) (g : Grd) (rd rs1 : Reg) (s : State) : Host.Outcome State Fault Refusal := run1 s e (encR g 1 rd rs1 0 0x29) (alu1 (sxF 16) false rd rs1)

/-- SXW (R125, Table 03-5). -/
def execSxw (e : Eid) (g : Grd) (rd rs1 : Reg) (s : State) : Host.Outcome State Fault Refusal := run1 s e (encR g 1 rd rs1 0 0x2A) (alu1 (sxF 32) false rd rs1)

/-- ZXB (R125, Table 03-5). -/
def execZxb (e : Eid) (g : Grd) (rd rs1 : Reg) (s : State) : Host.Outcome State Fault Refusal := run1 s e (encR g 1 rd rs1 0 0x2B) (alu1 (zxF 8) false rd rs1)

/-- ZXH (R125, Table 03-5). -/
def execZxh (e : Eid) (g : Grd) (rd rs1 : Reg) (s : State) : Host.Outcome State Fault Refusal := run1 s e (encR g 1 rd rs1 0 0x2C) (alu1 (zxF 16) false rd rs1)

/-- ZXW (R125, Table 03-5). -/
def execZxw (e : Eid) (g : Grd) (rd rs1 : Reg) (s : State) : Host.Outcome State Fault Refusal := run1 s e (encR g 1 rd rs1 0 0x2D) (alu1 (zxF 32) false rd rs1)

/-- MUL (R128). -/
def execMul (e : Eid) (g : Grd) (rd rs1 rs2 : Reg) (s : State) : Host.Outcome State Fault Refusal := run1 s e (encR g 2 rd rs1 rs2 0) (alu2 mulF true true rd rs1 rs2)

/-- MULU (R128). -/
def execMulu (e : Eid) (g : Grd) (rd rs1 rs2 : Reg) (s : State) : Host.Outcome State Fault Refusal := run1 s e (encR g 2 rd rs1 rs2 1) (alu2 muluF false true rd rs1 rs2)

/-- MULH (R128). -/
def execMulh (e : Eid) (g : Grd) (rd rs1 rs2 : Reg) (s : State) : Host.Outcome State Fault Refusal := run1 s e (encR g 2 rd rs1 rs2 2) (alu2 mulhF false true rd rs1 rs2)

/-- MULHU (R128). -/
def execMulhu (e : Eid) (g : Grd) (rd rs1 rs2 : Reg) (s : State) : Host.Outcome State Fault Refusal := run1 s e (encR g 2 rd rs1 rs2 3) (alu2 mulhuF false true rd rs1 rs2)

/-- DIV (R128, R131). -/
def execDiv (e : Eid) (g : Grd) (rd rs1 rs2 : Reg) (s : State) : Host.Outcome State Fault Refusal := run1 s e (encR g 2 rd rs1 rs2 4) (aluDiv divF true rd rs1 rs2)

/-- DIVU (R128, R131). -/
def execDivu (e : Eid) (g : Grd) (rd rs1 rs2 : Reg) (s : State) : Host.Outcome State Fault Refusal := run1 s e (encR g 2 rd rs1 rs2 5) (aluDiv divuF false rd rs1 rs2)

/-- REM (R128, R131). -/
def execRem (e : Eid) (g : Grd) (rd rs1 rs2 : Reg) (s : State) : Host.Outcome State Fault Refusal := run1 s e (encR g 2 rd rs1 rs2 6) (aluDiv remF false rd rs1 rs2)

/-- REMU (R128, R131). -/
def execRemu (e : Eid) (g : Grd) (rd rs1 rs2 : Reg) (s : State) : Host.Outcome State Fault Refusal := run1 s e (encR g 2 rd rs1 rs2 7) (aluDiv remuF false rd rs1 rs2)

/-- ADDI (R126). -/
def execAddi (e : Eid) (g : Grd) (rd rs1 : Reg) (imm : Imm13) (s : State) : Host.Outcome State Fault Refusal :=
  run1 s e (encI g 0x03 rd rs1 imm) (aluI addF true true rd rs1 imm)

/-- ADDUI (R126). -/
def execAddui (e : Eid) (g : Grd) (rd rs1 : Reg) (imm : Imm13) (s : State) : Host.Outcome State Fault Refusal :=
  run1 s e (encI g 0x04 rd rs1 imm) (aluI addF false true rd rs1 imm)

/-- ANDI (R126). -/
def execAndi (e : Eid) (g : Grd) (rd rs1 : Reg) (imm : Imm13) (s : State) : Host.Outcome State Fault Refusal :=
  run1 s e (encI g 0x05 rd rs1 imm) (aluI (fun x y => plainF (x &&& y)) false true rd rs1 imm)

/-- ORI (R126). -/
def execOri (e : Eid) (g : Grd) (rd rs1 : Reg) (imm : Imm13) (s : State) : Host.Outcome State Fault Refusal :=
  run1 s e (encI g 0x06 rd rs1 imm) (aluI (fun x y => plainF (x ||| y)) false true rd rs1 imm)

/-- XORI (R126). -/
def execXori (e : Eid) (g : Grd) (rd rs1 : Reg) (imm : Imm13) (s : State) : Host.Outcome State Fault Refusal :=
  run1 s e (encI g 0x07 rd rs1 imm) (aluI (fun x y => plainF (x ^^^ y)) false true rd rs1 imm)

/-- CMPI (R126): flags only. -/
def execCmpi (e : Eid) (g : Grd) (rs1 : Reg) (imm : Imm13) (s : State) : Host.Outcome State Fault Refusal :=
  run1 s e (encI g 0x08 0 rs1 imm) (aluI subF false false 0 rs1 imm)

/-- SHI (R127). -/
def execShi (e : Eid) (g : Grd) (rd rs1 : Reg) (imm : Imm13) (s : State) : Host.Outcome State Fault Refusal := run1 s e (encI g 0x09 rd rs1 imm) (shiBody rd rs1 imm)

/-- MOVI (R132). -/
def execMovi (e : Eid) (g : Grd) (rd : Reg) (imm : Imm18) (s : State) : Host.Outcome State Fault Refusal := run1 s e (encJ g 0x0A rd imm) (moviBody rd imm)

/-- MOVK (R132). -/
def execMovk (e : Eid) (g : Grd) (rd : Reg) (imm : Imm18) (s : State) : Host.Outcome State Fault Refusal := run1 s e (encJ g 0x0B rd imm) (movkBody rd imm)

/-- SEL (R133). -/
def execSel (e : Eid) (g : Grd) (cond : Cnd) (rd rs1 rs2 : Reg) (s : State) : Host.Outcome State Fault Refusal :=
  run1 s e (encR g 0x0C rd rs1 rs2 cond.toNat) (selBody cond rd rs1 rs2)

/-- CMOV (R133). -/
def execCmov (e : Eid) (g : Grd) (cond : Cnd) (rd rs1 : Reg) (s : State) : Host.Outcome State Fault Refusal :=
  run1 s e (encR g 0x0C rd rs1 0 (0x80 + cond.toNat)) (cmovBody cond rd rs1)

end Sys2Proof.Machine
end

