-- ==== Sys2Proof/Machine/Branch.lean ====
section
/-!
DEFINITION. Machine/Branch.lean: branches, jumps and zero-overhead loops (R134 to R137, R179 to R183).
-/

namespace Sys2Proof.Machine

open Sys2Proof

/-- The target of B and JAL: the address of the instruction plus sext(off) * 4, modulo 2^56 (R134). -/
def branchTarget (a : Nat) (off : Imm18) : Nat := (a + (off.signExtend 56).toNat * 4) % 2 ^ 56

/-- A taken branch to `t`: the bounds test of R136. Table 07-2 has no row for a target; EVAL the target, no register and ACC fetch are a DESIGN
CHOICE (notes/assumptions/60.md). -/
def branchTo (e t : Nat) : EM Cell := do
  let pcc := ((← get).chuck e).pcc
  if t < capBase pcc ∨ capTop pcc < t + 4 then fault 5 t none 3
  else pure (withCursor pcc t)

/-- A copy of PCC whose cursor is the next instruction (R135, R137). -/
def linkOf (pcc : Cell) : Cell := { withCursor pcc (capCursor pcc + 4) with kind := .cap }

/-- B (R134, R212): record 0x03 and the direction counters where it is conditional. -/
def bBody (g : Grd) (cond : Cnd) (off : Imm18) (e : Nat) : EM Next := do
  let s ← get
  let a := capCursor (s.chuck e).pcc
  let conditional := if s.stream e then g != 0 else cond != 14
  if s.stream e || condT (s.tstat e) cond.toNat then
    let c ← branchTo e (branchTarget a off)
    modify (fun s =>
      let t := s.predict e a conditional true (branchTarget a off) 0
      if conditional then t.sigTake e [0x03, 0x01] else t)
    pure (.jump c)
  else
    modify (fun s => (s.predict e a true false 0 0).sigTake e [0x03, 0x00])
    pure .seq

/-- JAL (R135, R136). -/
def jalBody (rd : Reg) (off : Imm18) (e : Nat) : EM Next := do
  let pcc := ((← get).chuck e).pcc
  let a := capCursor pcc
  let c ← branchTo e (branchTarget a off)
  modify (fun s => s.predict e a false true (branchTarget a off) 1)
  putReg e rd.toNat (linkOf pcc)
  pure (.jump c)

/-- JR (R82, R137). Its faults on rs1 report REG = rs1 with ACC fetch: a DESIGN CHOICE (notes/assumptions/60.md). -/
def jrBody (rd rs1 : Reg) (e : Nat) : EM Next := do
  let c ← getReg e rs1
  let pcc := ((← get).chuck e).pcc
  let t := capCursor c
  let r := some rs1.toNat
  if t % 4 ≠ 0 then fault 9 t r 3
  else if c.kind = .poison then fault 3 t r 3
  else if !isCap c.kind || capMalformed c then fault 4 t r 3
  else if c.kind = .sealed && capOtype c != 0xFF then fault 7 t r 3
  else
    let d : Cell := { bits := setBits c.bits 127 120 0, kind := .cap }
    if !(← linkOk e d false) then fault 8 t r 3
    else if !capHas d .ex then fault 6 t r 3
    else
      modify (fun s => s.predict e (capCursor pcc) false true t 2)
      putReg e rd.toNat (linkOf pcc)
      pure (.jump d)

/-! ## Loops -/

/-- COUNT of LCk. -/
def Chuck.lcount (c : Chuck) (k : Nat) : Nat := bits (c.sysr (0x18 + k)) 62 0

/-- The last address of the body of a LOOP at PCC. -/
def loopLast (c : Chuck) (end13 : Imm13) : Nat := capCursor c.pcc + 4 * end13.toNat

/-- The tests of R180 that raise Loop Nest Fault, at level `k`. -/
def loopNest (c : Chuck) (k : Nat) (end13 : Imm13) : Bool :=
  decide (c.lcount k ≠ 0 ∨ (k < 1 ∧ c.lcount 1 ≠ 0) ∨ (k < 2 ∧ c.lcount 2 ≠ 0) ∨ (0 < k ∧ c.lcount (k - 1) = 0) ∨
    (0 < k ∧ bits (c.sysr (0x14 + k - 1)) 55 0 < loopLast c end13))

/-- LOOP and LOOPI at level `k` with the count that `count` reads, after the nest tests (R180; Table 07-3, rank 7). -/
def loopRun (lvl : BitVec 2) (count : Nat → EM Nat) (end13 : Imm13) (w : Word) (e : Nat) : EM Next := do
  let s ← get
  let c := s.chuck e
  let k := lvl.toNat
  let le := loopLast c end13
  if loopNest c k end13 then fault 0x14 w.toNat none 0
  else
    let n ← count e
    if n = 0 then
      if le + 4 < capBase c.pcc ∨ capTop c.pcc < le + 8 then fault 5 (le + 4) none 3
      else pure (.skip (withCursor c.pcc (le + 4)))
    else if le < capBase c.pcc ∨ capTop c.pcc < le + 4 then fault 5 le none 3
    else
      let lk := if (s.engine e).level = .k then 2 ^ 63 else 0
      modify (fun s => s.updChuck e (fun c =>
        ((c.setSysr (0x10 + k) (BitVec.ofNat 64 (capCursor c.pcc + 4))).setSysr (0x14 + k) (BitVec.ofNat 64 le)).setSysr (0x18 + k)
          (BitVec.ofNat 64 (n + lk))))
      pure .seq

/-- The count of LOOP: bits [62:0] of ival(rs1). -/
def loopCount (rs1 : Reg) (e : Nat) : EM Nat := do
  let v ← ival e rs1.toNat
  pure (bits v 62 0)

/-- LCLR: levels k to 2 end; LS and LE stay (R182). -/
def lclrBody (lvl : BitVec 2) (e : Nat) : EM Next := do
  modify (fun s => s.updChuck e (fun c => [0, 1, 2].foldl (fun c j => if lvl.toNat ≤ j then c.setSysr (0x18 + j) 0 else c) c))
  pure .seq

/-! ## The commands -/

/-- B (R134). -/
def execB (e : Eid) (g : Grd) (cond : Cnd) (off : Imm18) (s : State) : Host.Outcome State Fault Refusal :=
  run1 s e (encB g cond off) (bBody g cond off)

/-- JAL (R135). -/
def execJal (e : Eid) (g : Grd) (rd : Reg) (imm : Imm18) (s : State) : Host.Outcome State Fault Refusal :=
  run1 s e (encJ g 0x22 rd imm) (jalBody rd imm)

/-- JR (R137). -/
def execJr (e : Eid) (g : Grd) (rd rs1 : Reg) (s : State) : Host.Outcome State Fault Refusal :=
  run1 s e (encR g 0x23 rd rs1 0 0) (jrBody rd rs1)

/-- LOOP (R180). -/
def execLoop (e : Eid) (g : Grd) (lvl : BitVec 2) (rs1 : Reg) (end13 : Imm13) (s : State) : Host.Outcome State Fault Refusal :=
  run1 s e (encL g lvl 0 rs1 end13) (loopRun lvl (loopCount rs1) end13 (encL g lvl 0 rs1 end13))

/-- LOOPI (R180). -/
def execLoopi (e : Eid) (g : Grd) (lvl : BitVec 2) (cnt : Reg) (end13 : Imm13) (s : State) : Host.Outcome State Fault Refusal :=
  run1 s e (encL g lvl 1 cnt end13) (loopRun lvl (fun _ => pure cnt.toNat) end13 (encL g lvl 1 cnt end13))

/-- LCLR (R182). -/
def execLclr (e : Eid) (g : Grd) (lvl : BitVec 2) (s : State) : Host.Outcome State Fault Refusal :=
  run1 s e (encL g lvl 2 0 0) (lclrBody lvl)

end Sys2Proof.Machine
end

