-- ==== Sys2Proof/Machine/Measure.lean ====
section
/-!
DEFINITION. Machine/Measure.lean: decimators, port DMA, reflectometer and sense block (12_measurement; R470 to R472).
-/

namespace Sys2Proof.Machine

open Sys2Proof

/-- The register block of a port. -/
def portBlk (p : Nat) : Nat := 0x10 + p
/-- Raises port event k (Table 01-8). -/
def State.portEvent (s : State) (p k : Nat) : State := s.raise (1280 + 32 * p + k)
/-- The MPU of a port DMA. -/
def portMpu (p : Nat) : MpuUnit := .port (BitVec.ofNat 3 p)
/-- Do data-plane units run: not in DOZE or DORMANT (Table 15-5). -/
def State.planeOn (s : State) : Bool := s.fld 2 0x20 1 0 == 0

/-! ## Decimation (R427 to R431) -/

/-- Pairs (b, c) with 0 ≤ b, c < r and b + c = j. -/
def pairCount (r j : Nat) : Nat := if j < r then j + 1 else if j < 2 * r - 1 then 2 * r - 1 - j else 0
/-- h of R428. -/
def sincH (i r : Nat) : Nat := (List.range r).foldl (fun a k => if k ≤ i then a + pairCount r (i - k) else a) 0
/-- sinc3 of R428 over the newest bits, newest first. -/
def sinc3 (hist : List Int) (r : Nat) : Int := (List.range (3 * r - 2)).foldl (fun a i => a + (sincH i r : Int) * hist.getD i 0) 0
/-- sample of R428. -/
def sincSample (s : Int) (r w : Nat) : Int := satS w ((2 * s * 2 ^ (w - 1) + (r : Int) ^ 3) / (2 * (r : Int) ^ 3))

/-- DEC_CFGk of a port. -/
def State.decCfg (s : State) (p k : Nat) : Word := s.reg (portBlk p) (0x400 + 4 * k)
/-- The width of a stream's samples. -/
def decWidth (c : Word) : Nat := if bit c 30 then 32 else 16

/-- The streams with OUT = 1, lowest first. -/
def State.outStreams (s : State) (p : Nat) : List Nat := (List.range 32).filter (fun k => bit (s.decCfg p k) 31)
/-- The streams written: those with the RATIO and FMT of the lowest (R470). -/
def State.dmaStreams (s : State) (p : Nat) : List Nat :=
  match s.outStreams p with
  | [] => []
  | k :: ks => k :: ks.filter (fun j => bits (s.decCfg p j) 24 16 == bits (s.decCfg p k) 24 16 && bit (s.decCfg p j) 30 == bit (s.decCfg p k) 30)

/-! ## Port DMA (R470 to R472) -/

/-- Cuts bytes into whole 64-byte lines, the last padded with zeros; `n` bounds the lines. -/
def linesOf : Nat → List Byte → List (List Byte)
  | 0, _ => []
  | n + 1, l => if l.isEmpty then [] else (l.take 64 ++ List.replicate (64 - (l.take 64).length) 0) :: linesOf n (l.drop 64)

/-- The header of Table 13-5. -/
def blockHeader (k : Block) (mask blkLen ratio : Nat) (fmt : Bool) : List Byte :=
  toBytes 4 k.num ++ toBytes 8 k.start.toNat ++ toBytes 4 mask ++ toBytes 2 blkLen ++ toBytes 2 ratio ++ toBytes 1 fmt.toNat ++
  toBytes 1 ((if k.bad > 0 then 1 else 0) + (if k.ovr then 2 else 0)) ++ toBytes 2 (min k.bad 0xFFFF) ++ List.replicate 40 0

/-- The lines of a completed block, the header last (R470, R471). -/
def State.blockLines (s : State) (p : Nat) (k : Block) : List DmaLine :=
  let b := portBlk p
  let ss := s.dmaStreams p
  let c0 := s.decCfg p (ss.headD 0)
  let w := decWidth c0
  let blen := s.fld b 0x208 11 0
  let per := (blen * w + 511) / 512 * 64
  let base := s.fld b 0x204 11 0 * 2 ^ 32 + (s.reg b 0x200).toNat
  let slot := base + k.num % max 1 (s.fld b 0x208 23 16) * (64 + ss.length * per)
  let body := (ss.zip (List.range ss.length)).flatMap (fun (j, i) =>
    let bytes := (Map.get [] k.samples j).flatMap (fun v => toBytes (w / 8) (wrap w v))
    let ls := linesOf (per / 64) bytes
    (ls.zip (List.range ls.length)).map (fun (l, n) => { addr := slot + 64 + i * per + 64 * n, data := l, src := j, last := false : DmaLine }))
  let mask := ss.foldl (fun a j => a + 2 ^ j) 0
  body ++ [{ addr := slot, data := blockHeader k mask blen (bits c0 24 16) (bit c0 30), src := ss.headD 0, last := true }]

/-- Counts blocks lost (R472). -/
def State.loseBlocks (s : State) (p : Nat) : Nat → State
  | 0 => s
  | n + 1 => (s.count16 (portBlk p) 0x20C 16).loseBlocks p n

/-- The block in progress is abandoned and counted (R472). -/
def State.abandonBlock (s : State) (p : Nat) : State :=
  match (s.port p).blk with
  | none => s
  | some _ => (s.updPort p (fun q => { q with blk := none, blkNum := q.blkNum + 1 })).loseBlocks p 1

/-- Is the DMA of a port stopped (R472, class 8). -/
def State.dmaHalted (s : State) (p : Nat) : Bool := s.fld (portBlk p) 0x20C 1 1 == 1 || s.safe.dmaStop

/-- One sample instant of the streams written: `vals` by stream, whether it is bad or overrange, and the time of the sample. A
completed block is queued for writing, or lost while the DMA is stopped and where it was in progress as the DMA resumed (R472). -/
def State.collect (s : State) (p : Nat) (vals : List (Nat × Int)) (bad ovr : Bool) (time : Dword) : State :=
  let q := s.port p
  let k : Block := match q.blk with
    | some k => k
    | none => { num := q.blkNum, start := time, bad := 0, ovr := false, samples := [], skip := false }
  let k1 := { k with bad := k.bad + bad.toNat, ovr := k.ovr || ovr
                     samples := vals.foldl (fun m v => Map.put (Map.get [] m v.1 ++ [v.2]) m v.1) k.samples }
  let full := decide ((Map.get [] k1.samples ((vals.headD (0, 0)).1)).length ≥ s.fld (portBlk p) 0x208 11 0)
  if !full then s.updPort p (fun q => { q with blk := some k1 })
  else
    let s1 := s.updPort p (fun q => { q with blk := none, blkNum := q.blkNum + 1 })
    if s.dmaHalted p || k1.skip then s1.loseBlocks p 1
    else s1.updPort p (fun q => { q with out := q.out ++ s.blockLines p k1 })

/-- One bit time of every stream: `x` gives the bits as +1, -1 or 0, `time` when the partner took them (R427 to R431). -/
def State.decimate (s : State) (p : Nat) (x : Nat → Int) (bad : Bool) (time : Dword) : State :=
  let b := portBlk p
  let s1 := s.updPort p (fun q => { q with
    hist := (List.range 32).map (fun k => (k, (x k :: Map.get [] q.hist k).take 768)), badBits := (bad :: q.badBits).take 768, nbits := q.nbits + 1 })
  let q := s1.port p
  let done := (List.range 32).filter (fun k => let r := bits (s.decCfg p k) 24 16; decide (3 * r ≤ q.nbits) && q.nbits % r == 0)
  let val := fun (k : Nat) => let c := s.decCfg p k; sincSample (sinc3 (Map.get [] q.hist k) (bits c 24 16)) (bits c 24 16) (decWidth c)
  let isOver := fun (k : Nat) => let c := s.decCfg p k
    bits c 15 0 != 0 && decide ((val k).natAbs ≥ bits c 15 0 * 2 ^ (decWidth c - 16))
  let s2 := done.foldl (fun t k => if isOver k then
      (if t.fld b 0x480 k k = 1 then t else (t.setFld b 0x480 k k 1).portEvent p 10) else t)
    (s1.updPort p (fun q => { q with means := done.foldl (fun m k => Map.put ((Map.get (0, 0) m k).1 + val k, (Map.get (0, 0) m k).2 + 1) m k) q.means }))
  let ws := (s.dmaStreams p).filter (fun k => done.contains k)
  if ws.isEmpty then s2
  else
    let r := bits (s.decCfg p (ws.headD 0)) 24 16
    let s3 := if (s.outStreams p).length = (s.dmaStreams p).length then s2 else s2.setFld b 0x20C 2 2 1
    let t := time - BitVec.ofNat 64 ((3 * r - 3) * 400 + s.fld b 0x18 19 0)
    s3.collect p (ws.map (fun k => (k, val k))) ((q.badBits.take (3 * r - 2)).any id) (ws.any isOver) t

/-- The decimators of a frame of 20 bit times (R458): the bits of a valid frame, or zeros. -/
def State.decimateFrame (s : State) (p : Nat) (valid : Bool) (stream : List Byte) : State :=
  if !((s.port p).link == .up && s.blkEn (portBlk p) && s.planeOn) then s
  else
    let n := s.now
    let s0 := if (s.port p).epoch then n.2
      else n.2.updPort p (fun q => { q with epoch := true, nbits := 0, hist := [], badBits := [] })
    let pres := s.reg (portBlk p) 0x484
    let v := ofBytes stream
    (List.range 20).foldl (fun t i =>
      t.decimate p (fun k => if valid && bit pres k then (if v.testBit (20 * k + i) then 1 else -1) else 0) (!valid)
        (n.1 - BitVec.ofNat 64 ((19 - i) * 800))) s0

/-- Does a region take a master's burst: cluster memory or DRAM. -/
def State.memRegion (s : State) (pa : Nat) : Bool :=
  match s.region pa with
  | .cluster _ | .dram _ => true
  | _ => false

/-- Writes a 64-byte line as four RAW cells (R61). -/
def State.writeLine (s : State) (pa : Nat) (data : List Byte) : State :=
  (List.range 4).foldl (fun t i =>
    t.writeCell (pa + 16 * i) { bits := BitVec.ofNat 128 (ofBytes ((data.drop (16 * i)).take 16)), tag := 0 }) s

/-- One write of the port DMA (R357, R444, R471): 0, 1 for a refusal by its MPU, 2 for a Bus Error. -/
def State.portWrite (s : State) (p pa : Nat) (data : List Byte) (src : Nat) : Nat × State :=
  match s.mpuCheck (portMpu p) pa .write false false (plainMt pa) 3 src with
  | (0, t) => if t.memRegion pa then (0, t.writeLine pa data) else (2, t)
  | (_, t) => (1, t)

/-- The DMA stops (R472): the block ends, ERR and CODE are set, event k = 4. -/
def State.stopDma (s : State) (p code : Nat) : State :=
  let lost := ((s.port p).out.filter (fun l => l.last)).length - 1
  let s1 := (s.updPort p (fun q => { q with out := [] })).loseBlocks p lost
  ((s1.setFld (portBlk p) 0x20C 1 1 1).setFld (portBlk p) 0x20C 15 12 code).portEvent p 4

/-- PORT_DMA_BURST (R471): writes one line to both channel copies; after the header, event k = 3. -/
def execPortDmaBurst (p : BitVec 3) (s : State) : Host.Outcome State Fault Refusal :=
  let p := p.toNat
  if s.dmaHalted p || !s.planeOn then .next s
  else
    match (s.port p).out with
    | [] => .next s
    | l :: ls =>
      match s.portWrite p l.addr l.data l.src with
      | (0, t) =>
        (match twinLoc l.addr with
         | none => .next (t.stopDma p 2)
         | some tw =>
           match t.portWrite p tw l.data l.src with
           | (0, t2) =>
             let t3 := t2.updPort p (fun q => { q with out := ls })
             .next (if l.last then t3.portEvent p 3 else t3)
           | (c, t2) => .next (t2.stopDma p c))
      | (c, t) => .next (t.stopDma p c)

/-- Clears ERR of a port DMA, which resumes with the next block (R472, R473): Cretal and the debug port alone. -/
def State.clearDmaErr (s : State) (m : Master) (p : Nat) : State :=
  let s1 := s.setFld (portBlk p) 0x20C 15 12 0
  if isMgmt m then (s1.updPort p (fun q => { q with blk := q.blk.map (fun k => { k with skip := true }) })).setFld (portBlk p) 0x20C 1 1 0 else s.cfgerr (portBlk p) 0x20C

/-- PORT_DMA_ERR_CLEAR (R472). -/
def execPortDmaErrClear (m : Master) (p : BitVec 3) (s : State) : Host.Outcome State Fault Refusal :=
  .next (s.admits m (portBlk p.toNat) 0x20C (fun t => if t.fld (portBlk p.toNat) 0x20C 1 1 = 1 ∨ !isMgmt m then t.clearDmaErr m p.toNat else t))

/-! ## Reflectometer (R441 to R451) -/

/-- TBASE of an acquisition that ends, or of a start that fails (R450): the time unit reported lock for all of it. -/
def State.tbaseNow (s : State) (p : Nat) : Bool :=
  s.fld 0x0C 0x1C 31 31 == 1 && (match (s.port p).tdr with
    | some a => a.tbase
    | none => true)

/-- Ends an acquisition in error (R447, R450). -/
def State.tdrError (s : State) (p code : Nat) : State :=
  let b := portBlk p
  let s1 := s.updPort p (fun q => { q with tdr := none, segOut := q.segOut ++ [[0x04, 0x04]] })
  ((((s1.setFld b 0x60C 0 0 0).setFld b 0x60C 4 4 1).setFld b 0x60C 31 28 code).setFld b 0x60C 26 26 (s.tbaseNow p).toNat).portEvent p 9

/-- Starts an acquisition (R445): the B-class registers come into force (Table of TDR_CTRL), the partner is asked to switch. -/
def State.tdrStart (s : State) (p : Nat) (fine : Bool) : State :=
  let b := portBlk p
  if s.fld b 0x60C 0 0 = 1 then s.setFld b 0x60C 3 3 1
  else
    let s0 := ((((s.boundary b 0x600).boundary b 0x604).boundary b 0x610).boundary b 0x614).boundary b 0x618
    let centre := s0.effFld b 0x604 14 0
    if !s.blkEn b then s0.tdrError p 8
    else if fine && !decide (512 ≤ centre ∧ centre ≤ 32255) then s0.tdrError p 7
    else
      let navg := s0.effFld b 0x600 3 0
      let cable := s0.effFld b 0x600 20 16
      let a : Acq := { fine := fine, phase := .asked, navg := navg, klog := min (s0.effFld b 0x600 10 8) navg, cable := cable
                       twin := bit (s0.effReg b 0x600) 31, buf := s0.effFld b 0x614 11 0 * 2 ^ 32 + (s0.effReg b 0x610).toNat
                       centre := centre, zero := s0.effFld b 0x618 19 0, ldly := s.fld b 0x18 19 0, rep := 0, sums := [], next := 0
                       tbase := s.fld 0x0C 0x1C 31 31 == 1 }
      ((((s0.updPort p (fun q => { q with tdr := some a, segOut := q.segOut ++ [[0x04, 0x01, BitVec.ofNat 8 cable]] })).setFld b 0x60C 0 0 1).setFld
        b 0x60C 31 28 0).setFld b 0x60C 27 27 0)

/-- A write to TDR_CMD that the output gate released, or that Cretal made (R445 to R447). -/
def State.tdrCmd (s : State) (p : Nat) (data : Word) : State :=
  match bits data 3 0 with
  | 0 => s
  | 1 => s.tdrStart p false
  | 2 => s.tdrStart p true
  | 3 => if (s.port p).tdr.isSome then s.tdrError p 6 else s
  | _ => s.cfgerr (portBlk p) 0x608

/-- TDR_NOCONF_TIMEOUT (R447): no confirmation within 2 ms of the request. -/
def execTdrNoconfTimeout (p : BitVec 3) (s : State) : Host.Outcome State Fault Refusal :=
  match (s.port p.toNat).tdr with
  | some a => .next (if a.phase = .asked then s.tdrError p.toNat 2 else s)
  | none => .next s

/-- The next chip of x^11 + x^9 + 1 (R441). -/
def prbsNext (v : Nat) : Nat := v / 2 + (if v.testBit 0 != v.testBit 2 then 1024 else 0)
/-- The chips from a register value on, as +1 and -1. -/
def prbs : Nat → Nat → List Int
  | 0, _ => []
  | n + 1, v => (if v % 2 = 1 then 1 else -1) :: prbs n (prbsNext v)
/-- The probe: 2,047 chips, the register first all ones (notes/assumptions/24.md). -/
def probe : List Int := prbs 2047 2047

/-- The correlation of samples with the probe delayed by `d` ps, the template taken at the same instants (R441 to R443): sample n stands
2500 n ps after the probe's start, and `phase` steps of 4 ps later where the probe's phase is shifted (notes/assumptions/25.md). -/
def correlate (samples : List Int) (phase d : Nat) : Int :=
  (samples.zip (List.range samples.length)).foldl (fun a (v, n) =>
    let t : Int := 2500 * (n : Int) + 4 * (phase : Int) - (d : Int)
    if 0 ≤ t ∧ t < 3275200 then a + v * probe.getD (t.toNat / 1600) 0 else a) 0

/-- The delay of a bin in steps of 4 ps before the reference plane (R442, R443). -/
def Acq.binOf (a : Acq) (j : Nat) : Nat := if a.fine then 625 * a.centre - 512 + j else 625 * j
/-- The delay of a bin at the TDR block in ps: the reference plane lies TDR_ZERO behind it (R441), and twice PORT_LDLY for the way over
the link and back (R462), DEDUCED (notes/assumptions/25.md). -/
def Acq.delayOf (a : Acq) (j : Nat) : Nat := 4 * a.binOf j + 4 * a.zero + 125 * a.ldly
/-- The repetitions of an acquisition (Table 12-3). -/
def Acq.total (a : Acq) : Nat := (if a.fine then 625 else 1) * 2 ^ a.navg
/-- The number of sub-accumulations. -/
def Acq.subs (a : Acq) : Nat := if a.fine then 2 ^ a.klog else 1
/-- Bins of one sub-accumulation. -/
def Acq.bins (a : Acq) : Nat := if a.fine then 1024 else 32768

/-- Accumulates one probe: of a FINE acquisition, the bins whose delay falls at the repetition's phase, into the sub-accumulation
of the repetition's index (R442, R443). -/
def Acq.add (a : Acq) (samples : List Int) : Acq :=
  let phase := a.rep / 2 ^ a.navg
  let q := if a.fine then a.rep % 2 ^ a.navg % 2 ^ a.klog else 0
  let js := (List.range a.bins).filter (fun j => !a.fine || a.binOf j % 625 == phase)
  { a with rep := a.rep + 1
           sums := js.foldl (fun m j => Map.put (Map.get 0 m (q * 1024 * a.fine.toNat + j) + correlate samples (if a.fine then phase else 0) (a.delayOf j)) m (q * 1024 * a.fine.toNat + j)) a.sums }

/-- TDR_PROBE (R441): one probe of an acquisition that the partner confirmed; `samples` is the wave it returns. -/
def execTdrProbe (p : BitVec 3) (samples : List Int) (s : State) : Host.Outcome State Fault Refusal :=
  match (s.port p.toNat).tdr with
  | none => .next s
  | some a =>
    if a.phase ≠ .running ∨ !s.planeOn then .next s
    else
      let a1 := a.add samples
      .next (s.updPort p.toNat (fun q => { q with tdr := some (if a1.rep ≥ a1.total then { a1 with phase := .writing } else a1) }))

/-- The index of the largest magnitude in a list. -/
def argMaxAbs (l : List Int) : Nat :=
  (l.zip (List.range l.length)).foldl (fun (r : Nat × Nat) (v, i) => if v.natAbs > r.1 then (v.natAbs, i) else r) (0, 0) |>.2

/-- The greatest r below 2^n whose square is at most `v`. -/
def isqrt : Nat → Nat → Nat
  | 0, _ => 0
  | n + 1, v =>
    let r := 2 * isqrt n (v / 4)
    if (r + 1) * (r + 1) ≤ v then r + 1 else r

/-- The sum of a list. -/
def sumQ (l : List Rat) : Rat := l.foldl (· + ·) 0
/-- The mean of a list. -/
def meanQ (l : List Rat) : Rat := sumQ l / (l.length : Rat)
/-- The sample variance of a list (divisor one less than its length). -/
def varQ (l : List Rat) : Rat := sumQ (l.map (fun v => (v - meanQ l) ^ 2)) / ((l.length : Rat) - 1)
/-- The magnitude of a number. -/
def absQ (q : Rat) : Rat := if q < 0 then -q else q

/-- A bin of a sub-accumulation. -/
def Acq.binSum (a : Acq) (q j : Nat) : Int := Map.get 0 a.sums (1024 * q + j)

/-- What a sub-accumulation gives (R448): the peak value, the vertex delay in ps and the curvature per ps^2. -/
structure Fit where
  peak : Rat
  delay : Rat
  curv : Rat

/-- The least-squares parabola a + b x + c x^2 of a sub-accumulation over the 129 bins about bin `j` (R448); none where it has no vertex. -/
def Acq.fitOf (a : Acq) (j q : Nat) : Option Fit :=
  let pts : List (Int × Int) := (List.range 129).map (fun (i : Nat) => (Int.ofNat i - 64, a.binSum q (j + i - 64)))
  let sum := fun (f : Int × Int → Int) => ((pts.foldl (fun t v => t + f v) 0 : Int) : Rat)
  let x2 := sum (fun v => v.1 ^ 2)
  let x4 := sum (fun v => v.1 ^ 4)
  let y := sum (fun v => v.2)
  let x2y := sum (fun v => v.1 ^ 2 * v.2)
  let det := 129 * x4 - x2 ^ 2
  let c := (129 * x2y - x2 * y) / det
  let b := sum (fun v => v.1 * v.2) / x2
  let k := (x4 * y - x2 * x2y) / det
  if c = 0 then none
  else some { peak := k - b ^ 2 / (4 * c), delay := 2500 * (a.centre : Rat) - 2048 + 4 * ((j : Rat) - b / (2 * c)), curv := -c / 8 }

/-- A number as a register holds it: the whole number at or below it, or the next one where it is none and `up` is 1. -/
def roundQ (v : Rat) (up : Nat) : Int := if v.den = 1 then v.floor else v.floor + up
/-- The square root of a number as a register holds it. -/
def rootQ (v : Rat) (up : Nat) : Nat :=
  let n := v.floor.toNat
  let r := isqrt 64 n
  if v.den = 1 ∧ r * r = n then r else r + up

/-- The fit registers (R448): t_fit in 1/16 ps, P, sigma_ach and sigma_crb in 1/16 ps, ach with 8 fraction bits. `up` chooses how each
rounds; none where a parabola has no vertex, a divisor is 0 or a register does not hold its value. -/
def Acq.fit (a : Acq) (j up : Nat) : Option (Nat × Nat × Nat × Nat × Nat) :=
  let qs := List.range a.subs
  let fs := qs.filterMap (a.fitOf j)
  let sc2 := meanQ ((List.range 129).map (fun i => varQ (qs.map (fun q => ((a.binSum q (j + i - 64) : Int) : Rat)))))
  let t := roundQ (16 * meanQ (fs.map Fit.delay)) (up % 2)
  let peak := meanQ (fs.map Fit.peak)
  let p := roundQ peak (up / 2 % 2)
  let pc := absQ peak * absQ (meanQ (fs.map Fit.curv))
  let va := varQ (fs.map Fit.delay)
  let ach := rootQ (65536 * va * pc / sc2) (up / 16 % 2)
  if fs.length ≠ a.subs ∨ pc = 0 ∨ sc2 = 0 ∨ t < 0 ∨ 2 ^ 32 ≤ t ∨ p < -2 ^ 31 ∨ 2 ^ 31 ≤ p ∨ 65535 < ach then none
  else some (t.toNat, wrap 32 p, min 0xFFFF (rootQ (256 * va) (up / 4 % 2)), min 0xFFFF (rootQ (256 * sc2 / pc) (up / 8 % 2)), ach)

/-- TDR_FIT (R448): TDR_ACH.VALID is 1 when the strongest bin lies in 64 to 959 and K is 4 or more, and the fit registers are written. How
the numbers round the spec does not state: a free value. -/
def State.tdrFit (s : State) (p : Nat) (a : Acq) : State :=
  let b := portBlk p
  let mean := (List.range 1024).map (fun j => (List.range a.subs).foldl (fun t q => t + a.binSum q j) (0 : Int))
  let j := argMaxAbs mean
  if 64 ≤ j ∧ j ≤ 959 ∧ a.subs ≥ 4 then
    let u := Config.unstated s.freeCtr
    let free := fun (k : Nat) => (Config.tdrFit mean k).toNat
    let f := (a.fit j u.toNat).getD (free 0, free 1, free 2 % 65536, free 3 % 65536, free 4 % 65536)
    ((((({ s with freeCtr := s.freeCtr + 1 }.setReg b 0x620 (BitVec.ofNat 32 f.1)).setReg b 0x624 (BitVec.ofNat 32 f.2.1)).setFld
      b 0x628 15 0 f.2.2.1).setFld b 0x62C 15 0 f.2.2.2.1).setReg b 0x630 (BitVec.ofNat 32 (0x10000 + f.2.2.2.2)))
  else s.setFld b 0x630 16 16 0

/-- The end of an acquisition (step 5 of R445). -/
def State.tdrDone (s : State) (p : Nat) (a : Acq) : State :=
  let b := portBlk p
  let s1 := if a.fine then s.tdrFit p a else s
  let s2 := s1.updPort p (fun q => { q with tdr := none, segOut := q.segOut ++ [[0x04, 0x04]] })
  (((s2.setFld b 0x60C 0 0 0).setFld b 0x60C 2 2 1).setFld b 0x60C 26 26 (s.tbaseNow p).toNat).portEvent p 8

/-- TDR_RESULT_WRITE (R444): writes the next line of results, and to its twin location when TWIN is set. -/
def execTdrResultWrite (p : BitVec 3) (s : State) : Host.Outcome State Fault Refusal :=
  let p := p.toNat
  match (s.port p).tdr with
  | none => .next s
  | some a =>
    if a.phase ≠ .writing ∨ !s.planeOn then .next s
    else
      let vals := (List.range 16).map (fun i => Map.get 0 a.sums (16 * a.next + i))
      let s0 := if vals.any (fun v => satS 32 v != v) then s.setFld (portBlk p) 0x60C 27 27 1 else s
      let data := vals.flatMap (fun v => toBytes 4 (wrap 32 (satS 32 v)))
      let pa := a.buf + 64 * a.next
      let a1 := { a with next := a.next + 1 }
      let fin := fun (t : State) => if a1.next * 16 ≥ a.subs * a.bins then t.tdrDone p a1 else t.updPort p (fun q => { q with tdr := some a1 })
      match s0.portWrite p pa data 0x20 with
      | (0, t) =>
        if a.twin then
          (match twinLoc pa with
           | none => .next (t.tdrError p 5)
           | some tw =>
             match t.portWrite p tw data 0x20 with
             | (0, t2) => .next (fin t2)
             | (c, t2) => .next (t2.tdrError p (3 + c)))
        else .next (fin t)
      | (c, t) => .next (t.tdrError p (3 + c))

/-! ## Sense block (R433 to R439) -/

/-- The number a master is known by where values are held for it (R21, R437). -/
def masterIdx : Master → Nat
  | .engine e => e.toNat | .cretal => 1024 | .debug => 1025 | .trunk => 1026

/-- Starts a scan under SENSE_SCAN as last written (R436): none where the mask is empty or the block is disabled. -/
def State.startScan (s : State) : State :=
  let s1 := s.boundary 0x0E 0x14
  let ins := (List.range 16).filter (fun i => bit (s.reg 0x0E 0x14) i)
  { s1 with sense := { s1.sense with scan := if ins.isEmpty || !s.blkEn 0x0E then none else some ins, cur := [] } }

/-- While RUN is 1 and no scan or noise measurement is in progress, the next scan starts (R436). -/
def State.senseNext (s : State) : State :=
  if s.fld 0x0E 0x18 0 0 = 1 ∧ s.sense.scan = none ∧ s.fld 0x0E 0x24 1 1 = 0 then s.startScan else s

/-- A write to SENSE_CTL.RUN (R436, R439). -/
def State.senseRun (s : State) (run : Bool) : State :=
  if !run then { s.setFld 0x0E 0x18 0 0 0 with sense := { s.sense with runWait := false } }
  else if s.fld 0x0E 0x24 1 1 = 1 then { s with sense := { s.sense with runWait := true } }
  else (s.setFld 0x0E 0x18 0 0 1).senseNext

/-- A write of 1 to SENSE_CTL.SINGLE (R436). -/
def State.senseSingle (s : State) : State :=
  if s.fld 0x0E 0x18 0 0 = 1 ∨ s.sense.scan.isSome ∨ s.fld 0x0E 0x24 1 1 = 1 then s else s.startScan

/-- SENSE_RUN (R436). -/
def execSenseRun (m : Master) (run : Bool) (s : State) : Host.Outcome State Fault Refusal := .next (s.admits m 0x0E 0x18 (fun t => t.senseRun run))
/-- SENSE_SINGLE (R436). -/
def execSenseSingle (m : Master) (s : State) : Host.Outcome State Fault Refusal := .next (s.admits m 0x0E 0x18 State.senseSingle)

/-- The word of a conversion (R434): `code` is the input voltage in units of 2.048 V / 2^48. -/
def senseWord (code : Int) (corr : Int) : Int := satS 32 ((2 * code * (10 ^ 8 + corr) + 2 ^ 16 * 10 ^ 8) / (2 ^ 17 * 10 ^ 8))

/-- SENSE_CONVERSION (R434, R436): converts the next input of the scan; the last one stores the results and raises event 1840. -/
def execSenseConversion (code : Int) (s : State) : Host.Outcome State Fault Refusal :=
  match s.sense.scan with
  | none => .next s
  | some [] => .next { s with sense := { s.sense with scan := none } }
  | some (i :: rest) =>
    let w := BitVec.ofNat 32 (wrap 32 (senseWord code (signed 24 (s.fld 0x0E 0x20 23 0))))
    let cur := Map.put w s.sense.cur i
    let s1 := if code.natAbs > 2 ^ 47 then
        (if s.fld 0x0E 0x1C 15 0 = 0 then (s.setFld 0x0E 0x1C i i 1).raise 1841
         else if s.fld 0x0E 0x1C i i = 1 then s else (s.setFld 0x0E 0x1C i i 1).raise 1841)
      else s
    if rest.isEmpty then
      let s2 := { s1 with sense := { s1.sense with scan := none, cur := [], results := cur.foldl (fun (m : Map Word) (v : Nat × Word) => Map.put v.2 m v.1) s1.sense.results } }
      let s3 := (s2.setFld 0x0E 0x1C 31 16 (s2.fld 0x0E 0x1C 31 16 + 1)).raise 1840
      .next s3.senseNext
    else .next { s1 with sense := { s1.sense with scan := some rest, cur := cur } }

/-- A read of SENSE_STAT (R437): copies the last results into the master's snapshot. -/
def State.senseSnap (s : State) (m : Nat) : State := { s with sense := { s.sense with snaps := Map.put s.sense.results s.sense.snaps m } }
/-- SENSE_STAT_READ (R437). -/
def execSenseStatRead (m : Master) (s : State) : Host.Outcome State Fault Refusal := 
  .next (if s.lets m 0x0E 0x1C .read then s.senseSnap (masterIdx m) else s.turned m 0x0E 0x1C .read)

/-- A write of 1 to SENSE_NCMD.START (R438, R439). -/
def State.noiseStart (s : State) (m : Master) : State :=
  if !isMgmt m then s.cfgerr 0x0E 0x24
  else if s.fld 0x0E 0x18 0 0 = 0 ∧ s.sense.scan = none then s.setFld 0x0E 0x24 1 1 1 else s.setFld 0x0E 0x24 2 2 1
/-- NOISE_START (R439). -/
def execNoiseStart (m : Master) (s : State) : Host.Outcome State Fault Refusal := .next (s.admits m 0x0E 0x24 (fun t => t.noiseStart m))

/-- ACH_FACTOR = e_meas / e_J with 8 fraction bits (R439), from e_meas in 0.1 nV and the temperature in millikelvin; its last bit may
round up (`up`). None where e_J is 0 or the field does not hold the quotient. The square of e_J in 0.01 nV^2 is
4 · 1.380649 · 99.9 · 10^-3 T R. -/
def achFactor (noise temp ohms up : Nat) : Option Nat :=
  let den := 4 * 1380649 * 999 * temp * ohms
  let num := 65536 * noise ^ 2 * 10 ^ 16
  let r := isqrt 40 (num / den)
  let v := if r * r * den = num then r else r + up
  if den = 0 ∨ 65535 < v then none else some v

/-- NOISE_MEASUREMENT_COMPLETE (R439); a RUN that waited starts. How ACH_FACTOR rounds, and what it holds where it has no value, the spec does not state: a free value. -/
def execNoiseMeasurementComplete (r : NoiseReading) (s : State) : Host.Outcome State Fault Refusal :=
  if s.fld 0x0E 0x24 1 1 = 0 then .next s
  else
    let u := Config.unstated s.freeCtr
    let f := (achFactor r.noise.toNat r.temp.toNat Config.noiseOhms (u.toNat % 2)).getD (u.toNat % 65536)
    let value : Word := BitVec.ofNat 32 (r.noise.toNat * 65536 + f)
    let s1 := (({ s with freeCtr := s.freeCtr + 1 }.setReg 0x0E 0x28 value).setFld 0x0E 0x24 1 1 0).raise 1842
    .next (if s1.sense.runWait then ({ s1 with sense := { s1.sense with runWait := false } }).senseRun true else s1)

end Sys2Proof.Machine
end

