-- ==== Sys2Proof/Machine/Ports.lean ====
section
/-!
DEFINITION. Machine/Ports.lean: the partner link: frames, link states, the partner descriptor, commands and readback
(13_ports_links, R456 to R473).
-/

namespace Sys2Proof.Machine

open Sys2Proof

/-- A slot segment padded to 40 bytes (Table 13-2). -/
def seg40 (l : List Byte) : List Byte := (l ++ List.replicate 40 0).take 40

/-- Counts commands discarded (R464). -/
def State.dropCmds (s : State) (p : Nat) : Nat → State
  | 0 => s
  | n + 1 => (s.count16 (portBlk p) 0x14 16).dropCmds p n

/-- Flushes the command queue, counting what it held (R464). -/
def State.flushCmds (s : State) (p : Nat) : State :=
  let q := s.port p
  (s.updPort p (fun q => { q with cq := [], cqWait := [], flight := [] })).dropCmds p (q.cq.length + q.cqWait.length)

/-- Back to TRAIN, or off while LINKEN is 0 (Table 13-3). -/
def State.retrain (s : State) (p : Nat) : State :=
  let st := if s.fld (portBlk p) 0x10 1 1 = 1 then LinkState.train else LinkState.off
  let s1 := s.updPort p (fun q => { q with link := st, valid := 0, invalid := 0, rxSeq := none, descNext := 0, descIn := [], retry := false
                                           marks := 0, markGap := 0, echoes := 0, markTx := [], epoch := false })
  ((s1.setFld (portBlk p) 0x14 0 0 0).setFld (portBlk p) 0x484 31 0 0)

/-- Isolation of a port under class 9 or 10 (R467): `cause` 0 link loss, 1 readback. -/
def State.isolatePort (s : State) (p cls cause : Nat) : State :=
  let s1 := (s.setFld (portBlk p) 0x14 2 2 1).setFld (portBlk p) 0x14 3 3 cause
  (s1.flushCmds p).react cls p

/-- LINK_LOSS (R466). -/
def State.linkLoss (s : State) (p : Nat) : State :=
  let s1 := ((s.setFld (portBlk p) 0x14 0 0 0).raise 1673).portEvent p 1
  let s2 := (s1.abandonBlock p).isolatePort p 9 0
  let s3 := if (s2.port p).tdr.isSome then s2.tdrError p 3 else s2
  s3.retrain p

/-! ## The descriptor (R460, R461) -/

/-- The device's own descriptor (R460). The places of part, revision, node and port are a DESIGN CHOICE (notes/assumptions/23.md). -/
def State.ownDesc (s : State) (p : Nat) : List Byte :=
  let body := toBytes 2 0x4C50 ++ [0x01, 0x00] ++ toBytes 4 (s.reg 0 0x10).toNat ++ toBytes 4 (s.fld 0x0C 0x1C 20 16 + 256 * p) ++ List.replicate 240 (0 : Byte)
  body ++ toBytes 4 (crc32 body)

/-- Byte `i` of a descriptor as a number. -/
def descByte (d : List Byte) (i : Nat) : Nat := (d.getD i 0).toNat

/-- R461: does a partner descriptor of 256 bytes pass. -/
def descOk (d : List Byte) : Bool :=
  descByte d 0 == 0x50 && descByte d 1 == 0x4C && descByte d 2 == 1 &&
  ofBytes ((d.drop 0xFC).take 4) == crc32 (d.take 0xFC) &&
  ((d.drop 0x0C).take 4).all (· == 0) && ((d.drop 0xF4).take 8).all (· == 0) &&
  (let st := descByte d 0xF0 + 256 * descByte d 0xF1; decide (1 ≤ st ∧ st ≤ 400)) &&
  decide (descByte d 0xF2 ≤ 32) && decide (descByte d 0xF3 ≤ 64) &&
  (descByte d 3 != 1 || descByte d (0x10 + 7 * 31) == 4)

/-- A byte of PORT_DESC. -/
def State.portDesc (s : State) (p i : Nat) : Nat := s.fld (portBlk p) (0x800 + 4 * (i / 4)) (8 * (i % 4) + 7) (8 * (i % 4))

/-- The acceptance or refusal of a whole descriptor (R461, Table 13-3). -/
def State.takeDesc (s : State) (p : Nat) (d : List Byte) : State :=
  let b := portBlk p
  if descOk d then
    let s1 := (List.range 64).foldl (fun t i => t.setReg b (0x800 + 4 * i) (BitVec.ofNat 32 (ofBytes ((d.drop (4 * i)).take 4)))) s
    let pres := (List.range 32).foldl (fun a k => if descByte d (0x10 + 7 * k) ≠ 0 then a + 2 ^ k else a) 0
    ((s1.setFld b 0x14 1 1 1).setReg b 0x484 (BitVec.ofNat 32 pres)).updPort p (fun q => { q with
      link := .delay, marks := 0, markGap := 0, echoes := 0, markTx := [] })
  else ((s.setFld b 0x14 4 4 1).portEvent p 2).updPort p (fun q => { q with retry := true })

/-- A DESC segment (R460, R461). -/
def State.descSeg (s : State) (p : Nat) (sg : List Byte) : State :=
  let q := s.port p
  let n := descByte sg 1
  if q.link ≠ .desc ∨ q.retry ∨ n > 6 then s
  else
    let m := Map.put ((sg.drop 2).take 38) q.descIn n
    let s1 := s.updPort p (fun q => { q with descIn := m })
    if m.length = 7 then s1.takeDesc p ((m.flatMap (fun v => v.2)).take 256) else s1

/-- DESC_RETRY (R460): asks again 10 ms after a refusal. -/
def execDescRetry (p : BitVec 3) (s : State) : Host.Outcome State Fault Refusal :=
  let q := s.port p.toNat
  .next (if q.link = .desc ∧ q.retry then s.updPort p.toNat (fun q => { q with retry := false, descNext := 0, descIn := [] }) else s)

/-! ## Other segments (R459, R462 to R465) -/

/-- Sum of a list. -/
def sumNat (l : List Nat) : Nat := l.foldl (· + ·) 0

/-- LINK_UP (R460): commanded values are cleared (R465). -/
def State.linkUp (s : State) (p : Nat) : State :=
  ((s.updPort p (fun q => { q with link := .up, vals := [], settle := [], badRep := [], epoch := false, markGap := 0 })).setFld (portBlk p) 0x14 0 0 1).portEvent p 0

/-- An ECHO (R462): the one-way delay in 1/16 ns, and the mean of the last 16. -/
def State.echoSeg (s : State) (p : Nat) (sg : List Byte) : State :=
  let q := s.port p
  let n := descByte sg 2
  match q.markTx.find? (fun v => v.1 == n) with
  | none => s
  | some (_, ttx) =>
    let r := s.now
    let turn := ofBytes ((sg.drop 3).take 4)
    let d := ((r.1 - ttx).toNat * 1000 - turn * 16) / 2000
    let ds := (d :: q.delays).take 16
    let s1 := (r.2.updPort p (fun q => { q with markTx := Map.del q.markTx n, delays := ds, echoes := q.echoes + 1 })).setFld
      (portBlk p) 0x18 19 0 (sumNat ds / ds.length)
    if q.link = .delay ∧ q.echoes + 1 ≥ 16 then s1.linkUp p else s1

/-- An ACK (R463, R465): its command's value becomes the commanded value and the settling time starts. -/
def State.ackSeg (s : State) (p : Nat) (sg : List Byte) : State :=
  let n := ofBytes ((sg.drop 1).take 2)
  match (s.port p).flight.find? (fun c => c.seq == some n) with
  | none => s
  | some c =>
    let settle := s.portDesc p 0xF0 + 256 * s.portDesc p 0xF1
    s.updPort p (fun q => { q with flight := q.flight.filter (fun d => d.seq != some n), vals := Map.put c.value q.vals c.output
                                   settle := Map.put settle q.settle c.output, badRep := Map.del q.badRep c.output })

/-- One output of a STATE segment (R465). -/
def State.stateOutput (s : State) (p o rep : Nat) : State :=
  let q := s.port p
  if Map.get 0 q.settle o > 0 then s
  else if rep = Map.get 0 q.vals o then s.updPort p (fun q => { q with badRep := Map.del q.badRep o })
  else if Map.get 0 q.badRep o = 0 then s.updPort p (fun q => { q with badRep := Map.put 1 q.badRep o })
  else
    let b := portBlk p
    let s1 := (s.raise 1674).portEvent p 5
    let s2 := if s1.fld b 0x104 31 31 = 1 then s1 else s1.setReg b 0x104 (BitVec.ofNat 32 (0x80000000 + o * 0x1000000 + rep % 0x10000))
    s2.isolatePort p 10 1

/-- A STATE segment (R465): 16 outputs from a multiple of 16; those not declared are not compared, and none before link-up, which sets the
commanded values (notes/assumptions/61.md). -/
def State.stateSeg (s : State) (p : Nat) (sg : List Byte) : State :=
  let first := descByte sg 1
  if (s.port p).link ≠ .up then s
  else (List.range 16).foldl (fun t i =>
    if first + i < s.portDesc p 0xF3 then t.stateOutput p (first + i) (ofBytes ((sg.drop (2 + 2 * i)).take 2)) else t) s

/-- A TDR segment (R445, R447): CONFIRM, REFUSE or RELEASED. -/
def State.tdrSeg (s : State) (p : Nat) (sg : List Byte) : State :=
  let b := portBlk p
  match descByte sg 1, (s.port p).tdr with
  | 2, some a =>
    let s1 := s.setFld b 0x60C 1 1 1
    if a.phase = .asked then s1.updPort p (fun q => { q with tdr := some { a with phase := .running } }) else s1
  | 2, none => s.setFld b 0x60C 1 1 1
  | 3, some a => if a.phase = .asked then s.tdrError p 1 else s
  | 5, _ => s.setFld b 0x60C 1 1 0
  | _, _ => s

/-- A valid upstream segment (R459, Table 13-2). -/
def State.takeSeg (s : State) (p : Nat) (sg : List Byte) : State :=
  match descByte sg 0, descByte sg 1 with
  | 0x00, _ => s
  | 0x02, _ => s.stateSeg p sg
  | 0x03, _ => s.descSeg p sg
  | 0x04, _ => s.tdrSeg p sg
  | 0x05, 2 => s.echoSeg p sg
  | 0x06, _ => s.portEvent p 7
  | 0x07, _ => s.ackSeg p sg
  | _, _ => s.setFld (portBlk p) 0x14 5 5 1

/-- R458: is a received frame valid. The first frame after training starts has no previous SEQ. -/
def frameValid (prev : Option Nat) (f : PFrame) : Bool :=
  f.comma && f.codes && f.bytes.length == 124 && ofBytes ((f.bytes.drop 122).take 2) == crc16 (f.bytes.take 122) &&
  (match prev with
   | none => true
   | some n => descByte f.bytes 0 == (n + 1) % 256)

/-- PARTNER_FRAME_RECEIVE (R458): the frame's bits feed the decimators; a valid frame's segment is taken; link states and link loss
follow the counts of consecutive frames. -/
def execPartnerFrameReceive (p : BitVec 3) (f : PFrame) (s : State) : Host.Outcome State Fault Refusal :=
  let p := p.toNat
  let q := s.port p
  if q.link = .off then .next s
  else
    let ok := frameValid q.rxSeq f
    let seq := if f.comma && f.codes && ofBytes ((f.bytes.drop 122).take 2) == crc16 (f.bytes.take 122) then some (descByte f.bytes 0)
      else q.rxSeq.map (fun n => (n + 1) % 256)
    let s1 := s.updPort p (fun q => { q with rxSeq := seq, valid := if ok then q.valid + 1 else 0, invalid := if ok then 0 else q.invalid + 1
                                             settle := Map.mapVal (fun n => n - 1) q.settle })
    let s2 := s1.decimateFrame p ok ((f.bytes.drop 2).take 80)
    if !ok then .next (if q.link = .up ∧ q.invalid + 1 ≥ 75 then s2.linkLoss p else s2)
    else
      let s3 := s2.setFld (portBlk p) 0x60C 1 1 (descByte f.bytes 1 / 2 % 2)
      let s4 := s3.takeSeg p ((f.bytes.drop 82).take 40)
      .next (if q.link = .train ∧ q.valid + 1 ≥ 64 then
          s4.updPort p (fun q => { q with link := .desc, descNext := 0, descIn := [], retry := false })
        else s4)

/-! ## Commands (R463, R464) -/

/-- A released write to PORT_CMD (R463, R464). -/
def State.portCmd (s : State) (p : Nat) (data : Word) : State :=
  let b := portBlk p
  if s.fld b 0x14 0 0 = 0 ∨ !s.blkEn b ∨ s.fld b 0x14 2 2 = 1 then s.dropCmds p 1
  else if bits data 21 16 ≥ s.portDesc p 0xF3 then s.cfgerr b 0x100
  else
    let c : PCmd := { output := bits data 21 16, value := bits data 15 0, seq := none, tries := 0, age := 0, due := false }
    s.updPort p (fun q => if q.cq.length < 16 then { q with cq := q.cq ++ [c] } else { q with cqWait := q.cqWait ++ [c] })

/-- CMD_RETRANSMIT (R463): a command not acknowledged within 8 frames is due again, up to 3 times, then dropped with event k = 6. -/
def execCmdRetransmit (p : BitVec 3) (s : State) : Host.Outcome State Fault Refusal :=
  let p := p.toNat
  match (s.port p).flight.find? (fun c => decide (8 ≤ c.age) && !c.due) with
  | none => .next s
  | some c =>
    if c.tries ≥ 3 then .next ((s.updPort p (fun q => { q with flight := q.flight.filter (fun d => d.seq != c.seq) })).portEvent p 6)
    else .next (s.updPort p (fun q => { q with flight := q.flight.map (fun d => if d.seq = c.seq then { d with due := true, tries := d.tries + 1, age := 0 } else d) }))

/-- The bytes of a CMD segment. -/
def cmdSeg (c : PCmd) : List Byte := seg40 ([0x01] ++ toBytes 2 (c.seq.getD 0) ++ [BitVec.ofNat 8 c.output] ++ toBytes 2 c.value)

/-- The segment of the next downstream frame, first of TDR, CMD, DESC, MARK, IDLE (R459), and the state with it taken. -/
def State.nextSeg (s : State) (p : Nat) : List Byte × State :=
  let q := s.port p
  let iso := s.fld (portBlk p) 0x14 2 2 == 1
  match q.segOut with
  | g :: gs => (seg40 g, s.updPort p (fun q => { q with segOut := gs }))
  | [] =>
    match (if iso then none else q.flight.find? (fun c => c.due)) with
    | some c => (cmdSeg c, s.updPort p (fun q => { q with flight := q.flight.map (fun d => if d.seq = c.seq then { d with due := false } else d) }))
    | none =>
      match (if iso then [] else q.cq) with
      | c :: cs =>
        let c1 := { c with seq := some q.cmdSeq }
        (cmdSeg c1, s.updPort p (fun q => { q with cq := cs ++ q.cqWait.take 1, cqWait := q.cqWait.drop 1, cmdSeq := (q.cmdSeq + 1) % 65536
                                                   flight := q.flight ++ [c1] }))
      | [] =>
        if q.link = .desc ∧ q.descNext < 7 ∧ ¬q.retry then
          (seg40 ([0x03, BitVec.ofNat 8 q.descNext] ++ ((s.ownDesc p).drop (38 * q.descNext)).take 38), s.updPort p (fun q => { q with descNext := q.descNext + 1 }))
        else if (q.link = .delay ∧ q.marks < 16 ∧ (q.marks = 0 ∨ q.markGap ≥ 4)) ∨ (q.link = .up ∧ q.markGap ≥ 10000) then
          let n := s.now
          (seg40 [0x05, 0x01, BitVec.ofNat 8 q.marks],
            n.2.updPort p (fun q => { q with marks := q.marks + 1, markGap := 0, markTx := Map.put n.1 q.markTx (q.marks % 256) }))
        else (seg40 [], s)

/-- PARTNER_FRAME_TRANSMIT (R457): sends the next downstream frame while the link runs; in DOZE with SAFE set (Table 15-5). -/
def execPartnerFrameTransmit (p : BitVec 3) (s : State) : Host.Outcome State Fault Refusal :=
  let p := p.toNat
  let q := s.port p
  if q.link = .off then .next s
  else
    let g := s.nextSeg p
    let flags := (if s.mode = .run ∧ s.planeOn then 0 else 1) + (if s.fld (portBlk p) 0x14 2 2 = 1 ∨ !s.blkEn (portBlk p) then 2 else 0)
    let body := [BitVec.ofNat 8 q.txSeq, BitVec.ofNat 8 flags] ++ List.replicate 80 0 ++ g.1
    .next (g.2.updPort p (fun q => { q with
      sent := [0xBC] ++ body ++ toBytes 2 (crc16 body), txSeq := (q.txSeq + 1) % 256, markGap := q.markGap + 1
      flight := q.flight.map (fun c => { c with age := c.age + 1 }) }))

/-- A write to PORT_CTL.LINKEN (R460, R473). -/
def State.portLinken (s : State) (m : Master) (p : Nat) (en : Bool) : State :=
  let b := portBlk p
  if !isMgmt m then s.cfgerr b 0x10
  else if (s.fld b 0x10 1 1 == 1) == en then s
  else
    let s1 := s.setFld b 0x10 1 1 en.toNat
    if en then s1.retrain p
    else
      let s2 := if (s1.port p).link = .up then (s1.abandonBlock p).flushCmds p else s1
      (if (s2.port p).tdr.isSome then s2.tdrError p 3 else s2).retrain p

/-- A write of 1 to PORT_CTL.RESTART (R467, R473). -/
def State.portRestart (s : State) (m : Master) (p : Nat) : State :=
  let b := portBlk p
  if !isMgmt m then s.cfgerr b 0x10
  else
    let s1 := (s.flushCmds p).updPort p (fun q => { q with vals := [], settle := [], badRep := [] })
    let s2 := (s1.setFld b 0x14 2 2 0).abandonBlock p
    (if (s2.port p).tdr.isSome then s2.tdrError p 3 else s2).retrain p

/-- PORT_LINKEN (R460). -/
def execPortLinken (m : Master) (p : BitVec 3) (en : Bool) (s : State) : Host.Outcome State Fault Refusal :=
  .next (s.admits m (portBlk p.toNat) 0x10 (fun t => t.portLinken m p.toNat en))
/-- PORT_CTL_RESTART (R467). -/
def execPortCtlRestart (m : Master) (p : BitVec 3) (s : State) : Host.Outcome State Fault Refusal :=
  .next (s.admits m (portBlk p.toNat) 0x10 (fun t => t.portRestart m p.toNat))
/-- The output gate's discard of an engine's act to a PORT or ETH command register outside RUN (R403); other masters' writes do
not pass the gate. -/
def State.pastGate (s : State) (m : Master) (f : State → State) : State :=
  match m with
  | .engine _ => if s.mode = .run then f s else s.count16 7 0x14 16
  | _ => f s

/-- PORT_CMD (R463, R464). -/
def execPortCmd (m : Master) (p : BitVec 3) (data : Word) (s : State) : Host.Outcome State Fault Refusal :=
  .next (s.admits m (portBlk p.toNat) 0x100 (fun u => u.pastGate m (fun t => t.portCmd p.toNat data)))
/-- A write to TDR_CMD (R446): outside RUN no master but Cretal starts an acquisition. -/
def State.tdrWrite (s : State) (m : Master) (p : Nat) (data : Word) : State :=
  s.pastGate m (fun t => if t.mode = .run ∨ m = .cretal ∨ ¬(bits data 3 0 = 1 ∨ bits data 3 0 = 2) then t.tdrCmd p data else t)

/-- TDR_CMD written by a master. -/
def State.tdrReg (s : State) (m : Master) (p : Nat) (op : Word) : Host.Outcome State Fault Refusal :=
  .next (s.admits m (portBlk p) 0x608 (fun t => t.tdrWrite m p op))

/-- COARSE (R442, R445): a released or direct write of OP = 1 to TDR_CMD. -/
def execCoarse (m : Master) (p : BitVec 3) (s : State) : Host.Outcome State Fault Refusal := s.tdrReg m p.toNat 1
/-- FINE (R443, R445). -/
def execFine (m : Master) (p : BitVec 3) (s : State) : Host.Outcome State Fault Refusal := s.tdrReg m p.toNat 2
/-- ABORT (R447). -/
def execAbort (m : Master) (p : BitVec 3) (s : State) : Host.Outcome State Fault Refusal := s.tdrReg m p.toNat 3

end Sys2Proof.Machine
end

