-- ==== Sys2Proof/Machine/Trunk.lean ====
section
/-!
DEFINITION. Machine/Trunk.lean: the trunk ring, system time and Ethernet (13_ports_links, R474 to R487; R539).
-/

namespace Sys2Proof.Machine

open Sys2Proof

/-- The register block of a trunk port. -/
def trkBlk (trk1 : Bool) : Nat := if trk1 then 0x19 else 0x18
/-- TIME_CTL.ROLE: 0 standalone, 1 manager, 2 worker. -/
def State.role (s : State) : Nat := s.fld 0x0C 0x18 31 30
/-- The device's node number (TIME_STAT.NODE); a standalone device and the manager are node 0 (R477). -/
def State.node (s : State) : Nat := if s.role = 2 then s.fld 0x0C 0x1C 20 16 else 0
/-- Has the device a node number: a worker only once it took one (R477). -/
def State.hasNode (s : State) : Bool := s.role != 2 || s.fld 0x0C 0x1C 0 0 == 1

/-! ## Frames (R475, R476) -/

/-- A trunk frame's bytes from its fields, with its CRC (R475). -/
def mkFrame (dst src type hops seq corr : Nat) (payload : List Byte) : List Byte :=
  let b := toBytes 1 dst ++ toBytes 1 src ++ toBytes 1 type ++ toBytes 1 hops ++ toBytes 2 seq ++ toBytes 2 payload.length ++ toBytes 8 corr ++ payload
  b ++ toBytes 4 (crc32c b)

/-- Byte `i` of a frame. -/
def fByte (f : List Byte) (i : Nat) : Nat := (f.getD i 0).toNat
/-- `n` bytes of a frame from `i`, little-endian. -/
def fNum (f : List Byte) (i n : Nat) : Nat := ofBytes ((f.drop i).take n)
/-- The payload. -/
def fPayload (f : List Byte) : List Byte := (f.drop 16).take (f.length - 20)
/-- Does a frame carry a known type and a good CRC (R475). -/
def frameGood (f : List Byte) : Bool :=
  decide (20 ≤ f.length) && fNum f (f.length - 4) 4 == crc32c (f.take (f.length - 4)) && fNum f 6 2 == f.length - 20 &&
  decide (1 ≤ fByte f 2 ∧ fByte f 2 ≤ 6)

/-- Records a frame as sent on a port. -/
def State.sendOn (s : State) (trk1 : Bool) (f : List Byte) : State :=
  { s with trunk := { s.trunk with out := Map.put f s.trunk.out trk1.toNat } }

/-- Originates a frame on both ports with the next SEQ (R475, R476). -/
def State.originate (s : State) (dst type hops corr : Nat) (payload : List Byte) : State :=
  let f := mkFrame dst s.node type hops s.trunk.seq corr payload
  let s1 := { s with trunk := { s.trunk with seq := (s.trunk.seq + 1) % 65536 } }
  (s1.sendOn false f).sendOn true f

/-- TRUNK_FRAME_FORWARD, the fate of a received frame (R476): discarded, or taken note of, delivered where it is for this node,
and forwarded on the other port with HOPS + 1. -/
structure Fate where
  discard : Bool
  deliver : Bool
  forward : Bool
  deriving DecidableEq, Repr

/-- R476 for a good frame of a type that travels more than one hop; a worker at more than 31 hops takes ENUM alone (R477). -/
def State.fate (s : State) (f : List Byte) : Fate :=
  let dst := fByte f 0
  let own := s.hasNode && fByte f 1 == s.node
  let seen := (Map.get [] s.trunk.seen (fByte f 1)).contains (fNum f 4 2)
  if own || fByte f 3 == 32 || seen then { discard := true, deliver := false, forward := false }
  else { discard := false, deliver := (decide (dst = 0xFF) && (!s.trunk.far || fByte f 2 == 1)) || (s.hasNode && dst == s.node), forward := !(s.hasNode && dst == s.node) }

/-- Notes a frame's SRC and SEQ among the last 64 of its source (R476). -/
def State.note (s : State) (f : List Byte) : State :=
  { s with trunk := { s.trunk with seen := Map.put ((fNum f 4 2 :: Map.get [] s.trunk.seen (fByte f 1)).take 64) s.trunk.seen (fByte f 1) } }

/-- Forwards a frame that arrived on a port, with HOPS + 1 and `corr` added to CORR (R476, R479). -/
def State.forward (s : State) (trk1 : Bool) (f : List Byte) (corr : Nat) : State :=
  s.sendOn (!trk1) (mkFrame (fByte f 0) (fByte f 1) (fByte f 2) (fByte f 3 + 1) (fNum f 4 2) ((fNum f 8 8 + corr) % 2 ^ 64) (fPayload f))

/-- TRUNK_FRAME_ERROR (R475): a bad CRC or an unknown type. -/
def State.frameError (s : State) (trk1 : Bool) : State := s.setFld (trkBlk trk1) 0x10 2 2 1
/-- TRUNK_FRAME_ERROR (R475). -/
def execTrunkFrameError (trk1 : Bool) (s : State) : Host.Outcome State Fault Refusal := .next (s.frameError trk1)

/-- A received frame of the given type: checked (R475), then delivered by `f` and forwarded under R476, with the hop delay added to
CORR for SYNC. -/
def State.receive (s : State) (trk1 : Bool) (fr : TFrame) (type : Nat) (corr : Nat) (f : State → State) : State :=
  if !frameGood fr.bytes then s.frameError trk1
  else if fByte fr.bytes 2 ≠ type then s
  else
    let k := s.fate fr.bytes
    if k.discard then s
    else
      let s1 := s.note fr.bytes
      let s2 := if k.deliver then f s1 else s1
      if k.forward then s2.forward trk1 fr.bytes corr else s2

/-! ## Links (R474) -/

/-- TRUNK_LINK_UP (R474, Table 13-9). -/
def execTrunkLinkUp (trk1 : Bool) (s : State) : Host.Outcome State Fault Refusal :=
  if s.fld (trkBlk trk1) 0x10 0 0 = 1 then .next (s.setFld (trkBlk trk1) 0x10 1 1 1)
  else .next ((s.setFld (trkBlk trk1) 0x10 1 0 3).raise (if trk1 then 1538 else 1536))

/-- TRUNK_LINK_DOWN (R474): 10 µs without block lock. -/
def execTrunkLinkDown (trk1 : Bool) (s : State) : Host.Outcome State Fault Refusal :=
  if s.fld (trkBlk trk1) 0x10 0 0 = 0 then .next (s.setFld (trkBlk trk1) 0x10 1 1 0)
  else
    let s1 := ((s.setFld (trkBlk trk1) 0x10 1 0 0).setFld (trkBlk trk1) 0x14 31 31 0).raise (if trk1 then 1539 else 1537)
    .next { s1 with trunk := { s1.trunk with hops := Map.del s1.trunk.hops trk1.toNat, dreq := Map.del s1.trunk.dreq trk1.toNat } }

/-! ## Enumeration (R477) -/

/-- ENUM_SEND (R477): the manager's ENUM with HOPS 1 and NODES. Only an enabled TIME block sends (R483). -/
def execEnumSend (s : State) : Host.Outcome State Fault Refusal :=
  .next (if s.role = 1 ∧ s.blkEn 0x0C then s.originate 0xFF 1 1 0 (toBytes 1 (s.fld 0x0C 0x1C 13 8)) else s)

/-- What a node does with an ENUM it receives (R477, R483). -/
def State.takeEnum (s : State) (trk1 : Bool) (f : List Byte) : State :=
  if s.role = 2 then
    if s.fld 0x0C 0x1C 0 0 = 1 ∨ !s.blkEn 0x0C then s.setFld 0x0C 0x1C 13 8 (fByte (fPayload f) 0)
    else
      let hops := fByte f 3
      let nodes := fByte (fPayload f) 0
      let s1 := { s with trunk := { s.trunk with far := false } }
      (((s1.setFld 0x0C 0x1C 13 8 nodes).setFld 0x0C 0x1C 20 16 (if trk1 then hops else nodes - hops)).setFld 0x0C 0x1C 0 0 1).raise 1540
  else s

/-- ENUM_RECEIVE (R477): the manager counts the devices by the HOPS of its own ENUM that returns round the ring; a worker without a
number that an ENUM reaches with HOPS 32 is at more than 31 hops, and the frame goes no further (R476). -/
def execEnumReceive (trk1 : Bool) (f : TFrame) (s : State) : Host.Outcome State Fault Refusal :=
  let good := frameGood f.bytes && fByte f.bytes 2 == 1
  if good && s.role == 1 && fByte f.bytes 1 == 0 then .next (s.setFld 0x0C 0x1C 13 8 (fByte f.bytes 3))
  else if good && s.role == 2 && s.fld 0x0C 0x1C 0 0 == 0 && s.blkEn 0x0C && fByte f.bytes 3 == 32 then
    .next ({ s with trunk := { s.trunk with far := true } }.raise 1541)
  else .next (s.receive trk1 f 1 0 (fun t => t.takeEnum trk1 f.bytes))

/-! ## Time (R478 to R483) -/

/-- The hop delay of a port, in 1/16 ns. -/
def State.hopDelay (s : State) (trk1 : Bool) : Nat := s.fld (trkBlk trk1) 0x14 23 0

/-- SYNC_SEND (R479): the manager's TIME at departure, CORR 0. -/
def execSyncSend (s : State) : Host.Outcome State Fault Refusal :=
  if s.role = 1 ∧ s.blkEn 0x0C then
    let n := s.now
    .next (n.2.originate 0xFF 2 0 0 (toBytes 8 n.1.toNat))
  else .next s

/-- A worker's servo at a SYNC (R479): the offset of its time, the steered rate (a free value within ±200 ppm) and LOCK. -/
def State.servo (s : State) (trk1 : Bool) (f : List Byte) : State :=
  if s.role ≠ 2 ∨ !s.blkEn 0x0C then s
  else
    let n := s.now
    let target : Int := fNum (fPayload f) 0 8 + signed 64 (fNum f 8 8) + s.hopDelay trk1
    let off : Int := (n.1.toNat : Int) - target
    let k := n.2.freeCtr
    let rate : Int := (Config.unstated k).toNat % 1717987 - 858993
    let s1 := { n.2 with freeCtr := k + 1 }.setFld 0x0C 0x18 23 0 (wrap 24 rate)
    let ok := if off.natAbs ≤ 16 then s1.trunk.syncOk + 1 else 0
    let s2 := { s1 with trunk := { s1.trunk with syncOk := min ok 8 } }
    if s2.fld 0x0C 0x1C 31 31 = 1 then (if off.natAbs > 64 then (s2.setLock false).raise 1793 else s2)
    else if ok ≥ 8 then (s2.setLock true).raise 1792 else s2

/-- SYNC_RECEIVE (R479): the first copy is used; a forwarded copy gains the hop delay and the residence time, a free value. -/
def execSyncReceive (trk1 : Bool) (f : TFrame) (s : State) : Host.Outcome State Fault Refusal :=
  let k := s.freeCtr
  .next ({ s with freeCtr := k + 1 }.receive trk1 f 2 (s.hopDelay trk1 + (Config.unstated k).toNat) (fun t => t.servo trk1 f.bytes))

/-- Clears a worker's LOCK with event 1793 (R479, R483). -/
def State.loseLock (s : State) : State :=
  let s1 := { s with trunk := { s.trunk with syncOk := 0 } }
  if s.role = 2 ∧ s.fld 0x0C 0x1C 31 31 = 1 then (s1.setLock false).raise 1793 else s1

/-- SYNC_TIMEOUT (R479): 10 ms with no SYNC. -/
def execSyncTimeout (s : State) : Host.Outcome State Fault Refusal := .next s.loseLock

/-- DREQ_SEND (R478): a request of one hop, stamped t1 at departure. -/
def execDreqSend (trk1 : Bool) (s : State) : Host.Outcome State Fault Refusal :=
  let n := s.now
  let s1 := { n.2 with trunk := { n.2.trunk with dreq := Map.put n.1 n.2.trunk.dreq trk1.toNat, seq := (n.2.trunk.seq + 1) % 65536 } }
  .next (s1.sendOn trk1 (mkFrame 0xFF s.node 3 0 s.trunk.seq 0 []))

/-- DREQ_RECEIVE (R478): the answer carries t2 and t3. -/
def execDreqReceive (trk1 : Bool) (f : TFrame) (s : State) : Host.Outcome State Fault Refusal :=
  if !frameGood f.bytes then .next (s.frameError trk1)
  else if fByte f.bytes 2 ≠ 3 then .next s
  else
    let a := s.now
    let b := a.2.now
    let s1 := { b.2 with trunk := { b.2.trunk with seq := (b.2.trunk.seq + 1) % 65536 } }
    .next (s1.sendOn trk1 (mkFrame (fByte f.bytes 1) s.node 4 0 s.trunk.seq 0 (toBytes 8 a.1.toNat ++ toBytes 8 b.1.toNat)))

/-- DRSP_RECEIVE (R478): ((t4 - t1) - (t3 - t2)) / 2, and the mean of the last 16. -/
def execDrspReceive (trk1 : Bool) (f : TFrame) (s : State) : Host.Outcome State Fault Refusal :=
  if !frameGood f.bytes then .next (s.frameError trk1)
  else
    match s.trunk.dreq.find? (fun v => v.1 == trk1.toNat) with
    | none => .next s
    | some (_, t1) =>
      if fByte f.bytes 2 ≠ 4 then .next s
      else
        let n := s.now
        let pl := fPayload f.bytes
        let d := wrap 64 ((((n.1 - t1).toNat : Int) - ((fNum pl 8 8 : Int) - (fNum pl 0 8 : Int))) / 2) % 2 ^ 24
        let ds := (d :: Map.get [] s.trunk.hops trk1.toNat).take 16
        let s1 := { n.2 with trunk := { n.2.trunk with hops := Map.put ds n.2.trunk.hops trk1.toNat, dreq := Map.del n.2.trunk.dreq trk1.toNat } }
        .next (s1.setReg (trkBlk trk1) 0x14 (BitVec.ofNat 32 (0x80000000 + sumNat ds / ds.length % 2 ^ 24)))

/-- Loads system time (R482). -/
def State.loadTime (s : State) (v : Nat) : State :=
  let k := s.freeCtr
  { s with timeBase := BitVec.ofNat 64 v - Config.timeElapsed k, freeCtr := k + 1 }

/-- A write to TIME_SET_HI (R482): refused on a worker; TIME_SET_LO holds the low half last written. -/
def State.timeSetHi (s : State) (m : Master) (data : Word) : State :=
  if !isMgmt m then s
  else if s.role = 2 then s.cfgerr 0x0C 0x24
  else s.loadTime (data.toNat * 2 ^ 32 + (s.reg 0x0C 0x20).toNat)

/-- TIME_SET_HI (R482). -/
def execTimeSetHi (m : Master) (data : Word) (s : State) : Host.Outcome State Fault Refusal := .next (s.admits m 0x0C 0x24 (fun t => t.timeSetHi m data))

/-! ## Budget frames (R539) -/

/-- BUDGET_FRAME_SEND (R539): the manager sends PWR_SHARE0 to PWR_SHARE31. -/
def execBudgetFrameSend (s : State) : Host.Outcome State Fault Refusal :=
  .next (if s.role = 1 then s.originate 0xFF 6 0 0 ((List.range 32).flatMap (fun n => toBytes 2 (s.fld 2 (0x200 + 4 * n) 15 0))) else s)

/-- BUDGET_FRAME_RECEIVE (R539): a worker loads its entry. -/
def execBudgetFrameReceive (trk1 : Bool) (f : TFrame) (s : State) : Host.Outcome State Fault Refusal :=
  .next (s.receive trk1 f 6 0 (fun t => if t.role = 2 ∧ t.hasNode then t.loadShare (fNum (fPayload f.bytes) (2 * t.node) 2) else t))

/-- BUDGET_SHARE_TIMEOUT (R539): a worker loads PWR_FALLBACK, or its floor where that is higher. -/
def execBudgetShareTimeout (s : State) : Host.Outcome State Fault Refusal :=
  if s.role ≠ 2 then .next s
  else
    let v := max (s.fld 2 0x18 9 0) s.pwFloor
    let s1 := if s.fld 2 0x18 9 0 < s.pwFloor then s.setFld 2 0x14 31 31 1 else s
    .next (((s1.setFld 2 0x10 9 0 v).raise 1735).arbitrate)

/-! ## Ethernet (R484 to R487) -/

/-- The register block of a MAC. -/
def ethBlk (eth1 : Bool) : Nat := if eth1 then 0x1B else 0x1A
/-- The first event of a MAC (Table 13-9): frame received, transmitted, link change, overflow. -/
def ethEvent (eth1 : Bool) (k : Nat) : Nat := (if eth1 then 1548 else 1544) + k
/-- The state of a MAC. -/
def State.mac (s : State) (eth1 : Bool) : Eth := Map.get { txq := [], wait := [], out := [] } s.eth eth1.toNat
/-- Applies `f` to a MAC. -/
def State.updMac (s : State) (eth1 : Bool) (f : Eth → Eth) : State := { s with eth := Map.put (f (s.mac eth1)) s.eth eth1.toNat }
/-- A byte of a MAC's packet memories, by its block offset. -/
def State.macByte (s : State) (eth1 : Bool) (o : Nat) : Byte :=
  BitVec.ofNat 8 (s.fld (ethBlk eth1) (o / 4 * 4) (8 * (o % 4) + 7) (8 * (o % 4)))
/-- Writes bytes into packet memory. -/
def State.macWrite (s : State) (eth1 : Bool) (o : Nat) : List Byte → State
  | [] => s
  | b :: bs => (s.setFld (ethBlk eth1) (o / 4 * 4) (8 * (o % 4) + 7) (8 * (o % 4)) b.toNat).macWrite eth1 (o + 1) bs

/-- A write to ETH_TXCMD that the gate released (R485): a LEN or extent out of range is a reserved value; a write at a full queue
waits until a frame leaves it. -/
def State.ethTxcmd (s : State) (eth1 : Bool) (data : Word) : State :=
  let f : TxFrame := { tag := bits data 31 28, ofs := 16 * bits data 24 16, len := bits data 10 0 }
  if f.len < 60 ∨ f.len > 1518 ∨ f.ofs + f.len > 0x2000 then s.cfgerr (ethBlk eth1) 0x20
  else
    let q := s.mac eth1
    if q.txq.length < 4 then (s.updMac eth1 (fun q => { q with txq := q.txq ++ [f] })).setFld (ethBlk eth1) 0x24 2 0 (q.txq.length + 1)
    else s.updMac eth1 (fun q => { q with wait := q.wait ++ [f] })

/-- ETH_TXCMD (R485). -/
def execEthTxcmd (m : Master) (eth1 : Bool) (data : Word) (s : State) : Host.Outcome State Fault Refusal :=
  .next (s.admits m (if eth1 then 0x1B else 0x1A) 0x20 (fun u => u.pastGate m (fun t => t.ethTxcmd eth1 data)))

/-- ETH_TRANSMIT_COMPLETE (R484, R485): the oldest queued frame has left with its FCS; TAG, the time stamp and the TX event. -/
def execEthTransmitComplete (eth1 : Bool) (s : State) : Host.Outcome State Fault Refusal :=
  let b := ethBlk eth1
  match (s.mac eth1).txq with
  | [] => .next s
  | f :: fs =>
    let n := s.now
    let q := s.mac eth1
    let txq := fs ++ q.wait.take 1
    let bytes := (List.range f.len).map (fun i => s.macByte eth1 (0x8000 + f.ofs + i))
    let s1 := n.2.updMac eth1 (fun q => { q with txq := txq, wait := q.wait.drop 1, out := bytes ++ toBytes 4 (crc32 bytes) })
    let s2 := ((s1.setFld b 0x24 31 28 f.tag).setFld b 0x24 2 0 txq.length).setReg b 0x28 (n.1.setWidth 32)
    .next ((s2.setReg b 0x2C ((n.1 >>> 32).setWidth 32)).raise (ethEvent eth1 1))

/-- Is a frame as received good (Table 13-7): 64 to 1,522 bytes with a right FCS, its last four bytes. -/
def ethGood (wire : List Byte) : Bool :=
  decide (64 ≤ wire.length ∧ wire.length ≤ 1522) && ofBytes (wire.drop (wire.length - 4)) == crc32 (wire.take (wire.length - 4))

/-- Does the receive filter of a MAC pass a frame (Table 13-7): its own unicast address, broadcast or multicast. -/
def State.ethAccept (s : State) (eth1 : Bool) (data : List Byte) : Bool :=
  let b := ethBlk eth1
  let mac := (s.reg b 0x14).toNat + 2 ^ 32 * s.fld b 0x18 15 0
  (ofBytes (data.take 6) == mac || (data.getD 0 0).toNat % 2 == 1)

/-- Is a frame a PAUSE frame: EtherType 0x8808. -/
def isPause (data : List Byte) : Bool := data.getD 12 0 == 0x88 && data.getD 13 0 == 0x08

/-- Counts a frame dropped (ETH_STAT.RXDROP). -/
def State.ethDrop (s : State) (eth1 : Bool) : State := s.count16 (ethBlk eth1) 0x38 16

/-- ETH_FRAME_RECEIVE (R484, R486): the FCS of the frame is checked and stripped. A frame that is not good is dropped, and counted as
RXDROP counts (notes/assumptions/61.md). -/
def execEthFrameReceive (eth1 : Bool) (wire : List Byte) (s : State) : Host.Outcome State Fault Refusal :=
  let b := ethBlk eth1
  let data := wire.take (wire.length - 4)
  if !s.blkEn b then .next s
  else if !ethGood wire then .next (s.ethDrop eth1)
  else if isPause data then .next (s.ethDrop eth1)
  else if !s.ethAccept eth1 data then .next s
  else
    let n := s.now
    let len := 16 + (data.length + 15) / 16 * 16
    let head := s.fld b 0x30 14 4 * 16
    let tail := s.fld b 0x34 14 4 * 16
    let wraps := head + len > 0x6000
    let start := if wraps then 0 else head
    let free := (tail + 0x6000 - head - 1) % 0x6000
    let need := if wraps then (0x6000 - head) + len else len
    if need > free then .next ((n.2.ethDrop eth1).raise (ethEvent eth1 3))
    else
      let vlan := if data.getD 12 0 == 0x81 && data.getD 13 0 == 0 then 1 else 0
      let entry := toBytes 2 data.length ++ [vlan] ++ List.replicate 5 0 ++ toBytes 8 n.1.toNat ++ data ++ List.replicate (len - 16 - data.length) 0
      let s1 := if wraps then n.2.macWrite eth1 (0xA000 + head) (List.replicate 16 0) else n.2
      let s2 := s1.macWrite eth1 (0xA000 + start) entry
      .next ((s2.setFld b 0x30 14 4 ((start + len) % 0x6000 / 16)).raise (ethEvent eth1 0))

/-- ETH_LINK_CHANGE (R484). -/
def execEthLinkChange (eth1 : Bool) (up : Bool) (speed : BitVec 2) (s : State) : Host.Outcome State Fault Refusal :=
  let b := ethBlk eth1
  let s1 := s.setFld b 0x38 5 4 speed.toNat
  if (s.fld b 0x38 0 0 == 1) == up then .next s1
  else .next (((s1.setFld b 0x38 0 0 up.toNat).setFld b 0x38 1 1 1).raise (ethEvent eth1 2))

end Sys2Proof.Machine
end

