-- ==== Sys2Proof/Machine/Mailbox.lean ====
section
/-!
DEFINITION. Machine/Mailbox.lean: the mailbox hardware (14_cretal_mailboxes, R498 to R504, R481): channels, their states, and the
trunk's part in them.
-/

namespace Sys2Proof.Machine

open Sys2Proof

/-- The base offset of a channel (Table 14-4). -/
def mbxBase (n : Nat) : Nat := 0x1000 + 0x400 * n
/-- MBX_STATn.STATE: 0 IDLE, 1 REQ, 2 SERVING, 3 RESP. -/
def State.mbxState (s : State) (n : Nat) : Nat := s.fld 5 (mbxBase n + 0x204) 1 0
/-- Puts a channel in a state. -/
def State.mbxSet (s : State) (n st : Nat) : State := s.setFld 5 (mbxBase n + 0x204) 1 0 st
/-- A write refused because of the channel's state (COLL). -/
def State.mbxColl (s : State) (n : Nat) : State := s.setFld 5 (mbxBase n + 0x204) 2 2 1
/-- An engine access refused (DENY). -/
def State.mbxDeny (s : State) (n : Nat) : State := s.setFld 5 (mbxBase n + 0x204) 3 3 1

/-- R499: may a master use a channel; the engine tested for a pair is the channel A twin. -/
def State.mbxMay (s : State) (m : Master) (n : Nat) : Bool :=
  match m with
  | .engine x =>
    let e := if s.pairedEng x.toNat then x.toNat % 512 else x.toNat
    let b := s.fld 5 (0x100 + 4 * (e / 4)) (8 * (e % 4) + 7) (8 * (e % 4))
    decide (128 ≤ b) && b % 32 == n
  | _ => true

/-- MBX_REQIDn for a ring by a master (R498, R503). -/
def State.reqId (s : State) (m : Master) : Word :=
  match m with
  | .engine x =>
    let e := x.toNat
    let p := s.pairedEng e
    BitVec.ofNat 32 (2 ^ 31 + p.toNat * 2 ^ 30 + (s.engine e).level.code * 2 ^ 28 + (if p then e % 512 else e) * 2 ^ 16 + s.taskId e % 65536)
  | _ => 0x30000000

/-- RING: IDLE to REQ, or COLL (R500). -/
def State.mbxRing (s : State) (m : Master) (n : Nat) : State :=
  if s.mbxState n = 0 then ((s.setReg 5 (mbxBase n + 0x20C) (s.reqId m)).mbxSet n 1).raise (1856 + n) else s.mbxColl n

/-- ACK: RESP to IDLE, or COLL (R500). -/
def State.mbxAck (s : State) (n : Nat) : State := if s.mbxState n = 3 then s.mbxSet n 0 else s.mbxColl n

/-- A write to MBX_DBn (R499, R500). -/
def State.mbxDoorbell (s : State) (m : Master) (n : Nat) (data : Word) : State :=
  if !s.mbxMay m n then s.mbxDeny n
  else
    match bits data 1 0 with
    | 0 => s
    | 1 => s.mbxRing m n
    | 2 => s.mbxAck n
    | _ => s.cfgerr 5 (mbxBase n + 0x200)

/-- A write of a word of the request buffer (R499, R500). -/
def State.mbxReqWrite (s : State) (m : Master) (n ofs : Nat) (data : Word) : State :=
  if !s.mbxMay m n then s.mbxDeny n
  else if s.mbxState n = 0 then s.setReg 5 (mbxBase n + 4 * ofs) data else s.mbxColl n

/-- The bytes of a buffer: request at 0, response at 0x100. -/
def State.mbxBytes (s : State) (n ofs : Nat) : List Byte :=
  (List.range 64).flatMap (fun i => toBytes 4 (s.reg 5 (mbxBase n + ofs + 4 * i)).toNat)

/-- Writes a whole buffer. -/
def State.mbxFill (s : State) (n ofs : Nat) (l : List Byte) : State :=
  (List.range 64).foldl (fun t i => t.setReg 5 (mbxBase n + ofs + 4 * i) (BitVec.ofNat 32 (ofBytes ((l.drop (4 * i)).take 4)))) s

/-- The From letters as bits: K 1, M 2, R 4, D 8. -/
def chanFrom (n : Nat) : Nat := if n < 8 then 1 else if n < 16 then 4 else if n < 24 then 2 else if n < 28 then 8 else 0

/-- Does firmware take the request of a channel next (R507): no request is in service but in the background, and the channel is the next
in REQ after the one taken last. Without a booted image it serves channels 24 to 27 alone (R517). The first round starts at channel 0,
DESIGN CHOICE (notes/assumptions/45.md). -/
def State.fwTurn (s : State) (n : Nat) : Bool :=
  !s.cretalReset && s.fw.req.all (fun p => s.fw.bg.any (fun b => b.1 == p.1)) &&
  ((List.range 32).map (fun i => (s.fw.rr + 1 + i) % 32)).find? (fun c => s.mbxState c == 1 && (s.inst.isSome || chanFrom c == 8)) == some n

/-- TAKE of a channel in REQ: to SERVING (R500). Cretal takes the requests in turn and copies each into its RAM (R502, R507). -/
def State.mbxTake (s : State) (m : Master) (n : Nat) : State :=
  if m = .cretal then
    (if s.fwTurn n then (s.mbxSet n 2).updFw (fun f => { f with req := Map.put (s.mbxBytes n 0) f.req n, rr := n }) else s)
  else s.mbxSet n 2

/-- DONE: SERVING to RESP with event 1888 + n, or CFGERR (R500). On channels 8 to 15 the response goes back to its source node and
the channel to IDLE (R503). -/
def State.mbxDone (s : State) (n : Nat) : State :=
  if s.mbxState n = 2 then
    let s1 := s.raise (1888 + n)
    if 8 ≤ n ∧ n ≤ 15 then
      (s1.originate (Map.get 0 s.trunk.src n) 5 0 0 ([BitVec.ofNat 8 n, 1, 0, 0] ++ s.mbxBytes n 0x100)).mbxSet n 0
    else s1.mbxSet n 3
  else s.cfgerr 5 (mbxBase n + 0x208)

/-- RESET: to IDLE from any state, both buffers and MBX_REQIDn zeroed. -/
def State.mbxReset (s : State) (n : Nat) : State :=
  ((((s.mbxFill n 0 []).mbxFill n 0x100 []).setReg 5 (mbxBase n + 0x20C) 0).mbxSet n 0).updFw (fun f => { f with req := Map.del f.req n, bg := Map.del f.bg n })

/-- A write to MBX_CTLn (R499, R500); a write with an offence sets CFGERR once (R22). -/
def State.mbxControl (s : State) (m : Master) (n : Nat) (data : Word) : State :=
  match m with
  | .engine _ => s.cfgerr 5 (mbxBase n + 0x208)
  | _ =>
    if bit data 2 then s.mbxReset n
    else
      let s1 := if bit data 0 ∧ s.mbxState n = 1 then s.mbxTake m n else s
      let s2 := if bit data 1 ∧ s1.mbxState n = 2 then s1.mbxDone n else s1
      if (bit data 0 ∧ s.mbxState n ≠ 1) ∨ (bit data 1 ∧ s1.mbxState n ≠ 2) then s2.cfgerr 5 (mbxBase n + 0x208) else s2

/-- A write to a register of a channel, by its offset in the channel (R499, R500). -/
def State.mbxWrite (s : State) (m : Master) (n r : Nat) (data : Word) : State :=
  let isEng := match m with
    | .engine _ => true
    | _ => false
  if r < 0x100 then s.mbxReqWrite m n (r / 4) data
  else if r < 0x200 then
    (if !s.mbxMay m n then s.mbxDeny n
     else if isEng then s.cfgerr 5 (mbxBase n + r) else s.setReg 5 (mbxBase n + r) data)
  else if r = 0x200 then s.mbxDoorbell m n data
  else if r = 0x204 then
    (if !s.mbxMay m n then s.mbxDeny n
     else
       let s1 := if bit data 3 then s.setFld 5 (mbxBase n + r) 3 3 0 else s
       if bit data 2 then s1.setFld 5 (mbxBase n + r) 2 2 0 else s1)
  else if r = 0x208 then s.mbxControl m n data
  else if r = 0x20C then (if s.mbxMay m n then s else s.mbxDeny n)
  else s.cfgerr 5 (mbxBase n + r)

/-- A read of a register of a channel (R499, R500). -/
def State.mbxRead (s : State) (m : Master) (n r : Nat) : Word × State :=
  if r = 0x208 ∨ r = 0x200 ∨ 0x210 ≤ r then (if r = 0x200 ∧ !s.mbxMay m n then (0, s.mbxDeny n) else (0, s))
  else if s.mbxMay m n then (s.reg 5 (mbxBase n + r), s) else (0, s.mbxDeny n)

/-- MBX_REQ_WRITE (R500). -/
def execMbxReqWrite (m : Master) (n : BitVec 5) (ofs : BitVec 6) (data : Word) (s : State) : Host.Outcome State Fault Refusal :=
  .next (s.admits m 5 (mbxBase n.toNat + 4 * ofs.toNat) (fun t => t.mbxReqWrite m n.toNat ofs.toNat data))
/-- RING (R498, R500). -/
def execRing (m : Master) (n : BitVec 5) (s : State) : Host.Outcome State Fault Refusal :=
  .next (s.admits m 5 (mbxBase n.toNat + 0x200) (fun t => t.mbxDoorbell m n.toNat 1))
/-- ACK (R500). -/
def execAck (m : Master) (n : BitVec 5) (s : State) : Host.Outcome State Fault Refusal :=
  .next (s.admits m 5 (mbxBase n.toNat + 0x200) (fun t => t.mbxDoorbell m n.toNat 2))
/-- TAKE (R500, R502). -/
def execTake (m : Master) (n : BitVec 5) (s : State) : Host.Outcome State Fault Refusal :=
  .next (s.admits m 5 (mbxBase n.toNat + 0x208) (fun t => t.mbxControl m n.toNat 1))
/-- DONE (R500, R503). -/
def execDone (m : Master) (n : BitVec 5) (s : State) : Host.Outcome State Fault Refusal :=
  .next (s.admits m 5 (mbxBase n.toNat + 0x208) (fun t => t.mbxControl m n.toNat 2))
/-- MBX_RESET (R500, R501). -/
def execMbxReset (m : Master) (n : BitVec 5) (s : State) : Host.Outcome State Fault Refusal :=
  .next (s.admits m 5 (mbxBase n.toNat + 0x208) (fun t => t.mbxControl m n.toNat 4))

/-- A message that a trunk MBX frame brings for a channel (R481, R503): taken in IDLE, else dropped and counted by the port. -/
def State.takeMbx (s : State) (trk1 : Bool) (f : List Byte) : State :=
  let pl := fPayload f
  let n := fByte pl 0
  let msg := (pl.drop 4).take 256
  if n < 8 ∨ 15 < n ∨ s.mbxState n ≠ 0 then s.count16 (trkBlk trk1) 0x10 16
  else if fByte pl 1 % 2 = 1 then ((s.mbxFill n 0x100 msg).mbxSet n 3).raise (1856 + n)
  else
    let s1 := (s.mbxFill n 0 msg).mbxRing .trunk n
    { s1 with trunk := { s1.trunk with src := Map.put (fByte f 1) s1.trunk.src n } }

/-- MBX_FRAME_RECEIVE (R481, R503). -/
def execMbxFrameReceive (trk1 : Bool) (f : TFrame) (s : State) : Host.Outcome State Fault Refusal :=
  .next (s.receive trk1 f 5 0 (fun t => t.takeMbx trk1 f.bytes))

end Sys2Proof.Machine
end

