-- ==== Sys2Proof/Machine/Sched.lean ====
section
/-!
DEFINITION. Machine/Sched.lean: tasks, chucks, save areas, the scheduler and its commands, and the event router
(06_tasks_scheduler).
-/

namespace Sys2Proof.Machine

open Sys2Proof

/-! ## The save area (R234 to R236) -/

/-- The 64-bit registers of a save area in the order of Table 06-5. -/
def saveItems : List Nat := [0x00, 0x08, 0x10, 0x11, 0x12, 0x14, 0x15, 0x16, 0x18, 0x19, 0x1A, 0x20, 0x21, 0x22, 0x23]

/-- The bits a 64-bit register of a chuck holds; its reserved fields read 0 (R15). -/
def sysMask (n : Nat) : Dword :=
  if n = 0x00 then 0x3131F else if n = 0x08 then 0x80FFFFFFFFFFFFFF
  else if 0x10 ≤ n ∧ n ≤ 0x16 then 0x00FFFFFFFFFFFFFF else if 0x20 ≤ n ∧ n ≤ 0x23 then 0x0000FFFF0FFFFFFF
  else BitVec.allOnes 64

/-- An INT cell of two 64-bit items. -/
def pairCell (lo hi : Dword) : Cell := { bits := lo.setWidth 128 + hi.setWidth 128 <<< 64, kind := .int }

/-- The 64 cells of a save area. -/
def Chuck.saveCells (c : Chuck) : List Cell :=
  let item := fun (i : Nat) => if i < 15 then c.sysr (saveItems.getD i 0) else 0
  (List.range 31).map (fun i => c.reg (i + 1)) ++ [c.pcc] ++ (List.range 8).map (fun i => pairCell (item (2 * i)) (item (2 * i + 1))) ++
  [{ bits := BitVec.ofNat 128 (ofBytes ((List.range 7).flatMap (fun i => toBytes 2 (c.pred (i + 1)).toNat))), kind := .int }, Cell.null] ++
  (List.range 4).flatMap (fun k => [pairCell (c.acc k).l0 (c.acc k).l1, pairCell (c.acc k).l2 (c.acc k).l3]) ++
  [{ bits := BitVec.ofNat 128 ((c.acc 0).s.toNat + 16 * (c.acc 1).s.toNat + 256 * (c.acc 2).s.toNat + 4096 * (c.acc 3).s.toNat), kind := .int }] ++
  List.replicate 13 Cell.null

/-- Is a cell number of the save area one of c1 to c31 or PCC. -/
def isRegCell (i : Nat) : Bool := decide (i < 32)

/-- A chuck from the cells of its save area (R235): `first` for the first fill after BIND, `cls` the task's class. -/
def chuckOf (l : List Cell) (first cls : Bool) (occ : Nat) : Chuck :=
  let cell := fun (i : Nat) => l.getD i Cell.null
  let reg := fun (r : Nat) =>
    let c := cell (r - 1)
    if !first then c
    else if r = 1 then (if c.kind = .raw then { c with kind := .int } else c)
    else if r = 31 then c
    else { bits := 0, kind := .poison }
  let half := fun (i : Nat) => BitVec.ofNat 64 ((cell (32 + i / 2)).bits.toNat >>> (64 * (i % 2)))
  let item := fun (i : Nat) =>
    let n := saveItems.getD i 0
    let v := half i &&& sysMask n
    (n, if n = 0 then setBit v 16 cls else v)
  let acc := fun (k : Nat) =>
    let a := cell (42 + 2 * k)
    let b := cell (43 + 2 * k)
    (k, ({ l0 := BitVec.ofNat 64 a.bits.toNat, l1 := BitVec.ofNat 64 (a.bits.toNat >>> 64), l2 := BitVec.ofNat 64 b.bits.toNat
           l3 := BitVec.ofNat 64 (b.bits.toNat >>> 64), s := BitVec.ofNat 4 ((cell 50).bits.toNat >>> (4 * k)) } : Accum))
  { regs := (List.range 31).map (fun i => (i + 1, reg (i + 1))), pcc := alignPcc (cell 31), sys := (List.range 15).map item
    preds := if cls then (List.range 7).map (fun i => (i + 1, BitVec.ofNat 16 ((cell 40).bits.toNat >>> (16 * i)))) else []
    accs := if cls then (List.range 4).map acc else [], occ := some occ }

/-- R236 and the tests of Table 02-6 on a save-area capability. -/
def saveCheck (e : Nat) (c : Cell) : EM Unit := do
  capSource e c (capCursor c) none 0 true
  if !(capHas c .ld && capHas c .st && capHas c .ldc && capHas c .stc && capHas c .stl) then fault 6 (capCursor c) none 0
  if capCursor c % 64 ≠ 0 ∨ capCursor c < 2 ^ 55 ∨ capCursor c < capBase c ∨ capTop c < capCursor c + 1024 then fault 5 (capCursor c) none 0

/-- The physical address of line `i` of the save area of a task, `paired` or not, checked (R236, R301, R322, R345). -/
def saveLine (e : Nat) (c : Cell) (i : Nat) (acc : Access) (paired : Bool) : EM Nat := do
  let p ← translate e { va := capCursor c + 64 * i, acc := acc, lvl := .k, user := false, kgu := true, inl := true, reg := none, accCode := 0 }
  mpuE e p.1 acc .k paired p.2 none 0
  if (← get).busBad p.1 16 p.2 (acc == .write) false then fault 0x15 p.1 none 0
  pure p.1

/-- The number of lines a task's save area takes (R234): 10, or 16 for a stream task. -/
def saveLines (stream : Bool) : Nat := if stream then 16 else 10

/-- The spill of the chuck of a task (R234, R242): written cell by cell, each capability under R94. -/
def spill (e : Nat) (t : Slot) (ch : Chuck) : EM Unit := do
  saveCheck e t.save
  let l := ch.saveCells
  (List.range (saveLines t.cls)).forM (fun i => do
    let pa ← saveLine e t.save i .write t.paired
    (List.range 4).forM (fun j => do
      let d := l.getD (4 * i + j) Cell.null
      let k ← storeKind e d true
      modify (fun s =>
        let key := keyOf e (pa + 16 * j)
        let m : MCell := { bits := d.bits, tag := kindTag k }
        (s.writeCell key m).updEngine e (fun x => x.updL1d key true (fun _ => m)))))

/-- The cells the fill of a task reads (R234, R235). -/
def fillCellsOf (e : Nat) (t : Slot) : EM (List Cell) := do
  saveCheck e t.save
  (List.range (saveLines t.cls)).foldlM (fun (acc : List Cell) i => do
    let pa ← saveLine e t.save i .read t.paired
    (List.range 4).foldlM (fun (acc : List Cell) j => do
      let m ← readMem e (pa + 16 * j) 0xB none 0
      match kindOfTag m.tag with
      | none => fault 3 (capCursor t.save) none 0
      | some k => pure (acc ++ [{ bits := m.bits, kind := k }])) acc) []

/-! ## Preemption points and dispatch (R238, R241, R249) -/

/-- Is an engine at a preemption point at level T with nothing outstanding, its first asynchronous entry not a halt or an imprecise
error (R249, R279). An imprecise error of an engine with no RUNNING task waits for the dispatch of one (R298). -/
def State.atPoint (s : State) (e : Nat) : Bool :=
  let x := s.engine e
  x.level == .t && !x.held && !x.stopped && !x.dbg.halted && x.dbg.haltReq.isNone && !x.resetPend && (x.imp.isNone || !x.running) &&
  s.tileCur (tileOf e) == 0 && x.sw.isNone && x.walk.isNone && x.load.isNone && x.lfill.isNone && x.act.isNone && !x.bcast

/-- Stops a long instruction at a chunk boundary (R192): PROG gets V, TAG and DONE. -/
def State.stopLong (s : State) (e : Nat) : State :=
  match (s.engine e).long with
  | none => s
  | some l =>
    let tag := bits (BitVec.ofNat 56 (capCursor (s.chuck e).pcc)) 17 2
    (s.updChuck e (fun c => c.setSysr 8 (BitVec.ofNat 64 (2 ^ 63 + tag * 2 ^ 40 + l.done)))).updEngine e (fun x => { x with long := none })

/-- The next value of the counter that orders the tasks of an engine. -/
def Engine.tick (x : Engine) : Engine := { x with readyCtr := x.readyCtr + 1 }

/-- A slot becomes READY, last of its priority (R247). -/
def State.makeReady (s : State) (e n : Nat) : State :=
  (s.updSlot e n (fun t => { t with st := .ready, readyAt := (s.engine e).readyCtr, used := 0 })).updEngine e Engine.tick

/-- The engine has no RUNNING task. -/
def State.idle (s : State) (e : Nat) : State := s.updEngine e (fun x => { x with running := false, resv := none, lchk := [] })

/-- Empties a chuck, every cell null. -/
def State.emptyChuck (s : State) (e c : Nat) : State := s.updEngine e (fun x => { x with chucks := Map.put Chuck.empty x.chucks c })

/-- Frees a slot (Table 06-9, UNBIND). -/
def State.freeSlot (s : State) (e n : Nat) : State :=
  let t := Map.get Slot.free (s.engine e).slots n
  let s1 := match t.chuck with
    | some c => s.emptyChuck e c
    | none => s
  s1.updSlot e n (fun _ => Slot.free)

/-- The dispatch of a resident task (R216, R232, R238, R240, R395): its chuck, the scheduler's copies of TTB0, ASID, TASKCEIL and PSALT, and
before its first run the effect of PFLUSH. -/
def State.dispatch (s : State) (e n c : Nat) : State :=
  let t := Map.get Slot.free (s.engine e).slots n
  let s1 := s.updEngine e (fun x => { x with slot := n, cur := c, level := .t, running := true, resv := none, sw := none, lchk := [] })
  let s2 := if t.firstFill then s1.updEngine e (fun x => x.pflush n (s1.taskId e)) else s1
  let s3 := ((((s2.setEsys e 0x108 t.ttb0).setEsys e 0x10B (t.asid.setWidth 64)).setEsys e 0x107 (t.ceil.setWidth 64)).setEsys e 0x10D (t.psalt.setWidth 64))
  let s4 := (s3.updSlot e n (fun t => { t with st := .running, firstFill := false, lastRun := (s3.engine e).readyCtr, used := 0, sliceNow := t.slice })).updEngine e Engine.tick
  let id := taskIdOf e n t.paired
  (s4.sigTake e ([0x06] ++ toBytes 2 id)).traceEv e 4 (toBytes 2 id)

/-! ## Decisions (R245, R247, R266) -/

/-- Is slot `a` chosen before slot `b` (R247). -/
def slotBefore (a b : Nat × Slot) : Bool :=
  decide (b.2.prio.toNat < a.2.prio.toNat) || (a.2.prio == b.2.prio && decide (a.2.readyAt < b.2.readyAt))

/-- The READY task of highest priority, the longest READY first (R247). -/
def Engine.pick (x : Engine) : Option (Nat × Slot) :=
  x.slots.foldl (fun b p => if p.2.st ≠ .ready then b else match b with
    | none => some p
    | some q => if slotBefore p q then some p else some q) none

/-- The lowest-numbered empty chuck among 0 to 6 (R239). -/
def Engine.emptyChuckNo (x : Engine) : Option Nat := (List.range 7).find? (fun c => (Map.get Chuck.empty x.chucks c).occ.isNone)

/-- The chuck among 0 to 6 whose task ran least recently (R239). -/
def Engine.victim (x : Engine) : Nat :=
  let age := fun (c : Nat) => match (Map.get Chuck.empty x.chucks c).occ with
    | some n => (Map.get Slot.free x.slots n).lastRun
    | none => 0
  ((List.range 7).foldl (fun b c => if age c < age b then c else b) 0)

/-- A decision of the channel A scheduler of a pair is sent to the channel B scheduler and makes a point (R266, R397); one that channel B
presents for the count is compared at once (R392). -/
def State.sendDecision (s : State) (e : Nat) (c : Choice) : State :=
  if s.pairedEng e && !inB e then
    let p := pairOf e
    let d : Decision := { count := (s.engine e).commits, choice := c, idle := !(s.engine e).running }
    let s1 := (s.updPair p (fun q => { q with decisions := q.decisions ++ [d], bDec := none, bHeld := q.bHeld && q.bDec.isNone })).addPoint p .decision
    match (s.pair p).bDec with
    | some b => if b.choice = c then s1 else s1.divergeAt p 6 b.count
    | none => s1
  else s

/-- The decision that channel A has sent for the channel B engine's count. -/
def State.sentDecision (s : State) (e : Nat) : Option Decision :=
  match (s.pair (pairOf e)).decisions with
  | [] => none
  | d :: _ => if d.count ≤ (s.engine e).commits then some d else none

/-- The channel B scheduler carries out the decision at its front, and its engine's signature is delivered (R398). -/
def State.takeDecision (s : State) (e : Nat) : State :=
  (s.deliverSig (pairOf e) .decision).updPair (pairOf e) (fun q => { q with decisions := q.decisions.drop 1 })

/-- The channel B scheduler presents a decision at a count for which channel A has made none: held there (R392). -/
def State.presentDecision (s : State) (e : Nat) (c : Choice) : State :=
  s.updPair (pairOf e) (fun q => { q with bHeld := true, bDec := some { count := (s.engine e).commits, choice := c, idle := !(s.engine e).running } })

/-- The scheduler trap of R245 for the incoming slot. -/
def State.schedTrap (s : State) (e n : Nat) : State :=
  let paired := (Map.get Slot.free (s.engine e).slots n).paired
  let s1 := s.updEngine e (fun x => { x with slot := n, trap := true, cur := if x.cur = 7 then 0 else x.cur })
  s1.enterK e { code := 0x1A, val := 1 + taskIdOf e n paired * 65536, reg := none, acc := 0 } Cell.null false

/-- Starts the switch to a chosen slot (R239, R243, R245). -/
def State.startSwitch (s : State) (e n : Nat) (t : Slot) : State :=
  let x := s.engine e
  match t.chuck with
  | some c => s.updEngine e (fun x => { x with sw := some { slot := n, chuck := c, victim := none } })
  | none =>
    let b := tileBlk (tileOf e)
    let o := 0x100 + 4 * (e % 32)
    let s1 := { s with eff := Map.put (setBits (s.effReg b o) 0 0 (s.fld b o 0 0)) s.eff (regKey b o) }
    match x.emptyChuckNo with
    | some c => s1.updEngine e (fun x => { x with sw := some { slot := n, chuck := c, victim := none } })
    | none =>
      if s1.effFld b o 0 0 = 1 then s1.schedTrap e n
      else
        let v := x.victim
        s1.updEngine e (fun x => { x with sw := some { slot := n, chuck := v, victim := (Map.get Chuck.empty x.chucks v).occ } })

/-- What a scheduling decision leaves of the running task, and the slot it chooses, if the engine changes task: the running task leaves
under a SUSPEND or UNBIND (R227), and a READY task of higher priority is chosen before it. -/
def State.decideNow (s : State) (e : Nat) : Option (Nat × Slot) × State :=
  let x := s.engine e
  let cur := s.curSlot e
  let s1 :=
    if !x.running then s
    else if cur.unbindReq then (s.freeSlot e x.slot).idle e
    else if cur.suspendReq then (s.updSlot e x.slot (fun t => { t with st := .suspended, wasWaiting := false, suspendReq := false })).idle e
    else s
  let y := s1.engine e
  match y.pick with
  | none => (none, s1)
  | some (n, t) =>
    if !y.running then (some (n, t), s1)
    else if cur.prio.toNat < t.prio.toNat then (some (n, t), (s1.makeReady e x.slot).idle e)
    else (none, s1)

/-- The lowest vector set in a mask. -/
def lowestVec (m : BitVec 16) : Nat := ctzFrom (m.setWidth 64) 16 0

/-- Is another task of the running task's priority READY (R250). -/
def State.peerReady (s : State) (e : Nat) : Bool :=
  let x := s.engine e
  x.slots.any (fun p => p.1 != x.slot && p.2.st == .ready && p.2.prio == (s.curSlot e).prio)

/-- The decision that is due at a preemption point from the engine's own state, in the order of R279, the slice of a paired task first
(notes/assumptions/27.md). -/
def State.ownChoice (s : State) (e : Nat) : Option Choice :=
  let x := s.engine e
  let m := (s.curSlot e).pend &&& (s.curSlot e).emask
  if x.running && s.sliceDue e then some (if s.peerReady e then .tail else .restart)
  else if if x.running then s.decisionDue e else x.pick.isSome then
    some (match (s.decideNow e).1 with
      | some p => .slot p.1
      | none => .none)
  else if x.running && m != 0 then some (.event (lowestVec m))
  else none

/-- What a command that makes decisions of the kinds `mine` does at a preemption point, `f` being a decision's effect. The channel A
scheduler of a pair sends the decision. The channel B scheduler carries out the one that channel A has sent for its count where its own
is equal, and a difference is a divergence SCHED (R266); one that channel A made after a WAIT waits for channel B's WAIT. With none sent it
presents its own where channel A stands at the same count (R392). -/
def State.runDecision (s : State) (e : Nat) (mine : Choice → Bool) (f : Choice → State → State) : State :=
  if !s.atPoint e then s
  else if s.pairedEng e && inB e then
    match s.sentDecision e, s.ownChoice e with
    | some d, own =>
      if d.idle && (s.engine e).running then s
      else if own ≠ some d.choice then s.divergeAt (pairOf e) 6 d.count
      else if mine d.choice then f d.choice (s.takeDecision e) else s
    | none, some c =>
      if mine c && (s.engine e).commits == (s.engine (twinOf e)).commits && s.atPoint (twinOf e) && (s.pair (pairOf e)).bDec.isNone then
        s.presentDecision e c
      else s
    | none, none => s
  else
    match s.ownChoice e with
    | some c =>
      let t := s.sendDecision e c
      if !mine c then s else if (t.engine e).stopped then t else f c t
    | none => s

/-- The effect of a scheduling decision (R247 to R251). -/
def State.switchNow (s : State) (e : Nat) : State :=
  let r := (s.stopLong e).decideNow e
  match r.1 with
  | some p => r.2.startSwitch e p.1 p.2
  | none => r.2

/-- SCHEDULING_DECISION (R247 to R251, R266). -/
def execSchedulingDecision (e : Eid) (s : State) : Host.Outcome State Fault Refusal :=
  .next (s.runDecision e.toNat (fun c => match c with
    | .slot _ | .none => true
    | .tail | .restart | .event _ => false) (fun _ t => t.switchNow e.toNat))

/-- TASK_SWITCH (R241 to R244): the spill of the victim, where the chuck still holds it, the fill of the incoming task, and its dispatch; a
failure is a Bank Spill Fault, which escalates to Rest. That a failed fill does so under the SW policy too is a DESIGN CHOICE
(notes/assumptions/35.md): R244 speaks of the HW policy. -/
def execTaskSwitch (e : Eid) (s : State) : Host.Outcome State Fault Refusal :=
  let e := e.toNat
  match (s.engine e).sw with
  | none => .next s
  | some w =>
    if (Map.get Slot.free (s.engine e).slots w.slot).st ≠ .ready then .next (s.updEngine e (fun x => { x with sw := none })) else
    let s := s.sbDrain e
    let epc := (s.chuck e).pcc
    let slotOf := fun (u : State) (n : Nat) => Map.get Slot.free (u.engine e).slots n
    let fail := fun (u : State) (sub n : Nat) =>
      (u.updEngine e (fun x => { x with sw := none })).enterRest e 0x1A (sub + taskIdOf e n (slotOf u n).paired * 65536) epc
    let ch := Map.get Chuck.empty (s.engine e).chucks w.chuck
    let victim := w.victim.filter (fun v => ch.occ == some v)
    let spilled : Option State × State := match victim with
      | none => (some s, s)
      | some v =>
        match (spill e (slotOf s v) ch).run s with
        | .error _ u => (none, u)
        | .ok _ u => (some ((u.updSlot e v (fun t => { t with chuck := none })).emptyChuck e w.chuck), u)
    match spilled with
    | (none, u) => .next (fail u 2 (victim.getD 0))
    | (some t, _) =>
      let sl := slotOf t w.slot
      match sl.chuck with
      | some c => .next (t.dispatch e w.slot c)
      | none =>
        match (fillCellsOf e sl).run t with
        | .error _ u => .next (fail u 3 w.slot)
        | .ok l u =>
          let c := chuckOf l sl.firstFill sl.cls w.slot
          let u1 := (u.updEngine e (fun x => { x with chucks := Map.put c x.chucks w.chuck })).updSlot e w.slot (fun t => { t with chuck := some w.chuck })
          .next (u1.dispatch e w.slot w.chuck)

/-- The end of a slice (R250): the RUNNING task goes to the tail of its priority where another task of that priority is READY, else its
count restarts. -/
def State.endSlice (s : State) (e : Nat) : State :=
  if s.peerReady e then ((s.stopLong e).makeReady e (s.engine e).slot).idle e
  else s.updSlot e (s.engine e).slot (fun t => { t with used := 0 })

/-- SLICE_EXPIRY (R250, R267): the slice of the RUNNING task is used up. For a pair the expiry is counted in instructions, and it is a
scheduling decision that channel A sends and channel B compares: a DESIGN CHOICE (notes/assumptions/27.md). -/
def execSliceExpiry (e : Eid) (s : State) : Host.Outcome State Fault Refusal :=
  let e := e.toNat
  .next (if s.pairedEng e then s.runDecision e (fun c => c == .tail || c == .restart) (fun _ t => t.endSlice e)
    else if !s.atPoint e || !(s.engine e).running || (s.curSlot e).sliceNow == 0 then s else s.endSlice e)

/-- The effect of an event entry for vector `n` of the RUNNING task (R254). -/
def State.enterEvent (s : State) (e n : Nat) : State :=
  let val := (Map.get 0 (s.curSlot e).evids n).toNat
  let s1 := (s.stopLong e).updSlot e (s.engine e).slot (fun t => { t with pend := setBit t.pend n false })
  s1.enterK e { code := 0x20 + n, val := val, reg := none, acc := 0 } (s1.chuck e).pcc false

/-- EVENT_ENTRY (R254, R279): the entry of the lowest pending entry vector, once no scheduling decision is due. -/
def execEventEntry (e : Eid) (s : State) : Host.Outcome State Fault Refusal :=
  .next (s.runDecision e.toNat (fun c => match c with
    | .event _ => true
    | .slot _ | .none | .tail | .restart => false) (fun c t => match c with
    | .event n => t.enterEvent e.toNat n
    | .slot _ | .none | .tail | .restart => t))

/-! ## The event router (R252 to R258) -/

/-- A delivery to a vector of a bound task (R252, R254, R255, R560). -/
def State.deliver (s : State) (e n vec id : Nat) : State :=
  let s1 := s.updSlot e n (fun t => { t with pend := setBit t.pend vec true, evids := Map.put (BitVec.ofNat 12 id) t.evids vec })
  let t := Map.get Slot.free (s.engine e).slots n
  let s2 := if t.st = .waiting ∧ ¬(s.engine e).dbg.halted then s1.makeReady e n else s1
  s2.wakeForDelivery (tileOf e)

/-- An event becomes pending for Cretal (EVR_CPENDk). -/
def State.toCretal (s : State) (id : Nat) : State := s.setFld 4 (0x100 + 4 * (id / 32)) (id % 32) (id % 32) 1

/-- A delivery made to Cretal under R256, with tile event 3 of the task's tile. -/
def State.misroute (s : State) (id e : Nat) : State :=
  let s1 := if s.fld 4 0x14 0 0 = 1 then s.setFld 4 0x14 1 1 1 else (s.setFld 4 0x14 26 16 id).setFld 4 0x14 0 0 1
  (s1.toCretal id).raise (1024 + 8 * tileOf e + 3)

/-- Is a slot FREE. -/
def State.slotFree (s : State) (e n : Nat) : Bool := (Map.get Slot.free (s.engine e).slots n).st == .free

/-- EVENT_DELIVERY (R252, R256, R257): the oldest raise of an event is delivered as its binding at the raise says. -/
def execEventDelivery (id : BitVec 11) (s : State) : Host.Outcome State Fault Refusal :=
  let id := id.toNat
  match s.events.find? (fun p => p.1 == id) with
  | none => .next s
  | some p =>
    let s1 := { s with events := s.events.erase p }
    let b := p.2
    let e := bits b 15 6
    let n := bits b 5 0
    let v := bits b 19 16
    if !bit b 31 || !bit b 30 then .next (s1.toCretal id)
    else if bit b 29 then
      if inB e || s.slotFree e n || s.slotFree (twinOf e) n then .next (s1.misroute id e)
      else .next ((s1.deliver e n v id).deliver (twinOf e) n v id)
    else if s.slotFree e n then .next (s1.misroute id e)
    else .next (s1.deliver e n v id)

/-- A write to EVR_RAISE (R258): the raise of a channel B engine that runs a paired task is discarded. -/
def State.writeEvrRaise (s : State) (m : Master) (data : Word) : State :=
  let id := bits data 10 0
  if id < 1024 ∨ 1984 ≤ id then
    match m with
    | .engine x => if inB x.toNat && s.pairedCtx x.toNat then s else s.raise id
    | _ => s.raise id
  else s.cfgerr 4 0x10

/-- R260: the events that always reach Cretal. -/
def cretalOnly (n : Nat) : Bool := decide (1664 ≤ n ∧ n ≤ 1727) || [1601, 1604, 1607, 1612, 1613, 1614, 1661].contains n

/-- A write to EVR_BINDn (R259, R260). -/
def State.writeEvrBind (s : State) (m : Master) (n : Nat) (data : Word) : State :=
  let o := 0x2000 + 4 * n
  if !isMgmt m then s.cfgerr 4 o
  else
    let w := setBits (setBits (setBits (s.reg 4 o) 29 29 (bits data 29 29)) 19 16 (bits data 19 16)) 15 0 (bits data 15 0)
    if cretalOnly n && (!bit data 31 || bit data 30) then (s.setReg 4 o w).cfgerr 4 o
    else s.setReg 4 o (setBits w 31 30 (bits data 31 30))

/-- EVR_RAISE (R258). -/
def execEvrRaise (m : Master) (data : Word) (s : State) : Host.Outcome State Fault Refusal := .next (s.admits m 4 0x10 (fun t => t.writeEvrRaise m data))
/-- EVR_BIND (R260). -/
def execEvrBind (m : Master) (n : BitVec 11) (data : Word) (s : State) : Host.Outcome State Fault Refusal := 
  .next (s.admits m 4 (0x2000 + 4 * n.toNat) (fun t => t.writeEvrBind m n.toNat data))

/-! ## Scheduler commands (R261 to R264) -/

/-- The code of a task state (Table 06-1). -/
def TaskState.code : TaskState → Nat
  | .free => 0 | .ready => 1 | .running => 2 | .waiting => 3 | .suspended => 4 | .stopped => 5

/-- The physical address of a descriptor (R229). -/
def State.descAddr (s : State) (e slot : Nat) : Nat := s.effFld (tileBlk (tileOf e)) (0x180 + 4 * (e % 32)) 29 0 * 2 ^ 14 + 256 * slot

/-- PBAR's write of DET = 1 into the descriptor of a slot (R233, Table 06-4): a merge into the cell that holds CTRL, not made where its read
is uncorrectable. Where the descriptor lies in no memory there is nothing to write. -/
def State.detWrite (s : State) (e slot : Nat) : State :=
  let a := s.descAddr e slot + 0x10
  if !s.isMemory a then s
  else
    match s.readCell a a 0xC e with
    | (some c, t) => t.writeCell a { bits := c.bits ||| 0x20, tag := 0 }
    | (none, t) => t

/-- Reads 16 cells of memory for the scheduler; none where a read is uncorrectable or meets no memory (R231). -/
def State.read256 (s : State) (pa e : Nat) : Option (List MCell) × State :=
  if !(s.isMemory pa && s.isMemory (pa + 255)) then (none, s)
  else
    (List.range 16).foldl (fun (r : Option (List MCell) × State) i =>
      match r with
      | (none, t) => (none, t)
      | (some l, t) =>
        match t.readCell (pa + 16 * i) (pa + 16 * i) 0xC e with
        | (some c, u) => (some (l ++ [c]), u)
        | (none, u) => (none, u)) (some [], s)

/-- Half `h` of cell `i` of a list. -/
def half (l : List MCell) (i h : Nat) : Dword := BitVec.ofNat 64 ((l.getD i MCell.poison).bits.toNat >>> (64 * h))

/-- The slot that a descriptor describes (Tables 06-3, 06-4), or none where BIND refuses it (R231, R281). -/
def descSlot (l : List MCell) : Option Slot :=
  let ctrl := half l 1 0
  let reserved := bits ctrl 63 32 ≠ 0 ∨ bits (half l 1 1) 63 16 ≠ 0 ∨ bits (half l 2 0) 63 60 ≠ 0 ∨ bits (half l 2 1) 63 44 ≠ 0 ∨
    bits (half l 2 1) 11 0 ≠ 0 ∨ bits (half l 3 0) 63 12 ≠ 0 ∨ bits (half l 3 1) 63 2 ≠ 0 ∨ 2 ≤ bits (half l 3 1) 1 0 ∨
    (l.drop 4).any (fun c => c.bits != 0)
  if reserved ∨ kindOfTag (l.getD 0 MCell.poison).tag ≠ some .cap then none
  else some { Slot.free with
    st := if bit ctrl 7 then .ready else .suspended, save := { bits := (l.getD 0 MCell.poison).bits, kind := .cap }
    emask := BitVec.ofNat 16 (bits ctrl 31 16), domain := BitVec.ofNat 8 (bits ctrl 15 8), paired := bit ctrl 6, det := bit ctrl 5
    cls := bit ctrl 4, prio := BitVec.ofNat 4 (bits ctrl 3 0), slice := BitVec.ofNat 16 (bits (half l 1 1) 15 0)
    psalt := BitVec.ofNat 60 (bits (half l 2 0) 59 0), ttb0 := half l 2 1, asid := BitVec.ofNat 12 (bits (half l 3 0) 11 0)
    ceil := BitVec.ofNat 2 (bits (half l 3 1) 1 0), firstFill := true }

/-- BIND (R231, R265, Table 06-10): the result and the state. -/
def State.bindTask (s : State) (e n : Nat) : Nat × State :=
  let b := tileBlk (tileOf e)
  if !s.slotFree e n then (1, s)
  else
    let s0 := if (s.engine e).allFree then ((s.boundary b (0x180 + 4 * (e % 32))).boundary b (0x100 + 4 * (e % 32))).arbitrate else s
    let s1 := { s0 with eff := Map.put (setBits (s0.effReg b (0x100 + 4 * (e % 32))) 0 0 (s.effFld b (0x100 + 4 * (e % 32)) 0 0)) s0.eff (regKey b (0x100 + 4 * (e % 32))) }
    match s1.read256 (s1.descAddr e n) e with
    | (none, t) => (7, t)
    | (some l, t) =>
      match descSlot l with
      | none => (5, t)
      | some d =>
        if d.paired ≠ t.pairedEng e then (6, t)
        else (0, ((t.updSlot e n (fun _ => { d with readyAt := (t.engine e).readyCtr })).updEngine e Engine.tick).touchTile (tileOf e))

/-- RELOAD (R231, R232). -/
def State.reloadTask (s : State) (e n : Nat) : Nat × State :=
  if s.slotFree e n then (1, s)
  else
    match s.read256 (s.descAddr e n) e with
    | (none, t) => (7, t)
    | (some l, t) =>
      match descSlot l with
      | none => (5, t)
      | some d => (0, t.updSlot e n (fun q => { q with prio := d.prio, emask := d.emask, slice := d.slice }))

/-- SUSPEND (Table 06-2): a RUNNING task at its next preemption point. -/
def State.suspendTask (s : State) (e n : Nat) : Nat × State :=
  let t := Map.get Slot.free (s.engine e).slots n
  match t.st with
  | .ready => (0, s.updSlot e n (fun q => { q with st := .suspended, wasWaiting := false }))
  | .waiting => (0, s.updSlot e n (fun q => { q with st := .suspended, wasWaiting := true }))
  | .running => (0, s.updSlot e n (fun q => { q with suspendReq := true }))
  | .free | .suspended | .stopped => (1, s)

/-- RESUME (Table 06-2). -/
def State.resumeTask (s : State) (e n : Nat) : Nat × State :=
  let t := Map.get Slot.free (s.engine e).slots n
  if t.st ≠ .suspended then (1, s)
  else if t.wasWaiting && t.pend == 0 then (0, s.updSlot e n (fun q => { q with st := .waiting }))
  else (0, (s.makeReady e n).touchTile (tileOf e))

/-- UNBIND (Tables 06-2, 06-9): a RUNNING task leaves at its next preemption point. -/
def State.unbindTask (s : State) (e n : Nat) : Nat × State :=
  let t := Map.get Slot.free (s.engine e).slots n
  if t.st = .free then (1, s)
  else if t.st = .running then (0, s.updSlot e n (fun q => { q with unbindReq := true }))
  else (0, s.freeSlot e n)

/-- SPILL (R263, Table 06-10). -/
def State.spillChuck (s : State) (e c : Nat) : Nat × State :=
  let ch := Map.get Chuck.empty (s.engine e).chucks c
  match ch.occ with
  | none => (4, s)
  | some n =>
    let t := Map.get Slot.free (s.engine e).slots n
    if t.st = .running then (4, s)
    else
      match (spill e t ch).run (s.sbDrain e) with
      | .error _ u => (3, u)
      | .ok _ u => (0, (u.updSlot e n (fun q => { q with chuck := none })).emptyChuck e c)

/-- QUERY: loads the slot's state into SCHED_STATn. -/
def State.querySlot (s : State) (e n : Nat) : State :=
  let t := Map.get Slot.free (s.engine e).slots n
  let b := tileBlk (tileOf e)
  let o := 0x204 + 8 * (e % 32)
  (((s.setFld b o 31 16 t.pend.toNat).setFld b o 15 15 t.chuck.isSome.toNat).setFld b o 14 12 (t.chuck.getD 0)).setFld b o 11 9 t.st.code

/-- What a scheduler command does (Table 06-9): the result and the state. -/
def State.schedPerform (s : State) (e op n c vec : Nat) : Nat × State :=
  match op with
  | 1 => s.bindTask e n
  | 2 => s.unbindTask e n
  | 3 => s.suspendTask e n
  | 4 => s.resumeTask e n
  | 5 => if s.slotFree e n then (1, s) else (0, s.deliver e n vec 0x800)
  | 6 => s.spillChuck e c
  | 7 => (0, s.querySlot e n)
  | _ => s.reloadTask e n

/-- Is the task that a command is made on paired (R264); BIND acts on a slot of the engine's own kind (Table 06-10), which with every slot
FREE is the kind that BIND brings into force. -/
def State.cmdPaired (s : State) (e op n c : Nat) : Bool :=
  let x := s.engine e
  if op = 1 then (if x.allFree then s.fld (tileBlk (tileOf e)) (0x100 + 4 * (e % 32)) 1 1 == 1 else s.pairedEng e)
  else if op = 6 then
    (match (Map.get Chuck.empty x.chucks c).occ with
     | some k => (Map.get Slot.free x.slots k).paired
     | none => false)
  else (Map.get Slot.free x.slots n).paired

/-- Is a command denied (R262, R264): a paired task is Cretal's alone to command. -/
def State.schedDenied (s : State) (m : Master) (e op n c : Nat) : Bool :=
  match m with
  | .engine _ => decide (op = 1 ∨ op = 2 ∨ op = 8) || (s.engine e).level == .t || s.cmdPaired e op n c
  | .debug => s.cmdPaired e op n c
  | .cretal | .trunk => false

/-- A write to SCHED_CMDn (R261, R262): each field on its own (R14), a reserved CHUCK or OP left as it was (R17). -/
def State.schedCmd (s : State) (m : Master) (e op n c vec : Nat) : State :=
  let b := tileBlk (tileOf e)
  let o := 0x200 + 8 * (e % 32)
  let own := match m with
    | .engine x => x.toNat == e
    | .cretal | .debug => true
    | .trunk => false
  let flds := fun (u : State) => ((u.setFld b o 21 16 n).setFld b o 14 12 (if c = 7 then u.fld b o 14 12 else c)).setFld b o 11 8 vec
  if !own then s.cfgerr b o
  else
    let s1 := if 8 < op ∨ c = 7 then (flds s).cfgerr b o else flds s
    if op = 0 then s1
    else if s1.fld b (o + 4) 0 0 = 1 then s1.setFld b (o + 4) 1 1 1
    else if 8 < op then s1
    else
      let s2 := s1.setFld b (o + 4) 0 0 1
      let k := s2.fld b o 14 12
      let r := if s2.schedDenied m e op n k then (2, s2) else s2.schedPerform e op n k vec
      r.2.updEngine e (fun x => { x with cmd := some r.1 })

/-- The completion of a scheduler command with its RESULT and tile event 2 (R262). -/
def State.schedDone (s : State) (e c : Nat) : State :=
  let b := tileBlk (tileOf e)
  let o := 0x204 + 8 * (e % 32)
  (((s.setFld b o 0 0 0).setFld b o 8 5 c).updEngine e (fun x => { x with cmd := none })).raise (1024 + 8 * tileOf e + 2)

/-- SCHED_COMMAND_COMPLETE (R262). -/
def execSchedCommandComplete (e : Eid) (s : State) : Host.Outcome State Fault Refusal :=
  match (s.engine e.toNat).cmd with
  | none => .next s
  | some c => .next (s.schedDone e.toNat c)

/-- SCHED_CMDn of an engine written by a master. -/
def State.schedReg (s : State) (m : Master) (e op slot chuck vec : Nat) : Host.Outcome State Fault Refusal :=
  .next (s.admits m (tileBlk (tileOf e)) (0x200 + 8 * (e % 32)) (fun t => t.schedCmd m e op slot chuck vec))

/-- BIND (R231). -/
def execBind (m : Master) (e : Eid) (slot : BitVec 6) (s : State) : Host.Outcome State Fault Refusal := s.schedReg m e.toNat 1 slot.toNat 0 0
/-- UNBIND (R227). -/
def execUnbind (m : Master) (e : Eid) (slot : BitVec 6) (s : State) : Host.Outcome State Fault Refusal := s.schedReg m e.toNat 2 slot.toNat 0 0
/-- SUSPEND (R227). -/
def execSuspend (m : Master) (e : Eid) (slot : BitVec 6) (s : State) : Host.Outcome State Fault Refusal := s.schedReg m e.toNat 3 slot.toNat 0 0
/-- RESUME (R227). -/
def execResume (m : Master) (e : Eid) (slot : BitVec 6) (s : State) : Host.Outcome State Fault Refusal := s.schedReg m e.toNat 4 slot.toNat 0 0
/-- WAKE (R254). -/
def execWake (m : Master) (e : Eid) (slot : BitVec 6) (vec : BitVec 4) (s : State) : Host.Outcome State Fault Refusal := s.schedReg m e.toNat 5 slot.toNat 0 vec.toNat
/-- SPILL (R263). -/
def execSpill (m : Master) (e : Eid) (chuck : BitVec 3) (s : State) : Host.Outcome State Fault Refusal := s.schedReg m e.toNat 6 0 chuck.toNat 0
/-- QUERY (R262). -/
def execQuery (m : Master) (e : Eid) (slot : BitVec 6) (s : State) : Host.Outcome State Fault Refusal := s.schedReg m e.toNat 7 slot.toNat 0 0
/-- RELOAD (R232). -/
def execReload (m : Master) (e : Eid) (slot : BitVec 6) (s : State) : Host.Outcome State Fault Refusal := s.schedReg m e.toNat 8 slot.toNat 0 0

end Sys2Proof.Machine
end

