-- ==== Sys2Proof/Machine/Release.lean ====
section
/-!
DEFINITION. Machine/Release.lean: the release of held engines through ENG_REL (14_cretal_mailboxes, R511 to R513).
-/

namespace Sys2Proof.Machine

open Sys2Proof

/-- The tests of R513 on a start record of 16 cells. -/
def startOk (l : List MCell) : Bool :=
  (l.take 6).all (fun c => kindOfTag c.tag == some Kind.cap) && (l.drop 8).all (fun c => c.bits == 0) &&
  decide (bits (half l 6 0) 1 0 ≤ 1) && decide (bits (half l 7 0) 1 0 ≤ 2) &&
  decide (4096 ≤ bits (half l 7 1) 16 0 ∧ bits (half l 7 1) 16 0 ≤ 65536)

/-- Chuck 7 as a release leaves it: c1 the drop capability, the other general registers POISON zero, TSTAT as R124, PCC the kernel's. -/
def startChuck (pcc drop : Cell) : Chuck :=
  { Chuck.empty with
    regs := (1, drop) :: (List.range 30).map (fun i => (i + 2, { bits := 0, kind := .poison }))
    pcc := pcc, sys := [(0, 0x20300)] }

/-- The engine that a start record of 16 cells starts at level K (R513). -/
def Engine.start (x : Engine) (l : List MCell) : Engine :=
  let cap := fun (i : Nat) => ({ bits := (l.getD i MCell.poison).bits, kind := .cap } : Cell)
  { x with held := false, level := .k, cur := 7, running := false, trap := false, chucks := Map.put (startChuck (cap 0) (cap 5)) x.chucks 7
           csys := Map.put (cap 4) (Map.put (cap 3) (Map.put (cap 2) (Map.put (cap 1) x.csys 0x104) 0x105) 0x180) 0x181
           sys := Map.put (half l 7 1 &&& 0x1FFFF) (Map.put (half l 7 0 &&& 0x1F) (Map.put (half l 6 1 &&& 0xFFFFFFFF000)
             (Map.put (half l 6 0 &&& 3) x.sys 0x106) 0x109) 0x10A) 0x10C
           commits := 0, sig := 0xFFFFFFFF }

/-- The address of an engine's start record: 256 bytes below its descriptor table as SCHED_DTBn was last written (R513). -/
def State.startRecord (s : State) (e : Nat) : Nat := (s.fld (tileBlk (tileOf e)) (0x180 + 4 * (e % 32)) 29 0 * 2 ^ 14 + 2 ^ 44 - 256) % 2 ^ 44

/-- The release of one engine (R513), and whether it fails: PAIRED and SCHED_DTBn as last written come into force, and the arbiter accounts
for a tile that is now paired (R528, R536). -/
def State.release (s : State) (e : Nat) : Bool × State :=
  let b := tileBlk (tileOf e)
  let n := e % 32
  if !(s.engine e).held then (false, s)
  else
    let r := s.read256 (s.startRecord e) e
    match r.1 with
    | none => (true, r.2)
    | some l =>
      if startOk l then
        let t := (r.2.updEngine e (fun x => x.start l)).boundary b (0x180 + 4 * n)
        let o := 0x100 + 4 * n
        let t := { t with eff := Map.put (setBits (t.effReg b o) 1 1 (t.fld b o 1 1)) t.eff (regKey b o) }
        (false, ((t.setFld b 0x308 n n 1).touchTile (tileOf e)).arbitrate)
      else (true, r.2)

/-- A write to ENG_REL (R513): releases that fail set CFGERR once. -/
def State.writeEngRel (s : State) (m : Master) (t : Nat) (data : Word) : State :=
  if !isMgmt m then s.cfgerr (tileBlk t) 0x308
  else
    let r := (List.range 32).foldl (fun (u : Bool × State) n =>
      if bit data n && u.2.fld (tileBlk t) 0x308 n n == 0 then
        let v := u.2.release (32 * t + n)
        (u.1 || v.1, v.2)
      else u) (false, s)
    if r.1 then r.2.cfgerr (tileBlk t) 0x308 else r.2

/-- ENG_REL (R513). -/
def execEngRel (m : Master) (t : BitVec 5) (data : Word) (s : State) : Host.Outcome State Fault Refusal := .next (s.admits m (tileBlk t.toNat) 0x308 (fun u => u.writeEngRel m t.toNat data))

end Sys2Proof.Machine
end

