-- ==== Sys2Proof/Machine/DbgRegs.lean ====
section
/-!
DEFINITION. Machine/DbgRegs.lean: the DBG block's registers and what they act on: halts, steps, resumes, comparators, counters and the
scope (16_debug, R558 to R568).
-/

namespace Sys2Proof.Machine

open Sys2Proof

/-! ## Halt, step, resume (R559 to R562) -/

/-- Applies `f` to the debug state of an engine. -/
def State.updDbg (s : State) (e : Nat) (f : DbgEngine → DbgEngine) : State := s.updEngine e (fun x => { x with dbg := f x.dbg })

/-- Is a halt of an engine coupled (R561): paired, and not SOLO. -/
def State.coupled (s : State) (e : Nat) : Bool := s.pairedEng e && !(s.engine e).dbg.solo

/-- A halt request (R559, R561): one for the channel B engine of a coupled pair goes to the channel A engine; none for an engine stopped or halted. -/
def State.requestHalt (s : State) (e : Nat) : State :=
  let t := if s.coupled e then e % 512 else e
  if (s.engine t).stopped || (s.engine t).dbg.halted then s else s.updDbg t (fun d => { d with haltReq := some 1 })

/-- Slots that received a delivery while the engine was halted become READY, and the tile leaves IDLE (R530, R560). -/
def State.wakeHeld (s : State) (e : Nat) : State :=
  (s.engine e).slots.foldl (fun u p => if p.2.st == .waiting && p.2.pend != 0 then (u.makeReady e p.1).leaveIdle (tileOf e) else u) s

/-- Resumes one engine. -/
def State.resumeOne (s : State) (e : Nat) : State :=
  if (s.engine e).dbg.halted && !(s.engine e).stopped then
    (s.updDbg e (fun d => { d with halted := false, reason := 0, bp := 0, stepping := false })).wakeHeld e
  else s

/-- RESUME (R560, R561): a coupled pair goes on together. -/
def State.resumeEngine (s : State) (e : Nat) : State :=
  if s.coupled e then ((s.updPair (pairOf e) (fun q => { q with haltAt := none })).resumeOne (e % 512)).resumeOne (e % 512 + 512)
  else s.resumeOne e

/-- Lets one halted engine commit one instruction or chunk, after which it halts again. -/
def State.stepOne (s : State) (e : Nat) : State :=
  if (s.engine e).dbg.halted && !(s.engine e).stopped then s.updDbg e (fun d => { d with halted := false, reason := 0, bp := 0, stepping := true }) else s

/-- STEP (R561). -/
def State.stepEngine (s : State) (e : Nat) : State :=
  if s.coupled e then (s.stepOne (e % 512)).stepOne (e % 512 + 512) else s.stepOne e

/-- Is an engine at an instruction or chunk boundary (R559): nothing that the instruction in progress waits for is outstanding. -/
def Engine.boundary (x : Engine) : Bool :=
  x.sw.isNone && x.walk.isNone && x.load.isNone && x.lfill.isNone && x.act.isNone && !x.bcast

/-- ENGINE_HALT (R559): a requested halt is taken at the next boundary, in a tile that runs, by an engine that has been released. -/
def execEngineHalt (e : Eid) (s : State) : Host.Outcome State Fault Refusal :=
  let e := e.toNat
  let x := s.engine e
  match x.dbg.haltReq with
  | none => .next s
  | some r =>
    if x.held || x.stopped || x.dbg.halted || !x.boundary || decide (2 ≤ s.tileCur (tileOf e)) then .next s
    else .next ((s.stopLong e).haltEngine e r none)

/-- COUPLED_HALT (R561): the channel B engine has reached the count at which its twin halted. -/
def execCoupledHalt (p : BitVec 9) (s : State) : Host.Outcome State Fault Refusal :=
  let e := p.toNat + 512
  let x := s.engine e
  match (s.pair p.toNat).haltAt with
  | none => .next s
  | some c =>
    if decide (c ≤ x.commits) && !x.dbg.halted && !x.stopped && !x.held && x.boundary then .next ((s.stopLong e).haltEngine e 5 none) else .next s

/-! ## Registers of the selected engine -/

/-- The engine of DBG_SEL. -/
def State.dbgSel (s : State) : Nat := s.fld 0x1E 0x14 9 0

/-- A write to DBG_CTL by the debug port. -/
def State.writeDbgCtl (s : State) (data : Word) : State :=
  let e := s.dbgSel
  let s1 := s.updDbg e (fun d => { d with solo := bit data 3 })
  match bits data 2 0 with
  | 0 => s1
  | 1 => s1.requestHalt e
  | 2 => s1.resumeEngine e
  | 4 => s1.stepEngine e
  | _ => s1.cfgerr 0x1E 0x18

/-- DBG_ESTAT. -/
def State.dbgEstat (s : State) : Word :=
  let e := s.dbgSel
  let x := s.engine e
  BitVec.ofNat 32 (x.dbg.halted.toNat * 2 ^ 31 + x.stopped.toNat * 2 ^ 30 + (s.pairedEng e).toNat * 2 ^ 29 + x.dbg.reason * 2 ^ 24 +
    x.dbg.bp * 2 ^ 16 + x.level.code * 2 ^ 14 + e)

/-- Stores a per-engine register of the DBG block: a paired engine's comparators are written with its twin's (R565). -/
def State.putDbgReg (s : State) (e o : Nat) (w : Word) : State :=
  let put := fun (u : State) (e : Nat) => u.updDbg e (fun d => { d with regs := Map.put w d.regs o })
  if s.pairedEng e ∧ o < 0x200 then put (put s e) (twinOf e) else put s e

/-- A write to a comparator register (R564). -/
def State.writeBp (s : State) (o : Nat) (data : Word) : State :=
  let e := s.dbgSel
  match o % 16 with
  | 0 => s.putDbgReg e o data
  | 4 => s.putDbgReg e o (data &&& 0xFFFFFF)
  | _ =>
    let w := data &&& 0xF83F0FFF
    if 13 ≤ bits data 19 16 then (s.putDbgReg e o (setBits w 19 16 (bits (Map.get 0 (s.engine e).dbg.regs o) 19 16))).cfgerr 0x1E o
    else s.putDbgReg e o w

/-- A write to DBG_PMCFG (R568): a reserved event code leaves its field; CLR zeroes the counters. -/
def State.writePmcfg (s : State) (data : Word) : State :=
  let e := s.dbgSel
  let old := Map.get 0 (s.engine e).dbg.regs 0x200
  let w := (List.range 4).foldl (fun (w : Word) k => if bits data (4 * k + 3) (4 * k) ≤ 10 then setBits w (4 * k + 3) (4 * k) (bits data (4 * k + 3) (4 * k)) else w) old
  let s1 := s.putDbgReg e 0x200 w
  let s2 := if (List.range 4).any (fun k => decide (10 < bits data (4 * k + 3) (4 * k))) then s1.cfgerr 0x1E 0x200 else s1
  if bit data 31 then s2.updDbg e (fun d => { d with counts := [] }) else s2

/-- Counter `k` of the selected engine; the model has no clock, so one that counts cycles reads a free value. -/
def State.pmCount (s : State) (k : Nat) : Nat × State :=
  let x := s.engine s.dbgSel
  let sel := bits (Map.get 0 x.dbg.regs 0x200) (4 * k + 3) (4 * k)
  if sel = 0 ∨ sel = 8 ∨ sel = 9 then (bits (Config.cycleCount s.freeCtr) 47 0, { s with freeCtr := s.freeCtr + 1 })
  else ((Map.get 0 x.dbg.counts k).toNat, s)

/-- A write to DBG_AUTH by Cretal (R558, Table 16-8). -/
def State.setAuth (s : State) (data : Word) : State :=
  let was := s.fld 0x1E 0x10 31 31
  let s1 := s.setReg 0x1E 0x10 (data &&& 0x8000001F)
  if was = 0 ∧ bit data 31 then s1.raise 1923 else if was = 1 ∧ !bit data 31 then s1.raise 1924 else s1

/-- A write to DBG_AUTH (R558): the debug port's is refused with event 1921. -/
def State.writeAuth (s : State) (m : Master) (data : Word) : State :=
  match m with
  | .cretal => s.setAuth data
  | .debug => s.raise 1921
  | _ => s

/-- A write to the DBG block (16_debug, DBG block): Cretal writes DBG_AUTH alone. -/
def State.writeDbg (s : State) (m : Master) (o : Nat) (data : Word) : State :=
  if o = 0x10 then s.writeAuth m data
  else if m = .cretal then s.cfgerr 0x1E o
  else if o = 0x14 then s.setReg 0x1E o (data &&& 0x3FF)
  else if o = 0x18 then s.writeDbgCtl data
  else if o = 0x30 then
    let s1 := s.setReg 0x1E o (data &&& 0x8000000F)
    if s.fld 0x1E 0x30 31 31 = 0 ∧ bit data 31 then { s1 with trace := { s1.trace with started := false } } else s1
  else if 0x34 ≤ o ∧ o ≤ 0x40 then s.setReg 0x1E o (data &&& 0x3FF)
  else if 0x100 ≤ o ∧ o < 0x160 ∧ o % 16 ≠ 12 then s.writeBp o data
  else if o = 0x200 then s.writePmcfg data
  else if o = 0x1C ∨ (0x208 ≤ o ∧ o < 0x228) then s
  else s.cfgerr 0x1E o

/-- A read of a register of the DBG block. -/
def State.readDbg (s : State) (o : Nat) : Word × State :=
  let x := s.engine s.dbgSel
  if o = 0x18 then ((if x.dbg.solo then 8 else 0), s)
  else if o = 0x1C then (s.dbgEstat, s)
  else if 0x100 ≤ o ∧ o ≤ 0x200 then (Map.get 0 x.dbg.regs o, s)
  else if 0x208 ≤ o ∧ o < 0x228 then
    let r := s.pmCount ((o - 0x208) / 8)
    (BitVec.ofNat 32 (if o % 8 = 0 then r.1 else r.1 >>> 32), r.2)
  else (s.reg 0x1E o, s)

/-- DBG_HALT (R559): HALT written by the debug port for the selected engine. -/
def execDbgHalt (m : Master) (s : State) : Host.Outcome State Fault Refusal :=
  .next (s.admits m 0x1E 0x18 (fun t => t.writeDbg m 0x18 (BitVec.ofNat 32 (8 * (t.engine t.dbgSel).dbg.solo.toNat + 1))))
/-- STEP (R561). -/
def execStep (m : Master) (s : State) : Host.Outcome State Fault Refusal :=
  .next (s.admits m 0x1E 0x18 (fun t => t.writeDbg m 0x18 (BitVec.ofNat 32 (8 * (t.engine t.dbgSel).dbg.solo.toNat + 4))))
/-- DBG_RESUME (R560, R561). -/
def execDbgResume (m : Master) (s : State) : Host.Outcome State Fault Refusal :=
  .next (s.admits m 0x1E 0x18 (fun t => t.writeDbg m 0x18 (BitVec.ofNat 32 (8 * (t.engine t.dbgSel).dbg.solo.toNat + 2))))
/-- DBG_AUTH (R558). -/
def execDbgAuth (m : Master) (data : Word) (s : State) : Host.Outcome State Fault Refusal := .next (s.admits m 0x1E 0x10 (fun t => t.writeAuth m data))
/-- DBG_PMCFG_CLR (R568): CLR written, the selectors as they are. -/
def execDbgPmcfgClr (m : Master) (s : State) : Host.Outcome State Fault Refusal :=
  .next (s.admits m 0x1E 0x200 (fun t => t.writeDbg m 0x200 (setBits (Map.get 0 (t.engine t.dbgSel).dbg.regs 0x200) 31 31 1)))

end Sys2Proof.Machine
end

