-- ==== Sys2Proof/Machine/MemUnits.lean ====
section
/-!
DEFINITION. Machine/MemUnits.lean: the units beside the memories: DRAM controllers, cache sizes, the write-back of corrected cells, the
scrubber and its POISON fills, the stream movers (10_memory_integrity), and the MPUs' registers (09_master_mpu).
-/

namespace Sys2Proof.Machine

open Sys2Proof

/-- A range of memory that becomes POISON with zero bits, as a write of each of its cells (R363, R380): an unlisted cell reads so. -/
def State.poisonRange (s : State) (lo n : Nat) : State :=
  let inn := fun (k : Nat) => decide (lo ≤ k ∧ k < lo + n)
  { s with mem := s.mem.dropRange lo n, ceq := s.ceq.filter (fun p => !inn p.1)
           eng := Map.mapVal (fun x => if x.resv.any inn then { x with resv := none } else x) s.eng }

/-- CE_WRITE_BACK (R372): the corrected cell goes back to its memory; it is no write for reservations. -/
def execCeWriteBack (a : PKey) (s : State) : Host.Outcome State Fault Refusal :=
  match s.ceq.find? (fun p => p.1 == a.toNat) with
  | none => .next s
  | some p =>
    let s1 := { s with ceq := s.ceq.erase p }
    if 0x40000000 ≤ a.toNat ∧ a.toNat < 0x40080000 then .next { s1 with mem := s1.mem.setErr a.toNat 0 }
    else .next { s1 with mem := s1.mem.setCell a.toNat p.2 }

/-! ## Cache sizes (R363) -/

/-- A write to CMEM_CFGc (R363): DCSIZE is stored, APPLY takes the size that then stands and is ignored while BUSY (R12). -/
def State.writeCmem (s : State) (m : Master) (c : Nat) (data : Word) : State :=
  let b := tileBlk (c / 4)
  let o := 0x400 + 4 * (c % 4)
  if !isMgmt m then s.cfgerr b o
  else
    let busy := s.fld b o 9 9 = 1
    let s1 := if bits data 1 0 = 3 then s.cfgerr b o else s.setFld b o 1 0 (bits data 1 0)
    if bit data 8 ∧ ¬busy then { s1.setFld b o 9 9 1 with applying := Map.put (s1.fld b o 1 0) s1.applying c } else s1

/-- APPLY (R363): BUSY is set; the range that becomes cache leaves the address map. -/
def execApply (m : Master) (c : BitVec 7) (data : Word) (s : State) : Host.Outcome State Fault Refusal := 
  .next (s.admits m (tileBlk (c.toNat / 4)) (0x400 + 4 * (c.toNat % 4)) (fun t => t.writeCmem m c.toNat data))

/-- APPLY_COMPLETE (R363): the new size is in force, what was or becomes cache holds POISON, tile event k = 6. -/
def execApplyComplete (c : BitVec 7) (s : State) : Host.Outcome State Fault Refusal :=
  let c := c.toNat
  let b := tileBlk (c / 4)
  let o := 0x400 + 4 * (c % 4)
  if s.fld b o 9 9 = 1 then
    let n := s.cacheOf c
    let t := s.setFld b o 9 9 0
    let s1 := { t with eff := Map.put (BitVec.ofNat 32 (Map.get 0 s.applying c)) t.eff (regKey b o), applying := Map.del t.applying c }.poisonRange (c * 0x80000 + 0x80000 - n) n
    .next (s1.raise (1024 + 8 * (c / 4) + 6))
  else .next s

/-! ## DRAM controllers (R364, R366) -/

/-- The block of a controller. -/
def memBlk (chB : Bool) : Nat := if chB then 0x0B else 0x0A

/-- A training or retraining failure (R366): FAIL, event 1613 or 1614 with class 13. -/
def State.dramFail (s : State) (chB : Bool) : State := ((s.setFld (memBlk chB) 0x14 2 2 1).raise (1613 + chB.toNat)).react 13 0

/-- DRAM_TRAINING_COMPLETE (R366). -/
def execDramTrainingComplete (chB : Bool) (ok : Bool) (s : State) : Host.Outcome State Fault Refusal :=
  if s.fld (memBlk chB) 0x14 0 0 = 1 then
    let s1 := s.setFld (memBlk chB) 0x14 0 0 0
    .next (if ok then s1.setFld (memBlk chB) 0x14 1 1 1 else s1.dramFail chB)
  else .next s

/-- DQS_RETRAIN (R364, R366): every 100 ms on a trained controller. -/
def execDqsRetrain (chB : Bool) (ok : Bool) (s : State) : Host.Outcome State Fault Refusal :=
  if s.fld (memBlk chB) 0x14 1 1 = 1 ∧ s.fld (memBlk chB) 0x14 2 2 = 0 ∧ ok = false then .next (s.dramFail chB) else .next s

/-! ## The scrubber (R377, R378) -/

/-- The number of a scrubber run. -/
def scrubNo : ScrubUnit → Nat
  | .onchip => 0 | .dramA => 1 | .dramB => 2

/-- What the scrubber reads at a step of a run: a memory cell of a key and physical address, a cell of both lineage tables, nothing (an
engine without power), or the end of the pass. -/
inductive ScrubStep where
  | cell (key pa : Nat)
  | lin (cell : Nat)
  | skip
  | done
  deriving DecidableEq, Repr

/-- The step of a run: cluster memory, private memories, lineage tables, Cretal's RAM; or the usable part of a trained DRAM. -/
def State.scrubStep (s : State) (u : ScrubUnit) (n : Nat) : ScrubStep :=
  let dram := fun (chB : Bool) =>
    if s.dramOk chB (16 * n) then
      let a := (if chB then 0x10200000000 else 0x10000000000) + 16 * n
      ScrubStep.cell a a
    else .done
  match u with
  | .dramA => dram false
  | .dramB => dram true
  | .onchip =>
    if n < 0x400000 then .cell (16 * n) (16 * n)
    else if n < 0x480000 then
      let m := n - 0x400000
      if s.tileCur (tileOf (m / 512)) = 3 then .skip else .cell (privKey (m / 512) (m % 512 * 16)) (0x8000000 + m % 512 * 16)
    else if n < 0x484000 then .lin (n - 0x480000)
    else if n < 0x494000 then .cell (cretalRam + 16 * (n - 0x484000)) (0x10000000 + 16 * (n - 0x484000))
    else .done

/-- SCRUB_PASS_START (R377, R378): at the start of a period; a pass still running sets OVR and runs on. -/
def execScrubPassStart (u : ScrubUnit) (s : State) : Host.Outcome State Fault Refusal :=
  let r := Map.get { active := false, next := 0 } s.scrub (scrubNo u)
  if r.active then .next (((s.setFld 9 0x14 0 0 1).raise 1612).react 13 0)
  else if s.scrubStep u 0 = .done then .next s
  else
    let w := s.effReg 9 0x10
    let w := if u = .onchip then setBits w 31 16 (s.fld 9 0x10 31 16) else setBits w 9 0 (s.fld 9 0x10 9 0)
    .next { s with scrub := Map.put { active := true, next := 0 } s.scrub (scrubNo u), eff := Map.put w s.eff (regKey 9 0x10) }

/-- Reads a lineage cell once in each copy and compares the entries (R99, R377); an uncorrectable read is recorded only (Table 10-4). -/
def State.scrubLin (s : State) (cell : Nat) : State :=
  match s.linCompareCell cell 7 with
  | (l, true, t) => l.foldl (fun u i => u.linMismatchSolo i) t
  | (_, false, t) => t

/-- SCRUB_CELL_READ (R377): the next cell of a pass; its end counts the pass and raises its event. -/
def execScrubCellRead (u : ScrubUnit) (s : State) : Host.Outcome State Fault Refusal :=
  let k := scrubNo u
  let r := Map.get { active := false, next := 0 } s.scrub k
  let on := fun (t : State) => { t with scrub := Map.put { active := true, next := r.next + 1 } t.scrub k }
  if !r.active then .next s
  else
    match s.scrubStep u r.next with
    | .cell key pa => .next (on (s.readCell key pa 7 0).2)
    | .lin c => .next (on (s.scrubLin c))
    | .skip => .next (on s)
    | .done =>
      let lo := 24 - 8 * k
      let t := { s with scrub := Map.put { active := false, next := 0 } s.scrub k }
      .next ((t.setFld 9 0x14 (lo + 7) lo (s.fld 9 0x14 (lo + 7) lo + 1)).raise (1609 + k))

/-! ## POISON fills (R380) -/

/-- A write of 1 to SCRB_FILLk_CTL.START (R379, R380). The cells are written at the start; BUSY lasts until SCRB_FILL_COMPLETE. -/
def State.fillStart (s : State) (m : Master) (k : Nat) : State :=
  let o := 0x20 + 16 * k
  if !isMgmt m then s
  else if s.fld 9 (o + 12) 1 1 = 1 then s.cfgerr 9 (o + 12)
  else
    let s1 := ((s.boundary 9 o).boundary 9 (o + 4)).boundary 9 (o + 8)
    let a := s1.fld 9 o 31 6 * 64 + s1.fld 9 (o + 4) 11 0 * 2 ^ 32
    let n := 64 * (s1.reg 9 (o + 8)).toNat
    if s1.oneRegion a n = 0 then ((s1.setFld 9 (o + 12) 2 2 1).setFld 9 (o + 12) 7 4 1).raise (1615 + k)
    else
      let s2 := (s1.setFld 9 (o + 12) 2 2 0).setFld 9 (o + 12) 7 4 0
      if n = 0 then s2.raise (1615 + k) else (s2.poisonRange a n).setFld 9 (o + 12) 1 1 1

/-- SCRB_FILL_START (R380). -/
def execScrbFillStart (m : Master) (k : BitVec 1) (s : State) : Host.Outcome State Fault Refusal := 
  .next (s.admits m 9 (0x2C + 16 * k.toNat) (fun t => t.fillStart m k.toNat))

/-- SCRB_FILL_COMPLETE (R380). -/
def execScrbFillComplete (k : BitVec 1) (s : State) : Host.Outcome State Fault Refusal :=
  let o := 0x2C + 16 * k.toNat
  if s.fld 9 o 1 1 = 1 then .next ((s.setFld 9 o 1 1 0).raise (1615 + k.toNat)) else .next s

/-! ## Stream movers (R381 to R383) -/

/-- Ends a stream mover's descriptor in error (R382). -/
def State.smError (s : State) (t code : Nat) : State :=
  let b := tileBlk t
  let s1 := ((s.setFld b 0x510 31 31 1).setFld b 0x510 27 24 code).setFld b 0x510 23 16 (s.fld b 0x510 7 0)
  ({ s1.setFld b 0x510 8 8 0 with sm := Map.del s1.sm t }).raise (1024 + 8 * t + 1)

/-- A descriptor is complete: TAIL advances, and with EVT = 1 tile event k = 0. -/
def State.smDone (s : State) (t flags : Nat) : State :=
  let b := tileBlk t
  let s1 := (s.setFld b 0x510 7 0 (s.fld b 0x510 7 0 + 1)).setFld b 0x510 8 8 0
  let s2 := { s1 with sm := Map.del s1.sm t }
  if flags % 2 = 1 then s2.raise (1024 + 8 * t) else s2

/-- Reads bytes within one line for a data-plane master: none where a cell is uncorrectable. -/
def State.readBytes (s : State) (pa n src master : Nat) : Option (List Byte) × State :=
  let c0 := pa / 16
  (List.range ((pa % 16 + n + 15) / 16)).foldl (fun (r : Option (List Byte) × State) i =>
    match r with
    | (none, t) => (none, t)
    | (some l, t) =>
      match t.readCell (16 * (c0 + i)) (16 * (c0 + i)) src master with
      | (some c, u) =>
        let lo := if i = 0 then pa % 16 else 0
        let hi := min 16 (pa % 16 + n - 16 * i)
        (some (l ++ ((toBytes 16 c.bits.toNat).drop lo).take (hi - lo)), u)
      | (none, u) => (none, u)) (some [], s)

/-- The bytes of the cells that a write of bytes within one line covers, part-covered cells merged (R61): a cell covered whole is not
read; none where a part-covered cell is uncorrectable. -/
def State.mergeLine (s : State) (pa : Nat) (data : List Byte) (src master : Nat) : Option (List Byte) × State :=
  let n := data.length
  let lo := 16 * (pa / 16)
  let head := if pa % 16 = 0 then (some [], s) else s.readBytes lo (pa % 16) src master
  let tl := (pa + n) % 16
  let tail := if tl = 0 then (some [], head.2) else head.2.readBytes (pa + n) (16 - tl) src master
  match head.1, tail.1 with
  | some h, some t => (some (h ++ data ++ t), tail.2)
  | _, _ => (none, tail.2)

/-- Writes whole cells of bytes from the cell of an address on as RAW cells (R61). -/
def State.storeLine (s : State) (pa : Nat) (all : List Byte) : State :=
  (List.range (all.length / 16)).foldl (fun u i =>
    u.writeCell (16 * (pa / 16) + 16 * i) { bits := BitVec.ofNat 128 (ofBytes ((all.drop (16 * i)).take 16)), tag := 0 }) s

/-- One access of a mover under its MPU (R357): 0, 2 for a refusal, 3 for a Bus Error. -/
def State.smCheck (s : State) (t pa : Nat) (acc : Access) (tail : Nat) : Nat × State :=
  match s.mpuCheck (.mover (BitVec.ofNat 5 t)) pa acc false false (plainMt pa) 3 tail with
  | (0, u) => (if u.memRegion pa || (acc == .read && u.region pa == .xspi) then 0 else 3, u)
  | (_, u) => (2, u)

/-- Reads the descriptor at TAIL (R381, Table 10-6). -/
def State.smFetch (s : State) (t : Nat) : State :=
  let b := tileBlk t
  let tail := s.fld b 0x510 7 0
  let a := s.effFld b 0x500 31 13 * 8192 + s.effFld b 0x504 11 0 * 2 ^ 32 + 32 * tail
  match s.smCheck t a .read tail with
  | (0, u) =>
    (match u.readBytes a 32 5 t with
     | (none, v) => v.smError t 4
     | (some l, v) =>
       let n := fun (o k : Nat) => ofBytes ((l.drop o).take k)
       if n 0 8 ≥ 2 ^ 44 ∨ n 8 8 ≥ 2 ^ 44 ∨ n 16 4 ≥ 2 ^ 24 ∨ n 20 4 ≥ 4 ∨ n 24 8 ≠ 0 then v.smError t 1
       else if n 16 4 = 0 then v.smDone t (n 20 4)
       else { v.setFld b 0x510 8 8 1 with sm := Map.put { src := n 0 8, dst := n 8 8, len := n 16 4, flags := n 20 4, done := 0 } v.sm t })
  | (c, u) => u.smError t c

/-- Is an address in channel B cluster memory or DRAM B. -/
def State.chBMem (s : State) (pa : Nat) : Bool :=
  match s.region pa with
  | .cluster c => decide (64 ≤ c)
  | .dram chB => chB
  | _ => false

/-- Copies one burst (R381, R382). -/
def State.smCopy (s : State) (t : Nat) (r : SmRun) : State :=
  let tail := s.fld (tileBlk t) 0x510 7 0
  let a := r.src + r.done
  let d := r.dst + r.done
  let n := min (r.len - r.done) (min (64 - a % 64) (64 - d % 64))
  let twin := 2 ≤ r.flags
  let tw := (twinLoc d).getD 0
  match s.smCheck t a .read tail with
  | (0, u) =>
    (match u.readBytes a n 5 t with
     | (none, v) => v.smError t 4
     | (some l, v) =>
       match v.smCheck t d .write tail with
       | (0, w) =>
         if twin ∧ ((twinLoc d).isNone ∨ ¬w.chBMem tw) then w.smError t 5
         else
           let c2 := if twin then w.smCheck t tw .write tail else (0, w)
           if c2.1 ≠ 0 then c2.2.smError t c2.1
           else
             let x := c2.2.mergeLine d l 5 t
             let y := if twin then x.2.mergeLine tw l 5 t else (some [], x.2)
             match x.1, y.1 with
             | some all, some all2 =>
               let z := (y.2.storeLine d all).storeLine tw all2
               if r.done + n = r.len then z.smDone t r.flags
               else { z with sm := Map.put { r with done := r.done + n } z.sm t }
             | _, _ => y.2.smError t 4
       | (c, w) => w.smError t c)
  | (c, u) => u.smError t c

/-- SM_BURST (R381). -/
def execSmBurst (t : BitVec 5) (s : State) : Host.Outcome State Fault Refusal :=
  let t := t.toNat
  let b := tileBlk t
  if s.fld b 0x510 31 31 = 1 ∨ s.safe.dmaStop ∨ 2 ≤ s.tileCur t then .next s
  else
    match s.sm.find? (fun p => p.1 == t) with
    | some p => .next (s.smCopy t p.2)
    | none => if s.fld b 0x510 7 0 = s.fld b 0x50C 7 0 then .next s else .next (s.smFetch t)

/-- A write to SM_HEAD (R383): by an engine of the tile or a management master. HEAD equal to TAIL discards what is outstanding. -/
def State.writeSmHead (s : State) (m : Master) (t : Nat) (data : Word) : State :=
  let b := tileBlk t
  let own : Bool := match m with
    | .engine x => tileOf x.toNat == t
    | .cretal | .debug => true
    | .trunk => false
  if !own then s.cfgerr b 0x50C
  else
    let s1 := (s.setFld b 0x50C 7 0 (bits data 7 0)).touchTile t
    if bits data 7 0 = s.fld b 0x510 7 0 then { s1.setFld b 0x510 8 8 0 with sm := Map.del s1.sm t } else s1

/-- A write of 1 to SM_CTL.RESTART (R383). -/
def State.smRestart (s : State) (m : Master) (t : Nat) : State :=
  let b := tileBlk t
  if !isMgmt m then s.cfgerr b 0x508
  else
    let s1 := (((s.setFld b 0x50C 7 0 0).setReg b 0x510 0).boundary b 0x500).boundary b 0x504
    { s1 with sm := Map.del s1.sm t }

/-- Clears SM_STAT.ERR (R382): descriptor TAIL starts again from its beginning. -/
def State.smErrClear (s : State) (t : Nat) : State :=
  let b := tileBlk t
  { (s.setFld b 0x510 31 31 0).setFld b 0x510 27 24 0 with sm := Map.del s.sm t }

/-- SM_HEAD (R383). -/
def execSmHead (m : Master) (t : BitVec 5) (data : Word) (s : State) : Host.Outcome State Fault Refusal := 
  .next (s.admits m (tileBlk t.toNat) 0x50C (fun u => u.writeSmHead m t.toNat data))
/-- SM_RESTART (R383). -/
def execSmRestart (m : Master) (t : BitVec 5) (s : State) : Host.Outcome State Fault Refusal := 
  .next (s.admits m (tileBlk t.toNat) 0x508 (fun u => u.smRestart m t.toNat))
/-- SM_ERR_CLEAR (R382). -/
def execSmErrClear (m : Master) (t : BitVec 5) (s : State) : Host.Outcome State Fault Refusal :=
  .next (s.admits m (tileBlk t.toNat) 0x510 (fun u => if u.fld (tileBlk t.toNat) 0x510 31 31 = 1 then u.smErrClear t.toNat else u))

/-! ## MPU registers (R339, R349, R350, R354, R355) -/

/-- Is a region locked. -/
def State.mpuLocked (s : State) (u : MpuUnit) (k : Nat) : Bool := s.fld (mpuAt u).1 ((mpuAt u).2.1 + 16 * k + 12) 30 30 == 1

/-- A write to MPU_RATTRk (R339, R350). -/
def State.writeRattr (s : State) (m : Master) (u : MpuUnit) (k : Nat) (data : Word) : State :=
  let b := (mpuAt u).1
  let o := (mpuAt u).2.1 + 16 * k
  if !isMgmt m || s.mpuLocked u k then s.cfgerr b (o + 12)
  else
    let s1 := s.setReg b (o + 12) (data &&& 0xE0000377)
    ((s1.boundary b o).boundary b (o + 4)).boundary b (o + 8)

/-- MPU_RATTR (R339). -/
def execMpuRattr (m : Master) (u : MpuUnit) (k : BitVec 4) (data : Word) (s : State) : Host.Outcome State Fault Refusal :=
  .next (s.admits m (mpuAt u).1 ((mpuAt u).2.1 + 16 * k.toNat + 12) (fun t => t.writeRattr m u k.toNat data))

/-- Marks the accesses outstanding, which the engine's MPU has checked. -/
def Engine.syncMark (x : Engine) : Engine :=
  { x with sb := x.sb.map (fun b => { b with sync := true }), load := x.load.map (fun r => { r with sync := true })
           act := x.act.map (fun h => { h with sync := true }) }

/-- Is an access outstanding that a SYNC waits for. -/
def Engine.syncing (x : Engine) : Bool := x.sb.any (·.sync) || x.load.any (·.sync) || x.act.any (·.sync)

/-- A write of 1 to MPU_SYNC.SYNC (R354): BUSY is set, and the wait is for the accesses checked before this write. -/
def State.mpuSync (s : State) (u : MpuUnit) : State :=
  let t := s.setFld (mpuAt u).1 ((mpuAt u).2.2 + 0x14) 1 1 1
  match u with
  | .engine e => t.updEngine e.toNat Engine.syncMark
  | .mover _ | .port _ | .cretal => t

/-- MPU_SYNC (R354). -/
def execMpuSync (m : Master) (u : MpuUnit) (s : State) : Host.Outcome State Fault Refusal :=
  .next (s.admits m (mpuAt u).1 ((mpuAt u).2.2 + 0x14) (fun t => t.mpuSync u))

/-- Has every access an MPU checked before the last SYNC completed (R353, R354). The bursts of the other masters are each one step. -/
def State.mpuQuiet (s : State) (u : MpuUnit) : Bool :=
  match u with
  | .engine e =>
    !(s.engine e.toNat).syncing || decide (1 ≤ s.tileCur (tileOf e.toNat))
  | .mover _ | .port _ | .cretal => true

/-- MPU_SYNC_DONE (R354). -/
def execMpuSyncDone (u : MpuUnit) (s : State) : Host.Outcome State Fault Refusal :=
  .next (if s.mpuQuiet u then s.setFld (mpuAt u).1 ((mpuAt u).2.2 + 0x14) 1 1 0 else s)

/-- A write of 1 to MPU_FINFO.VALID (R349, R355). -/
def State.mpuFinfoClear (s : State) (m : Master) (u : MpuUnit) : State :=
  let b := (mpuAt u).1
  let c := (mpuAt u).2.2
  let own : Bool := match m with
    | .engine x => u == .engine x
    | .cretal => true
    | .debug => true
    | .trunk => false
  if own then (s.setFld b (c + 0xC) 31 31 0).setFld b (c + 0x10) 15 0 0 else s.cfgerr b (c + 0xC)

/-- MPU_FINFO_CLEAR (R355). -/
def execMpuFinfoClear (m : Master) (u : MpuUnit) (s : State) : Host.Outcome State Fault Refusal :=
  .next (s.admits m (mpuAt u).1 ((mpuAt u).2.2 + 0xC) (fun t => t.mpuFinfoClear m u))

end Sys2Proof.Machine
end

