-- ==== Sys2Proof/Machine/RegIO.lean ====
section
/-!
DEFINITION. Machine/RegIO.lean: reads and writes of device registers by any master (00_scope, R5 to R25; 01_architecture, R47, R48):
access codes, change classes, reserved values, owners, and the registers whose access has an effect of its own.
-/

namespace Sys2Proof.Machine

open Sys2Proof

/-! ## The access codes and classes (R5 to R17) -/

/-- One field of a write: the register's new value, and whether the field's write is an offence (R13, R15, R17). -/
def Fld.write (f : Fld) (en : Bool) (data w : Word) : Word × Bool :=
  let v := bits data f.hi f.lo
  let cur := bits w f.hi f.lo
  match f.acc with
  | .rw =>
    if f.cls == .s && en then (w, v != cur)
    else if !f.ok.ok v then (w, true)
    else (setBits w f.hi f.lo v, false)
  | .wo => (w, !f.ok.ok v)
  | .w1c => (setBits w f.hi f.lo (Nat.land cur (2 ^ (f.hi + 1 - f.lo) - 1 - v)), false)
  | .w1s => (setBits w f.hi f.lo (Nat.lor cur v), false)
  | .ro | .rc => (w, false)

/-- Every field of a write, each by its own class and value (R14). -/
def fldsWrite (en : Bool) (data : Word) : List Fld → Word → Word × Bool
  | [], w => (w, false)
  | f :: fs, w =>
    let r := f.write en data w
    let t := fldsWrite en data fs r.1
    (t.1, r.2 || t.2)

/-- May a master write a register. -/
def Own.lets : Own → Master → Bool
  | .anyone, _ => true
  | .mgmt, m => isMgmt m
  | .cretal, m => m == .cretal
  | .debug, m => m == .debug

/-- A write to a register by its table (R14), with whether the caller found an offence in it; an offset with no register is an offence
(R18). However many fields offend, the write sets CFGERR once (R22). -/
def State.writeWith (s : State) (m : Master) (b o : Nat) (data : Word) (bad : Bool) : State :=
  match regRow b o with
  | none => s.cfgerr b o
  | some r =>
    if !r.own.lets m then s.cfgerr b o
    else
      let t := fldsWrite (s.blkEn b) data r.flds (s.reg b o)
      let s1 := s.setReg b o t.1
      if t.2 || bad then s1.cfgerr b o else s1

/-- A write to a register by its table alone. -/
def State.writeTable (s : State) (m : Master) (b o : Nat) (data : Word) : State := s.writeWith m b o data false

/-- A write to BLKSTAT: the W1C bits (R24). -/
def State.writeBlkstat (s : State) (b : Nat) (data : Word) : State :=
  let s1 := if bit data 0 then s.setFld b 8 0 0 0 else s
  if bit data 1 then s1.setFld b 8 1 1 0 else s1

/-- What follows a change of BLKCTRL.EN: a DRAM controller trains (R366); a port's plane stops (R456, R472); a worker's TIME block
loses lock (R483); scans that RUN asks for start (R436). -/
def State.enChanged (s : State) (b : Nat) (en : Bool) : State :=
  match blkOf b with
  | some .mem => if en then s.setFld b 0x14 2 0 1 else s
  | some .time => if en then s else s.loseLock.followLock
  | some .sense => if en then s.senseNext else s
  | some .port =>
    if en then s
    else
      let p := b - 0x10
      let s1 := (s.abandonBlock p).updPort p (fun q => { q with epoch := false })
      if (s1.port p).tdr.isSome then s1.tdrError p 8 else s1
  | _ => s

/-- A write to BLKCTRL (R23). -/
def State.writeBlkctrl (s : State) (m : Master) (b : Nat) (data : Word) : State :=
  let s1 := s.writeTable m b 4 data
  if s1.blkEn b == s.blkEn b then s1 else s1.enChanged b (s1.blkEn b)

/-! ## Registers with an effect of their own -/

/-- Writes to a TILE block (chapters 06, 07, 09, 10, 14), or none where the table says all. -/
def State.writeTile (s : State) (m : Master) (b o : Nat) (data : Word) : Option State :=
  let t := b - 0x20
  if 0x200 ≤ o ∧ o < 0x300 ∧ o % 8 = 0 then
    some (s.schedCmd m (32 * t + (o - 0x200) / 8) (bits data 3 0) (bits data 21 16) (bits data 14 12) (bits data 11 8))
  else if o = 0x308 then some (s.writeEngRel m t data)
  else if 0x400 ≤ o ∧ o < 0x410 then some (s.writeCmem m (4 * t + (o - 0x400) / 4) data)
  else if o = 0x508 then some (if bit data 0 then s.smRestart m t else if isMgmt m then s else s.cfgerr b o)
  else if o = 0x50C then some (s.writeSmHead m t data)
  else if o = 0x510 then some (if bit data 31 ∧ s.fld b 0x510 31 31 = 1 then s.smErrClear t else s)
  else none

/-- Writes to MPU registers (R339, R349, R350, R354, R355). -/
def State.writeMpu (s : State) (m : Master) (b o : Nat) (data : Word) : Option State :=
  match mpuOf b o with
  | none => none
  | some (u, some k, w) => if w = 12 then some (s.writeRattr m u k data) else if s.mpuLocked u k then some (s.cfgerr b o) else none
  | some (u, none, w) =>
    if w = 0x0C then some (if bit data 31 then s.mpuFinfoClear m u else s)
    else if w = 0x14 then some (if bit data 0 then s.mpuSync u else s)
    else none

/-- Is an address one that PORT_DMA_BASE may hold: in channel A cluster memory or the DRAM A row. -/
def dmaBaseOk (a : Nat) : Bool := decide (a < 0x2000000 ∨ (0x10000000000 ≤ a ∧ a < 0x10200000000))

/-- The address that a write to PORT_DMA_BASE would leave: LO at 0x200, HI at 0x204. -/
def State.dmaBase (s : State) (b o : Nat) (data : Word) : Nat :=
  (if o = 0x200 then bits data 31 6 else s.fld b 0x200 31 6) * 64 + (if o = 0x204 then bits data 11 0 else s.fld b 0x204 11 0) * 2 ^ 32

/-- Writes to a PORT block that do more than the table says (R432, R446, R463, R467, R472, R473). -/
def State.writePort (s : State) (m : Master) (b o : Nat) (data : Word) : Option State :=
  let p := b - 0x10
  if o = 0x10 then
    some (if !isMgmt m then s.cfgerr b o
          else
            let s1 := s.portLinken m p (bit data 1)
            if bit data 0 then s1.portRestart m p else s1)
  else if o = 0x100 then some (s.pastGate m (fun t => t.portCmd p data))
  else if o = 0x608 then some (s.tdrWrite m p data)
  else if (o = 0x200 ∨ o = 0x204) ∧ !dmaBaseOk (s.dmaBase b o data) then some (s.cfgerr b o)
  else if o = 0x20C ∧ isMgmt m then
    let s1 := s.writeTable m b o (data &&& 0xFFFFFFFD)
    some (if bit data 1 ∧ s.fld b 0x20C 1 1 = 1 then s1.clearDmaErr m p else s1)
  else none

/-- Writes to the SENSE block that start something (R436, R439). -/
def State.writeSense (s : State) (m : Master) (o : Nat) (data : Word) : Option State :=
  if o = 0x18 then
    let s1 := s.senseRun (bit data 0)
    some (if bit data 1 then s1.senseSingle else s1)
  else if o = 0x14 then some (s.writeTable m 0x0E o data).senseNext
  else if o = 0x24 ∧ isMgmt m then
    let s1 := if bit data 2 then s.setFld 0x0E 0x24 2 2 0 else s
    some (if bit data 0 then s1.noiseStart m else s1)
  else none

/-- Writes to an ETH block that do more than the table says (R485). -/
def State.writeEth (s : State) (m : Master) (b o : Nat) (data : Word) : Option State :=
  if o = 0x20 then some (s.pastGate m (fun t => t.ethTxcmd (b == 0x1B) data))
  else if 0x8000 ≤ o then some (s.setReg b o data)
  else none

/-- Writes to a SCRB fill's control: ERR, with which CODE clears, then START (R380). -/
def State.writeFill (s : State) (m : Master) (o : Nat) (data : Word) : State :=
  let t := s.writeTable m 9 o data
  let s1 := if t.fld 9 o 2 2 = 0 then t.setFld 9 o 7 4 0 else t
  if bit data 0 then s1.fillStart m ((o - 0x2C) / 16) else s1

/-- Writes to the TIME block (R482, R483): RATE is refused on a worker, and LOCK follows a change of ROLE (R479). -/
def State.writeTime (s : State) (m : Master) (o : Nat) (data : Word) : Option State :=
  if o = 0x20 ∧ isMgmt m then some (s.setReg 0x0C 0x20 data)
  else if o = 0x24 then some (s.timeSetHi m data)
  else if o = 0x18 ∧ isMgmt m then
    let held := s.fld 0x0C 0x18 23 0
    some (if s.role = 2 then s.writeWith m 0x0C o (setBits data 23 0 held) (bits data 23 0 != held) else s.writeTable m 0x0C o data).followLock
  else none

/-- The effect of a write that is the register's own, or none where the table says all. -/
def State.writeSpecial (s : State) (m : Master) (b o : Nat) (data : Word) : Option State :=
  match blkOf b with
  | some .tile =>
    (match s.writeMpu m b o data with
     | some t => some t
     | none => s.writeTile m b o data)
  | some .port =>
    (match s.writeMpu m b o data with
     | some t => some t
     | none => s.writePort m b o data)
  | some .evr => if o = 0x10 then some (s.writeEvrRaise m data) else if 0x2000 ≤ o ∧ o < 0x4000 then some (s.writeEvrBind m ((o - 0x2000) / 4) data) else none
  | some .mbx => if 0x1000 ≤ o ∧ o < 0x9000 then some (s.mbxWrite m ((o - 0x1000) / 0x400) (o % 0x400) data) else none
  | some .safe =>
    if o = 0x10 then some (s.writeSafeMode m data) else if o = 0x18 then some (s.writeSafePol m data)
    else if o = 0x20 then some (s.writeSafeKick m data) else if o = 0x24 then some (s.writeSafeKcfg m data) else none
  | some .lin => if o = 0x10 then some (s.linCmd m (bits data 3 0) (bits data 31 16) (bits data 15 8)) else none
  | some .clk => if 0x100 ≤ o ∧ o < 0x180 then some (s.writeClkTile m ((o - 0x100) / 4) data) else none
  | some .pwr =>
    if o = 0x10 then some (s.writeBudget m data) else if o = 0x20 then some (s.writeDevctl m data)
    else if 0x100 ≤ o ∧ o < 0x180 then some (s.writePwrTile m ((o - 0x100) / 4) data) else none
  | some .rst =>
    if o = 0x14 then some (s.writeRstDev m data) else if o = 0x18 then some (s.writeRstTile m data)
    else if 0x100 ≤ o ∧ o < 0x180 then some (s.writeRstEng m ((o - 0x100) / 4) data) else none
  | some .scrb => if o = 0x2C ∨ o = 0x3C then some (s.writeFill m o data) else none
  | some .time => s.writeTime m o data
  | some .sense => s.writeSense m o data
  | some .eth => s.writeEth m b o data
  | some .dbg => some (s.writeDbg m o data)
  | _ => none

/-- A write to an assigned block by a master that may access it. -/
def State.regWrite (s : State) (m : Master) (b o : Nat) (data : Word) : State :=
  if 0x100 ≤ b then (s.writeMpu m b o data).getD (s.writeTable m b o data)
  else if o = 8 then s.writeBlkstat b data
  else if o = 4 then s.writeBlkctrl m b data
  else if o = 0 then s
  else
    match s.writeSpecial m b o data with
    | some t => t
    | none => s.writeTable m b o data

/-! ## Reads -/

/-- SAFE_OUT (R413, R414). -/
def State.safeOut (s : State) : Word :=
  BitVec.ofNat 32 (s.vermRun.toNat * 16 + s.safe.vermilion.toNat * 8 + s.ochre.toNat * 4 + (s.safe.modeB == .run).toNat * 2 + (s.safe.modeA == .run).toNat)

/-- LIN_PEND (R103). -/
def State.linPend (s : State) : Word :=
  BitVec.ofNat 32 (s.lin.pend.length * 2 ^ 21 + (s.lin.pend.foldl min 1023))

/-- A register as it reads before anything the read does, where it is not as stored: the master is known by its index. -/
def State.readComputed (s : State) (mi b o : Nat) : Word :=
  let w := s.reg b o
  match blkOf b with
  | some .safe => if o = 0x10 then BitVec.ofNat 32 s.mode.code else if o = 0x1C then s.safeOut else w
  | some .lin => if o = 0x1C then s.linPend else w
  | some .pwr => if o = 0x14 then setBits (setBits w 25 16 s.grant) 9 0 s.resv else w
  | some .port =>
    let p := b - 0x10
    if o = 0x14 then setBits w 15 11 (s.port p).cq.length
    else if o = 0x20C then setBits w 0 0 (!s.dmaHalted p && (!(s.port p).out.isEmpty || (s.port p).blk.isSome)).toNat
    else match mpuOf b o with
      | some (u, none, 0) => setBits w 8 8 (s.mpuStrict u).toNat
      | _ => w
  | some .tile =>
    (match mpuOf b o with
     | some (u, none, 0) => setBits w 8 8 (s.mpuStrict u).toNat
     | _ => w)
  | some .sense => if 0x40 ≤ o ∧ o < 0x80 then Map.get 0 (Map.get [] s.sense.snaps mi) ((o - 0x40) / 4) else w
  | _ => w

/-- WO bits read 0 and RC fields clear after a read (Table 00-4). -/
def fldsRead (clear : Bool) (l : List Fld) (w st : Word) : Word × Word :=
  l.foldl (fun (r : Word × Word) f =>
    match f.acc with
    | .wo => (setBits r.1 f.hi f.lo 0, r.2)
    | .rc => (r.1, if clear then setBits r.2 f.hi f.lo 0 else r.2)
    | _ => r) (w, st)

/-- The lower registers of values that span two (R21). -/
def spanLow (b o : Nat) : Bool :=
  match blkOf b with
  | some .time => o == 0x10
  | some .cal => o == 0x1C || o == 0x24
  | some .scrb => o == 0x40 || o == 0x20 || o == 0x30
  | some .mem => o == 0x40
  | some .lin => o == 0x30
  | some .eth => o == 0x28 || o == 0x14
  | some .port => o == 0x200 || o == 0x610 || o == 0x1104
  | some .tile => o == 0x500 || o == 0x3804 || (decide (0x3400 ≤ o ∧ o < 0x3800) && o % 0x20 == 4)
  | some .dbg => (decide (0x100 ≤ o ∧ o < 0x160) && o % 16 == 0) || (decide (0x208 ≤ o ∧ o < 0x228) && o % 8 == 0)
  | _ => false

/-- The key of a shadow: the upper register and the master. -/
def shadowKey (mi b o : Nat) : Nat := regKey b o * 2048 + mi

/-- A register's live value, by its table; TIME_NOW and the counters are read once for both halves. -/
def State.readLive (s : State) (m : Master) (b o : Nat) : Word × State :=
  match regRow b o with
  | none => (if blkOf b = some .eth ∧ 0x8000 ≤ o then s.reg b o else 0, s)
  | some r =>
    let v := fldsRead (m != .debug) r.flds (s.readComputed (masterIdx m) b o) (s.reg b o)
    (v.1, if v.2 = s.reg b o then s else s.setReg b o v.2)

/-- Both halves of a value that spans two registers, read at once. -/
def State.readSpan (s : State) (m : Master) (b o : Nat) : Word × Word × State :=
  if b = 0x0C then
    let n := s.now
    (n.1.setWidth 32, (n.1 >>> 32).setWidth 32, n.2)
  else if b = 0x1E then
    if 0x208 ≤ o then
      let r := s.pmCount ((o - 0x208) / 8)
      (BitVec.ofNat 32 r.1, BitVec.ofNat 32 (r.1 >>> 32), r.2)
    else ((s.readDbg o).1, (s.readDbg (o + 4)).1, s)
  else ((s.readLive m b o).1, (s.readLive m b (o + 4)).1, s)

/-- A read of a register of an assigned block by a master that may access it (R10, R18, R21, R437). -/
def State.regRead (s : State) (m : Master) (b o : Nat) : Word × State :=
  let mi := masterIdx m
  if blkOf b = some .mbx ∧ 0x1000 ≤ o ∧ o < 0x9000 then s.mbxRead m ((o - 0x1000) / 0x400) (o % 0x400)
  else if spanLow b o then
    let r := s.readSpan m b o
    (r.1, { r.2.2 with shadow := Map.put r.2.1 r.2.2.shadow (shadowKey mi b (o + 4)) })
  else
    match (if 4 ≤ o ∧ spanLow b (o - 4) then s.shadow.find? (fun p => p.1 == shadowKey mi b o) else none) with
    | some p => (p.2, { s with shadow := Map.del s.shadow p.1 })
    | none =>
      if 4 ≤ o ∧ spanLow b (o - 4) ∧ (b = 0x0C ∨ b = 0x1E) then
        let r := s.readSpan m b (o - 4)
        (r.2.1, r.2.2)
      else if b = 0x1E ∧ 0x10 ≤ o then s.readDbg o
      else if b = 0x0E ∧ o = 0x1C then ((s.readLive m b o).1, s.senseSnap mi)
      else s.readLive m b o

/-- A register write by Cretal's firmware outside the service of a request (R337, R493). -/
def State.cretalWrite (s : State) (b o : Nat) (data : Word) : State := s.admits .cretal b o (fun t => t.regWrite .cretal b o data)

/-! ## REGISTER_WRITE -/

/-- The register at an address: of an assigned block (Table 01-7, R19), or of Cretal's MPU, which Cretal and the debug port reach
(R491, Table 14-2). -/
def State.regAt (s : State) (m : Master) (a : Nat) : Option (Nat × Nat) :=
  if a % 4 ≠ 0 then none
  else if 0x100020000000 ≤ a ∧ a < 0x100020010000 then (if isMgmt m then some (0x100, a % 0x10000) else none)
  else
    match s.region a with
    | .regs b o => if (blkOf b).isSome then some (b, o) else none
    | _ => none

/-- REGISTER_WRITE (R5 to R25): a master's 4-byte write at an address of a register takes effect; one that reaches no register meets a
Bus Error at its master and changes nothing (R19, R491). -/
def execRegisterWrite (m : Master) (a : Dword) (data : Word) (s : State) : Host.Outcome State Fault Refusal :=
  match s.regAt m a.toNat with
  | some (b, o) => .next (s.admits m b o (fun t => t.regWrite m b o data))
  | none => .next s

end Sys2Proof.Machine
end

