-- ==== Sys2Proof/Machine/LoadStore.lean ====
section
/-!
DEFINITION. Machine/LoadStore.lean: loads, stores, atomic and ordering instructions (R140 to R155), an engine's accesses to device
registers with the output gate and the reads of pairs (R393, R400 to R403), and what completes them (R206, R298).
-/

namespace Sys2Proof.Machine

open Sys2Proof

/-! ## Device registers -/

/-- The gated acts of Table 11-4. -/
def gatedReg (b o : Nat) : Bool :=
  b == 5 || (decide (0x10 ≤ b ∧ b ≤ 0x17) && (o == 0x100 || o == 0x608)) || (decide (b = 0x1A ∨ b = 0x1B) && o == 0x20)

/-- Waits until the store buffer is empty (Table 05-2). -/
def sbEmpty (e : Nat) : EM Unit := do
  if !((← get).engine e).sb.isEmpty then throw .wait

/-- Record 0x09 of a read that the channel A engine makes for both twins (Table 11-2). -/
def State.sigRead (s : State) (e blk ofs : Nat) : State := s.sigTake e ([0x09, BitVec.ofNat 8 blk] ++ toBytes 2 ofs)

/-- A read of R393: the channel A engine of a pair, or an unpaired engine, performs it; the channel B engine receives its result, and a
read that channel A did not make at the same count is a Pair Divergence ACCESS. -/
def pairRead (e blk ofs : Nat) (perform : State → Option Dword × State) : EM (Option Dword) := do
  let s ← get
  let n := (s.engine e).commits + 1
  let p := pairOf e
  if !s.pairedEng e then
    set (perform s).2
    pure (perform s).1
  else if inB e then
    match (s.pair p).reads.find? (fun r => r.count == n && r.blk == blk && r.ofs == ofs) with
    | some r =>
      set ((s.updPair p (fun q => { q with reads := q.reads.filter (fun t => t != r) })).sigRead e blk ofs)
      pure r.data
    | none =>
      set (s.divergeAt p 3 n)
      throw .wait
  else
    let r := perform s
    set ((r.2.updPair p (fun q => { q with reads := q.reads ++ [{ count := n, blk := blk, ofs := ofs, data := r.1 }] })).sigRead e blk ofs)
    pure r.1

/-- A register read by an engine, where Table 01-7 allows it. -/
def State.engRegRead (s : State) (e b o : Nat) : Option Dword × State :=
  if engineMay b false then
    let r := s.regRead (.engine (BitVec.ofNat 10 e)) b o
    (some (r.1.setWidth 64), r.2)
  else (none, s)

/-- A load of a device register (R148, R393). -/
def regLoad (e pa b o : Nat) (reg : Option Nat) : EM Dword := do
  sbEmpty e
  let perform := fun (s : State) => s.engRegRead e b o
  let r ← if b = tileBlk (tileOf e) then (fun s => .ok (perform s).1 (perform s).2 : EM (Option Dword)) else pairRead e b o perform
  match r with
  | some v => pure v
  | none => fault 0x15 pa reg 1

/-- What a completed act leaves: write-back of the base, PCC, and for a pair the point of the act (R397, R401). -/
def State.actDone (s : State) (e : Nat) (h : Act) : State :=
  let s1 := s.updEngine e (fun x => { x with act := none })
  let s2 := match h.wb with
    | some c => s1.updChuck e (fun k => k.setReg h.rs1 c)
    | none => s1
  let s3 := s2.retire e .seq
  if s3.pairedEng e then s3.addPoint (pairOf e) .commit else s3

/-- The gate forwards an act to its register (R402, R403). -/
def State.actForward (s : State) (e : Nat) (h : Act) : State :=
  match s.region h.addr with
  | .regs b o => s.regWrite (.engine (BitVec.ofNat 10 e)) b o h.data
  | _ => s

/-- A gated act: held for the twin, or for UNPAIRED_ACT_FORWARD; the channel B store with the same count, address, data and signature
releases it once (R401, Table 11-5). -/
def gatedStore (e : Nat) (h : Act) : EM Unit := do
  let s ← get
  let p := pairOf e
  if s.pairedEng e && inB e then
    match (s.pair p).held with
    | some k =>
      if k.count = h.count ∧ k.addr = h.addr ∧ k.data = h.data ∧ k.sig = h.sig then
        set (((s.updPair p (fun q => { q with held := none })).actForward p k).actDone p k)
      else
        set (s.divergeAt p 2 k.count)
        throw .wait
    | none =>
      set (s.divergeAt p 2 h.count)
      throw .wait
  else
    let t := if s.pairedEng e then s.updPair p (fun q => { q with held := some h }) else s
    set (t.updEngine e (fun x => { x with act := some h }))
    throw .wait

/-- A store to a device register (R148, R394, R400). -/
def regStore (e a pa b o : Nat) (data : Word) (rs1 : Reg) (wb : Option Cell) : EM Unit := do
  sbEmpty e
  if !engineMay b true then fault 0x15 pa (some rs1.toNat) 2
  else if gatedReg b o then
    modify (fun s => s.sigTake e ([0x08, BitVec.ofNat 8 b] ++ toBytes 2 o ++ toBytes 4 data.toNat))
    let x := (← get).engine e
    gatedStore e { addr := pa, data := data, va := a, count := x.commits + 1, sig := x.sig, rs1 := rs1.toNat, wb := wb, sync := false }
  else
    modify (fun s =>
      let t := s.regWrite (.engine (BitVec.ofNat 10 e)) b o data
      if b = 4 ∧ o = 0x10 then t.sigTake e (0x07 :: toBytes 2 (bits data 10 0)) else t.sigWrite e a 4 data.toNat .raw)

/-! ## Loads -/

/-- Writes back the base of an access (R145). -/
def writeBack (e : Nat) (rs1 : Reg) (wb : Option Cell) : EM Unit :=
  match wb with
  | some c => putReg e rs1.toNat c
  | none => pure ()

/-- The cell of a load from memory: buffered bytes, L1D, memory itself for a DEVICE page, or a miss that waits for L1D_LINE_FILL with
the request `miss` (R206, R207). -/
def loadMem (e pa n : Nat) (mt : MemType) (reg : Option Nat) (miss : LoadReq) : EM MCell := do
  let x := (← get).engine e
  let key := keyOf e pa
  if mt = .device then
    sbEmpty e
    readMem e pa 0 reg 1
  else if sbCovers x.sb (alignDown key 16) (key % 16) n then pure (sbOver x.sb (alignDown key 16) MCell.poison)
  else
    match l1Find x.l1d (key / 64) with
    | some l =>
      let s ← get
      match s.hitCell l (key % 64) with
      | (some c, t) =>
        set t
        pure c
      | (none, t) =>
        set (t.updEngine e (fun x => { (x.dropL1d key) with load := some { miss with refetch := true } }))
        throw .wait
    | none =>
      modify (fun s => s.updEngine e (fun x => { x with load := some miss }))
      throw .wait

/-- A load of `n` bytes (R144). -/
def loadBody (n : Nat) (sx user : Bool) (f : Addr) (rd rs1 : Reg) (e : Nat) : EM Next := do
  let base ← getReg e rs1
  let reg := some rs1.toNat
  let (a, new) ← f.eval e base n reg 1
  let (pa, mt) ← dataAccess e { cap := base, a := a, n := n, need := [.ld], rd := true, wr := false, align := true, user := user, inl := false
                                reg := reg, accCode := 1 } (pure ())
  if (← get).busBad pa n mt false false then fault 0x15 pa reg 1
  else
    let wb := new.map (cursorMove base)
    let v ← match (← get).region pa with
      | .regs b o => do
        let w ← regLoad e pa b o reg
        pure (intCell (if sx then (w.setWidth 32).signExtend 64 else w))
      | _ => do
        let m ← loadMem e pa n mt reg { rd := rd.toNat, n := n, sx := sx, base := base, rs1 := rs1.toNat, wb := wb, va := a, pa := pa
                                        refetch := false, sync := false }
        loadValue base a n sx m reg
    writeBack e rs1 wb
    putReg e rd.toNat v
    pure .seq

/-- L1D_LINE_FILL (R206): the missed line returns, is installed where every cell is correctable (L1D_MISS), and the waiting load completes. A
refetch of a line that held an uncorrectable error is counted by L1_REFETCH instead (R208). `upset` are errors for its next read to meet. -/
def execL1dLineFill (e : Eid) (upset : List (BitVec 176)) (s : State) : Host.Outcome State Fault Refusal :=
  let n := e.toNat
  match (s.engine n).load with
  | none => .next s
  | some r =>
    let key := keyOf n r.pa
    let line := alignDown key 64
    let s0 := (if r.refetch then s.perf n 7 else s).updEngine n (fun x => { x with load := none })
    let t := s0.readCells line (alignDown r.pa 64) (if r.refetch then 1 else 0) n
    let sb := (t.2.engine n).sb
    let cells := t.1.mapIdx (fun i c => c.map (sbOver sb (line + 16 * i)))
    let u := match cells.mapM id with
      | some cs => (if r.refetch then t.2 else t.2.perf n 6).putL1d n { L1Line.filled (key / 64) cs with errs := upset }
      | none => t.2
    let body : EM Next := do
      let m ← match cells.getD (key % 64 / 16) none with
        | some m => pure m
        | none => ume r.pa (some r.rs1) 1
      let v ← loadValue r.base r.va r.n r.sx m (some r.rs1)
      match r.wb with
      | some c => putReg n r.rs1 c
      | none => pure ()
      putReg n r.rd v
      pure .seq
    match body.run u with
    | .error a v => .next (v.takeAbort n a)
    | .ok nx v => .next (v.retire n nx)

/-! ## Stores -/

/-- A store of `n` bytes (R144): the value first, then the address. -/
def storeBody (n : Nat) (user : Bool) (f : Addr) (rv rs1 : Reg) (e : Nat) : EM Next := do
  let base ← getReg e rs1
  let v ← getReg e rv
  let reg := some rs1.toNat
  if n < 16 && !kindInt v.kind then fault 3 0 (some rv.toNat) 2
  else
    let (a, new) ← f.eval e base n reg 2
    let (pa, mt) ← dataAccess e { cap := base, a := a, n := n, need := [.st], rd := false, wr := true, align := true, user := user, inl := false
                                  reg := reg, accCode := 2 } (if n = 16 then test9 base v a reg else pure ())
    if (← get).busBad pa n mt true false then fault 0x15 pa reg 2
    else
      let wb := new.map (cursorMove base)
      match (← get).region pa with
      | .regs b o => regStore e a pa b o (v.bits.setWidth 32) rs1 wb
      | _ =>
        let k ← if n = 16 then storeKind e v false else pure .raw
        storeMem e a pa n (v.bits.toNat % 2 ^ (8 * n)) k mt
      writeBack e rs1 wb
      pure .seq

/-- STORE_BUFFER_WRITE (R206): the oldest entry goes to memory. -/
def execStoreBufferWrite (e : Eid) (s : State) : Host.Outcome State Fault Refusal :=
  match (s.engine e.toNat).sb with
  | [] => .next s
  | b :: l => .next ((s.updEngine e.toNat (fun x => { x with sb := l })).sbWrite e.toNat b)

/-- Is an engine at an instruction boundary with nothing outstanding. -/
def State.atBoundary (s : State) (e : Nat) : Bool :=
  let x := s.engine e
  !x.held && !x.stopped && !x.dbg.halted && x.walk.isNone && x.load.isNone && x.lfill.isNone && x.act.isNone && !x.bcast && x.sw.isNone

/-- IMPRECISE_UME_ENTRY (R298): Uncorrectable Memory Error with ESTAT.IMP and EPCC at the next instruction. -/
def execImpreciseUmeEntry (e : Eid) (s : State) : Host.Outcome State Fault Refusal :=
  let n := e.toNat
  match (s.engine n).imp with
  | none => .next s
  | some pa =>
    let x := s.engine n
    if !s.atBoundary n || x.dbg.haltReq.isSome || (x.level == .t && !x.running) || (x.level != .t && x.long.isSome) then .next s
    else
      let s1 := if x.long.isSome then s.stopLong n else s
      let s2 := s1.updEngine n (fun x => { x with imp := none })
      .next (s2.enterK n { code := 0x16, val := alignDown pa 16, reg := none, acc := 2 } (s2.chuck n).pcc true)

/-- UNPAIRED_ACT_FORWARD (R37, R403): the act of an unpaired engine reaches its register. -/
def execUnpairedActForward (e : Eid) (s : State) : Host.Outcome State Fault Refusal :=
  match (s.engine e.toNat).act with
  | none => .next s
  | some h => .next (if s.pairedEng e.toNat then s else (s.actForward e.toNat h).actDone e.toNat h)

/-! ## Atomics (R149 to R154) -/

/-- The address and memory type of an atomic access, with its Bus Error (R153). -/
def atomAccess (e : Nat) (base : Cell) (n : Nat) (need : List Perm) (rd wr : Bool) (rs1 : Reg) (t9 : EM Unit) : EM Nat := do
  let a := capCursor base
  let acc := if wr then 2 else 1
  let (pa, mt) ← dataAccess e { cap := base, a := a, n := n, need := need, rd := rd, wr := wr, align := true, user := false, inl := false
                                reg := some rs1.toNat, accCode := acc } t9
  if (← get).busBad pa n mt wr true then fault 0x15 pa (some rs1.toNat) acc
  else
    sbEmpty e
    pure pa

/-- TAS (R150): the cell is read once, and the byte merged into what was read. -/
def tasBody (rd rs1 : Reg) (e : Nat) : EM Next := do
  let base ← getReg e rs1
  let a := capCursor base
  let pa ← atomAccess e base 1 [.ld, .st] true true rs1 (pure ())
  let m ← readMem e pa 0 (some rs1.toNat) 1
  let v ← loadValue base a 1 false m (some rs1.toNat)
  let key := keyOf e pa
  modify (fun s =>
    let t := s.writeCell key { bits := mergeBytes m.bits (key % 16) 1 1, tag := 0 }
    ((t.updEngine e (fun x => x.dropL1d key)).sigWrite e a 1 1 .raw).sigTake e [0x02, v.bits.setWidth 8])
  putReg e rd.toNat v
  pure .seq

/-- LRES (R151). -/
def lresBody (rd rs1 : Reg) (e : Nat) : EM Next := do
  let base ← getReg e rs1
  let pa ← atomAccess e base 16 [.ld] true false rs1 (pure ())
  let m ← readMem e pa 0 (some rs1.toNat) 1
  let v ← loadValue base (capCursor base) 16 false m (some rs1.toNat)
  modify (fun s => s.updEngine e (fun x => { (x.dropL1d (keyOf e pa)) with resv := some (alignDown (keyOf e pa) 16) }))
  putReg e rd.toNat v
  pure .seq

/-- SCND (R151): every SCND that does not fault clears the reservation. -/
def scndBody (rd rs1 rs2 : Reg) (e : Nat) : EM Next := do
  let base ← getReg e rs1
  let v ← getReg e rs2
  let a := capCursor base
  let pa ← atomAccess e base 16 [.st] false true rs1 (test9 base v a (some rs1.toNat))
  let cell := alignDown (keyOf e pa) 16
  if ((← get).engine e).resv = some cell then
    let k ← storeKind e v false
    modify (fun s =>
      let t := (s.writeCell cell { bits := v.bits, tag := kindTag k }).updEngine e (fun x => { (x.dropL1d cell) with resv := none })
      (t.sigWrite e a 16 v.bits.toNat k).sigTake e [0x02, 0x00])
    wint e rd.toNat 0
    pure .seq
  else
    modify (fun s => (s.updEngine e (fun x => { (x.dropL1d cell) with resv := none })).sigTake e [0x02, 0x01])
    wint e rd.toNat 1
    pure .seq

/-! ## Ordering (R155) -/

/-- The L1D lines of cluster memory and DRAM are invalidated, also of a row that is not usable at the time (Table 03-13). -/
def State.acquire (s : State) (e : Nat) : State :=
  s.updEngine e (fun x => { x with l1d := x.l1d.filter (fun l =>
    let a := 64 * l.line
    !decide (a < 0x4000000 ∨ (0x10000000000 ≤ a ∧ a < 0x10400000000))) })

/-- BAR.ACQ. -/
def barAcqBody (e : Nat) : EM Next := do
  modify (fun s => s.acquire e)
  pure .seq

/-- BAR.REL, and MSYNC: waits until the store buffer is empty (R353). -/
def barRelBody (e : Nat) : EM Next := do
  sbEmpty e
  pure .seq

/-- BAR.FULL. -/
def barFullBody (e : Nat) : EM Next := do
  sbEmpty e
  modify (fun s => s.acquire e)
  pure .seq

/-- LDB (R140, R144). -/
def execLdb (e : Eid) (g : Grd) (rd rs1 : Reg) (imm : Imm13) (s : State) : Host.Outcome State Fault Refusal :=
  run1 s e (encI g 0x10 rd rs1 imm) (loadBody 1 true false (.ofs imm) rd rs1)

/-- LDBU (R140, R144). -/
def execLdbu (e : Eid) (g : Grd) (rd rs1 : Reg) (imm : Imm13) (s : State) : Host.Outcome State Fault Refusal :=
  run1 s e (encI g 0x11 rd rs1 imm) (loadBody 1 false false (.ofs imm) rd rs1)

/-- LDH (R140, R144). -/
def execLdh (e : Eid) (g : Grd) (rd rs1 : Reg) (imm : Imm13) (s : State) : Host.Outcome State Fault Refusal :=
  run1 s e (encI g 0x12 rd rs1 imm) (loadBody 2 true false (.ofs imm) rd rs1)

/-- LDHU (R140, R144). -/
def execLdhu (e : Eid) (g : Grd) (rd rs1 : Reg) (imm : Imm13) (s : State) : Host.Outcome State Fault Refusal :=
  run1 s e (encI g 0x13 rd rs1 imm) (loadBody 2 false false (.ofs imm) rd rs1)

/-- LDW (R140, R144). -/
def execLdw (e : Eid) (g : Grd) (rd rs1 : Reg) (imm : Imm13) (s : State) : Host.Outcome State Fault Refusal :=
  run1 s e (encI g 0x14 rd rs1 imm) (loadBody 4 true false (.ofs imm) rd rs1)

/-- LDWU (R140, R144). -/
def execLdwu (e : Eid) (g : Grd) (rd rs1 : Reg) (imm : Imm13) (s : State) : Host.Outcome State Fault Refusal :=
  run1 s e (encI g 0x15 rd rs1 imm) (loadBody 4 false false (.ofs imm) rd rs1)

/-- LDD (R140, R144). -/
def execLdd (e : Eid) (g : Grd) (rd rs1 : Reg) (imm : Imm13) (s : State) : Host.Outcome State Fault Refusal :=
  run1 s e (encI g 0x16 rd rs1 imm) (loadBody 8 false false (.ofs imm) rd rs1)

/-- LDQ (R140, R144). -/
def execLdq (e : Eid) (g : Grd) (rd rs1 : Reg) (imm : Imm13) (s : State) : Host.Outcome State Fault Refusal :=
  run1 s e (encI g 0x17 rd rs1 imm) (loadBody 16 false false (.ofs imm) rd rs1)

/-- STB (R140, R144). -/
def execStb (e : Eid) (g : Grd) (rv rs1 : Reg) (imm : Imm13) (s : State) : Host.Outcome State Fault Refusal :=
  run1 s e (encI g 0x18 rv rs1 imm) (storeBody 1 false (.ofs imm) rv rs1)

/-- STH (R140, R144). -/
def execSth (e : Eid) (g : Grd) (rv rs1 : Reg) (imm : Imm13) (s : State) : Host.Outcome State Fault Refusal :=
  run1 s e (encI g 0x19 rv rs1 imm) (storeBody 2 false (.ofs imm) rv rs1)

/-- STW (R140, R144). -/
def execStw (e : Eid) (g : Grd) (rv rs1 : Reg) (imm : Imm13) (s : State) : Host.Outcome State Fault Refusal :=
  run1 s e (encI g 0x1a rv rs1 imm) (storeBody 4 false (.ofs imm) rv rs1)

/-- STD (R140, R144). -/
def execStd (e : Eid) (g : Grd) (rv rs1 : Reg) (imm : Imm13) (s : State) : Host.Outcome State Fault Refusal :=
  run1 s e (encI g 0x1b rv rs1 imm) (storeBody 8 false (.ofs imm) rv rs1)

/-- STQ (R140, R144). -/
def execStq (e : Eid) (g : Grd) (rv rs1 : Reg) (imm : Imm13) (s : State) : Host.Outcome State Fault Refusal :=
  run1 s e (encI g 0x1c rv rs1 imm) (storeBody 16 false (.ofs imm) rv rs1)

/-- LDX (R141, R142). -/
def execLdx (e : Eid) (g : Grd) (rd rs1 ix : Reg) (mode size : BitVec 3) (sx : Bool) (s : State) : Host.Outcome State Fault Refusal :=
  run1 s e (encM g 0x1D rd rs1 ix mode size sx false) (loadBody (2 ^ size.toNat) sx false (addrOf mode ix size.toNat) rd rs1)

/-- LDU (R141, R142, R147). -/
def execLdu (e : Eid) (g : Grd) (rd rs1 ix : Reg) (mode size : BitVec 3) (sx : Bool) (s : State) : Host.Outcome State Fault Refusal :=
  run1 s e (encM g 0x1D rd rs1 ix mode size sx true) (loadBody (2 ^ size.toNat) sx true (addrOf mode ix size.toNat) rd rs1)

/-- STX (R141, R142, R143). -/
def execStx (e : Eid) (g : Grd) (rv rs1 ix : Reg) (mode size : BitVec 3) (s : State) : Host.Outcome State Fault Refusal :=
  run1 s e (encM g 0x1E rv rs1 ix mode size false false) (storeBody (2 ^ size.toNat) false (addrOf mode ix size.toNat) rv rs1)

/-- STU (R141, R142, R143, R147). -/
def execStu (e : Eid) (g : Grd) (rv rs1 ix : Reg) (mode size : BitVec 3) (s : State) : Host.Outcome State Fault Refusal :=
  run1 s e (encM g 0x1E rv rs1 ix mode size false true) (storeBody (2 ^ size.toNat) true (addrOf mode ix size.toNat) rv rs1)

/-- TAS (R150). -/
def execTas (e : Eid) (g : Grd) (rd rs1 : Reg) (s : State) : Host.Outcome State Fault Refusal := run1 s e (encR g 0x1F rd rs1 0 1) (tasBody rd rs1)

/-- LRES (R151). -/
def execLres (e : Eid) (g : Grd) (rd rs1 : Reg) (s : State) : Host.Outcome State Fault Refusal := run1 s e (encR g 0x1F rd rs1 0 2) (lresBody rd rs1)

/-- SCND (R151). -/
def execScnd (e : Eid) (g : Grd) (rd rs1 rs2 : Reg) (s : State) : Host.Outcome State Fault Refusal := run1 s e (encR g 0x1F rd rs1 rs2 3) (scndBody rd rs1 rs2)

/-- BAR.ACQ (R155). -/
def execBarAcq (e : Eid) (g : Grd) (s : State) : Host.Outcome State Fault Refusal := run1 s e (encR g 0x20 0 0 0 1) barAcqBody

/-- BAR.REL (R155). -/
def execBarRel (e : Eid) (g : Grd) (s : State) : Host.Outcome State Fault Refusal := run1 s e (encR g 0x20 0 0 0 2) barRelBody

/-- BAR.FULL (R155). -/
def execBarFull (e : Eid) (g : Grd) (s : State) : Host.Outcome State Fault Refusal := run1 s e (encR g 0x20 0 0 0 3) barFullBody

/-- MSYNC (R353): every access checked before it has completed; an MPU write applies at once in this model. -/
def execMsync (e : Eid) (g : Grd) (s : State) : Host.Outcome State Fault Refusal := run1 s e (encR g 0x20 0 0 0 8) barRelBody

end Sys2Proof.Machine
end

