-- ==== Sys2Proof/Machine/System.lean ====
section
/-!
DEFINITION. Machine/System.lean: TRAP, system registers, XRET, WAIT, predictor and TLB maintenance (R156 to R160, R215 to R218, R246,
R253, R291, R329 to R334).
-/

namespace Sys2Proof.Machine

open Sys2Proof

/-- TRAP (R156, R294). -/
def trapBody (num : BitVec 12) (_e : Nat) : EM Next := fault 0x12 num.toNat none 0

/-! ## System registers (Tables 03-14, 07-1) -/

/-- The registers that hold a cell (Table 03-14), but for PCC. -/
def sysIsCell (n : Nat) : Bool := n == 0x100 || n == 0x104 || n == 0x105 || n == 0x180 || n == 0x181

/-- The constant feature registers (R195). -/
def featReg (n : Nat) : Dword :=
  match n with
  | 0x30 => BitVec.ofNat 64 (2 ^ 48 + 0xF * 2 ^ 32 + 4 * 2 ^ 28 + 8 * 2 ^ 24 + 3 * 2 ^ 20 + 4 * 2 ^ 16 + 8 * 2 ^ 8 + 0xF)
  | 0x31 => BitVec.ofNat 64 (32 * 2 ^ 24 + 64 * 2 ^ 16 + 16 * 2 ^ 8 + 0x7F)
  | 0x32 => BitVec.ofNat 64 (64 * 2 ^ 40 + 8 * 2 ^ 36 + 32 * 2 ^ 24 + 512 * 2 ^ 12 + 8 * 2 ^ 8 + 8 * 2 ^ 4 + 8)
  | _ => BitVec.ofNat 64 (0xA2 * 2 ^ 40 + 0x400 * 2 ^ 16 + 1)

/-- GSR of TIME: a read of R393 for a pair. -/
def readTime (e : Nat) : EM Dword := do
  match ← pairRead e 0xFF 5 (fun s => (some s.now.1, s.now.2)) with
  | some v => pure v
  | none => pure 0

/-- The 64-bit value of a system register (R157; PSALT reads 0, R217). -/
def sysVal (e n : Nat) : EM Dword := do
  let s ← get
  if n < 0x30 ∧ n ≠ 2 ∧ n ≠ 3 ∧ n ≠ 4 ∧ n ≠ 5 then pure ((s.chuck e).sysr n)
  else
    match n with
    | 2 => pure (BitVec.ofNat 64 (s.taskId e))
    | 3 => pure (BitVec.ofNat 64 e)
    | 4 =>
      set { s with freeCtr := s.freeCtr + 1 }
      pure (Config.cycleCount s.freeCtr)
    | 5 => readTime e
    | 0x30 | 0x31 | 0x32 | 0x33 => pure (featReg n)
    | 0x10D => pure 0
    | _ => pure (s.esys e n)

/-- GSR (R157). -/
def gsrBody (rd : Reg) (sr : BitVec 12) (e : Nat) : EM Next := do
  let n := sr.toNat
  let s ← get
  if n = 1 then putReg e rd.toNat (s.chuck e).pcc
  else if sysIsCell n then putReg e rd.toNat (s.ecell e n)
  else wint e rd.toNat (← sysVal e n)
  pure .seq

/-- The writable bits of a 64-bit system register. -/
def ssrMask (n : Nat) : Dword :=
  match n with
  | 0x101 => 0x8F
  | 0x102 => 0x3F033F3F
  | 0x106 => 3
  | 0x108 | 0x109 => 0xFFFFFFFF000
  | 0x10A => 0x1F
  | 0x10B => 0xFFF
  | 0x10C => 0x1FFFF
  | 0x10D => 0xFFFFFFFFFFFFFFF
  | _ => sysMask n

/-- The encoded field of a system register whose value `v` is reserved, as its high and low bit (R159): PL, MODE, VASZ, CYCLES. -/
def ssrReserved (n : Nat) (v : Dword) : Option (Nat × Nat) :=
  match n with
  | 0x101 => if 2 ≤ bits v 1 0 then some (1, 0) else none
  | 0x106 => if 2 ≤ bits v 1 0 then some (1, 0) else none
  | 0x10A => if bits v 1 0 = 3 then some (1, 0) else none
  | 0x10C => if bits v 16 0 < 4096 ∨ 65536 < bits v 16 0 then some (16, 0) else none
  | _ => none

/-- The value a register takes from an SSR of `v` over `old`, and whether R159 set CFGERR. -/
def ssrValue (n : Nat) (old v : Dword) : Dword × Bool :=
  let w := v &&& ssrMask n
  match ssrReserved n v with
  | some (hi, lo) => (setBits w hi lo (bits old hi lo), true)
  | none => (w, false)

/-- TSTAT as an SSR leaves it (R124): W1C DZ and CFGERR, KGU kept at level T, the rest of the writable fields written. -/
def tstatWrite (old v : Dword) (atT : Bool) : Dword :=
  let w1c := old &&& 0x1010 &&& ~~~ v
  let kgu := if atT then old &&& 0x20000 else v &&& 0x20000
  (old &&& 0x10000) ||| kgu ||| w1c ||| (v &&& 0x30F)

/-- A write of a 64-bit system register (R14, R15, R159); of PSALT, the salt of the current task from then on (R217). -/
def State.ssrWrite (s : State) (e n : Nat) (v : Dword) : State :=
  if n = 0 then s.updChuck e (fun c => c.setSysr 0 (tstatWrite (c.sysr 0) v ((s.engine e).level == .t)))
  else
    let inChuck := decide (n < 0x30)
    let r := ssrValue n (if inChuck then (s.chuck e).sysr n else s.esys e n) v
    let t := if inChuck then s.updChuck e (fun c => c.setSysr n r.1) else s.setEsys e n r.1
    let t1 := if r.2 then t.updChuck e (fun c => c.setSysr 0 (setBit (c.sysr 0) 12 true)) else t
    if n = 0x10D then
      (t1.updSlot e (s.engine e).slot (fun q => { q with psalt := r.1.setWidth 60 })).updEngine e (fun x => x.pflush (s.engine e).slot (s.taskId e))
    else t1

/-- SSR (R157, R158). -/
def ssrBody (sr : BitVec 12) (rs1 : Reg) (e : Nat) : EM Next := do
  let n := sr.toNat
  if sysIsCell n then
    let c ← getReg e rs1
    modify (fun s => s.setEcell e n c)
  else
    let v ← ival e rs1.toNat
    modify (fun s => s.ssrWrite e n v)
  pure .seq

/-! ## XRET (R291) -/

/-- The subtype of Table 07-6 that an XRET meets, or 0. -/
def State.xretFault (s : State) (e : Nat) : Nat :=
  let st := s.esys e 0x101
  let tgt := s.ecell e 0x100
  if bit st 2 ∧ bits (s.esys e 0x107) 1 0 < bits st 1 0 then 1
  else if bit st 2 = false ∧ bits st 1 0 ≠ 1 then 3
  else if tgt.kind ≠ .cap ∨ capMalformed tgt ∨ capHas tgt .ex = false then 2
  else 0

/-- The frame that an XRET pops through KSP or RESTSP into EPCC, ESTAT, ECAUSE and EVAL. -/
def popFrame (e : Nat) (lvl : Level) : EM Unit := do
  let sr := if lvl = .rest then 0x181 else 0x104
  let c := (← get).ecell e sr
  let a := capCursor c
  let l ← (List.range 4).mapM (fun i => loadAtK e c ((a + 16 * i) % 2 ^ 56) lvl [.ld, .ldc] true)
  let q := fun (i : Nat) => (l.getD i Cell.null).bits
  modify (fun s =>
    ((((s.setEcell e 0x100 (l.getD 0 Cell.null)).setEsys e 0x101 ((q 1).setWidth 64 &&& ssrMask 0x101)).setEsys e 0x102
      (((q 1) >>> 64).setWidth 64 &&& ssrMask 0x102)).setEsys e 0x103 ((q 2).setWidth 64)).setEcell e sr (withCursor c (a + 64)))

/-- The level, chuck and PCC that an XRET goes to, after its own commit; a task that no longer runs leaves the engine idle. -/
def State.returnTo (s : State) (e : Nat) (st : Dword) (tgt : Cell) : State :=
  let s1 := ((s.sigTake e (0x04 :: toBytes 7 (capCursor tgt))).traceEv e 2 (toBytes 7 (capCursor tgt))).commit e
  let t := s1.curSlot e
  let toT := bits st 1 0 = 0
  (s1.updEngine e (fun x =>
    { x with level := if toT then .t else .k
             cur := if bit st 2 then t.chuck.getD 7 else 7
             resv := none
             trap := x.trap && !toT
             running := if toT then x.running && t.st == .running else x.running })).setPcc e tgt

/-- What a Rest entry that is no abort of the instruction leaves of a debug step (R561). -/
def State.afterEntry (s : State) (e : Nat) : State :=
  if (s.engine e).dbg.stepping && !(s.engine e).stopped then s.haltEngine e 2 none else s

/-- XRET. -/
def xretBody (e : Nat) : EM Next := do
  let s ← get
  let f := s.xretFault e
  if f ≠ 0 then fault 0x18 f none 0
  else
    let st := s.esys e 0x101
    let tgt := s.ecell e 0x100
    let lvl := (s.engine e).level
    if lvl = .rest ∨ bit st 3 then
      match (popFrame e lvl).run s with
      | .error _ t =>
        set t
        if lvl = .rest then fault 0x18 0x0A none 0
        else
          set ((t.enterRest e 0x19 0x180A (s.chuck e).pcc).afterEntry e)
          pure .hold
      | .ok _ t =>
        set (t.returnTo e st tgt)
        pure .hold
    else
      set (s.returnTo e st tgt)
      pure .hold

/-! ## WAIT (R246, R253) -/

/-- WAIT. A channel B engine of a pair waits where channel A waited, and a delivery that has reached it meanwhile makes its task READY at
once (R253, R266; notes/assumptions/27.md). -/
def waitBody (e : Nat) : EM Next := do
  let s ← get
  let x := s.engine e
  match x.level with
  | .t =>
    let t := s.curSlot e
    if t.pend &&& ~~~ t.emask != 0 && !s.twinWaits e then
      set (s.updSlot e x.slot (fun t => { t with pend := t.pend &&& t.emask }))
      pure .seq
    else
      let u := (s.updSlot e x.slot (fun t => { t with st := .waiting })).idle e
      set (if s.twinWaits e && t.pend != 0 then u.makeReady e x.slot else u)
      pure .hold
  | .k =>
    if x.trap then
      set (((s.retire e .seq).updEngine e (fun x => { x with trap := false, level := .t })).idle e)
      pure .hold
    else pure .seq
  | .rest => pure .seq

/-! ## Predictor (R215, R218) -/

/-- PFLUSH. -/
def pflushBody (e : Nat) : EM Next := do
  modify (fun s => s.updEngine e (fun x => x.pflush x.slot (s.taskId e)))
  pure .seq

/-- PBAR: PFLUSH, and deterministic mode for the rest of the task's life, in its descriptor too (R218, R233). -/
def pbarBody (e : Nat) : EM Next := do
  modify (fun s =>
    let n := (s.engine e).slot
    (((s.updEngine e (fun x => x.pflush x.slot (s.taskId e))).updSlot e n (fun t => { t with det := true })).detWrite e n))
  pure .seq

/-! ## TLB maintenance (R329 to R334, Table 08-8) -/

/-- Invalidates the TLB entries that `f` names and all walk-cache entries of the engine. -/
def State.tlbInv (s : State) (e : Nat) (f : TlbEntry → Bool) : State :=
  let t := s.updEngine e (fun x => { x with tlb := x.tlb.filter (fun t => !f t) })
  { t with wcache := Map.upd [] (fun l => l.filter (fun w => w.owner != e)) t.wcache (clusterOf e) }

/-- TINV.ALL and TINV.ASID, which also invalidate L1I (R205). -/
def tinvL1i (f : TlbEntry → Bool) (e : Nat) : EM Next := do
  sbEmpty e
  modify (fun s => (s.tlbInv e f).updEngine e (fun x => { x with l1i := [] }))
  pure .seq

/-- TINV.ALL. -/
def tinvAllBody (e : Nat) : EM Next := tinvL1i (fun _ => true) e

/-- TINV.ASID. -/
def tinvAsidBody (rs1 : Reg) (e : Nat) : EM Next := do
  let v ← ival e rs1.toNat
  tinvL1i (fun t => !t.g && t.asid == bits v 11 0) e

/-- TINV.VA. -/
def tinvVaBody (rs1 rs2 : Reg) (e : Nat) : EM Next := do
  let v ← ival e rs1.toNat
  let a ← ival e rs2.toNat
  sbEmpty e
  modify (fun s => s.tlbInv e (fun t => t.hit (bits v 55 0) (bits a 11 0)))
  pure .seq

/-- The invalidation of an engine for a broadcast: its entries, and a walk outstanding is discarded (R330, R333). -/
def State.bcastInv (s : State) (n va asid : Nat) : State :=
  (s.tlbInv n (fun t => t.hit va asid)).updEngine n (fun x => { x with walk := x.walk.map (fun w => { w with discard := true }) })

/-- The oldest broadcast ends where every engine has acknowledged, and its instruction completes. -/
def State.bcastEnd (s : State) : State :=
  match s.bcasts with
  | [] => s
  | b :: l => if b.pend.isEmpty then (({ s with bcasts := l }.updEngine b.issuer (fun x => { x with bcast := false })).retire b.issuer .seq) else s

/-- Every broadcast in turn that has nothing to wait for ends. -/
def State.bcastSettle (s : State) : State := s.bcasts.foldl (fun u _ => u.bcastEnd) s

/-- TINV.BCAST (R333): acts as TINV.VA, then holds until every other engine has acknowledged; one that is held or whose tile sleeps does so
at once (R511, R529, R530). -/
def tinvBcastBody (rs1 rs2 : Reg) (e : Nat) : EM Next := do
  let v ← ival e rs1.toNat
  let a ← ival e rs2.toNat
  sbEmpty e
  modify (fun s =>
    let t := (s.tlbInv e (fun t => t.hit (bits v 55 0) (bits a 11 0))).updEngine e (fun x => { x with bcast := true })
    let now := (List.range 1024).filter (fun n => n != e && t.acksAtOnce n)
    let u := now.foldl (fun u n => u.bcastInv n (bits v 55 0) (bits a 11 0)) t
    let b : TlbBcast := { issuer := e, va := bits v 55 0, asid := bits a 11 0, pend := (List.range 1024).filter (fun n => n != e && !t.acksAtOnce n) }
    { u with bcasts := u.bcasts ++ [b] }.bcastSettle)
  pure .hold

/-- BCAST_INVALIDATE_ACK (R333, R334): an engine invalidates for the broadcast in progress and acknowledges; after the last the issuer's
instruction completes. -/
def execBcastInvalidateAck (e : Eid) (s : State) : Host.Outcome State Fault Refusal :=
  let n := e.toNat
  match s.bcasts with
  | [] => .next s
  | b :: l =>
    if !b.pend.contains n then .next s
    else
      let t := s.bcastInv n b.va b.asid
      .next ({ t with bcasts := { b with pend := b.pend.filter (· != n) } :: l }.bcastSettle)

/-- The end of an engine's walk (R316, R330): a TLB entry, a fault of the access, or nothing where it was discarded. -/
def State.endWalk (s : State) (n : Nat) (r : WalkReq) : State :=
  let s0 := s.updEngine n (fun x => { x with walk := none })
  if r.discard then s0
  else
    let kgu := r.acc != .exec && bit ((s.chuck n).sysr 0) 17
    match s0.walked n r.va r.acc r.lvl r.user kgu with
    | (.ok _, t) => t
    | (.error f, t) => (t.stopLong n).takeAbort n (.exc { code := f.1, val := xval r.va f.2, reg := r.reg, acc := r.accCode })

/-- TABLE_WALK (R315, R316, R330): a walk that the cluster's walker has started ends, and the walker starts the next. -/
def execTableWalk (e : Eid) (s : State) : Host.Outcome State Fault Refusal :=
  let n := e.toNat
  let s := s.walkServe (clusterOf n)
  match (s.engine n).walk with
  | none => .next s
  | some r => .next (if r.started then (s.endWalk n r).walkServe (clusterOf n) else s)

/-- TLB_ENTRY_EXPIRE (R327): the entry with that number is too old. -/
def execTlbEntryExpire (e : Eid) (walkCache : Bool) (idx : BitVec 6) (s : State) : Host.Outcome State Fault Refusal :=
  if walkCache then .next { s with wcache := Map.upd [] (fun l => l.eraseIdx idx.toNat) s.wcache (clusterOf e.toNat) }
  else .next (s.updEngine e.toNat (fun x => { x with tlb := x.tlb.eraseIdx idx.toNat }))

/-! ## Fetch on a wrong path, and words that are no instruction -/

/-- May a wrong-path fetch be made at an address (R220): its physical address. The tests of R302 come before the TLB. At Rest, where no
translation is made (R301), there is no TLB condition to meet: DEDUCED (notes/assumptions/60.md). -/
def State.wrongPathPa (s : State) (e a : Nat) : Option Nat :=
  let x := s.engine e
  let pcc := (s.chuck e).pcc
  let pa? := if x.level = .rest then some (a, plainMt a)
    else if (s.halfFault e a).isSome then none
    else match x.tlb.filter (fun t => t.hit a (bits (s.esys e 0x10B) 11 0)) with
      | [t] => if (pageCheck t true .exec x.level false false).isNone then some (t.pa a, t.mt) else none
      | _ => none
  match pa? with
  | none => none
  | some (pa, mt) =>
    if a < capBase pcc ∨ capTop pcc < a + 4 ∨ mt = .device then none
    else if (s.mpuCheck (.engine (BitVec.ofNat 10 e)) pa .exec (x.level != .t) (s.pairedCtx e) mt 0 0).1 ≠ 0 then none
    else match s.region pa with
      | .cluster _ | .dram _ | .xspi => some pa
      | .priv _ | .none | .lin _ _ | .regs _ _ => none

/-- WRONG_PATH_FETCH (R220 to R222): a fill of L1I from a predicted address, and its count, and no other trace. -/
def execWrongPathFetch (e : Eid) (a : VAddr) (s : State) : Host.Outcome State Fault Refusal :=
  let n := e.toNat
  if !s.ready n then .next s
  else
    match s.wrongPathPa n a.toNat with
    | none => .next s
    | some pa =>
      let key := keyOf n pa
      if (l1Find (s.engine n).l1i (key / 64)).isSome then .next s
      else
        let r := s.readCells (alignDown key 64) (alignDown pa 64) 1 n
        let t := { s.perf n 5 with freeCtr := r.2.freeCtr }
        match r.1.mapM id with
        | some cs => .next (t.updEngine n (fun x => x.putL1i (L1Line.filled (key / 64) cs)))
        | none => .next t

/-- ILLEGAL_INSTRUCTION (R161, R162): a fetched word that is no instruction of the task's class raises Illegal Instruction. -/
def execIllegalInstruction (e : Eid) (w : Word) (s : State) : Host.Outcome State Fault Refusal :=
  if legalWord w (s.stream e.toNat) (bit (s.esys e.toNat 0x10A) 4) then .next s else run1 s e w (fun _ => pure .hold)

/-! ## The commands -/

/-- TRAP (R156). -/
def execTrap (e : Eid) (g : Grd) (num : BitVec 12) (s : State) : Host.Outcome State Fault Refusal :=
  run1 s e (encI g 0x24 0 0 (num.setWidth 13)) (trapBody num)

/-- GSR (R157). -/
def execGsr (e : Eid) (g : Grd) (rd : Reg) (sr : BitVec 12) (s : State) : Host.Outcome State Fault Refusal :=
  run1 s e (encI g 0x25 rd 0 (sr.setWidth 13)) (gsrBody rd sr)

/-- SSR (R157). -/
def execSsr (e : Eid) (g : Grd) (sr : BitVec 12) (rs1 : Reg) (s : State) : Host.Outcome State Fault Refusal :=
  run1 s e (encI g 0x26 0 rs1 (sr.setWidth 13)) (ssrBody sr rs1)

/-- NOP (R160). -/
def execNop (e : Eid) (g : Grd) (s : State) : Host.Outcome State Fault Refusal := run1 s e (encR g 0x27 0 0 0 0) (fun _ => pure .seq)

/-- XRET (R291). -/
def execXret (e : Eid) (g : Grd) (s : State) : Host.Outcome State Fault Refusal := run1 s e (encR g 0x27 0 0 0 1) xretBody

/-- PFLUSH (R215). -/
def execPflush (e : Eid) (g : Grd) (s : State) : Host.Outcome State Fault Refusal := run1 s e (encR g 0x27 0 0 0 2) pflushBody

/-- PBAR (R218). -/
def execPbar (e : Eid) (g : Grd) (s : State) : Host.Outcome State Fault Refusal := run1 s e (encR g 0x27 0 0 0 3) pbarBody

/-- TINV.ALL (R329). -/
def execTinvAll (e : Eid) (g : Grd) (s : State) : Host.Outcome State Fault Refusal := run1 s e (encR g 0x27 0 0 0 8) tinvAllBody

/-- TINV.ASID (R329). -/
def execTinvAsid (e : Eid) (g : Grd) (rs1 : Reg) (s : State) : Host.Outcome State Fault Refusal :=
  run1 s e (encR g 0x27 0 rs1 0 9) (tinvAsidBody rs1)

/-- TINV.VA (R329). -/
def execTinvVa (e : Eid) (g : Grd) (rs1 rs2 : Reg) (s : State) : Host.Outcome State Fault Refusal :=
  run1 s e (encR g 0x27 0 rs1 rs2 10) (tinvVaBody rs1 rs2)

/-- TINV.BCAST (R332, R333). -/
def execTinvBcast (e : Eid) (g : Grd) (rs1 rs2 : Reg) (s : State) : Host.Outcome State Fault Refusal :=
  run1 s e (encR g 0x27 0 rs1 rs2 11) (tinvBcastBody rs1 rs2)

/-- WAIT (R253). -/
def execWait (e : Eid) (g : Grd) (s : State) : Host.Outcome State Fault Refusal := run1 s e (encR g 0x27 0 0 0 0x10) waitBody

end Sys2Proof.Machine
end

