-- ==== Sys2Proof/Machine/DebugPort.lean ====
section
/-!
DEFINITION. Machine/DebugPort.lean: the test access port: JTAG instructions, DBGACC accesses to memory, registers and engine state
(16_debug, R552 to R558, R563; R581).
-/

namespace Sys2Proof.Machine

open Sys2Proof

/-- Applies `f` to the test access port. -/
def State.updJtag (s : State) (f : Jtag → Jtag) : State := { s with jtag := f s.jtag }
/-! ## Instructions (R554, R555) -/

/-- Does EXTEST drive pins (R555). -/
def State.extestDrives (s : State) : Bool := s.inScope 16 && s.mode != .run

/-- EXTEST (R555): the boundary cells drive the pins; in any other case the instruction acts as BYPASS. -/
def execExtest (pins : List Bool) (s : State) : Host.Outcome State Fault Refusal :=
  .next (s.updJtag (fun j => if s.extestDrives then { j with ir := 0, cells := pins } else { j with ir := 0, dr := 0 }))
/-- IDCODE (R554, Table 16-2). -/
def execIdcode (s : State) : Host.Outcome State Fault Refusal := .next (s.updJtag (fun j => { j with ir := 1, dr := 0x21024735 }))
/-- SAMPLE_PRELOAD (R554, R581): the boundary cells take the pins sampled or the values preloaded. -/
def execSamplePreload (pins : List Bool) (s : State) : Host.Outcome State Fault Refusal :=
  .next (s.updJtag (fun j => { j with ir := 2, cells := pins }))
/-- BYPASS (R554). -/
def execBypass (s : State) : Host.Outcome State Fault Refusal := .next (s.updJtag (fun j => { j with ir := 0xFF, dr := 0 }))

/-! ## Bus accesses (R556 to R558) -/

/-- The status of a DBGACC command (Table 16-5): 0 OK, 1 DENIED, 2 ERROR, 3 BUSY, 4 NOTOPEN, 5 BADCMD, 6 BUSERR. -/
abbrev Status := Nat

/-- Is the scope of a bus access held (R553, Table 16-4). -/
def State.busScope (s : State) (pa : Nat) (wr : Bool) : Bool :=
  match s.region pa with
  | .regs b o => s.inDebugScope b o wr
  | _ => s.inScope (if wr then 2 else 1)

/-- A read of 4 bytes through the symbol code (Table 10-4). -/
def State.dbgLoad (s : State) (key pa : Nat) : Status × Word × State :=
  match s.readCell key pa 9 0 with
  | (some c, t) => (0, BitVec.ofNat 32 (c.bits.toNat >>> (8 * (key % 16))), t)
  | (none, t) => (2, 0, t)

/-- A bus read (R556, R557): status, data and state. -/
def State.busRead (s : State) (pa : Nat) : Status × Word × State :=
  if s.guarded pa then (1, 0, s)
  else if pa % 4 ≠ 0 then (6, 0, s)
  else
    match s.region pa with
    | .none => (6, 0, s)
    | .regs b o =>
      if (blkOf b).isNone then (6, 0, s)
      else
        let r := s.regRead .debug b o
        (0, r.1, r.2)
    | .lin chB i =>
      (match s.linRead chB i 9 0 with
       | (some w, t) => (0, w, t)
       | (none, t) => (2, 0, t))
    | .priv o => if o < 0x2000 then s.dbgLoad (privKey s.dbgSel o) pa else (6, 0, s)
    | .xspi | .cluster _ | .dram _ => s.dbgLoad pa pa

/-- A part store of 4 bytes by the debug port (R58, R61). -/
def State.dbgStore (s : State) (key pa : Nat) (w : Word) : Status × State :=
  match s.mergeCell key pa 4 w.toNat 9 0 with
  | (true, t) => (0, t)
  | (false, t) => (2, t)

/-- A bus write (R556 to R558). -/
def State.busWrite (s : State) (pa : Nat) (w : Word) : Status × State :=
  if s.guarded pa then (1, s.raise 1921)
  else if pa % 4 ≠ 0 then (6, s)
  else
    match s.region pa with
    | .none | .lin _ _ | .xspi => (6, s)
    | .regs b o => if (blkOf b).isNone then (6, s) else if b = 0x1E ∧ o = 0x10 then (1, s.raise 1921) else (0, s.regWrite .debug b o w)
    | .priv o => if o < 0x2000 then s.dbgStore (privKey s.dbgSel o) pa w else (6, s)
    | .cluster _ | .dram _ => s.dbgStore pa pa w

/-- A cell kind read (R556): a malformed cell has no kind, and its DATA is a free value. -/
def State.kindRead (s : State) (pa : Nat) : Status × Word × State :=
  let one := fun (key : Nat) =>
    match s.readCell key pa 9 0 with
    | (none, t) => (2, 0, t)
    | (some c, t) =>
      match kindOfTag c.tag with
      | some k => (0, BitVec.ofNat 32 (kindCode k), t)
      | none => (0, Config.unstated t.freeCtr &&& 7, { t with freeCtr := t.freeCtr + 1 })
  if s.guarded pa then (1, 0, s)
  else
    match s.region pa with
    | .none | .lin _ _ | .regs _ _ => (6, 0, s)
    | .priv o => if o < 0x2000 then one (privKey s.dbgSel o) else (6, 0, s)
    | .xspi | .cluster _ | .dram _ => one pa

/-! ## Engine state (R563, Table 16-6) -/

/-- What an engine-state address names. -/
inductive DbgReg where
  | cell (chuck r : Nat)
  | pred (chuck p : Nat)
  | acc (chuck a : Nat)
  | sbits (chuck : Nat)
  | sysCell (n : Nat)
  | sys (n : Nat)

/-- The words of a register (Table 16-6). -/
def DbgReg.words : DbgReg → Nat
  | .cell _ _ | .sysCell _ => 5
  | .pred _ _ | .sbits _ => 1
  | .acc _ _ => 8
  | .sys _ => 2

/-- The register and word an address names; none where a reserved field is not zero or names nothing. -/
def dbgRegOf (a : BitVec 44) : Option (DbgReg × Nat) :=
  let n := bits a 27 16
  let c := bits a 30 28
  let r : Option DbgReg :=
    if bits a 43 32 ≠ 0 ∨ bits a 15 3 ≠ 0 then none
    else if bit a 31 then
      (if c ≠ 0 ∨ !sysRegs.contains n then none else if n = 1 ∨ sysIsCell n then some (.sysCell n) else some (.sys n))
    else if n < 0x20 then some (.cell c n)
    else if 0x40 ≤ n ∧ n ≤ 0x46 then some (.pred c (n - 0x3F))
    else if 0x50 ≤ n ∧ n ≤ 0x53 then some (.acc c (n - 0x50))
    else if n = 0x54 then some (.sbits c)
    else none
  match r with
  | none => none
  | some d => if bits a 2 0 < d.words then some (d, bits a 2 0) else none

/-- A chuck of an engine. -/
def State.chuckAt (s : State) (e c : Nat) : Chuck := Map.get Chuck.empty (s.engine e).chucks c
/-- Applies `f` to a chuck of an engine. -/
def State.updChuckAt (s : State) (e c : Nat) (f : Chuck → Chuck) : State :=
  s.updEngine e (fun x => { x with chucks := Map.upd Chuck.empty f x.chucks c })

/-- The S bits of the four accumulators. -/
def Chuck.sbits (c : Chuck) : Nat := (c.acc 0).s.toNat + 16 * (c.acc 1).s.toNat + 256 * (c.acc 2).s.toNat + 4096 * (c.acc 3).s.toNat

/-- A word of a cell, 4 its kind. -/
def cellWord (c : Cell) (w : Nat) : Nat := if w = 4 then kindCode c.kind else c.bits.toNat >>> (32 * w)

/-- The 64-bit system registers as the debug port reads them; CYCLE and TIME are free values, PSALT reads 0 (R217). -/
def State.dbgSys (s : State) (e n : Nat) : Dword × State :=
  if n = 4 then (Config.cycleCount s.freeCtr, { s with freeCtr := s.freeCtr + 1 })
  else if n = 5 then s.now
  else
    (if n = 2 then BitVec.ofNat 64 (s.taskId e) else if n = 3 then BitVec.ofNat 64 e else if 0x30 ≤ n ∧ n ≤ 0x33 then featReg n
     else if n = 0x10D then 0 else if n < 0x30 then (s.chuck e).sysr n else s.esys e n, s)

/-- A word of a register of an engine. -/
def State.dbgGet (s : State) (e : Nat) (r : DbgReg) (w : Nat) : Word × State :=
  match r with
  | .cell c n => (BitVec.ofNat 32 (cellWord ((s.chuckAt e c).reg n) w), s)
  | .pred c p => (((s.chuckAt e c).pred p).setWidth 32, s)
  | .acc c a => (BitVec.ofNat 32 ((((s.chuckAt e c).acc a).lane (w / 2)).toNat >>> (32 * (w % 2))), s)
  | .sbits c => (BitVec.ofNat 32 (s.chuckAt e c).sbits, s)
  | .sysCell n => (BitVec.ofNat 32 (cellWord (if n = 1 then (s.chuck e).pcc else s.ecell e n) w), s)
  | .sys n =>
    let v := s.dbgSys e n
    (BitVec.ofNat 32 (v.1.toNat >>> (32 * w)), v.2)

/-- A write of a word of a cell (R563): none where it is denied. -/
def cellPut (c : Cell) (w : Nat) (v : Word) : Option Cell :=
  if w < 4 then some { bits := setBits c.bits (32 * w + 31) (32 * w) v.toNat, kind := .raw }
  else if v = 0 then some { c with kind := .raw } else if v = 1 then some { c with kind := .int }
  else if v = 4 then some { c with kind := .poison } else none

/-- The four S bits of each accumulator set from 16 bits. -/
def Chuck.setSbits (c : Chuck) (v : Word) : Chuck :=
  (List.range 4).foldl (fun (d : Chuck) a => d.setAcc a { d.acc a with s := BitVec.ofNat 4 (bits v (4 * a + 3) (4 * a)) }) c

/-- A write of a word of a 64-bit system register: its writable fields, no reserved value. -/
def State.dbgPutSys (s : State) (e n w : Nat) (v : Word) : State :=
  let old := if n < 0x30 then (s.chuck e).sysr n else s.esys e n
  let nv := setBits old (32 * w + 31) (32 * w) v.toNat
  if n = 0 then s.updChuck e (fun c => c.setSysr 0 (tstatWrite old nv false))
  else if n < 0x30 then s.updChuck e (fun c => c.setSysr n (ssrValue n old nv).1)
  else s.setEsys e n (ssrValue n old nv).1

/-- Writes a word of a register of an engine; none where it is denied. Writes to RO registers and c0 are ignored. -/
def State.dbgPut (s : State) (e : Nat) (r : DbgReg) (w : Nat) (v : Word) : Option State :=
  match r with
  | .cell c n => if n = 0 then some s else (cellPut ((s.chuckAt e c).reg n) w v).map (fun d => s.updChuckAt e c (fun k => k.setReg n d))
  | .pred c p => some (s.updChuckAt e c (fun k => k.setPred p (v.setWidth 16)))
  | .acc c a => some (s.updChuckAt e c (fun k => k.setAcc a ((k.acc a).setLane (w / 2)
      (setBits ((k.acc a).lane (w / 2)) (32 * (w % 2) + 31) (32 * (w % 2)) v.toNat))))
  | .sbits c => some (s.updChuckAt e c (fun k => k.setSbits v))
  | .sysCell n => if n = 1 then some s else (cellPut (s.ecell e n) w v).map (fun d => s.setEcell e n d)
  | .sys n => some (if sysRo.contains n then s else s.dbgPutSys e n w v)

/-- Is the selected engine halted or stopped (R563). -/
def State.dbgReady (s : State) : Bool := (s.engine s.dbgSel).dbg.halted || (s.engine s.dbgSel).stopped

/-- An engine-state read. -/
def State.stateRead (s : State) (a : BitVec 44) : Status × Word × State :=
  match dbgRegOf a with
  | none => (5, 0, s)
  | some (r, w) =>
    if !s.dbgReady then (3, 0, s)
    else
      let v := s.dbgGet s.dbgSel r w
      (0, v.1, v.2)

/-- An engine-state write: to both twins of a halted coupled pair; DENIED with event 1921 where it would give a kind that no debug write
gives. -/
def State.stateWrite (s : State) (a : BitVec 44) (v : Word) : Status × State :=
  match dbgRegOf a with
  | none => (5, s)
  | some (r, w) =>
    if !s.dbgReady then (3, s)
    else
      let e := s.dbgSel
      match s.dbgPut e r w v with
      | none => (1, s.raise 1921)
      | some t =>
        if s.coupled e && !(s.engine e).stopped then
          (match t.dbgPut (twinOf e) r w v with
           | none => (1, s.raise 1921)
           | some u => (0, u))
        else (0, t)

/-! ## DBGACC (R553, R554, Tables 16-3, 16-4) -/

/-- The result of a command: STATUS, ADDRESS and DATA as the next capture shows them. A write leaves DATA of the previous read. -/
def State.dbgResult (s : State) (st : Status) (a : BitVec 44) (d : Option Word) : State :=
  s.updJtag (fun j =>
    let data := d.getD j.data
    { j with ir := 0x10, status := st, addr := a.toNat, data := data, busy := none
             dr := BitVec.ofNat 80 (st % 16 * 2 ^ 76 + a.toNat * 2 ^ 32 + data.toNat) })

/-- Performs a command. -/
def State.dbgPerform (s : State) (c : DbgCmd) : State :=
  match c with
  | .busRead n =>
    let a := BitVec.ofNat 44 n
    if !s.busScope n false then s.dbgResult 4 a none
    else
      let r := s.busRead n
      r.2.2.dbgResult r.1 a (some r.2.1)
  | .busWrite n w =>
    let a := BitVec.ofNat 44 n
    if !s.busScope n true then s.dbgResult 4 a none
    else
      let r := s.busWrite n w
      r.2.dbgResult r.1 a none
  | .kind n =>
    let a := BitVec.ofNat 44 n
    if !s.inScope 1 then s.dbgResult 4 a none
    else
      let r := s.kindRead n
      r.2.2.dbgResult r.1 a (some r.2.1)
  | .stateRead n =>
    let a := BitVec.ofNat 44 n
    if !s.inScope 5 then s.dbgResult 4 a none
    else
      let r := s.stateRead a
      r.2.2.dbgResult r.1 a (some r.2.1)
  | .stateWrite n w =>
    let a := BitVec.ofNat 44 n
    if !s.inScope 6 then s.dbgResult 4 a none
    else
      let r := s.stateWrite a w
      r.2.dbgResult r.1 a none

/-- A DBGACC command at Update-DR: a command that still runs at the next capture, which time decides and so a free value, is captured
BUSY and completes in the background; one in progress already is left to complete. -/
def State.dbgacc (s : State) (c : DbgCmd) (a : BitVec 44) : State :=
  if s.jtag.busy.isSome then s
  else
    let t := { s with freeCtr := s.freeCtr + 1 }
    if bit (Config.unstated s.freeCtr) 0 then (t.dbgResult 3 a none).updJtag (fun j => { j with busy := some c })
    else t.dbgPerform c

/-- BUS_READ (R556, R557). -/
def execBusRead (a : BitVec 44) (s : State) : Host.Outcome State Fault Refusal := .next (s.dbgacc (.busRead a.toNat) a)
/-- BUS_WRITE (R557, R558). -/
def execBusWrite (a : BitVec 44) (data : Word) (s : State) : Host.Outcome State Fault Refusal := .next (s.dbgacc (.busWrite a.toNat data) a)
/-- CELL_KIND_READ (R556). -/
def execCellKindRead (a : BitVec 44) (s : State) : Host.Outcome State Fault Refusal := .next (s.dbgacc (.kind a.toNat) a)
/-- ENGINE_STATE_READ (R563). -/
def execEngineStateRead (a : BitVec 44) (s : State) : Host.Outcome State Fault Refusal := .next (s.dbgacc (.stateRead a.toNat) a)
/-- ENGINE_STATE_WRITE (R563). -/
def execEngineStateWrite (a : BitVec 44) (data : Word) (s : State) : Host.Outcome State Fault Refusal :=
  .next (s.dbgacc (.stateWrite a.toNat data) a)

/-- DBGACC_COMPLETE (R553, R554). -/
def execDbgaccComplete (s : State) : Host.Outcome State Fault Refusal :=
  match s.jtag.busy with
  | none => .next s
  | some c => .next (s.dbgPerform c)

end Sys2Proof.Machine
end

