-- ==== Sys2Proof/Machine/Firmware.lean ====
section
/-!
DEFINITION. Machine/Firmware.lean: how firmware serves a mailbox request (14_cretal_mailboxes, R502 to R508), what a command may use of
the device, and the commands of groups 0x00xx, 0x03xx and 0x06xx.
-/

namespace Sys2Proof.Machine

open Sys2Proof

/-! ## Requests and responses (R505, R506) -/

/-- A request as firmware reads it from its copy (R502, Table 14-6), with the authority it is served under (R508): `all` for domain
0x00, `dom` the domain of the ringing engine otherwise. -/
structure Req where
  chan : Nat
  cmd : Nat
  len : Nat
  seq : Nat
  crc : Nat
  head : List Byte
  pay : List Byte
  all : Bool
  dom : Domain
  paired : Bool

/-- How the service of a request ends other than with OK: an answer, a wait for a unit that is busy, or the background (R507). -/
inductive FwStop where
  | ans (st : Nat) (payload : List Byte)
  | wait
  | bg

/-- The service of a request. -/
abbrev FM := EStateM FwStop State

/-- A domain that owns nothing: a request whose engine the record assigns to no domain, or that no engine rang. -/
def noDomain : Domain :=
  { id := 256, engines := [], chans := [], drop := 0, quota := 0, trustk := false, heartbeat := false, safety := false, image := false
    cal := false, sysmgr := false, soft := [] }

/-- `n` bytes of the payload from `o`, little-endian. -/
def Req.num (q : Req) (o n : Nat) : Nat := ofBytes ((q.pay.drop o).take n)
/-- A byte of the payload. -/
def Req.byte (q : Req) (o : Nat) : Nat := q.num o 1
/-- Does the domain carry a flag of Table 14-9. -/
def Req.flag (q : Req) (f : Domain → Bool) : Bool := q.all || f q.dom
/-- Does the domain own an engine (R508). -/
def Req.ownsEngine (q : Req) (e : Nat) : Bool := q.all || q.dom.engines.contains e
/-- Does the domain own a tile: all of its engines (R508). -/
def Req.ownsTile (q : Req) (t : Nat) : Bool := (List.range 32).all (fun n => q.ownsEngine (32 * t + n))
/-- Does the domain own a port (R508, Table 14-8). -/
def State.ownsPort (s : State) (q : Req) (p : Nat) : Bool :=
  q.all || (match s.inst with
    | none => false
    | some r => r.ports.any (fun x => x.port == p && x.owner == q.dom.id))
/-- Does the domain own a lineage: its OWNER (R508). -/
def State.ownsLin (s : State) (q : Req) (i : Nat) : Bool := q.all || entOwner (s.linEntry false i) == q.dom.id

/-- A message (Table 14-6): the header, its CRC over the header's first 12 bytes and the payload, the payload, and zeros. -/
def fwMsg (cmd seq st : Nat) (pay : List Byte) : List Byte :=
  let h := [3, 2] ++ toBytes 2 cmd ++ toBytes 2 pay.length ++ toBytes 2 seq ++ toBytes 2 st ++ [0, 0]
  let m := h ++ toBytes 4 (crc32 (h ++ pay)) ++ pay
  m ++ List.replicate (256 - m.length) 0

/-- The domain that the record assigns to an engine (R508). -/
def State.domainOf (s : State) (e : Nat) : Domain :=
  match s.inst with
  | none => noDomain
  | some r => (r.domains.find? (fun d => d.engines.contains e)).getD noDomain

/-- Reads a copied message of a channel. -/
def State.reqOf (s : State) (n : Nat) (m : List Byte) : Req :=
  let num := fun (o k : Nat) => ofBytes ((m.drop o).take k)
  let id := s.reg 5 (mbxBase n + 0x20C)
  let len := num 4 2
  { chan := n, cmd := num 2 2, len := len, seq := num 6 2, crc := num 12 4, head := m.take 12, pay := (m.drop 16).take (min len 240)
    all := decide ((8 ≤ n ∧ n ≤ 15) ∨ (24 ≤ n ∧ n ≤ 27))
    dom := if bit id 31 then s.domainOf (bits id 25 16) else noDomain
    paired := bit id 30 }

/-- Tables 14-12 and 14-13: code, From letters, least and greatest LEN. -/
def fwTable : List (Nat × Nat × Nat × Nat) :=
  [(0x0001, 15, 0, 0), (0x0002, 1, 4, 4), (0x0003, 15, 0, 0), (0x0004, 11, 2, 2),
   (0x0101, 9, 0, 0), (0x0102, 9, 8, 240), (0x0103, 9, 1, 1), (0x0104, 9, 1, 1), (0x0105, 8, 68, 68), (0x0106, 8, 36, 36),
   (0x0201, 1, 2, 2), (0x0202, 1, 136, 136), (0x0203, 1, 2, 2), (0x0204, 1, 2, 2), (0x0205, 1, 2, 2), (0x0206, 1, 2, 2),
   (0x0207, 1, 8, 8), (0x0208, 1, 6, 6)] ++
  [(0x0301, 1, 0, 0), (0x0302, 1, 32, 32), (0x0303, 1, 2, 2), (0x0304, 1, 2, 2), (0x0305, 1, 2, 2), (0x0306, 1, 2, 2),
   (0x0401, 1, 1, 1), (0x0402, 7, 1, 1), (0x0403, 1, 1, 1), (0x0404, 1, 16, 16), (0x0405, 1, 8, 8), (0x0406, 1, 0, 0), (0x0407, 1, 8, 8),
   (0x0501, 7, 0, 0), (0x0502, 1, 2, 2), (0x0503, 1, 4, 4)] ++
  [(0x0601, 15, 0, 0), (0x0602, 1, 0, 0), (0x0603, 9, 4, 4), (0x0604, 9, 0, 0), (0x0605, 1, 4, 4),
   (0x0701, 7, 0, 0), (0x0702, 1, 8, 8), (0x0703, 7, 0, 0), (0x0704, 1, 4, 228),
   (0x0801, 8, 1, 1), (0x0802, 8, 65, 65), (0x0803, 8, 0, 0)]

/-- The row of a command, where it is defined. -/
def fwRow (cmd : Nat) : Option (Nat × Nat × Nat × Nat) := fwTable.find? (fun r => r.1 == cmd)

/-- Checks 2 to 5 of R505: the status of the first that fails. -/
def Req.check (q : Req) : Option Nat :=
  let b := fun (i : Nat) => (q.head.getD i 0).toNat
  if b 0 ≠ 3 ∨ 2 < b 1 then some 2
  else if b 8 ≠ 0 ∨ b 9 ≠ 0 ∨ b 10 ≠ 0 ∨ b 11 ≠ 0 ∨ 240 < q.len then some 4
  else
    match fwRow q.cmd with
    | none => some 3
    | some r => if Nat.land r.2.1 (chanFrom q.chan) = 0 then some 3 else if q.len < r.2.2.1 ∨ r.2.2.2 < q.len then some 4 else none

/-- Firmware writes a response and DONE; Cretal's MPU checks these accesses too (R337, R493). -/
def State.respond (s : State) (n : Nat) (m : List Byte) : State :=
  s.admits .cretal 5 (mbxBase n + 0x208) (fun t => (t.mbxFill n 0x100 m).mbxDone n)

/-- Writes the answer of a request, keeps it (R506) unless it is BAD_CRC, and writes DONE. A payload goes only with OK, HW_RESULT and
MEM_ERROR. -/
def State.answer (s : State) (q : Req) (st : Nat) (pay : List Byte) : State :=
  let m := fwMsg q.cmd q.seq st (if st = 0 ∨ st = 9 ∨ st = 14 then pay else [])
  let s1 := s.updFw (fun f => { f with
    req := Map.del f.req q.chan, bg := Map.del f.bg q.chan
    kept := if st = 1 then f.kept else Map.put { seq := q.seq, crc := q.crc, resp := m } f.kept q.chan })
  s1.respond q.chan m

/-- The kept response of a channel, where the request repeats the one it answered (R506). -/
def State.repeated (s : State) (q : Req) : Option (List Byte) :=
  match s.fw.kept.find? (fun p => p.1 == q.chan) with
  | some (_, k) => if k.seq = q.seq ∧ k.crc = q.crc then some k.resp else none
  | none => none

/-- The request of a channel that firmware may serve now: copied, the channel SERVING, no command of it in the background, firmware
running; without a booted image only channels 24 to 27 are served (R517). -/
def State.serving (s : State) (n : Nat) : Option Req :=
  match s.fw.req.find? (fun p => p.1 == n) with
  | none => none
  | some (_, m) =>
    if s.cretalReset || s.mbxState n != 2 || s.fw.bg.any (fun p => p.1 == n) || (s.inst.isNone && chanFrom n != 8) then none
    else some (s.reqOf n m)

/-- The service of a request: checks 1 to 5 of R505 and the repeat test of R506 in their order, then the command's own checks and effect. -/
def State.serveReq (s : State) (n : Nat) (q : Req) (body : Req → FM (List Byte)) : State :=
  if crc32 (q.head ++ q.pay) ≠ q.crc then s.answer q 1 []
  else
    match s.repeated q with
    | some m => (s.updFw (fun f => { f with req := Map.del f.req n })).respond n m
    | none =>
      match q.check with
      | some st => s.answer q st []
      | none =>
        match (body q).run s with
        | .ok p t => t.answer q 0 p
        | .error (.ans st p) t => t.answer q st p
        | .error .bg t => t
        | .error .wait _ => s

/-- The service of a channel's request by one command. A request of another defined command is left for that command; one of no defined command is
answered by any. -/
def State.serve (s : State) (n code : Nat) (body : Req → FM (List Byte)) : State :=
  match s.serving n with
  | none => s
  | some q => if q.cmd ≠ code ∧ (fwRow q.cmd).isSome then s else s.cretalRun (fun s => s.serveReq n q body)

/-! ## What commands use -/

/-- Ends with a status. -/
def fail {α : Type} (st : Nat) : FM α := throw (.ans st [])
/-- Ends with a status unless the condition holds. -/
def need (c : Bool) (st : Nat) : FM Unit := if c then pure () else fail st
/-- The next word of the values the spec leaves open. -/
def freeWord : FM Word := do
  let s ← get
  set { s with freeCtr := s.freeCtr + 1 }
  pure (Config.unstated s.freeCtr)

/-- Ends with a STATUS that the spec does not state. -/
def failFree {α : Type} : FM α := do
  let w ← freeWord
  throw (.ans (w.toNat % 15) [])

/-- An access of firmware to a register, which Cretal's MPU checks (R337, R492, R493). -/
def fwReach (b o : Nat) (acc : Access) : FM Unit := do
  let s ← get
  if !s.lets .cretal b o acc then
    set (s.turned .cretal b o acc)
    failFree

/-- A register write by firmware. -/
def fwWrite (b o : Nat) (w : Word) : FM Unit := do
  fwReach b o .write
  modify (fun s => s.regWrite .cretal b o w)
/-- A register read by firmware: RC fields clear (R10). -/
def fwRead (b o : Nat) : FM Word := do
  fwReach b o .read
  let r := (← get).regRead .cretal b o
  set r.2
  pure r.1
/-- Registers read one after another, four bytes each. -/
def fwReads (l : List (Nat × Nat)) : FM (List Byte) :=
  l.foldlM (fun acc p => do
    let w ← fwRead p.1 p.2
    pure (acc ++ toBytes 4 w.toNat)) []
/-- Puts the request of a channel in the background (R507). -/
def goBg {α : Type} (q : Req) (val aux : Nat) : FM α := do
  modify (fun s => s.updFw (fun f => { f with bg := Map.put { cmd := q.cmd, val := val, aux := aux } f.bg q.chan }))
  throw .bg

/-- A draw of the TRNG (R497): NO_RESOURCE while its health tests fail. -/
def draw128 : FM Quad := do
  let s ← get
  set { s with freeCtr := s.freeCtr + 1 }
  if Config.trngFailed s.freeCtr then fail 8
  pure (Config.trng s.freeCtr)

/-- One access of firmware to a cell of memory (R491 to R493). The spec states no STATUS for a command whose access is refused or meets
no memory: it is a free value. -/
def fwAccess (pa : Nat) (acc : Access) : FM Unit := do
  let r := (← get).mpuCheck .cretal pa acc true false (plainMt pa) 3 0
  if r.1 ≠ 0 then
    set r.2.cretalRefused
    failFree
  else if !(← get).isMemory pa then failFree

/-- Reads by firmware of `n` bytes of a window, line by line: Cretal's MPU checks each (R337, R492, R493). -/
def fwLook (pa n : Nat) : FM Unit :=
  (List.range ((pa % 64 + n + 63) / 64)).forM (fun i => do
    let r := (← get).mpuCheck .cretal (pa / 64 * 64 + 64 * i) .read true false (plainMt pa) 3 0
    if r.1 ≠ 0 then
      set r.2.cretalRefused
      failFree)

/-- Firmware reads the entry of a lineage through the window of channel A (Table 01-6). -/
def fwEntry (i : Nat) : FM Unit := fwLook (0x40000000 + 4 * i) 4

/-- Firmware reads the entries that specifications name (R509). -/
def fwEntries (l : List CapSpec) : FM Unit := l.forM (fun sp => if sp.lin = 0 then pure () else fwEntry sp.lin)

/-- A store of a whole cell by firmware, which leaves it RAW (R61). -/
def fwCell (pa : Nat) (v : Quad) : FM Unit := do
  fwAccess pa .write
  modify (fun s => s.writeCell pa { bits := v, tag := 0 })

/-- A load of a cell by firmware; an uncorrectable one ends the command with MEM_ERROR (R494). -/
def fwLoad (pa : Nat) : FM Quad := do
  fwAccess pa .read
  let r := (← get).readCell pa pa 8 0
  set r.2
  match r.1 with
  | some c => pure c.bits
  | none => throw (.ans 14 (toBytes 8 pa))

/-- Does a command in the background wait for the LIN block. -/
def State.linBg (s : State) : Bool :=
  s.fw.bg.any (fun p => [0x0202, 0x0201, 0x0301, 0x0302, 0x0303, 0x0304, 0x0305].contains p.2.cmd)

/-- A command of the LIN block (Table 02-10): its RESULT, or the background while its broadcast lasts. -/
def fwLin (q : Req) (op i owner : Nat) : FM Nat := do
  let s ← get
  if s.lin.phase ≠ .idle || s.linBg then throw .wait
  fwReach 8 0x10 .write
  let t := (← get).linCmd .cretal op i owner
  if t.lin.phase = .done then
    set t.linComplete
    pure t.lin.result
  else
    set t
    goBg q i op

/-- MINT of a capability at a physical address (R98, R509). -/
def fwMint (q : Req) (c : Cell) (pa : Nat) : FM Unit := do
  fwWrite 8 0x30 (BitVec.ofNat 32 (pa % 2 ^ 32))
  fwWrite 8 0x34 (BitVec.ofNat 32 (pa >>> 32))
  (List.range 4).forM (fun i => fwWrite 8 (0x40 + 4 * i) (BitVec.ofNat 32 (c.bits.toNat >>> (32 * i))))
  fwWrite 8 0x50 2
  let r ← fwLin q 5 (capLin c) 0
  if r ≠ 0 then throw (.ans 9 [8, BitVec.ofNat 8 r])

/-- A command of an engine's scheduler (Table 06-9): HW_RESULT with the TILE block and RESULT where that is not OK. -/
def fwSched (e op n : Nat) : FM Unit := do
  let s ← get
  let b := tileBlk (tileOf e)
  if s.fld b (0x204 + 8 * (e % 32)) 0 0 = 1 then throw .wait
  fwReach b (0x200 + 8 * (e % 32)) .write
  let t := (← get).schedCmd .cretal e op n 0 0
  let r := (t.engine e).cmd.getD 0
  set (t.schedDone e r)
  if r ≠ 0 then throw (.ans 9 [BitVec.ofNat 8 b, BitVec.ofNat 8 r])

/-- A POISON fill that firmware makes by unit `k` of the SCRB block and waits for (R380): a fill in progress completes first. -/
def State.cretalFill (s : State) (k lo n : Nat) : State :=
  let o := 0x20 + 16 * k
  let wait := fun (t : State) => if t.fld 9 (o + 12) 1 1 = 1 then (t.setFld 9 (o + 12) 1 1 0).raise (1615 + k) else t
  let t := (((wait s).cretalWrite 9 o (BitVec.ofNat 32 lo)).cretalWrite 9 (o + 4) (BitVec.ofNat 32 (lo >>> 32))).cretalWrite 9 (o + 8)
    (BitVec.ofNat 32 ((lo % 64 + n + 63) / 64))
  wait (t.cretalWrite 9 (o + 12) 1)

/-- The ranges of cluster memory and usable DRAM (R39, R40, R548): one for each channel's clusters, or one for each cluster where some of
it is DRAM cache; and the usable part of each trained DRAM. -/
def State.fillRanges (s : State) : List (Nat × Nat) :=
  let ch := fun (c0 : Nat) =>
    if (List.range 64).all (fun c => s.cacheOf (c0 + c) == 0) then [(c0 * 0x80000, 0x2000000)]
    else (List.range 64).map (fun c => ((c0 + c) * 0x80000, 0x80000 - s.cacheOf (c0 + c)))
  let dram := fun (chB : Bool) =>
    let lo := if chB then 0x10200000000 else 0x10000000000
    if s.dramOk chB 0 then [(lo, s.fld (memBlk chB) 0x10 11 8 * 0x30000000)] else []
  ch 0 ++ ch 64 ++ dram false ++ dram true

/-- Firmware fills all cluster memory and usable DRAM with POISON by the two fill units, and waits for both (R519, R548). -/
def State.poisonAll (s : State) : State :=
  (s.fillRanges.zip (List.range s.fillRanges.length)).foldl (fun t r => t.cretalFill (r.2 % 2) r.1.1 r.1.2) s

/-- Before the first grant over a resource since the LIN block's reset, firmware fills its range with POISON, unless start-up has (R87). -/
def fwFill (r : Resource) : FM Unit := modify (fun s =>
  if s.lin.filled || s.lin.fills.contains r.num then s
  else
    let t := s.cretalFill 0 r.base r.size
    let u := match (if r.mirror then twinLoc r.base else none) with
      | some tw => t.cretalFill 1 tw r.size
      | none => t
    { u with lin := { u.lin with fills := r.num :: u.lin.fills } })

/-- A request for a device mode (R419): did the mode change. -/
def fwMode (m : Mode) : FM Bool := do
  let old := (← get).mode
  fwWrite 6 0x10 (BitVec.ofNat 32 (0x5AFE0000 + m.code * 256))
  pure ((← get).mode == m && old != m)

/-! ## Capability specifications (R509) -/

/-- A specification in a payload (Table 14-10). -/
def Req.spec (q : Req) (o : Nat) : CapSpec :=
  { res := q.num o 2, lin := q.num (o + 2) 2, perm := q.num (o + 4) 2, drop := q.num (o + 6) 2, ofs := q.num (o + 8) 8
    size := q.num (o + 16) 8, cur := q.num (o + 24) 8 }

/-- Does a resource belong to a domain (R508). -/
def resBelongs (r : Resource) (all : Bool) (dom : Nat) : Bool := all || r.domains.contains dom

/-- The capability of a specification over a resource (R509), for a lineage's entry; BAD_PARAM where it cannot be encoded. -/
def specCell (r : Resource) (sp : CapSpec) (gen : Nat) : Option Cell :=
  let len := if sp.size = 0 then r.size - sp.ofs else sp.size
  let base := r.vbase + sp.ofs
  if r.size < sp.ofs ∨ r.size < sp.ofs + len then none
  else
    match capEncode base len with
    | none => none
    | some (e, b, l) =>
      let c : Cell := { bits := capImage 0 gen sp.lin sp.perm l b e base, kind := .cap }
      if base + sp.cur < 2 ^ 56 ∧ inWindow c (base + sp.cur) then some (withCursor c (base + sp.cur)) else none

/-- R509: the capability and its resource, or the status, the first of checks 6, 7 and 8 that fails. -/
def State.buildSpec (s : State) (all : Bool) (dom : Nat) (start : Bool) (sp : CapSpec) : Except Nat (Cell × Resource) :=
  let ent := s.linEntry false sp.lin
  if 1023 < sp.res ∨ 1024 ≤ sp.perm ∨ (sp.lin = 0 ∧ ¬start) then .error 5
  else
    match s.inst.bind (fun i => i.resources.find? (fun r => r.num == sp.res)) with
    | none => .error 6
    | some r =>
      match specCell r sp (entGen ent) with
      | none => .error 5
      | some c =>
        if !resBelongs r all dom ∨ Nat.land sp.perm r.perm ≠ sp.perm ∨ (sp.lin ≠ 0 ∧ ¬all ∧ entOwner ent ≠ dom) then .error 6
        else if entState ent ≠ 1 then .error 7
        else .ok (c, r)

/-- The status of a specification's build, 15 where it succeeds. -/
def specStatus (r : Except Nat (Cell × Resource)) : Nat :=
  match r with
  | .error st => st
  | .ok _ => 15

/-- The capability and resource of a specification, or its status. -/
def fwSpec (r : Except Nat (Cell × Resource)) : FM (Cell × Resource) :=
  match r with
  | .error st => fail st
  | .ok v => pure v

/-- Does a domain own paired engines (R510). -/
def State.domainPaired (s : State) (d : Domain) : Bool :=
  match s.inst with
  | none => false
  | some r => r.engines.any (fun x => x.paired && d.engines.contains x.id)

/-! ## Group 0x00xx -/

/-- The body of GET_INFO (Table 14-12). -/
def fwGetInfo (_q : Req) : FM (List Byte) := do
  let id ← fwRead 0 0
  let ts ← fwRead 0x0C 0x1C
  let s ← get
  pure (toBytes 2 (bits id 31 16) ++ [0xA2, 3, 2, BitVec.ofNat 8 s.otp.life, BitVec.ofNat 8 s.mode.code, BitVec.ofNat 8 (bits ts 20 16)] ++
    toBytes 4 Config.fwBuild.toNat)

/-- GET_INFO (R505). -/
def execGetInfo (n : BitVec 5) (s : State) : Host.Outcome State Fault Refusal := .next (s.serve n.toNat 0x0001 fwGetInfo)

/-- The body of HEARTBEAT (R514). -/
def fwHeartbeat (q : Req) : FM (List Byte) := do
  let s ← get
  let c := q.num 0 4
  need (q.paired && q.flag Domain.heartbeat && (s.mode == .start || s.mode == .run)) 6
  need (match s.fw.hb with
    | none => true
    | some h => c == (h + 1) % 2 ^ 32) 7
  modify (fun s => s.updFw (fun f => { f with hb := some c }))
  fwWrite 6 0x20 0x5AFE0000
  pure (toBytes 4 c)

/-- HEARTBEAT (R514). -/
def execHeartbeat (n : BitVec 5) (s : State) : Host.Outcome State Fault Refusal := .next (s.serve n.toNat 0x0002 fwHeartbeat)

/-- GET_HEALTH (R505): SAFE_CAUSE, SAFE_MON, CAL_STAT, CAL_DINFO, SCRB_STAT. -/
def execGetHealth (n : BitVec 5) (s : State) : Host.Outcome State Fault Refusal :=
  .next (s.serve n.toNat 0x0003 (fun _ => fwReads [(6, 0x14), (6, 0x2C), (7, 0x14), (7, 0x18), (9, 0x14)]))

/-- An entry as READ_LOG reports it. -/
def LogEntry.bytes (l : LogEntry) : List Byte := toBytes 8 l.time.toNat ++ toBytes 2 l.id ++ toBytes 2 l.unit ++ toBytes 4 l.data.toNat

/-- The body of READ_LOG (Table 14-12). -/
def fwReadLog (q : Req) : FM (List Byte) := do
  let first := q.num 0 2
  let l := ((← get).fw.log.drop first).take 14
  pure (toBytes 2 (first + l.length) ++ toBytes 1 l.length ++ List.replicate 13 0 ++ l.flatMap LogEntry.bytes)

/-- READ_LOG (R505). -/
def execReadLog (n : BitVec 5) (s : State) : Host.Outcome State Fault Refusal := .next (s.serve n.toNat 0x0004 fwReadLog)

/-! ## Group 0x03xx (R84, R85, R509, R510) -/

/-- The lowest FREE index of 1 to 65535, the table read from `i` on for `n` entries. -/
def State.freeLin (s : State) (i : Nat) : Nat → Option Nat
  | 0 => none
  | n + 1 => if entState (s.linEntry false i) = 0 then some i else s.freeLin (i + 1) n

/-- The lineages a domain owns that are not FREE. -/
def State.linOwned (s : State) (d : Nat) : Nat := (s.linA.filter (fun p => p.1 != 0 && entState p.2 != 0 && entOwner p.2 == d)).length

/-- The body of LIN_ALLOC (Table 14-13). -/
def fwLinAlloc (q : Req) : FM (List Byte) := do
  let s ← get
  need (q.dom.id < 256) 6
  need (s.linOwned q.dom.id < q.dom.quota) 8
  match s.freeLin 1 65535 with
  | none =>
    fwLook 0x40000000 0x40000
    fail 8
  | some i =>
    fwLook 0x40000000 (4 * i + 4)
    let r ← fwLin q 1 i q.dom.id
    if r ≠ 0 then throw (.ans 9 [8, BitVec.ofNat 8 r])
    pure (toBytes 2 i)

/-- LIN_ALLOC (R505). -/
def execLinAlloc (n : BitVec 5) (s : State) : Host.Outcome State Fault Refusal := .next (s.serve n.toNat 0x0301 fwLinAlloc)

/-- The body of GRANT (R509, R510, R85). -/
def fwGrant (q : Req) : FM (List Byte) := do
  let s ← get
  let sp := q.spec 0
  need (sp.drop < 64) 5
  fwEntries [sp]
  let r ← fwSpec (s.buildSpec q.all q.dom.id false sp)
  fwFill r.2
  let pa := q.dom.drop + 16 * sp.drop
  fwMint q r.1 pa
  if r.2.mirror || s.domainPaired q.dom then
    match twinLoc pa with
    | some t => fwMint q r.1 t
    | none => pure ()
  pure (toBytes 2 sp.lin ++ [BitVec.ofNat 8 (capGen r.1), 0])

/-- GRANT (R510). -/
def execGrant (n : BitVec 5) (s : State) : Host.Outcome State Fault Refusal := .next (s.serve n.toNat 0x0302 fwGrant)

/-- The body of LIN_REVOKE, LIN_RETIRE and LIN_SWEPT: the index in the state that the LIN command `op` needs; the command is started and
goes on in the background (Table 14-14). -/
def fwLinOp (op st : Nat) (q : Req) : FM (List Byte) := do
  let s ← get
  let i := q.num 0 2
  fwEntry i
  need (s.ownsLin q i) 6
  need (entState (s.linEntry false i) == st) 7
  if s.lin.phase ≠ .idle || s.linBg then throw .wait
  fwReach 8 0x10 .write
  modify (fun s => s.linCmd .cretal op i 0)
  goBg q i op

/-- LIN_REVOKE (R505). -/
def execLinRevoke (n : BitVec 5) (s : State) : Host.Outcome State Fault Refusal := .next (s.serve n.toNat 0x0303 (fwLinOp 2 1))
/-- LIN_RETIRE (R505). -/
def execLinRetire (n : BitVec 5) (s : State) : Host.Outcome State Fault Refusal := .next (s.serve n.toNat 0x0304 (fwLinOp 3 1))
/-- LIN_SWEPT (R109). -/
def execLinSwept (n : BitVec 5) (s : State) : Host.Outcome State Fault Refusal := .next (s.serve n.toNat 0x0305 (fwLinOp 4 2))

/-- The body of LIN_QUERY (Table 14-13). -/
def fwLinQuery (q : Req) : FM (List Byte) := do
  fwEntry (q.num 0 2)
  let s ← get
  need (s.ownsLin q (q.num 0 2)) 6
  pure (toBytes 4 (s.linEntry false (q.num 0 2)).toNat)

/-- LIN_QUERY (R505). -/
def execLinQuery (n : BitVec 5) (s : State) : Host.Outcome State Fault Refusal := .next (s.serve n.toNat 0x0306 fwLinQuery)

/-! ## Group 0x06xx (R419, R423) -/

/-- The body of MODE_GET (Table 14-13). -/
def fwModeGet (_q : Req) : FM (List Byte) := do
  let s ← get
  let c ← fwRead 6 0x14
  pure ([BitVec.ofNat 8 s.mode.code, BitVec.ofNat 8 (s.fld 6 0x30 0 0), 0, 0] ++ toBytes 4 c.toNat)

/-- MODE_GET (R505). -/
def execModeGet (n : BitVec 5) (s : State) : Host.Outcome State Fault Refusal := .next (s.serve n.toNat 0x0601 fwModeGet)

/-- The body of RUN_COMMIT (R419, Table 14-15). -/
def fwRunCommit (q : Req) : FM (List Byte) := do
  let s ← get
  need (q.paired && q.flag Domain.safety && (s.otp.life == 1 || s.otp.life == 2)) 6
  let ok ← fwMode .run
  need ok 7
  pure []

/-- RUN_COMMIT (R419). -/
def execRunCommit (n : BitVec 5) (s : State) : Host.Outcome State Fault Refusal := .next (s.serve n.toNat 0x0602 fwRunCommit)

/-- The body of SAFE_ENTER: the reason is kept in the log. -/
def fwSafeEnter (q : Req) : FM (List Byte) := do
  need (q.flag Domain.safety && (← get).mode != .safe) 6
  modify (fun s => s.fwLog 0 q.chan (BitVec.ofNat 32 (q.num 0 4)))
  let ok ← fwMode .safe
  need ok 7
  pure []

/-- SAFE_ENTER (R505). -/
def execSafeEnter (n : BitVec 5) (s : State) : Host.Outcome State Fault Refusal := .next (s.serve n.toNat 0x0603 fwSafeEnter)

/-- The body of RECOVER: SAFE to RECOVERY to TEST, where the start-up tests run (R549). -/
def fwRecover (q : Req) : FM (List Byte) := do
  need ((← get).mode == .safe) 6
  discard (fwMode .recovery)
  discard (fwMode .test)
  goBg q 0 0

/-- RECOVER (R419). -/
def execRecover (n : BitVec 5) (s : State) : Host.Outcome State Fault Refusal := .next (s.serve n.toNat 0x0604 fwRecover)

/-- The body of POLICY_RAISE (R421, R423): a value below a class's minimum is a reserved value. -/
def fwPolicyRaise (q : Req) : FM (List Byte) := do
  let s ← get
  let w := BitVec.ofNat 32 (q.num 0 4)
  let v := fun (c : Nat) => bits w (2 * c + 1) (2 * c)
  need (bits w 31 30 == 0 && (List.range 15).all (fun c => decide (polMin c ≤ v c ∧ v c < 3))) 5
  need (q.flag Domain.safety && !(List.range 15).any (fun c => s.polBad w c)) 6
  fwWrite 6 0x18 w
  pure []

/-- POLICY_RAISE (R423). -/
def execPolicyRaise (n : BitVec 5) (s : State) : Host.Outcome State Fault Refusal := .next (s.serve n.toNat 0x0605 fwPolicyRaise)

end Sys2Proof.Machine
end

