-- ==== Sys2Proof/Machine/FwTasks.lean ====
section
/-!
DEFINITION. Machine/FwTasks.lean: the firmware commands of group 0x02xx: engine start, tasks and event bindings (14_cretal_mailboxes,
R511 to R516).
-/

namespace Sys2Proof.Machine

open Sys2Proof

/-! ## ENGINE_START (R512, R513) -/

/-- The address of an item of the record for one of a pair: its twin location for the twin (R45, R512). -/
def forTwin (tw : Bool) (pa : Nat) : Nat := if tw then (twinLoc pa).getD pa else pa

/-- Step 1 of R512 for one engine: MPU regions, SCHED_ECFGn, SCHED_DTBn. -/
def fwEngineRegs (x : EngineRec) (e : Nat) (tw : Bool) : FM Unit := do
  let b := tileBlk (tileOf e)
  let n := e % 32
  ((x.regions.take 16).zip (List.range 16)).forM (fun p => do
    let lo := forTwin tw p.1.lo
    let hi := forTwin tw p.1.hi
    let o := 0x1000 + 0x100 * n + 16 * p.2
    fwWrite b o (BitVec.ofNat 32 (lo >>> 6))
    fwWrite b (o + 4) (BitVec.ofNat 32 (hi >>> 6))
    fwWrite b (o + 8) (BitVec.ofNat 32 ((hi >>> 38) % 64 * 0x10000 + (lo >>> 38) % 64))
    fwWrite b (o + 12) p.1.attr)
  fwWrite b (0x100 + 4 * n) (BitVec.ofNat 32 (x.paired.toNat * 2 + (!x.spillHw).toNat))
  fwWrite b (0x180 + 4 * n) (BitVec.ofNat 32 (forTwin tw x.dtb >>> 14))

/-- The RESTPC of the twin: the same capability over the twin location of the Rest code (R512). -/
def twinPc (c : Cell) : Option Cell :=
  let d := (twinLoc (capBase c)).getD (capBase c) - capBase c
  match capEncode (capBase c + d) (capTop c - capBase c) with
  | none => none
  | some (e, b, l) => some { bits := capImage (capOtype c) (capGen c) (capLin c) (capPerm c) l b e (capCursor c + d), kind := .cap }

/-- Step 2 of R512 for one engine: the start record of Table 14-11 in the 256 bytes below the descriptor table. -/
def fwStartRecord (q : Req) (x : EngineRec) (caps : List Cell) (tw : Bool) : FM Unit := do
  let a := forTwin tw x.dtb - 256
  let two := fun (lo hi : Dword) => (pairCell lo hi).bits
  fwCell (a + 0x60) (two x.vmode x.ttb1)
  fwCell (a + 0x70) (two x.tcr x.tlbage)
  (List.range 8).forM (fun i => fwCell (a + 0x80 + 16 * i) 0)
  (caps.zip (List.range 6)).forM (fun p => fwMint q p.1 (a + 16 * p.2))

/-- Step 3 of R512 for one engine: the release; true where it succeeds. -/
def fwRelease (e : Nat) : FM Bool := do
  let b := tileBlk (tileOf e)
  fwWrite b 0x308 (BitVec.ofNat 32 (2 ^ (e % 32)))
  pure (!((← get).engine e).held)

/-- A release that failed (Table 14-13): the engines of a pair, where one was released, are reset and stay held. -/
def fwReleaseFailed (e : Nat) (released : Option Nat) : FM Unit := do
  match released with
  | some a => fwWrite 3 (0x100 + 4 * tileOf a) (BitVec.ofNat 32 (2 ^ (a % 32)))
  | none => pure ()
  throw (.ans 9 [BitVec.ofNat 8 (tileBlk (tileOf e)), 1])

/-- The record's entry for an engine: a twin's is that of its channel A engine (R512). -/
def State.engineRec (s : State) (e : Nat) : Option EngineRec :=
  s.inst.bind (fun r =>
    match r.engines.find? (fun x => x.id == e % 512 && x.paired) with
    | some x => some x
    | none => r.engines.find? (fun x => x.id == e))

/-- The body of ENGINE_START (R512, R513). -/
def fwEngineStart (q : Req) : FM (List Byte) := do
  let s ← get
  let e := q.num 0 2
  need (decide (e < 1024)) 5
  need (q.ownsEngine e) 6
  match s.engineRec e with
  | none => fail 7
  | some x =>
    let l := if x.paired then [x.id, twinOf x.id] else [e]
    need (l.all (fun i => (s.engine i).held)) 7
    fwEntries [x.pcc, x.ksp, x.vbar, x.restpc, x.restsp, x.drop]
    let specs := [x.pcc, x.ksp, x.vbar, x.restpc, x.restsp, x.drop].map (s.buildSpec false x.domain true)
    need (specs.all (fun r => specStatus r == 15)) ((specs.map specStatus).foldl min 15)
    let caps := specs.filterMap (fun r => match r with
      | .ok v => some v.1
      | .error _ => none)
    specs.forM (fun r => match r with
      | .ok v => fwFill v.2
      | .error _ => pure ())
    l.forM (fun i => do
      let tw := i != x.id && x.paired
      fwEngineRegs x i tw
      if tw then
        match twinPc (caps.getD 3 Cell.null) with
        | none => fail 5
        | some c => fwStartRecord q x (caps.set 3 c) true
      else fwStartRecord q x caps false)
    match l with
    | [a, b] =>
      if !(← fwRelease a) then fwReleaseFailed a none
      if !(← fwRelease b) then fwReleaseFailed b (some a)
    | _ => if !(← fwRelease e) then fwReleaseFailed e none
    l.forM (fun i => fwWrite (tileBlk (tileOf i)) 0x300 (BitVec.ofNat 32 (2 ^ (i % 32))))
    pure []

/-- ENGINE_START (R512). -/
def execEngineStart (n : BitVec 5) (s : State) : Host.Outcome State Fault Refusal := .next (s.serve n.toNat 0x0201 fwEngineStart)

/-! ## TASK_CREATE (R516, R235, R236) -/

/-- R236 on a save-area capability. -/
def saveOk (c : Cell) : Bool :=
  capHas c .ld && capHas c .st && capHas c .ldc && capHas c .stc && capHas c .stl && capCursor c % 64 == 0 &&
  decide (2 ^ 55 ≤ capCursor c ∧ capBase c ≤ capCursor c ∧ capCursor c + 1024 ≤ capTop c)

/-- Check 6 on the fields of Table 14-16 and the three specifications. -/
def taskFieldsOk (q : Req) (entry save : Except Nat (Cell × Resource)) : Bool :=
  let ctrl := BitVec.ofNat 8 (q.byte 3)
  let ttb := BitVec.ofNat 64 (q.num 8 8)
  decide (q.num 0 2 < 1024 ∧ q.byte 2 < 64 ∧ q.num 0x10 2 < 4096 ∧ q.byte 0x12 < 2 ∧ q.byte 0x13 < 2 ∧ q.num 0x14 4 = 0) &&
  bits ttb 63 44 == 0 && bits ttb 11 0 == 0 && !(bit ctrl 6 && inB (q.num 0 2)) &&
  decide ((q.spec 0x18).drop = 0 ∧ (q.spec 0x38).drop = 0 ∧ (q.spec 0x58).drop = 0) &&
  (match entry with
   | .ok v => capHas v.1 .ex
   | .error _ => true) &&
  (match save with
   | .ok v => saveOk v.1
   | .error _ => true)

/-- The words of a new descriptor but for SAVE (Tables 06-3, 06-4). -/
def descWords (q : Req) (salt : Nat) : List Quad :=
  let ctrl := q.num 4 2 * 2 ^ 16 + q.dom.id % 256 * 256 + q.byte 3
  let two := fun (lo hi : Nat) => BitVec.ofNat 128 (lo + hi * 2 ^ 64)
  [two ctrl (q.num 6 2), two salt (q.num 8 8), two (q.num 0x10 2) (q.byte 0x12)] ++ List.replicate 12 0

/-- The cells of a new save area but for c31 and PCC (R235, R194): the argument in c1, TSTAT, zeros. -/
def saveWords (q : Req) : List (Nat × Quad) :=
  let cls := q.byte 3 / 16 % 2
  (0, if q.byte 0x13 = 1 then BitVec.ofNat 128 (q.num 0x78 16) else 0) :: (32, BitVec.ofNat 128 (0x20300 + cls * 0x10000)) ::
  ((List.range 64).filter (fun i => i != 0 && i != 30 && i != 31 && i != 32)).map (fun i => (i, 0))

/-- Writes the descriptor and the save area of a task on one engine (steps 2 and 3 of R516). -/
def fwTaskMemory (q : Req) (e n salt save : Nat) (entry stack area : Cell) : FM Unit := do
  let d := (← get).descAddr e n
  ((descWords q salt).zip (List.range 15)).forM (fun p => fwCell (d + 16 + 16 * p.2) p.1)
  (saveWords q).forM (fun p => fwCell (save + 16 * p.1) p.2)
  fwMint q entry (save + 16 * 31)
  fwMint q stack (save + 16 * 30)
  fwMint q area d

/-- The body of TASK_CREATE (R516). -/
def fwTaskCreate (q : Req) : FM (List Byte) := do
  let s ← get
  let e := q.num 0 2
  let n := q.byte 2
  let build := fun (o : Nat) => s.buildSpec q.all q.dom.id false (q.spec o)
  let specs := [build 0x18, build 0x38, build 0x58]
  let st := (specs.map specStatus).foldl min 15
  need (taskFieldsOk q (build 0x18) (build 0x58) && st != 5) 5
  let l := if q.byte 3 / 64 % 2 = 1 then [e, twinOf e] else [e]
  fwEntries [q.spec 0x18, q.spec 0x38, q.spec 0x58]
  need (l.all q.ownsEngine && (q.byte 0x12 == 0 || q.flag Domain.trustk) && st != 6) 6
  need (l.all (fun i => s.slotFree i n) && st != 7) 7
  let entry ← fwSpec (build 0x18)
  let stack ← fwSpec (build 0x38)
  let area ← fwSpec (build 0x58)
  let r ← draw128
  fwFill entry.2
  fwFill stack.2
  fwFill area.2
  let pa := area.2.base + (capCursor area.1 - area.2.vbase)
  l.forM (fun i => fwTaskMemory q i n (r.toNat % 2 ^ 60) (forTwin (i != e) pa) entry.1 stack.1 area.1)
  l.forM (fun i => fwSched i 1 n)
  pure (toBytes 2 (64 * e + n))

/-- TASK_CREATE (R516). -/
def execTaskCreate (n : BitVec 5) (s : State) : Host.Outcome State Fault Refusal := .next (s.serve n.toNat 0x0202 fwTaskCreate)

/-! ## The other task commands (R264) -/

/-- The engines a command on a global task id acts on: both twins for a paired task (R264). -/
def State.taskEngines (s : State) (gid : Nat) : List Nat :=
  let e := gid / 64
  if (Map.get Slot.free (s.engine e).slots (gid % 64)).paired then [e % 512, e % 512 + 512] else [e]

/-- The body of a task command that is a scheduler command. -/
def fwTaskOp (op : Nat) (q : Req) : FM (List Byte) := do
  let gid := q.num 0 2
  need (q.ownsEngine (gid / 64)) 6
  ((← get).taskEngines gid).forM (fun e => fwSched e op (gid % 64))
  pure []

/-- TASK_SUSPEND (R264). -/
def execTaskSuspend (n : BitVec 5) (s : State) : Host.Outcome State Fault Refusal := .next (s.serve n.toNat 0x0203 (fwTaskOp 3))
/-- TASK_RESUME (R264). -/
def execTaskResume (n : BitVec 5) (s : State) : Host.Outcome State Fault Refusal := .next (s.serve n.toNat 0x0204 (fwTaskOp 4))
/-- TASK_UNBIND (R228). -/
def execTaskUnbind (n : BitVec 5) (s : State) : Host.Outcome State Fault Refusal := .next (s.serve n.toNat 0x0205 (fwTaskOp 2))

/-- The body of TASK_QUERY (Table 14-13): state, residency and PEND as QUERY reports them, which acts on both twins of a paired task (R264). -/
def fwTaskQuery (q : Req) : FM (List Byte) := do
  let e := q.num 0 2 / 64
  need (q.ownsEngine e) 6
  ((← get).taskEngines (q.num 0 2)).forM (fun i => fwSched i 7 (q.num 0 2 % 64))
  let w ← fwRead (tileBlk (tileOf e)) (0x204 + 8 * (e % 32))
  pure ([BitVec.ofNat 8 (bits w 11 9), BitVec.ofNat 8 (bits w 15 15)] ++ toBytes 2 (bits w 31 16))

/-- TASK_QUERY (R505). -/
def execTaskQuery (n : BitVec 5) (s : State) : Host.Outcome State Fault Refusal := .next (s.serve n.toNat 0x0206 fwTaskQuery)

/-- The body of TASK_RELOAD (R232): PRIO, EMASK and SLICE written into the descriptor, then RELOAD. -/
def fwTaskReload (q : Req) : FM (List Byte) := do
  let gid := q.num 0 2
  need (decide (q.byte 2 < 16 ∧ q.byte 3 = 0)) 5
  need (q.ownsEngine (gid / 64)) 6
  let l := (← get).taskEngines gid
  need (!(← get).slotFree (gid / 64) (gid % 64)) 7
  l.forM (fun e => do
    let d := (← get).descAddr e (gid % 64)
    let w ← fwLoad (d + 16)
    fwCell (d + 16) (setBits (setBits (setBits w 3 0 (q.byte 2)) 31 16 (q.num 6 2)) 79 64 (q.num 4 2)))
  l.forM (fun e => fwSched e 8 (gid % 64))
  pure []

/-- TASK_RELOAD (R232). -/
def execTaskReload (n : BitVec 5) (s : State) : Host.Outcome State Fault Refusal := .next (s.serve n.toNat 0x0207 fwTaskReload)

/-! ## EVENT_BIND -/

/-- The events a domain may bind (Table 14-13): doorbells of its engines, events of its tiles and ports, the response events of its
channels, software events assigned to it. -/
def State.mayBind (s : State) (q : Req) (id : Nat) : Bool :=
  if id < 1024 then q.ownsEngine id
  else if id < 1280 then q.ownsTile ((id - 1024) / 8)
  else if id < 1536 then s.ownsPort q ((id - 1280) / 32)
  else if 1888 ≤ id ∧ id < 1920 then q.all || q.dom.chans.contains (id - 1888)
  else q.all || (decide (1984 ≤ id) && q.dom.soft.contains id)

/-- The body of EVENT_BIND (R260, Table 14-13). -/
def fwEventBind (q : Req) : FM (List Byte) := do
  let s ← get
  let id := q.num 0 2
  let gid := q.num 2 2
  need (decide (id < 2048 ∧ q.byte 4 < 16 ∧ q.byte 5 < 4)) 5
  need (s.mayBind q id && (decide (2 ≤ q.byte 5) || q.ownsEngine (gid / 64))) 6
  fwWrite 4 (0x2000 + 4 * id) (BitVec.ofNat 32
    (if 2 ≤ q.byte 5 then 0x80000000 else 0xC0000000 + q.byte 5 * 0x20000000 + q.byte 4 * 0x10000 + gid))
  pure []

/-- EVENT_BIND (R505). -/
def execEventBind (n : BitVec 5) (s : State) : Host.Outcome State Fault Refusal := .next (s.serve n.toNat 0x0208 fwEventBind)

end Sys2Proof.Machine
end

