-- ==== Sys2Proof/Machine/FwPorts.lean ====
section
/-!
DEFINITION. Machine/FwPorts.lean: the firmware commands of groups 0x04xx, 0x05xx and 0x07xx: partner ports and measurement, power, time
and the trunk (12_measurement, 13_ports_links, 14_cretal_mailboxes, 15_power_clock_reset).
-/

namespace Sys2Proof.Machine

open Sys2Proof

/-! ## Discovery (R469, R432, notes/assumptions/50.md) -/

/-- Do MODEL and SERIAL of a port's accepted descriptor equal the record's. -/
def State.knownPartner (s : State) (p : Nat) : Bool :=
  let d := portBlk p
  match s.inst with
  | none => false
  | some r => r.ports.any (fun x => x.port == p && x.model == s.reg d 0x804 && x.serial == s.reg d 0x808)

/-- Step 2 of R469: DEC_CFG of each present stream and the port DMA, then BLKCTRL.EN. The spec states no values: each is a free value
within its register's limits. From here on the means of step 3 are taken; `chan` is the channel that is to be answered. -/
def fwDiscoverSet (p : Nat) (chan : Option Nat) : FM Unit := do
  let b := portBlk p
  let pres := (← get).reg b 0x484
  fwWrite b 4 0
  ((List.range 32).filter (fun k => bit pres k)).forM (fun k => do
    let w ← freeWord
    let r ← freeWord
    fwWrite b (0x400 + 4 * k) (setBits (w &&& 0xC000FFFF) 24 16 (16 + r.toNat % 241)))
  let base ← freeWord
  let cfg ← freeWord
  fwWrite b 0x200 (BitVec.ofNat 32 (base.toNat % 0x80000 * 64))
  fwWrite b 0x204 0
  fwWrite b 0x208 (BitVec.ofNat 32 ((1 + cfg.toNat / 65536 % 255) * 65536 + 1 + cfg.toNat % 65536 % 4095))
  fwWrite b 4 1
  modify (fun s => (s.updPort p (fun q => { q with means := [] })).updFw (fun f => { f with
    disc := Map.put { chan := chan, cable := none, buf := 0, leak := 0, bad := 0 } f.disc p }))

/-- The discovery in progress on a port. -/
def State.discOf (s : State) (p : Nat) : Option Disc := (s.fw.disc.find? (fun x => x.1 == p)).map (·.2)

/-- Step 3 of R469: the mean of each present stream is kept as its first zero, and a current stream whose mean exceeds 0.1 % of FS has a
load leakage. A stream of which no sample came has a free outcome. -/
def State.discoverMeans (s : State) (p : Nat) (d : Disc) : State :=
  let pres := (List.range 32).filter (fun k => bit (s.reg (portBlk p) 0x484) k)
  let mean := fun (k : Nat) => Map.get (0, 0) (s.port p).means k
  let leaks := fun (k : Nat) => s.portDesc p (0x10 + 7 * k) == 1 &&
    (if (mean k).2 = 0 then bit (Config.unstated s.freeCtr) k
     else decide (2 ^ (decWidth (s.decCfg p k) - 1) * (mean k).2 < 1000 * (mean k).1.natAbs))
  let leak := pres.foldl (fun a k => if leaks k then a + 2 ^ k else a) 0
  { s with freeCtr := s.freeCtr + 1 }.updFw (fun f => { f with
    zeros := pres.foldl (fun m k => Map.put (mean k) m (32 * p + k)) f.zeros
    disc := Map.put { d with leak := leak } f.disc p })

/-- Step 4 of R469 for one cable: a COARSE acquisition; its averaging and its buffer the spec does not state, so they are free values. -/
def fwDiscoverCable (p c : Nat) (d : Disc) : FM Unit := do
  let b := portBlk p
  let n ← freeWord
  let w ← freeWord
  let buf := w.toNat % 0x80000 * 64
  fwWrite b 0x600 (BitVec.ofNat 32 (c * 2 ^ 16 + n.toNat % 11))
  fwWrite b 0x610 (BitVec.ofNat 32 buf)
  fwWrite b 0x614 0
  fwWrite b 0x608 1
  modify (fun s => s.updFw (fun f => { f with disc := Map.put { d with cable := some c, buf := buf } f.disc p }))

/-- The bin of the greatest magnitude among the 32,768 bins of a COARSE acquisition. -/
def fwPeak (buf : Nat) : FM Nat := do
  let r ← (List.range 8192).foldlM (fun (best : Nat × Nat) i => do
    let c ← fwLoad (buf + 16 * i)
    pure ((List.range 4).foldl (fun (m : Nat × Nat) k =>
      let v := (signed 32 (c.toNat / 2 ^ (32 * k))).natAbs
      if m.1 < v then (v, 4 * i + k) else m) best)) (0, 0)
  pure r.2

/-- The stored baseline of a cable, the bin of its far-end reflection. -/
def State.cableBase (s : State) (p c : Nat) : Option Nat :=
  (s.inst.bind (fun r => r.ports.find? (fun x => x.port == p))).bind (fun x => (x.base.find? (fun v => v.1 == c)).map (·.2))

/-- Has a cable changed (step 4 of R469): its strongest bin, taken as the far-end reflection, lies more than 2 bins from the baseline.
Where the acquisition ended in error, a free value. -/
def fwCableBad (p c : Nat) (d : Disc) : FM Bool := do
  let s ← get
  if s.fld (portBlk p) 0x60C 31 28 ≠ 0 then
    let w ← freeWord
    pure (bit w 0)
  else
    match s.cableBase p c with
    | none => pure false
    | some j =>
      let k ← fwPeak d.buf
      pure (decide (k + 2 < j ∨ j + 2 < k))

/-- Goes on with a discovery (steps 3 and 4 of R469): its answer where it has ended, none where an acquisition is in progress. -/
def fwDiscoverGo (p : Nat) (d : Disc) : FM (Option (List Byte)) := do
  if (← get).port p |>.tdr.isSome then pure none
  else
    let c ← (match d.cable with
      | none => do
        modify (fun s => s.discoverMeans p d)
        pure 0
      | some c => do
        let bad ← fwCableBad p c d
        modify (fun s => s.updFw (fun f => { f with disc := Map.put { d with bad := d.bad + bad.toNat * 2 ^ c } f.disc p }))
        pure (c + 1))
    let s ← get
    match s.discOf p with
    | none => pure none
    | some d1 =>
      if c < min 32 (s.portDesc p 0xF2) then
        fwDiscoverCable p c d1
        pure none
      else
        set (s.updFw (fun f => { f with disc := Map.del f.disc p }))
        pure (some ([if d1.leak ≠ 0 then 2 else if d1.bad ≠ 0 then 3 else 0, 0, 0, 0] ++ toBytes 4 d1.leak ++ toBytes 4 d1.bad))

/-- A discovery that firmware began on a link-up (step 5 of R469): its result is reported in the log. -/
def State.discoverRun (s : State) (p : Nat) : State :=
  match s.discOf p with
  | none => s
  | some d =>
    if d.chan.isSome then s
    else
      match (fwDiscoverGo p d).run s with
      | .ok (some l) t => [0, 4, 8].foldl (fun u o => u.fwLog (1280 + 32 * p) p (BitVec.ofNat 32 (ofBytes ((l.drop o).take 4)))) t
      | .ok none t => t
      | .error _ t => t.updFw (fun f => { f with disc := Map.del f.disc p })

/-- The body of PORT_DISCOVER (R469): an unknown partner is answered at once; the rest goes on in the background. -/
def fwPortDiscover (q : Req) : FM (List Byte) := do
  let p := q.byte 0
  need (decide (p < 8)) 5
  need ((← get).ownsPort q p) 6
  need ((← get).fld (portBlk p) 0x14 0 0 == 1) 7
  if !(← get).knownPartner p then
    fwWrite (portBlk p) 4 0
    pure ([1] ++ List.replicate 11 0)
  else
    if ((← get).discOf p |>.bind Disc.chan).isSome then throw .wait
    fwDiscoverSet p (some q.chan)
    goBg q p 0

/-- PORT_DISCOVER (R469). -/
def execPortDiscover (n : BitVec 5) (s : State) : Host.Outcome State Fault Refusal := .next (s.serve n.toNat 0x0401 fwPortDiscover)

/-- A port number of a payload: in range, and of the domain. -/
def fwPort (q : Req) (p : Nat) : FM Unit := do
  need (decide (p < 8)) 5
  need ((← get).ownsPort q p) 6

/-- PORT_STATUS (R505): PORT_STAT, PORT_LDLY, DEC_PRES, PORT_RBK. -/
def execPortStatus (n : BitVec 5) (s : State) : Host.Outcome State Fault Refusal :=
  .next (s.serve n.toNat 0x0402 (fun q => do
    fwPort q (q.byte 0)
    fwReads ([0x14, 0x18, 0x484, 0x104].map (fun o => (portBlk (q.byte 0), o)))))

/-- PORT_RESTART (R467): a write of PORT_CTL.RESTART that keeps LINKEN. -/
def execPortRestart (n : BitVec 5) (s : State) : Host.Outcome State Fault Refusal :=
  .next (s.serve n.toNat 0x0403 (fun q => do
    fwPort q (q.byte 0)
    let b := portBlk (q.byte 0)
    let w ← fwRead b 0x10
    fwWrite b 0x10 ((w &&& 2) ||| 1)
    pure []))

/-! ## Measurement -/

/-- The body of TDR_RUN (R445, R446). -/
def fwTdrRun (q : Req) : FM (List Byte) := do
  let p := q.byte 0
  need (decide ((q.byte 1 = 1 ∨ q.byte 1 = 2) ∧ q.byte 2 < 32 ∧ q.byte 3 ≤ 10 ∧ q.byte 4 ≤ 4 ∧ q.byte 5 = 0 ∧ q.num 6 2 < 0x8000 ∧
    q.num 8 2 < 1024 ∧ q.num 10 2 = 0 ∧ q.num 12 4 % 64 = 0)) 5
  need (decide (p < 8)) 5
  let s ← get
  match s.inst.bind (fun i => i.resources.find? (fun r => r.num == q.num 8 2)) with
  | none => fail 6
  | some r =>
    let size := if q.byte 1 = 1 then 0x20000 else 2 ^ min (q.byte 4) (q.byte 3) * 0x1000
    need (decide (q.num 12 4 + size ≤ r.size)) 5
    need (s.ownsPort q p && resBelongs r q.all q.dom.id) 6
    need (s.port p).tdr.isNone 7
    let b := portBlk p
    let pa := r.base + q.num 12 4
    fwWrite b 0x600 (BitVec.ofNat 32 (r.mirror.toNat * 2 ^ 31 + q.byte 2 * 2 ^ 16 + q.byte 4 * 256 + q.byte 3))
    fwWrite b 0x604 (BitVec.ofNat 32 (q.num 6 2))
    fwWrite b 0x610 (BitVec.ofNat 32 pa)
    fwWrite b 0x614 (BitVec.ofNat 32 (pa >>> 32))
    fwWrite b 0x608 (BitVec.ofNat 32 (q.byte 1))
    goBg q p 0

/-- TDR_RUN (R446). -/
def execTdrRun (n : BitVec 5) (s : State) : Host.Outcome State Fault Refusal := .next (s.serve n.toNat 0x0404 fwTdrRun)

/-- The body of CAL_WRITE (R453). -/
def fwCalWrite (q : Req) : FM (List Byte) := do
  let w := BitVec.ofNat 32 (q.num 4 4)
  let i := q.byte 0
  need (decide (i < 9) && q.num 1 3 == 0 &&
    (if i = 0 then bits w 31 24 == 0 && decide (bits w 23 0 ≤ 50000 ∨ 0xFF3CB0 ≤ bits w 23 0) else bits w 31 20 == 0)) 5
  need (q.flag Domain.cal && (i == 0 || (← get).ownsPort q (i - 1))) 6
  if i = 0 then fwWrite 0x0E 0x20 w else fwWrite (portBlk (i - 1)) 0x618 w
  pure []

/-- CAL_WRITE (R453). -/
def execCalWrite (n : BitVec 5) (s : State) : Host.Outcome State Fault Refusal := .next (s.serve n.toNat 0x0405 fwCalWrite)

/-- The body of SENSE_NOISE (R439). -/
def fwSenseNoise (q : Req) : FM (List Byte) := do
  need (q.flag Domain.cal) 6
  let s ← get
  need (s.fld 0x0E 0x18 0 0 == 0 && s.sense.scan.isNone && s.fld 0x0E 0x24 1 1 == 0) 7
  fwWrite 0x0E 0x24 1
  goBg q 0 0

/-- SENSE_NOISE (R439). -/
def execSenseNoise (n : BitVec 5) (s : State) : Host.Outcome State Fault Refusal := .next (s.serve n.toNat 0x0406 fwSenseNoise)

/-- The body of DEC_SET (R432): the port is stopped while DEC_CFG is written. -/
def fwDecSet (q : Req) : FM (List Byte) := do
  let p := q.byte 0
  need (decide (q.byte 1 < 32 ∧ 16 ≤ q.num 2 2 ∧ q.num 2 2 ≤ 256 ∧ q.byte 4 < 2 ∧ q.byte 5 < 2)) 5
  fwPort q p
  let b := portBlk p
  let en := (← get).blkEn b
  fwWrite b 4 0
  fwWrite b (0x400 + 4 * q.byte 1) (BitVec.ofNat 32 (q.byte 5 * 2 ^ 31 + q.byte 4 * 2 ^ 30 + q.num 2 2 * 2 ^ 16 + q.num 6 2))
  fwWrite b 4 (BitVec.ofNat 32 en.toNat)
  pure []

/-- DEC_SET (R432). -/
def execDecSet (n : BitVec 5) (s : State) : Host.Outcome State Fault Refusal := .next (s.serve n.toNat 0x0407 fwDecSet)

/-! ## Power (R531, R535, R540) -/

/-- POWER_STATUS (R540): budget and grant in mW, CUR of every tile. -/
def execPowerStatus (n : BitVec 5) (s : State) : Host.Outcome State Fault Refusal :=
  .next (s.serve n.toNat 0x0501 (fun _ => do
    let b ← fwRead 2 0x10
    let g ← fwRead 2 0x14
    let s ← get
    pure (toBytes 4 (25 * bits b 9 0) ++ toBytes 4 (25 * bits g 25 16) ++
      toBytes 8 ((List.range 32).foldl (fun a t => a + s.tileCur t * 4 ^ t) 0))))

/-- The body of TILE_POWER (R530, R531, R540): RUN, NAP and OFF are requests; IDLE, which a tile enters by itself, sets AUTOIDLE
(notes/assumptions/7.md). -/
def fwTilePower (q : Req) : FM (List Byte) := do
  let t := q.byte 0
  need (decide (t < 32 ∧ q.byte 1 < 4)) 5
  let s ← get
  need (q.ownsTile t && (s.withTwin t).all q.ownsTile) 6
  let o := 0x100 + 4 * t
  let auto := s.fld 2 o 4 4 * 16
  let off := decide (q.byte 1 = 3) && !(s.withTwin t).all (fun x => (s.tileEngines x).all Engine.allFree)
  match q.byte 1 with
  | 0 => fwWrite 2 o (BitVec.ofNat 32 auto)
  | 1 => set ((s.withTwin t).foldl (fun u x => u.setFld 2 (0x100 + 4 * x) 4 4 1) s)
  | 2 => fwWrite 2 o (BitVec.ofNat 32 (auto + 1))
  | _ => fwWrite 2 o (BitVec.ofNat 32 (auto + 2))
  need (!off) 7
  pure []

/-- TILE_POWER (R540). -/
def execTilePower (n : BitVec 5) (s : State) : Host.Outcome State Fault Refusal := .next (s.serve n.toNat 0x0502 fwTilePower)

/-- The body of BUDGET_SET (R535, R540). -/
def fwBudgetSet (q : Req) : FM (List Byte) := do
  let v := q.num 0 4
  need (decide (2000 ≤ v ∧ v ≤ 25000 ∧ v % 25 = 0)) 5
  let s ← get
  need (q.flag Domain.sysmgr && s.role != 2) 6
  fwWrite 2 0x10 (BitVec.ofNat 32 (v / 25))
  need (decide (s.pwFloor ≤ v / 25)) 7
  pure []

/-- BUDGET_SET (R540). -/
def execBudgetSet (n : BitVec 5) (s : State) : Host.Outcome State Fault Refusal := .next (s.serve n.toNat 0x0503 fwBudgetSet)

/-! ## Time and trunk (R482, R515) -/

/-- TIME_STATUS (R505): TIME, TIME_STAT, both hop delays. -/
def execTimeStatus (n : BitVec 5) (s : State) : Host.Outcome State Fault Refusal :=
  .next (s.serve n.toNat 0x0701 (fun _ => fwReads [(0x0C, 0x10), (0x0C, 0x14), (0x0C, 0x1C), (0x18, 0x14), (0x19, 0x14)]))

/-- The body of TIME_SET (R482): refused on a worker. -/
def fwTimeSet (q : Req) : FM (List Byte) := do
  need (q.flag Domain.sysmgr && (← get).role != 2) 6
  fwWrite 0x0C 0x20 (BitVec.ofNat 32 (q.num 0 4))
  fwWrite 0x0C 0x24 (BitVec.ofNat 32 (q.num 4 4))
  pure []

/-- TIME_SET (R482). -/
def execTimeSet (n : BitVec 5) (s : State) : Host.Outcome State Fault Refusal := .next (s.serve n.toNat 0x0702 fwTimeSet)

/-- TRUNK_STATUS (R505): both TRK_STAT, NODES. -/
def execTrunkStatus (n : BitVec 5) (s : State) : Host.Outcome State Fault Refusal :=
  .next (s.serve n.toNat 0x0703 (fun _ => do
    let l ← fwReads [(0x18, 0x10), (0x19, 0x10)]
    let t ← fwRead 0x0C 0x1C
    pure (l ++ [BitVec.ofNat 8 (bits t 13 8)])))

/-- The inner request of a REMOTE with its SEQ (R515, Table 14-6). -/
def remoteMsg (q : Req) (seq : Nat) : List Byte := fwMsg (q.num 2 2) seq 0 (q.pay.drop 4)

/-- Sends a REMOTE request in an MBX frame (R481, R515). -/
def State.sendRemote (s : State) (q : Req) (seq : Nat) : State :=
  s.originate (q.byte 0) 5 0 0 (toBytes 1 (q.byte 1) ++ [0, 0, 0] ++ remoteMsg q seq)

/-- The body of REMOTE (R515): the first send, under a SEQ that firmware chooses. -/
def fwRemote (q : Req) : FM (List Byte) := do
  need (decide (q.byte 0 < 32 ∧ 8 ≤ q.byte 1 ∧ q.byte 1 ≤ 15)) 5
  let w ← freeWord
  modify (fun s => s.sendRemote q (w.toNat % 65536))
  goBg q (w.toNat % 65536) 1

/-- REMOTE (R515). -/
def execRemote (n : BitVec 5) (s : State) : Host.Outcome State Fault Refusal := .next (s.serve n.toNat 0x0704 fwRemote)

/-- The command a channel has in the background, with its request. -/
def State.background (s : State) (n : Nat) : Option (Bg × Req) :=
  match s.fw.bg.find? (fun p => p.1 == n), s.fw.req.find? (fun p => p.1 == n) with
  | some b, some m => if s.cretalReset || s.mbxState n != 2 then none else some (b.2, s.reqOf n m.2)
  | _, _ => none

/-- REMOTE_RETRY (R515): 1 ms without a response; three sends in all, then TIMEOUT. -/
def execRemoteRetry (n : BitVec 5) (s : State) : Host.Outcome State Fault Refusal :=
  match s.background n.toNat with
  | none => .next s
  | some (b, q) =>
    if b.cmd ≠ 0x0704 then .next s
    else if b.aux < 3 then
      .next ((s.sendRemote q b.val).updFw (fun f => { f with bg := Map.put { b with aux := b.aux + 1 } f.bg n.toNat }))
    else .next (s.answer q 10 [])

end Sys2Proof.Machine
end

