-- ==== Sys2Proof/Machine/FwBoot.lean ====
section
/-!
DEFINITION. Machine/FwBoot.lean: images, lifecycle, debug authentication, start-up, the service of Cretal's events and the completion of
background commands (14_cretal_mailboxes, R489, R495, R496, R507, R517 to R521).
-/

namespace Sys2Proof.Machine

open Sys2Proof

/-! ## Images (R517, R518) -/

/-- The bytes of an image slot (Table 14-17). -/
def State.slotSize (s : State) : Nat := 2 ^ (s.fld 0x1C 0x10 31 24 - 1)
/-- The flash address of a slot in the window of Table 01-6. -/
def State.slotBase (s : State) (k : Nat) : Nat := 0x20000000 + k * s.slotSize
/-- `n` bytes of a slot from `o`. -/
def State.slotBytes (s : State) (k o n : Nat) : List Byte := s.mem.read (s.slotBase k + o) n
/-- `n` bytes of a slot's header from `o`, as a number. -/
def State.slotNum (s : State) (k o n : Nat) : Nat := ofBytes (s.slotBytes k o n)

/-- The OTP key of a slot number, where it is programmed for a use and not revoked. -/
def State.otpKey (s : State) (k use : Nat) : Option OtpKey :=
  match s.otp.keys.find? (fun p => p.1 == k) with
  | some (_, x) => if x.use = use ∧ ¬x.revoked then some x else none
  | none => none

/-- R517: is the image in a slot valid. -/
def State.imgValid (s : State) (k : Nat) : Bool :=
  s.fld 0x1C 0x10 31 24 != 0 && s.slotNum k 0 4 == 0x5A55494D && s.slotNum k 4 2 == 1 && s.slotNum k 7 1 == 0 &&
  (s.slotBytes k 0x70 144).all (· == 0) && decide (s.slotNum k 0x0C 4 + 256 ≤ s.slotSize) &&
  (match s.otpKey (s.slotNum k 6 1) 1 with
   | none => false
   | some x => Config.ecdsaVerify x.hash (Config.sha256 (s.slotBytes k 0 0x30)) (s.slotBytes k 0x30 64)) &&
  Config.sha256 (s.slotBytes k 256 (s.slotNum k 0x0C 4)) == s.slotBytes k 0x10 32 && decide (s.otp.minVer ≤ s.slotNum k 8 4)

/-- The body of IMG_LIST (Table 14-12). -/
def fwImgList (q : Req) : FM (List Byte) := do
  need (q.flag Domain.image) 6
  let s ← get
  [0, 1].forM (fun k => if Map.get 0 s.img.st k = 0 then pure () else fwLook (s.slotBase k) 16)
  let one : Nat → List Byte := fun k =>
    let st := Map.get 0 s.img.st k
    if st = 0 then List.replicate 16 0
    else [BitVec.ofNat 8 st] ++ s.slotBytes k 6 1 ++ [0, 0] ++ s.slotBytes k 8 8 ++ List.replicate 4 0
  pure (one 0 ++ one 1)

/-- IMG_LIST (R518). -/
def execImgList (n : BitVec 5) (s : State) : Host.Outcome State Fault Refusal := .next (s.serve n.toNat 0x0101 fwImgList)

/-- The checks that the commands on one slot share: the slot number, the IMAGE flag, and, where the slot is changed, that it was not
booted. -/
def fwSlot (q : Req) (change : Bool) : FM Unit := do
  need (decide (q.byte 0 < 2)) 5
  need (q.flag Domain.image) 6
  need (!(change && (← get).img.booted == some (q.byte 0))) 7

/-- The body of IMG_WRITE (R518): the write is made when the command completes. -/
def fwImgWrite (q : Req) : FM (List Byte) := do
  let s ← get
  need (decide (q.num 1 3 = 0 ∧ q.num 4 4 % 4 = 0 ∧ q.num 4 4 + (q.len - 8) ≤ s.slotSize)) 5
  fwSlot q true
  goBg q 0 0

/-- IMG_WRITE (R518). -/
def execImgWrite (n : BitVec 5) (s : State) : Host.Outcome State Fault Refusal := .next (s.serve n.toNat 0x0102 fwImgWrite)

/-- IMG_COMMIT (R518): the check is made when the command completes. -/
def execImgCommit (n : BitVec 5) (s : State) : Host.Outcome State Fault Refusal :=
  .next (s.serve n.toNat 0x0103 (fun q => do
    fwSlot q false
    goBg q 0 0))

/-- IMG_ERASE (R518): the erase is made when the command completes. -/
def execImgErase (n : BitVec 5) (s : State) : Host.Outcome State Fault Refusal :=
  .next (s.serve n.toNat 0x0104 (fun q => do
    fwSlot q true
    goBg q 0 0))

/-- Sets the state that IMG_LIST reports of a slot. -/
def State.setImg (s : State) (k st : Nat) : State := { s with img := { s.img with st := Map.put st s.img.st k } }

/-- What an image command does when it completes. A check of the slot reads its header, and the body that the header gives. -/
def fwImgDo (q : Req) : FM (List Byte) := do
  let k := q.byte 0
  let s ← get
  if q.cmd = 0x0102 then set (({ s with mem := s.mem.write (s.slotBase k + q.num 4 4) (q.pay.drop 8) }).setImg k 1)
  else if q.cmd = 0x0104 then set (({ s with mem := s.mem.dropRange (s.slotBase k) s.slotSize }).setImg k 0)
  else
    fwLook (s.slotBase k) 256
    if s.slotNum k 0x0C 4 + 256 ≤ s.slotSize then fwLook (s.slotBase k + 256) (s.slotNum k 0x0C 4)
    need (s.imgValid k) 12
    let s1 := if s.img.booted = some k then s else s.setImg k 2
    set (if s.otp.life = 2 then { s1 with otp := { s1.otp with minVer := max s1.otp.minVer (s.slotNum k 8 4) } } else s1)
  pure []

/-- The end of a command in the background, from what firmware does then. -/
def State.answerBy (s : State) (q : Req) (f : FM (List Byte)) : State :=
  match f.run s with
  | .ok p t => t.answer q 0 p
  | .error (.ans st p) t => t.answer q st p
  | .error _ _ => s

/-! ## Lifecycle and keys (R519) -/

/-- A signature failure (R521): the third in a row locks authentication. -/
def State.authFailed (s : State) : State := s.updFw (fun f => { f with fails := f.fails + 1, locked := f.locked || decide (3 ≤ f.fails + 1) })

/-- The nonce in force, used up by the attempt; none where its 60 s have passed. -/
def takeNonce : FM (Option Nonce) := do
  let s ← get
  set ({ s with freeCtr := s.freeCtr + 1 }.updFw (fun f => { f with nonce := none }))
  pure (if Config.nonceExpired s.freeCtr then none else s.fw.nonce)

/-- Does a signature by an unrevoked debug key verify. -/
def State.debugSigned (s : State) (k : Nat) (msg sig : List Byte) : Bool :=
  match s.otpKey k 2 with
  | none => false
  | some x => Config.ecdsaVerify x.hash (Config.sha256 msg) sig

/-- A change of lifecycle: OTP, and the scope of Table 16-1 (R520, R552). -/
def State.setLife (s : State) (l : Nat) : State := ({ s with otp := { s.otp with life := l } }).setAuth (dbgAuthReset l)

/-- The body of LIFECYCLE (R519, R521, Table 14-15). -/
def fwLifecycle (q : Req) : FM (List Byte) := do
  let s ← get
  need (q.num 1 3 == 0 && q.byte 0 == s.otp.life + 1 && decide (s.otp.life < 3)) 5
  if s.fw.locked then fail 13
  match s.otp.life with
  | 0 => need ((List.range 4).any (fun k => (s.otpKey k 1).isSome)) 7
  | 1 => pure ()
  | _ =>
    match ← takeNonce with
    | none => fail 7
    | some v =>
      let t ← get
      if (List.range 4).any (fun k => t.debugSigned k (toBytes 16 v.val.toNat) ((q.pay.drop 4).take 64)) then
        set ((t.updFw (fun f => { f with fails := 0 })).poisonAll)
      else
        set t.authFailed
        fail 11
  modify (fun t => t.setLife (q.byte 0))
  pure []

/-- LIFECYCLE (R519). -/
def execLifecycle (n : BitVec 5) (s : State) : Host.Outcome State Fault Refusal := .next (s.serve n.toNat 0x0105 fwLifecycle)

/-- The body of OTP_KEY (R519). -/
def fwOtpKey (q : Req) : FM (List Byte) := do
  let s ← get
  let k := q.byte 0
  need (decide (k < 4 ∧ (q.byte 1 = 1 ∨ q.byte 1 = 2) ∧ q.byte 2 < 2 ∧ q.byte 3 = 0)) 5
  let old := s.otp.keys.find? (fun p => p.1 == k)
  if q.byte 2 = 1 then
    match old with
    | none => fail 7
    | some (_, x) => set { s with otp := { s.otp with keys := Map.put { x with revoked := true } s.otp.keys k } }
  else
    need (decide (s.otp.life < 2)) 6
    need old.isNone 7
    set { s with otp := { s.otp with keys := Map.put { use := q.byte 1, revoked := false, hash := (q.pay.drop 4).take 32 } s.otp.keys k } }
  pure []

/-- OTP_KEY (R519). -/
def execOtpKey (n : BitVec 5) (s : State) : Host.Outcome State Fault Refusal := .next (s.serve n.toNat 0x0106 fwOtpKey)

/-! ## Debug authentication (R520, R521, R552) -/

/-- The body of DBG_CHALLENGE (R520, R552). -/
def fwDbgChallenge (q : Req) : FM (List Byte) := do
  need (decide (q.byte 0 < 32)) 5
  need ((← get).otp.life == 2) 6
  let v ← draw128
  modify (fun s => s.updFw (fun f => { f with nonce := some { val := v, scope := q.byte 0 } }))
  pure (toBytes 16 v.toNat ++ toBytes 4 Config.serial.toNat)

/-- DBG_CHALLENGE (R520). -/
def execDbgChallenge (n : BitVec 5) (s : State) : Host.Outcome State Fault Refusal := .next (s.serve n.toNat 0x0801 fwDbgChallenge)

/-- The body of DBG_RESPONSE (R520, R521). -/
def fwDbgResponse (q : Req) : FM (List Byte) := do
  let s ← get
  need (decide (q.byte 64 < 4)) 5
  need (s.otp.life == 2) 6
  if s.fw.locked then fail 13
  match ← takeNonce with
  | none => fail 7
  | some v =>
    let t ← get
    if t.debugSigned (q.byte 64) (toBytes 16 v.val.toNat ++ toBytes 4 Config.serial.toNat ++ toBytes 1 v.scope) (q.pay.take 64) then
      set ((t.updFw (fun f => { f with fails := 0 })).setAuth (BitVec.ofNat 32 (0x80000000 + v.scope)))
      pure []
    else
      set t.authFailed
      fail 11

/-- DBG_RESPONSE (R520). -/
def execDbgResponse (n : BitVec 5) (s : State) : Host.Outcome State Fault Refusal := .next (s.serve n.toNat 0x0802 fwDbgResponse)

/-- DBG_CLOSE (R520): in the other lifecycle states the port is open by Table 16-1. -/
def execDbgClose (n : BitVec 5) (s : State) : Host.Outcome State Fault Refusal :=
  .next (s.serve n.toNat 0x0803 (fun _ => do
    need ((← get).otp.life == 2) 6
    modify (fun s => s.setAuth 0)
    pure []))

/-- AUTH_LOCKOUT_EXPIRE (R521). -/
def execAuthLockoutExpire (s : State) : Host.Outcome State Fault Refusal :=
  .next (if s.fw.locked then s.updFw (fun f => { f with locked := false, fails := 0 }) else s)

/-! ## Start-up (R489, R495, R504, R517, Table 15-8) -/

/-- The slot the ROM boots (R517): of two valid ones that of higher VERSION, slot 0 where they are equal. -/
def State.bootSlot (s : State) : Option Nat :=
  if s.otp.life = 0 then none
  else
    match s.imgValid 0, s.imgValid 1 with
    | true, true => some (if s.slotNum 0 8 4 < s.slotNum 1 8 4 then 1 else 0)
    | true, false => some 0
    | false, true => some 1
    | false, false => none

/-- The channel an engine's byte of MBX_ENGCH enables (R504): one of the channels of its domain. -/
def engchOf (r : InstallRec) (e : Nat) : Nat :=
  match r.engines.find? (fun x => x.id == e) with
  | none => 0
  | some x =>
    match x.chan with
    | none => 0
    | some c => if r.domains.any (fun d => d.id == x.domain && d.chans.contains c) then 128 + c else 0

/-- Restores MBX_ENGCH from the record (R504). -/
def State.setEngch (s : State) (r : InstallRec) : State :=
  (List.range 256).foldl (fun u i => u.cretalWrite 5 (0x100 + 4 * i)
    (BitVec.ofNat 32 (engchOf r (4 * i) + engchOf r (4 * i + 1) * 0x100 + engchOf r (4 * i + 2) * 0x10000 + engchOf r (4 * i + 3) * 0x1000000))) s

/-- Narrows Cretal's MPU to the regions of the record and locks every region (R492). That the record names them one by one from region 0
on is DEDUCED (notes/assumptions/48.md). -/
def State.lockCretal (s : State) (r : InstallRec) : State :=
  let w := fun (u : State) (o : Nat) (v : Word) => u.regWrite .cretal 0x100 o v
  (List.range 16).foldl (fun u k =>
    let o := 0x1000 + 16 * k
    match r.device.cretalMpu[k]? with
    | none => w u (o + 12) (setBits (u.reg 0x100 (o + 12)) 30 30 1)
    | some x => w (w (w (w u o (BitVec.ofNat 32 (x.lo >>> 6))) (o + 4) (BitVec.ofNat 32 (x.hi >>> 6))) (o + 8)
        (BitVec.ofNat 32 ((x.hi >>> 38) % 64 * 0x10000 + (x.lo >>> 38) % 64))) (o + 12) (setBits x.attr 30 30 1)) s

/-- The device item of the record, written at start-up (Table 14-8, step 6 of Table 15-8, R453, R483). -/
def State.setDevice (s : State) (d : DeviceRec) : State :=
  let w := fun (u : State) (b o : Nat) (v : Word) => u.cretalWrite b o v
  let s1 := w (w (w (w s 0x0A 0x10 d.memCfgA) 0x0B 0x10 d.memCfgB) 0x0A 4 1) 0x0B 4 1
  let s2 := d.dcsize.foldl (fun u p => w u (tileBlk (p.1 / 4)) (0x400 + 4 * (p.1 % 4)) (BitVec.ofNat 32 (0x100 + p.2 % 4))) s1
  let s3 := w (w (w (w (w s2 6 0x18 d.safePol) 7 0x10 d.calCfg) 6 0x24 d.kcfg) 6 0x28 d.hang) 9 0x10 d.scrbPeriod
  let s4 := w (w s3 0x0C 0x18 (BitVec.ofNat 32 (d.role % 4 * 2 ^ 30))) 0x0C 4 1
  let s5 := d.tdrZero.foldl (fun u p => w u (portBlk (p.1 % 8)) 0x618 p.2) (w s4 0x0E 0x20 d.refcal)
  d.binds.foldl (fun u p => w u 4 (0x2000 + 4 * (p.1 % 2048)) p.2) s5

/-- The xSPI protocol and size found at start-up (R489). -/
def State.setXspi (s : State) (b : BootInput) : State :=
  (s.setFld 0x1C 0x10 31 24 b.size).setFld 0x1C 0x10 1 0 (if b.adv8D && b.hdr8D then 2 else if b.adv4S then 1 else 0)

/-- The states of both slots as start-up finds them. -/
def State.markSlots (s : State) (boot : Option Nat) : State :=
  let st := fun (k : Nat) => if boot = some k then 3 else if s.imgValid k then 2 else if s.slotNum k 0 4 = 0xFFFFFFFF then 0 else 1
  (s.setImg 0 (st 0)).setImg 1 (st 1)

/-- ROM_BOOT (R489, R495, R517, Table 15-8): with the 25 MHz crystal stable and PLLD locked, Cretal leaves reset. After a Cretal reset
firmware is reloaded from the slot last booted; else the ROM chooses a slot, and firmware applies the record, wakes every tile and
requests TEST. Without a valid slot the device stays in START. -/
def execRomBoot (b : BootInput) (s : State) : Host.Outcome State Fault Refusal :=
  if !s.cretalReset || s.fld 1 0x10 3 2 != 3 || s.fld 2 0x20 1 0 == 2 then .next s
  else
    let recOf := fun (k : Nat) => if k = 0 then b.rec0 else b.rec1
    match s.img.booted with
    | some k =>
      let s1 := { s with cretalReset := false }
      if s.imgValid k then .next (({ s1 with inst := some (recOf k) }.lockCretal (recOf k)).setEngch (recOf k)) else .next { s1 with inst := none }
    | none =>
      let s1 := { s with cretalReset := false }.setXspi b
      match s1.bootSlot with
      | none => .next (s1.markSlots none)
      | some k =>
        let r := recOf k
        let s2 := { (s1.markSlots (some k)) with inst := some r }
        let s3 := { s2 with img := { s2.img with booted := some k } }.lockCretal r
        let s4 := (s3.setDevice r.device).setEngch r
        let s5 := (List.range 32).foldl (fun u t => u.cretalWrite 2 (0x100 + 4 * t) 0x10) s4
        .next (s5.cretalWrite 6 0x10 0x5AFE0300)

/-! ## The channel cross-check (R425, R548, R549) -/

/-- Puts every tile in OFF and wakes it again, but for those a failed pair lies in and those not used, which the log names (R425, R549). -/
def State.crossTiles (s : State) (bad : Nat → Bool) : State :=
  let auto := fun (u : State) (t : Nat) => u.fld 2 (0x100 + 4 * t) 4 4 * 16
  let s1 := (List.range 32).foldl (fun u t => u.cretalWrite 2 (0x100 + 4 * t) (BitVec.ofNat 32 (auto u t + 2))) s
  (List.range 32).foldl (fun u t =>
    if bad t then
      u.fwLog 0 t 0
    else u.cretalWrite 2 (0x100 + 4 * t) (BitVec.ofNat 32 (auto u t))) s1

/-- CHANNEL_CROSS_CHECK (R549): `failed` are the pairs whose kernel diverged or whose signatures were wrong. The outcome of the tests of
Table 11-12 that come before it is a free value; start-up ends with the POISON fill of cluster memory and usable DRAM (R548). Firmware issues
CHECK to the LIN block, once that is idle. START_OK is set as R549 says; then TEST to START (Table 15-8), which a RECOVER in progress
requests itself. -/
def execChannelCrossCheck (failed : List Nat) (s : State) : Host.Outcome State Fault Refusal :=
  if s.mode ≠ .test ∨ s.cretalReset ∨ s.lin.phase ≠ .idle then .next s
  else
    let tests := Config.testOutcome s.freeCtr
    let s0 := ({ s with freeCtr := s.freeCtr + 1 }).testFailed tests
    let bad := fun (t : Nat) => badLogic tests t || failed.any (fun p => tileOf p == t || tileOf (twinOf p) == t)
    let assigned := failed.any (fun p => match s.inst with
      | none => false
      | some r => r.engines.any (fun x => x.id == p || x.id == twinOf p))
    let trained := s.fld 0x0A 0x14 1 1 == 1 && s.fld 0x0B 0x14 1 1 == 1
    let c := s0.linCmd .cretal 7 0 0
    let ok := c.lin.phase == .done && c.lin.result == 0 && trained && !assigned && tests == 0
    let s2 := if c.lin.phase = .done then c.linComplete else c
    let filled := if s2.lin.filled then s2 else { s2.poisonAll with lin := { s2.lin with filled := true } }
    let s1 := ((filled.crossTiles bad).setFld 6 0x30 0 0 ok.toNat).updFw (fun f =>
      { f with bg := Map.mapVal (fun b => if b.cmd = 0x0604 then { b with aux := if ok then 1 else 2 } else b) f.bg })
    .next (if ok && !s.fw.bg.any (fun p => p.2.cmd == 0x0604) then s1.cretalWrite 6 0x10 0x5AFE0000 else s1)

/-! ## The service of Cretal's events (R496) -/

/-- Is an event pending for Cretal. -/
def State.cpend (s : State) (id : Nat) : Bool := s.fld 4 (0x100 + 4 * (id / 32)) (id % 32) (id % 32) == 1

/-- What firmware does at an event: SAFE on event 1734 (R542), and on a link-up steps 1 and 2 of discovery, an unknown partner reported in the
log (R469). -/
def State.onEvent (s : State) (id : Nat) : State :=
  if id = 1734 then s.cretalWrite 6 0x10 0x5AFE0200
  else if 1280 ≤ id ∧ id < 1536 ∧ id % 32 = 0 then
    let p := (id - 1280) / 32
    if s.knownPartner p then
      (match (fwDiscoverSet p ((s.discOf p).bind Disc.chan)).run s with
       | .ok _ t => t
       | .error _ _ => s)
    else (s.cretalWrite (portBlk p) 4 0).fwLog (1280 + 32 * p) p 1
  else s

/-- Serves one pending event: the bit is cleared before the event is handled. -/
def State.serveEvent (s : State) (id : Nat) : State :=
  if s.cpend id then (s.setFld 4 (0x100 + 4 * (id / 32)) (id % 32) (id % 32) 0).onEvent id else s

/-- The order of a scan (R496): 1664 to 1727 first, then the others in increasing order. -/
def scanOrder : List Nat := (List.range 64).map (· + 1664) ++ (List.range 2048).filter (fun i => !(decide (1664 ≤ i ∧ i < 1728)))

/-- A scan of every pending event. -/
def State.scanEvents (s : State) : State := scanOrder.foldl State.serveEvent s

/-- CRETAL_EVENT_SERVICE (R496): on the interrupt of a pending event with EVR_BINDn.EN = 1. -/
def execCretalEventService (s : State) : Host.Outcome State Fault Refusal :=
  .next (if !s.cretalReset && (List.range 2048).any (fun i => s.cpend i && s.fld 4 (0x2000 + 4 * i) 31 31 == 1) then s.cretalRun State.scanEvents else s)

/-- CRETAL_PERIODIC_SCAN (R496); firmware goes on with the discoveries it began on a link-up (R469). -/
def execCretalPeriodicScan (s : State) : Host.Outcome State Fault Refusal := .next (if s.cretalReset then s else s.cretalRun (fun t => (List.range 8).foldl State.discoverRun t.scanEvents))

/-! ## Background commands (R507, Table 14-14) -/

/-- The end of a LIN command in the background: its RESULT, once the block has completed. -/
def State.linResult (s : State) : Option (Nat × State) :=
  match s.lin.phase with
  | .done => some (s.lin.result, s.linComplete)
  | .idle => some (s.fld 8 0x14 11 8, s)
  | .bcast => none

/-- The answer of a command that used the LIN block. -/
def State.linAnswer (s : State) (b : Bg) (q : Req) : State :=
  match s.linResult with
  | none => s
  | some (r, t) =>
    if r ≠ 0 then t.answer q 9 [8, BitVec.ofNat 8 r]
    else if q.cmd = 0x0303 then
      let w := t.linEntry false b.val
      t.answer q 0 [BitVec.ofNat 8 (entGen w), BitVec.ofNat 8 (decide (entState w = 2)).toNat]
    else t.answer q 0 []

/-- The answer of PORT_DISCOVER (R469), once the discovery has ended. -/
def State.discoverAnswer (s : State) (q : Req) : State :=
  let p := q.byte 0
  match s.discOf p with
  | none => s
  | some d =>
    match (fwDiscoverGo p d).run s with
    | .ok (some l) t => t.answer q 0 l
    | .ok none t => t
    | .error (.ans st pay) t => (t.updFw (fun f => { f with disc := Map.del f.disc p })).answer q st pay
    | .error _ _ => s

/-- The answer of RECOVER once the start-up tests have run (R549): START is requested where they passed; the number of a failing test is
a free value. A device that left TEST meanwhile answers BAD_STATE. -/
def State.recoverAnswer (s : State) (b : Bg) (q : Req) : State :=
  if s.mode ≠ .test then s.answer q 7 []
  else if b.aux = 0 then s
  else if b.aux = 1 then (s.cretalWrite 6 0x10 0x5AFE0000).answer q 0 [0, 0]
  else ({ s with freeCtr := s.freeCtr + 1 }).answer q 0 [1, (Config.unstated s.freeCtr).setWidth 8]

/-- The answer of a REMOTE whose response has arrived: it is consumed with ACK (R503, R515). -/
def State.remoteAnswer (s : State) (b : Bg) (q : Req) : State :=
  let c := q.byte 1
  let m := s.mbxBytes c 0x100
  let num := fun (o k : Nat) => ofBytes ((m.drop o).take k)
  if s.mbxState c ≠ 3 ∨ num 6 2 ≠ b.val then s
  else (s.mbxAck c).answer q (num 8 2) ((m.drop 16).take (min (num 4 2) 240))

/-- BACKGROUND_COMMAND_COMPLETE (R507): the command a channel has in the background completes, where its unit has. -/
def execBackgroundCommandComplete (n : BitVec 5) (s : State) : Host.Outcome State Fault Refusal :=
  match s.background n.toNat with
  | none => .next s
  | some (b, q) =>
    .next (s.cretalRun (fun s =>
      if b.cmd = 0x0404 then
        (if (s.port b.val).tdr.isSome then s else s.answerBy q (fwReads ([0x60C, 0x620, 0x630].map (fun o => (portBlk b.val, o)))))
      else if b.cmd = 0x0406 then (if s.fld 0x0E 0x24 1 1 = 1 then s else s.answerBy q (fwReads [(0x0E, 0x28)]))
      else if b.cmd = 0x0401 then s.discoverAnswer q
      else if b.cmd = 0x0604 then s.recoverAnswer b q
      else if b.cmd = 0x0704 then s.remoteAnswer b q
      else if 0x0102 ≤ b.cmd ∧ b.cmd ≤ 0x0104 then s.answerBy q (fwImgDo q)
      else s.linAnswer b q))

end Sys2Proof.Machine
end

