-- ==== Sys2Proof/Machine/Long.lean ====
section
/-!
DEFINITION. Machine/Long.lean: the long instructions, chunk by chunk (R185 to R193, R106, R108, R148).
-/

namespace Sys2Proof.Machine

open Sys2Proof

/-! ## The start (R186, R191) -/

/-- The granule that cursors and length must be multiples of, or 1 (R186). -/
def LongFn.granule : LongFn → Nat
  | .cpyb => 1
  | .fillb | .fillbP | .sweep => 16
  | .mac _ w _ => laneWidth w / 8

/-- Does the function work on a second range. -/
def LongFn.two : LongFn → Bool
  | .cpyb | .mac _ _ _ => true
  | .fillb | .fillbP | .sweep => false

/-- Bits [17:2] of the address of the long instruction at PCC. -/
def State.longTag (s : State) (e : Nat) : Nat := bits (BitVec.ofNat 56 (capCursor (s.chuck e).pcc)) 17 2

/-- Where a long instruction resumes (R191). A DONE that SSR wrote and that no stop leaves, inside a chunk or off the granule, is taken as the byte
it names, and the chunk from there to the line's end is done in whole cells or elements: a DESIGN CHOICE (notes/assumptions/60.md). -/
def State.longFrom (s : State) (e len : Nat) : Nat :=
  let p := (s.chuck e).sysr 8
  if bit p 63 ∧ bits p 55 40 = s.longTag e ∧ bits p 39 0 < len then bits p 39 0 else 0

/-- The start of a long instruction: operands, length and alignment (R186), then its chunks. A length that is too long or misaligned is reported
with rd, its cursor, and ACC load for MACR and store for the others: a DESIGN CHOICE (notes/assumptions/60.md). -/
def longBody (fn : LongFn) (rd rs1 rs2 : Reg) (e : Nat) : EM Next := do
  let len ← ival e rs2.toNat
  let src ← getReg e rs1
  if fn = .fillb ∧ kindInt src.kind = false then fault 3 0 (some rs1.toNat) 0
  else
    let dst ← getReg e rd
    let acc := match fn with
      | .mac _ _ _ => 1
      | _ => 2
    let n := len.toNat
    if 2 ^ 40 ≤ n then fault 5 (capCursor dst) (some rd.toNat) acc
    else if n = 0 then
      modify (fun s => s.updChuck e (fun c => c.setSysr 8 0))
      pure .seq
    else if capCursor dst % fn.granule ≠ 0 ∨ n % fn.granule ≠ 0 then fault 9 (capCursor dst) (some rd.toNat) acc
    else if fn.two ∧ capCursor src % fn.granule ≠ 0 then fault 9 (capCursor src) (some rs1.toNat) 1
    else
      let down := fn == .cpyb && decide (capCursor src < capCursor dst ∧ capCursor dst < capCursor src + n)
      modify (fun s =>
        let l : LongOp := { fn := fn, dst := dst, src := src, rdN := rd.toNat, rs1N := rs1.toNat, len := n, down := down, done := s.longFrom e n }
        s.updEngine e (fun x => { x with long := some l, lchk := [] }))
      pure .hold

/-! ## Chunks (R187) -/

/-- One range of a chunk: capability, register, first address, permissions, and the access it makes. -/
structure Range where
  cap : Cell
  reg : Nat
  a : Nat
  need : List Perm
  rd : Bool
  wr : Bool
  deriving DecidableEq, Repr

/-- ACC of a range's access. -/
def Range.acc (r : Range) : Nat := if r.wr then 2 else 1

/-- The offset and length of the next chunk (R187, R188). -/
def LongOp.next (l : LongOp) : Nat × Nat :=
  let rem := l.len - l.done
  let cs := if l.fn.two then [capCursor l.dst, capCursor l.src] else [capCursor l.dst]
  if l.down then
    let k := cs.foldl (fun k c => Nat.min k ((c + rem - 1) % 64 + 1)) rem
    (rem - k, k)
  else
    let k := cs.foldl (fun k c => Nat.min k (64 - (c + l.done) % 64)) rem
    (l.done, k)

/-- The ranges of a chunk, source first. -/
def LongOp.ranges (l : LongOp) (o : Nat) : List Range :=
  let d := (capCursor l.dst + o) % 2 ^ 56
  let s := (capCursor l.src + o) % 2 ^ 56
  match l.fn with
  | .cpyb => [{ cap := l.src, reg := l.rs1N, a := s, need := [.ld], rd := true, wr := false },
              { cap := l.dst, reg := l.rdN, a := d, need := [.st], rd := false, wr := true }]
  | .fillb | .fillbP => [{ cap := l.dst, reg := l.rdN, a := d, need := [.st], rd := false, wr := true }]
  | .sweep => [{ cap := l.dst, reg := l.rdN, a := d, need := [.ld, .st], rd := true, wr := true }]
  | .mac _ _ _ => [{ cap := l.dst, reg := l.rdN, a := d, need := [.ld], rd := true, wr := false },
                   { cap := l.src, reg := l.rs1N, a := s, need := [.ld], rd := true, wr := false }]

/-- Ranks 8 to 12 for every range of a chunk of `k` bytes: the physical addresses (R148, R187). -/
def checkRanges (e k : Nat) (l : List Range) : EM (List Nat) := do
  l.forM (fun r => capTests e r.cap r.a k r.need (some r.reg) r.acc false)
  let lvl := ((← get).engine e).level
  let kgu := bit (((← get).chuck e).sysr 0) 17
  let ps ← l.mapM (fun r => translate e { va := r.a, acc := if r.wr then .write else .read, lvl := lvl, user := false, kgu := kgu, inl := false
                                          reg := some r.reg, accCode := r.acc })
  let z := l.zip ps
  z.forM (fun t => sysTest t.1.cap t.1.a t.2.1 (some t.1.reg) t.1.acc)
  let paired := (← get).pairedCtx e
  z.forM (fun t => do
    if t.1.rd then mpuE e t.2.1 .read lvl paired t.2.2 (some t.1.reg) 1
    if t.1.wr then mpuE e t.2.1 .write lvl paired t.2.2 (some t.1.reg) 2)
  z.forM (fun t => bpData e t.1.a k t.1.rd t.1.wr t.1.acc)
  z.forM (fun t => do
    match (← get).region t.2.1 with
    | .regs _ _ => fault 0x15 t.2.1 (some t.1.reg) t.1.acc
    | _ => if (← get).busBad t.2.1 k t.2.2 t.1.wr false then fault 0x15 t.2.1 (some t.1.reg) t.1.acc)
  pure (ps.map (·.1))

/-- Reads every cell of the `k` bytes of a chunk from `pa`, before any test on one of them (rank 12 of Table 07-3): an Uncorrectable Memory
Error names the first byte of the chunk (R296). -/
def chunkRead (e pa k reg acc : Nat) : EM (List MCell) :=
  (List.range ((pa % 16 + k + 15) / 16)).mapM (fun i => readMemVal e (alignDown pa 16 + 16 * i) 3 pa (some reg) acc)

/-- A cell of a chunk that holds well-formed data (R53). -/
def chunkCell (m : MCell) (a reg acc : Nat) : EM Cell :=
  match kindOfTag m.tag with
  | some k => pure { bits := m.bits, kind := k }
  | none => fault 3 a (some reg) acc

/-- The `k` bytes from `pa` of cells read, as part loads take them: a cell of kind CAP, SEALED or POISON is a Kind Fault (R188, R190). -/
def chunkBytes (ms : List MCell) (pa a k reg : Nat) : EM (List Byte) := do
  let cs ← ms.mapM (fun m => do
    let c ← chunkCell m a reg 1
    if kindInt c.kind then pure (toBytes 16 c.bits.toNat) else fault 3 a (some reg) 1)
  pure ((cs.flatten.drop (pa % 16)).take k)

/-- A cell write of a chunk: physical and virtual address of its first byte, bytes written in it, and the cell afterwards. -/
structure ChunkWrite where
  pa : Nat
  va : Nat
  n : Nat
  cell : Cell
  deriving DecidableEq, Repr

/-- Performs a write of a chunk: memory, a matching L1D line (R207), record 0x01. -/
def State.chunkWrite (s : State) (e : Nat) (w : ChunkWrite) : State :=
  let key := keyOf e w.pa
  let m : MCell := { bits := w.cell.bits, tag := kindTag w.cell.kind }
  ((s.writeCell key m).updEngine e (fun x => x.updL1d key true (fun _ => m))).sigWrite e w.va w.n (w.cell.bits.toNat >>> (8 * (w.pa % 16)) % 2 ^ (8 * w.n)) w.cell.kind

/-- The writes of a chunk of CPYB that copies cells (R188). -/
def copyCells (e : Nat) (l : LongOp) (s d : Nat) (sa da k : Nat) : EM (List ChunkWrite) := do
  let ms ← chunkRead e s k l.rs1N 1
  (List.range (k / 16)).mapM (fun i => do
    let c ← chunkCell (ms.getD i MCell.poison) sa l.rs1N 1
    if isCap c.kind && !capHas l.src .ldc then fault 6 sa (some l.rs1N) 1
    else
      test9 l.dst c da (some l.rdN)
      let kd ← storeKind e c true
      pure { pa := d + 16 * i, va := da + 16 * i, n := 16, cell := { c with kind := kd } })

/-- The writes of a chunk of CPYB that copies bytes (R58, R188). -/
def copyBytes (e : Nat) (l : LongOp) (s d : Nat) (sa da k : Nat) : EM (List ChunkWrite) := do
  let ms ← chunkRead e s k l.rs1N 1
  let cell := fun (i : Nat) => alignDown d 16 + 16 * i
  let lo := fun (i : Nat) => Nat.max d (cell i)
  let n := fun (i : Nat) => Nat.min (d + k) (cell i + 16) - lo i
  let is := List.range ((d % 16 + k + 15) / 16)
  let olds ← is.mapM (fun i => do
    if n i = 16 then pure (0 : Quad) else pure (← readMemVal e (cell i) 3 d (some l.rdN) 2).bits)
  let bs ← chunkBytes ms s sa k l.rs1N
  pure (is.map (fun i =>
    let v := ofBytes ((bs.drop (lo i - d)).take (n i))
    { pa := lo i, va := da + (lo i - d), n := n i, cell := { bits := mergeBytes (olds.getD i 0) (lo i - cell i) (n i) v, kind := .raw } }))

/-- The writes of a chunk of SWEEP: the cells of capabilities that fail the lineage check (R108). -/
def sweepCells (e : Nat) (l : LongOp) (d da k : Nat) : EM (List ChunkWrite) := do
  let ms ← chunkRead e d k l.rdN 1
  let cs ← (List.range (k / 16)).mapM (fun i => do
    let c ← chunkCell (ms.getD i MCell.poison) da l.rdN 1
    let ok ← if isCap c.kind then linkOk e c true else pure true
    pure (if ok then [] else [({ pa := d + 16 * i, va := da + 16 * i, n := 16, cell := { c with kind := .int } } : ChunkWrite)]))
  pure cs.flatten

/-- The products of a chunk of MACR into its accumulator (R190). -/
def macChunk (e : Nat) (f : MacFn) (w a : BitVec 2) (o : Nat) (xs ys : List Byte) : EM Unit := do
  let wd := laneWidth w
  let b := wd / 8
  let i0 := o / b
  modify (fun s => s.updChuck e (fun c =>
    c.setAcc a.toNat ((List.range (xs.length / b)).foldl (fun acc j =>
      acc.addSat ((i0 + j) % 4) (f.product wd (ofBytes ((xs.drop (b * j)).take b)) (ofBytes ((ys.drop (b * j)).take b)))) (c.acc a.toNat))))

/-- One chunk: checked, then performed whole (R187). -/
def chunkRun (e : Nat) (l : LongOp) : EM Unit := do
  let (o, k) := l.next
  let rs := l.ranges o
  let ps ← checkRanges e k rs
  let p0 := ps.getD 0 0
  let p1 := ps.getD 1 0
  let a0 := (rs.map (·.a)).getD 0 0
  let a1 := (rs.map (·.a)).getD 1 0
  let ws ← match l.fn with
    | .cpyb =>
      if capCursor l.dst % 16 = 0 ∧ capCursor l.src % 16 = 0 ∧ l.len % 16 = 0 then copyCells e l p0 p1 a0 a1 k else copyBytes e l p0 p1 a0 a1 k
    | .fillb => pure ((List.range (k / 16)).map (fun i => { pa := p0 + 16 * i, va := a0 + 16 * i, n := 16, cell := l.src }))
    | .fillbP => pure ((List.range (k / 16)).map (fun i => { pa := p0 + 16 * i, va := a0 + 16 * i, n := 16, cell := { bits := 0, kind := .poison } }))
    | .sweep => sweepCells e l p0 a0 k
    | .mac f w a => do
      let mx ← chunkRead e p0 k l.rdN 1
      let my ← chunkRead e p1 k l.rs1N 1
      let xs ← chunkBytes mx p0 a0 k l.rdN
      let ys ← chunkBytes my p1 a1 k l.rs1N
      macChunk e f w a o xs ys
      pure []
  modify (fun s => ws.foldl (fun s w => s.chunkWrite e w) s)

/-- LONG_CHUNK (R187, R191, R192): the next chunk of the long instruction in progress; the last one sets PROG to 0 and retires it; a
fault, a halt or a step stops it there with PROG written. -/
def execLongChunk (e : Eid) (s : State) : Host.Outcome State Fault Refusal :=
  let n := e.toNat
  match (s.engine n).long with
  | none => .next s
  | some l =>
    if !s.ready n || !(s.engine n).sb.isEmpty then .next s
    else
      match (chunkRun n l).run s with
      | .error .wait u => .next u
      | .error a u => .next ((u.stopLong n).takeAbort n a)
      | .ok _ u =>
        let done := l.done + l.next.2
        if done < l.len then
          let t := u.updEngine n (fun x => { x with long := some { l with done := done }, lchk := [] })
          .next (if (t.engine n).dbg.stepping then (t.stopLong n).haltEngine n 2 none else t)
        else
          .next (((u.updChuck n (fun c => c.setSysr 8 0)).updEngine n (fun x => { x with long := none })).retire n .seq)

/-! ## The commands -/

/-- CPYB (R188). -/
def execCpyb (e : Eid) (g : Grd) (rd rs1 rs2 : Reg) (s : State) : Host.Outcome State Fault Refusal :=
  run1 s e (encR g 0x29 rd rs1 rs2 1) (longBody .cpyb rd rs1 rs2)

/-- FILLB (R189). -/
def execFillb (e : Eid) (g : Grd) (rd rs1 rs2 : Reg) (s : State) : Host.Outcome State Fault Refusal :=
  run1 s e (encR g 0x29 rd rs1 rs2 2) (longBody .fillb rd rs1 rs2)

/-- FILLB.P (R189). -/
def execFillbP (e : Eid) (g : Grd) (rd rs2 : Reg) (s : State) : Host.Outcome State Fault Refusal :=
  run1 s e (encR g 0x29 rd 0 rs2 3) (longBody .fillbP rd 0 rs2)

/-- SWEEP (R108). -/
def execSweep (e : Eid) (g : Grd) (rd rs2 : Reg) (s : State) : Host.Outcome State Fault Refusal :=
  run1 s e (encR g 0x29 rd 0 rs2 4) (longBody .sweep rd 0 rs2)

/-- The func field of MACR: W, A and the variant (Table 04-8). -/
def macrFunc (w a : BitVec 2) (v : Nat) : Nat := w.toNat * 64 + a.toNat * 16 + v

/-- MACR (R190). -/
def execMacr (e : Eid) (g : Grd) (w acc : BitVec 2) (rd rs1 rs2 : Reg) (s : State) : Host.Outcome State Fault Refusal :=
  run1 s e (encR g 0x29 rd rs1 rs2 (macrFunc w acc 8)) (longBody (.mac .mac w acc) rd rs1 rs2)

/-- MACRU (R190). -/
def execMacru (e : Eid) (g : Grd) (w acc : BitVec 2) (rd rs1 rs2 : Reg) (s : State) : Host.Outcome State Fault Refusal :=
  run1 s e (encR g 0x29 rd rs1 rs2 (macrFunc w acc 9)) (longBody (.mac .macu w acc) rd rs1 rs2)

/-- MACRQ (R190). -/
def execMacrq (e : Eid) (g : Grd) (w acc : BitVec 2) (rd rs1 rs2 : Reg) (s : State) : Host.Outcome State Fault Refusal :=
  run1 s e (encR g 0x29 rd rs1 rs2 (macrFunc w acc 10)) (longBody (.mac .macq w acc) rd rs1 rs2)

end Sys2Proof.Machine
end

