-- ==== Sys2Proof/Machine/Stream.lean ====
section
/-!
DEFINITION. Machine/Stream.lean: lane, shuffle, predicate and accumulator instructions (R163 to R176).
-/

namespace Sys2Proof.Machine

open Sys2Proof

/-- The predicate that the guard field names (R121, R163). -/
def guardMask (e : Nat) (g : Grd) : EM (BitVec 16) := do
  pure (((← get).chuck e).pred g.toNat)

/-- lwrite of R165: `n` destination lanes of width `w` whose results `res` reads the sources for. -/
def lwrite (e : Nat) (g : Grd) (rd : Reg) (w n : Nat) (res : EM (List Nat)) : EM Next := do
  let m ← guardMask e g
  if maskNone m n then pure .seq
  else
    let r ← res
    let old ← if maskAll m n then pure 0 else ival128 e rd.toNat
    putReg e rd.toNat { bits := mergeLanes m w r old, kind := .int }
    pure .seq

/-- A function under a lane guard, skipped where the first `n` guard bits are 0 (R165). -/
def underGuard (e : Nat) (g : Grd) (n : Nat) (f : BitVec 16 → EM Unit) : EM Next := do
  let m ← guardMask e g
  if maskNone m n then pure .seq
  else
    f m
    pure .seq

/-- A lane function of two sources at the width of W. -/
def lane2 (f : BitVec 2 → Quad → Quad → List Nat) (g : Grd) (w : BitVec 2) (rd rs1 rs2 : Reg) (e : Nat) : EM Next :=
  lwrite e g rd (laneWidth w) (laneCount w) (do
    let x ← ival128 e rs1.toNat
    let y ← ival128 e rs2.toNat
    pure (f w x y))

/-- A lane function of one source. -/
def lane1 (f : BitVec 2 → Quad → List Nat) (g : Grd) (w : BitVec 2) (rd rs1 : Reg) (e : Nat) : EM Next :=
  lwrite e g rd (laneWidth w) (laneCount w) (do
    let x ← ival128 e rs1.toNat
    pure (f w x))

/-- LPERM (Table 04-3). -/
def lpermBody (g : Grd) (rd rs1 rs2 : Reg) (e : Nat) : EM Next :=
  lwrite e g rd 8 16 (do
    let x ← ival128 e rs1.toNat
    let y ← ival128 e rs2.toNat
    pure (Sys2Proof.Machine.lperm x y))

/-- LWIDEN: destination lanes of width 2w (Table 04-3). -/
def lwidenBody (hi : Bool) (g : Grd) (w : BitVec 2) (rd rs1 : Reg) (e : Nat) : EM Next :=
  lwrite e g rd (2 * laneWidth w) (laneCount w / 2) (do
    let x ← ival128 e rs1.toNat
    pure (lwiden w (if hi then laneCount w / 2 else 0) x))

/-- LINS: only lane k is a destination, so rd is always its merge operand (R169). -/
def linsBody (g : Grd) (w : BitVec 2) (rd rs1 k : Reg) (e : Nat) : EM Next := do
  let m ← guardMask e g
  if !bit m k.toNat then pure .seq
  else
    let v ← ival e rs1.toNat
    let old ← ival128 e rd.toNat
    let n := laneWidth w
    putReg e rd.toNat { bits := setBits old (n * k.toNat + n - 1) (n * k.toNat) v.toNat, kind := .int }
    pure .seq

/-- A function with a scalar result, guarded by bit 0 alone (R164). -/
def scalarResult (g : Grd) (rd : Reg) (res : Nat → EM Dword) (e : Nat) : EM Next := do
  let m ← guardMask e g
  if !bit m 0 then pure .seq
  else
    let v ← res e
    wint e rd.toNat v
    pure .seq

/-- LEXT and LEXTS (Table 04-3). -/
def lextVal (sx : Bool) (w : BitVec 2) (rs1 k : Reg) (e : Nat) : EM Dword := do
  let x ← ival128 e rs1.toNat
  let v := lane x (laneWidth w) k.toNat
  pure (if sx then BitVec.ofInt 64 (signed (laneWidth w) v) else BitVec.ofNat 64 v)

/-- Writes a predicate under the guard: the first `n` bits by `f` (R171). -/
def writePred (e : Nat) (pd : Grd) (n : Nat) (f : Nat → Bool) (m : BitVec 16) : EM Unit :=
  modify (fun s => s.updChuck e (fun c => c.setPred pd.toNat (mergePred m (c.pred pd.toNat) n f)))

/-- PCMP (Table 04-4). -/
def pcmpBody (f : PcmpFn) (g : Grd) (w : BitVec 2) (pd : Grd) (rs1 rs2 : Reg) (e : Nat) : EM Next :=
  underGuard e g (laneCount w) (fun m => do
    let x ← ival128 e rs1.toNat
    let y ← ival128 e rs2.toNat
    let n := laneWidth w
    writePred e pd (laneCount w) (fun i => f.eval n (lane x n i) (lane y n i)) m)

/-- A bitwise function of two predicates. -/
def predBody (f : Bool → Bool → Bool) (g pd ps1 ps2 : Grd) (e : Nat) : EM Next :=
  underGuard e g 16 (fun m => do
    let c := (← get).chuck e
    writePred e pd 16 (fun i => f (bit (c.pred ps1.toNat) i) (bit (c.pred ps2.toNat) i)) m)

/-- PSET and PTAIL: bit `i` of a predicate from an integer. -/
def predFrom (f : Dword → Nat → Bool) (g pd : Grd) (rs1 : Reg) (e : Nat) : EM Next :=
  underGuard e g 16 (fun m => do
    let v ← ival e rs1.toNat
    writePred e pd 16 (f v) m)

/-- PGET (Table 04-4). -/
def pgetVal (ps1 : Grd) (e : Nat) : EM Dword := do
  pure ((((← get).chuck e).pred ps1.toNat).setWidth 64)

/-! ## Accumulators -/

/-- Applies `f` to an accumulator. -/
def updAcc (e : Nat) (a : BitVec 2) (f : Accum → Accum) : EM Unit :=
  modify (fun s => s.updChuck e (fun c => c.setAcc a.toNat (f (c.acc a.toNat))))

/-- LMAC (R173). -/
def lmacBody (f : MacFn) (g : Grd) (w ad : BitVec 2) (rs1 rs2 : Reg) (e : Nat) : EM Next :=
  underGuard e g (laneCount w) (fun m => do
    let x ← ival128 e rs1.toNat
    let y ← ival128 e rs2.toNat
    updAcc e ad (lmac f w m x y))

/-- Sets the lanes of an accumulator whose guard bit is 1, with their S bits. -/
def setLanes (m : BitVec 16) (js : List Nat) (v : Nat → Dword) (s : Nat → Bool) (a : Accum) : Accum :=
  js.foldl (fun a j => if bit m j then (a.setLane j (v j)).setS j (s j) else a) a

/-- AZERO. -/
def azeroBody (g : Grd) (ad : BitVec 2) (e : Nat) : EM Next :=
  underGuard e g 4 (fun m => updAcc e ad (setLanes m [0, 1, 2, 3] (fun _ => 0) (fun _ => false)))

/-- ASETLO and ASETHI: lanes `lo` and `lo + 1`, guarded by the bits of their numbers. -/
def asetBody (lo : Nat) (g : Grd) (ad : BitVec 2) (rs1 : Reg) (e : Nat) : EM Next := do
  let m ← guardMask e g
  if !bit m lo && !bit m (lo + 1) then pure .seq
  else
    let x ← ival128 e rs1.toNat
    updAcc e ad (setLanes m [lo, lo + 1] (fun j => BitVec.ofNat 64 (lane x 64 (j - lo))) (fun _ => false))
    pure .seq

/-- AGETLO and AGETHI: lanes `lo` and `lo + 1` of the accumulator. -/
def agetBody (lo : Nat) (g : Grd) (rd : Reg) (src : BitVec 2) (e : Nat) : EM Next :=
  lwrite e g rd 64 2 (do
    let a := ((← get).chuck e).acc src.toNat
    pure [(a.lane lo).toNat, (a.lane (lo + 1)).toNat])

/-- ANARROW (R175). -/
def anarrowBody (g : Grd) (w : BitVec 2) (rd : Reg) (src : BitVec 2) (rs2 : Reg) (e : Nat) : EM Next :=
  lwrite e g rd (laneWidth w) 4 (do
    let v ← ival e rs2.toNat
    pure (Sys2Proof.Machine.anarrow (laneWidth w) (Nat.min v.toNat 63) (((← get).chuck e).acc src.toNat)))

/-- AREDUCE (R176). -/
def areduceBody (g : Grd) (rd : Reg) (src : BitVec 2) (e : Nat) : EM Next :=
  underGuard e g 4 (fun m => do
    let v := Sys2Proof.Machine.areduce m (((← get).chuck e).acc src.toNat)
    if satS 64 v ≠ v then updAcc e src (fun a => a.setS 0 true)
    wint e rd.toNat (BitVec.ofInt 64 (satS 64 v)))

/-- ASAT: the S bits, which it clears. -/
def asatVal (src : BitVec 2) (e : Nat) : EM Dword := do
  let a := ((← get).chuck e).acc src.toNat
  updAcc e src (fun a => { a with s := 0 })
  pure (a.s.setWidth 64)

/-- AMOVE. -/
def amoveBody (g : Grd) (ad src : BitVec 2) (e : Nat) : EM Next :=
  underGuard e g 4 (fun m => do
    let b := ((← get).chuck e).acc src.toNat
    updAcc e ad (setLanes m [0, 1, 2, 3] b.lane (fun j => bit b.s j)))

/-- LADD (R167, Table 04-2). -/
def execLadd (e : Eid) (g : Grd) (w : BitVec 2) (rd rs1 rs2 : Reg) (s : State) : Host.Outcome State Fault Refusal :=
  run1 s e (encR g 0x30 rd rs1 rs2 (w.toNat * 64 + 0x0)) (lane2 (laneMap .add) g w rd rs1 rs2)

/-- LADDS (R167, Table 04-2). -/
def execLadds (e : Eid) (g : Grd) (w : BitVec 2) (rd rs1 rs2 : Reg) (s : State) : Host.Outcome State Fault Refusal :=
  run1 s e (encR g 0x30 rd rs1 rs2 (w.toNat * 64 + 0x1)) (lane2 (laneMap .adds) g w rd rs1 rs2)

/-- LADDUS (R167, Table 04-2). -/
def execLaddus (e : Eid) (g : Grd) (w : BitVec 2) (rd rs1 rs2 : Reg) (s : State) : Host.Outcome State Fault Refusal :=
  run1 s e (encR g 0x30 rd rs1 rs2 (w.toNat * 64 + 0x2)) (lane2 (laneMap .addus) g w rd rs1 rs2)

/-- LSUB (R167, Table 04-2). -/
def execLsub (e : Eid) (g : Grd) (w : BitVec 2) (rd rs1 rs2 : Reg) (s : State) : Host.Outcome State Fault Refusal :=
  run1 s e (encR g 0x30 rd rs1 rs2 (w.toNat * 64 + 0x3)) (lane2 (laneMap .sub) g w rd rs1 rs2)

/-- LSUBS (R167, Table 04-2). -/
def execLsubs (e : Eid) (g : Grd) (w : BitVec 2) (rd rs1 rs2 : Reg) (s : State) : Host.Outcome State Fault Refusal :=
  run1 s e (encR g 0x30 rd rs1 rs2 (w.toNat * 64 + 0x4)) (lane2 (laneMap .subs) g w rd rs1 rs2)

/-- LSUBUS (R167, Table 04-2). -/
def execLsubus (e : Eid) (g : Grd) (w : BitVec 2) (rd rs1 rs2 : Reg) (s : State) : Host.Outcome State Fault Refusal :=
  run1 s e (encR g 0x30 rd rs1 rs2 (w.toNat * 64 + 0x5)) (lane2 (laneMap .subus) g w rd rs1 rs2)

/-- LMUL (R167, Table 04-2). -/
def execLmul (e : Eid) (g : Grd) (w : BitVec 2) (rd rs1 rs2 : Reg) (s : State) : Host.Outcome State Fault Refusal :=
  run1 s e (encR g 0x30 rd rs1 rs2 (w.toNat * 64 + 0x6)) (lane2 (laneMap .mul) g w rd rs1 rs2)

/-- LMULQ (R167, Table 04-2). -/
def execLmulq (e : Eid) (g : Grd) (w : BitVec 2) (rd rs1 rs2 : Reg) (s : State) : Host.Outcome State Fault Refusal :=
  run1 s e (encR g 0x30 rd rs1 rs2 (w.toNat * 64 + 0x7)) (lane2 (laneMap .mulq) g w rd rs1 rs2)

/-- LMIN (R167, Table 04-2). -/
def execLmin (e : Eid) (g : Grd) (w : BitVec 2) (rd rs1 rs2 : Reg) (s : State) : Host.Outcome State Fault Refusal :=
  run1 s e (encR g 0x30 rd rs1 rs2 (w.toNat * 64 + 0x8)) (lane2 (laneMap .min) g w rd rs1 rs2)

/-- LMAX (R167, Table 04-2). -/
def execLmax (e : Eid) (g : Grd) (w : BitVec 2) (rd rs1 rs2 : Reg) (s : State) : Host.Outcome State Fault Refusal :=
  run1 s e (encR g 0x30 rd rs1 rs2 (w.toNat * 64 + 0x9)) (lane2 (laneMap .max) g w rd rs1 rs2)

/-- LMINU (R167, Table 04-2). -/
def execLminu (e : Eid) (g : Grd) (w : BitVec 2) (rd rs1 rs2 : Reg) (s : State) : Host.Outcome State Fault Refusal :=
  run1 s e (encR g 0x30 rd rs1 rs2 (w.toNat * 64 + 0xa)) (lane2 (laneMap .minu) g w rd rs1 rs2)

/-- LMAXU (R167, Table 04-2). -/
def execLmaxu (e : Eid) (g : Grd) (w : BitVec 2) (rd rs1 rs2 : Reg) (s : State) : Host.Outcome State Fault Refusal :=
  run1 s e (encR g 0x30 rd rs1 rs2 (w.toNat * 64 + 0xb)) (lane2 (laneMap .maxu) g w rd rs1 rs2)

/-- LAND (R167, Table 04-2). -/
def execLand (e : Eid) (g : Grd) (w : BitVec 2) (rd rs1 rs2 : Reg) (s : State) : Host.Outcome State Fault Refusal :=
  run1 s e (encR g 0x30 rd rs1 rs2 (w.toNat * 64 + 0x10)) (lane2 (laneMap .and) g w rd rs1 rs2)

/-- LOR (R167, Table 04-2). -/
def execLor (e : Eid) (g : Grd) (w : BitVec 2) (rd rs1 rs2 : Reg) (s : State) : Host.Outcome State Fault Refusal :=
  run1 s e (encR g 0x30 rd rs1 rs2 (w.toNat * 64 + 0x11)) (lane2 (laneMap .or) g w rd rs1 rs2)

/-- LXOR (R167, Table 04-2). -/
def execLxor (e : Eid) (g : Grd) (w : BitVec 2) (rd rs1 rs2 : Reg) (s : State) : Host.Outcome State Fault Refusal :=
  run1 s e (encR g 0x30 rd rs1 rs2 (w.toNat * 64 + 0x12)) (lane2 (laneMap .xor) g w rd rs1 rs2)

/-- LANDN (R167, Table 04-2). -/
def execLandn (e : Eid) (g : Grd) (w : BitVec 2) (rd rs1 rs2 : Reg) (s : State) : Host.Outcome State Fault Refusal :=
  run1 s e (encR g 0x30 rd rs1 rs2 (w.toNat * 64 + 0x13)) (lane2 (laneMap .andn) g w rd rs1 rs2)

/-- LSLL (R167, Table 04-2). -/
def execLsll (e : Eid) (g : Grd) (w : BitVec 2) (rd rs1 rs2 : Reg) (s : State) : Host.Outcome State Fault Refusal :=
  run1 s e (encR g 0x30 rd rs1 rs2 (w.toNat * 64 + 0x14)) (lane2 (laneMap .sll) g w rd rs1 rs2)

/-- LSRL (R167, Table 04-2). -/
def execLsrl (e : Eid) (g : Grd) (w : BitVec 2) (rd rs1 rs2 : Reg) (s : State) : Host.Outcome State Fault Refusal :=
  run1 s e (encR g 0x30 rd rs1 rs2 (w.toNat * 64 + 0x15)) (lane2 (laneMap .srl) g w rd rs1 rs2)

/-- LSRA (R167, Table 04-2). -/
def execLsra (e : Eid) (g : Grd) (w : BitVec 2) (rd rs1 rs2 : Reg) (s : State) : Host.Outcome State Fault Refusal :=
  run1 s e (encR g 0x30 rd rs1 rs2 (w.toNat * 64 + 0x16)) (lane2 (laneMap .sra) g w rd rs1 rs2)

/-- LABS (R167, Table 04-2). -/
def execLabs (e : Eid) (g : Grd) (w : BitVec 2) (rd rs1 : Reg) (s : State) : Host.Outcome State Fault Refusal :=
  run1 s e (encR g 0x30 rd rs1 0 (w.toNat * 64 + 0xc)) (lane1 (fun w x => laneMap .abs w x 0) g w rd rs1)

/-- LNEGS (R167, Table 04-2). -/
def execLnegs (e : Eid) (g : Grd) (w : BitVec 2) (rd rs1 : Reg) (s : State) : Host.Outcome State Fault Refusal :=
  run1 s e (encR g 0x30 rd rs1 0 (w.toNat * 64 + 0xd)) (lane1 (fun w x => laneMap .negs w x 0) g w rd rs1)

/-- LSPLAT (R167, Table 04-2). -/
def execLsplat (e : Eid) (g : Grd) (w : BitVec 2) (rd rs1 : Reg) (s : State) : Host.Outcome State Fault Refusal :=
  run1 s e (encR g 0x30 rd rs1 0 (w.toNat * 64 + 0x20)) (lane1 (laneSplat) g w rd rs1)

/-- LPERM (R168). -/
def execLperm (e : Eid) (g : Grd) (rd rs1 rs2 : Reg) (s : State) : Host.Outcome State Fault Refusal := run1 s e (encR g 0x34 rd rs1 rs2 0) (lpermBody g rd rs1 rs2)

/-- LREV (R168). -/
def execLrev (e : Eid) (g : Grd) (w : BitVec 2) (rd rs1 : Reg) (s : State) : Host.Outcome State Fault Refusal :=
  run1 s e (encR g 0x34 rd rs1 0 (w.toNat * 64 + 0x01)) (lane1 lrev g w rd rs1)

/-- LZIPLO (R168, Table 04-3). -/
def execLziplo (e : Eid) (g : Grd) (w : BitVec 2) (rd rs1 rs2 : Reg) (s : State) : Host.Outcome State Fault Refusal :=
  run1 s e (encR g 0x34 rd rs1 rs2 (w.toNat * 64 + 0x2)) (lane2 (fun w => lzip w 0) g w rd rs1 rs2)

/-- LZIPHI (R168, Table 04-3). -/
def execLziphi (e : Eid) (g : Grd) (w : BitVec 2) (rd rs1 rs2 : Reg) (s : State) : Host.Outcome State Fault Refusal :=
  run1 s e (encR g 0x34 rd rs1 rs2 (w.toNat * 64 + 0x3)) (lane2 (fun w => lzip w (laneCount w / 2)) g w rd rs1 rs2)

/-- LUNZIPE (R168, Table 04-3). -/
def execLunzipe (e : Eid) (g : Grd) (w : BitVec 2) (rd rs1 rs2 : Reg) (s : State) : Host.Outcome State Fault Refusal :=
  run1 s e (encR g 0x34 rd rs1 rs2 (w.toNat * 64 + 0x4)) (lane2 (fun w => lunzip w 0) g w rd rs1 rs2)

/-- LUNZIPO (R168, Table 04-3). -/
def execLunzipo (e : Eid) (g : Grd) (w : BitVec 2) (rd rs1 rs2 : Reg) (s : State) : Host.Outcome State Fault Refusal :=
  run1 s e (encR g 0x34 rd rs1 rs2 (w.toNat * 64 + 0x5)) (lane2 (fun w => lunzip w 1) g w rd rs1 rs2)

/-- LPACKS (R168, Table 04-3). -/
def execLpacks (e : Eid) (g : Grd) (w : BitVec 2) (rd rs1 rs2 : Reg) (s : State) : Host.Outcome State Fault Refusal :=
  run1 s e (encR g 0x34 rd rs1 rs2 (w.toNat * 64 + 0x10)) (lane2 (lpack satS) g w rd rs1 rs2)

/-- LPACKUS (R168, Table 04-3). -/
def execLpackus (e : Eid) (g : Grd) (w : BitVec 2) (rd rs1 rs2 : Reg) (s : State) : Host.Outcome State Fault Refusal :=
  run1 s e (encR g 0x34 rd rs1 rs2 (w.toNat * 64 + 0x11)) (lane2 (lpack satU) g w rd rs1 rs2)

/-- LINS (R169). -/
def execLins (e : Eid) (g : Grd) (w : BitVec 2) (rd rs1 k : Reg) (s : State) : Host.Outcome State Fault Refusal :=
  run1 s e (encR g 0x34 rd rs1 k (w.toNat * 64 + 0x08)) (linsBody g w rd rs1 k)

/-- LEXT (R169). -/
def execLext (e : Eid) (g : Grd) (w : BitVec 2) (rd rs1 k : Reg) (s : State) : Host.Outcome State Fault Refusal :=
  run1 s e (encR g 0x34 rd rs1 k (w.toNat * 64 + 0x09)) (scalarResult g rd (lextVal false w rs1 k))

/-- LEXTS (R169). -/
def execLexts (e : Eid) (g : Grd) (w : BitVec 2) (rd rs1 k : Reg) (s : State) : Host.Outcome State Fault Refusal :=
  run1 s e (encR g 0x34 rd rs1 k (w.toNat * 64 + 0x0A)) (scalarResult g rd (lextVal true w rs1 k))

/-- LWIDEN.LO (R168). -/
def execLwidenLo (e : Eid) (g : Grd) (w : BitVec 2) (rd rs1 : Reg) (s : State) : Host.Outcome State Fault Refusal :=
  run1 s e (encR g 0x34 rd rs1 0 (w.toNat * 64 + 0x12)) (lwidenBody false g w rd rs1)

/-- LWIDEN.HI (R168). -/
def execLwidenHi (e : Eid) (g : Grd) (w : BitVec 2) (rd rs1 : Reg) (s : State) : Host.Outcome State Fault Refusal :=
  run1 s e (encR g 0x34 rd rs1 0 (w.toNat * 64 + 0x13)) (lwidenBody true g w rd rs1)

/-- PCMP.EQ (R170, R171). -/
def execPcmpEq (e : Eid) (g : Grd) (w : BitVec 2) (pd : Grd) (rs1 rs2 : Reg) (s : State) : Host.Outcome State Fault Refusal :=
  run1 s e (encR g 0x33 (pd.setWidth 5) rs1 rs2 (w.toNat * 64 + 0)) (pcmpBody .eq g w pd rs1 rs2)

/-- PCMP.NE (R170, R171). -/
def execPcmpNe (e : Eid) (g : Grd) (w : BitVec 2) (pd : Grd) (rs1 rs2 : Reg) (s : State) : Host.Outcome State Fault Refusal :=
  run1 s e (encR g 0x33 (pd.setWidth 5) rs1 rs2 (w.toNat * 64 + 1)) (pcmpBody .ne g w pd rs1 rs2)

/-- PCMP.LT (R170, R171). -/
def execPcmpLt (e : Eid) (g : Grd) (w : BitVec 2) (pd : Grd) (rs1 rs2 : Reg) (s : State) : Host.Outcome State Fault Refusal :=
  run1 s e (encR g 0x33 (pd.setWidth 5) rs1 rs2 (w.toNat * 64 + 2)) (pcmpBody .lt g w pd rs1 rs2)

/-- PCMP.LE (R170, R171). -/
def execPcmpLe (e : Eid) (g : Grd) (w : BitVec 2) (pd : Grd) (rs1 rs2 : Reg) (s : State) : Host.Outcome State Fault Refusal :=
  run1 s e (encR g 0x33 (pd.setWidth 5) rs1 rs2 (w.toNat * 64 + 3)) (pcmpBody .le g w pd rs1 rs2)

/-- PCMP.LTU (R170, R171). -/
def execPcmpLtu (e : Eid) (g : Grd) (w : BitVec 2) (pd : Grd) (rs1 rs2 : Reg) (s : State) : Host.Outcome State Fault Refusal :=
  run1 s e (encR g 0x33 (pd.setWidth 5) rs1 rs2 (w.toNat * 64 + 4)) (pcmpBody .ltu g w pd rs1 rs2)

/-- PCMP.LEU (R170, R171). -/
def execPcmpLeu (e : Eid) (g : Grd) (w : BitVec 2) (pd : Grd) (rs1 rs2 : Reg) (s : State) : Host.Outcome State Fault Refusal :=
  run1 s e (encR g 0x33 (pd.setWidth 5) rs1 rs2 (w.toNat * 64 + 5)) (pcmpBody .leu g w pd rs1 rs2)

/-- PAND (R170). -/
def execPand (e : Eid) (g pd ps1 ps2 : Grd) (s : State) : Host.Outcome State Fault Refusal :=
  run1 s e (encR g 0x33 (pd.setWidth 5) (ps1.setWidth 5) (ps2.setWidth 5) 0x10) (predBody (fun a b => a && b) g pd ps1 ps2)

/-- POR (R170). -/
def execPor (e : Eid) (g pd ps1 ps2 : Grd) (s : State) : Host.Outcome State Fault Refusal :=
  run1 s e (encR g 0x33 (pd.setWidth 5) (ps1.setWidth 5) (ps2.setWidth 5) 0x11) (predBody (fun a b => a || b) g pd ps1 ps2)

/-- PXOR (R170). -/
def execPxor (e : Eid) (g pd ps1 ps2 : Grd) (s : State) : Host.Outcome State Fault Refusal :=
  run1 s e (encR g 0x33 (pd.setWidth 5) (ps1.setWidth 5) (ps2.setWidth 5) 0x12) (predBody (fun a b => a != b) g pd ps1 ps2)

/-- PANDN (R170). -/
def execPandn (e : Eid) (g pd ps1 ps2 : Grd) (s : State) : Host.Outcome State Fault Refusal :=
  run1 s e (encR g 0x33 (pd.setWidth 5) (ps1.setWidth 5) (ps2.setWidth 5) 0x13) (predBody (fun a b => a && !b) g pd ps1 ps2)

/-- PNOT (R170). -/
def execPnot (e : Eid) (g pd ps1 : Grd) (s : State) : Host.Outcome State Fault Refusal :=
  run1 s e (encR g 0x33 (pd.setWidth 5) (ps1.setWidth 5) 0 0x14) (predBody (fun a _ => !a) g pd ps1 ps1)

/-- PSET (R170). -/
def execPset (e : Eid) (g pd : Grd) (rs1 : Reg) (s : State) : Host.Outcome State Fault Refusal :=
  run1 s e (encR g 0x33 (pd.setWidth 5) rs1 0 0x18) (predFrom (fun v i => bit v i) g pd rs1)

/-- PGET (R170). -/
def execPget (e : Eid) (g : Grd) (rd : Reg) (ps1 : Grd) (s : State) : Host.Outcome State Fault Refusal :=
  run1 s e (encR g 0x33 rd (ps1.setWidth 5) 0 0x19) (scalarResult g rd (pgetVal ps1))

/-- PTAIL (R170). -/
def execPtail (e : Eid) (g pd : Grd) (rs1 : Reg) (s : State) : Host.Outcome State Fault Refusal :=
  run1 s e (encR g 0x33 (pd.setWidth 5) rs1 0 0x1A) (predFrom (fun v i => decide (i < Nat.min v.toNat 16)) g pd rs1)

/-- MAC (R173, Table 04-5). -/
def execMac (e : Eid) (g : Grd) (w ad : BitVec 2) (rs1 rs2 : Reg) (s : State) : Host.Outcome State Fault Refusal :=
  run1 s e (encR g 0x31 (ad.setWidth 5) rs1 rs2 (w.toNat * 64 + 0)) (lmacBody .mac g w ad rs1 rs2)

/-- MACU (R173, Table 04-5). -/
def execMacu (e : Eid) (g : Grd) (w ad : BitVec 2) (rs1 rs2 : Reg) (s : State) : Host.Outcome State Fault Refusal :=
  run1 s e (encR g 0x31 (ad.setWidth 5) rs1 rs2 (w.toNat * 64 + 1)) (lmacBody .macu g w ad rs1 rs2)

/-- MSU (R173, Table 04-5). -/
def execMsu (e : Eid) (g : Grd) (w ad : BitVec 2) (rs1 rs2 : Reg) (s : State) : Host.Outcome State Fault Refusal :=
  run1 s e (encR g 0x31 (ad.setWidth 5) rs1 rs2 (w.toNat * 64 + 2)) (lmacBody .msu g w ad rs1 rs2)

/-- MACQ (R173, Table 04-5). -/
def execMacq (e : Eid) (g : Grd) (w ad : BitVec 2) (rs1 rs2 : Reg) (s : State) : Host.Outcome State Fault Refusal :=
  run1 s e (encR g 0x31 (ad.setWidth 5) rs1 rs2 (w.toNat * 64 + 3)) (lmacBody .macq g w ad rs1 rs2)

/-- AZERO (R174). -/
def execAzero (e : Eid) (g : Grd) (ad : BitVec 2) (s : State) : Host.Outcome State Fault Refusal := run1 s e (encR g 0x32 (ad.setWidth 5) 0 0 0) (azeroBody g ad)

/-- ASETLO (R174). -/
def execAsetlo (e : Eid) (g : Grd) (ad : BitVec 2) (rs1 : Reg) (s : State) : Host.Outcome State Fault Refusal :=
  run1 s e (encR g 0x32 (ad.setWidth 5) rs1 0 1) (asetBody 0 g ad rs1)

/-- ASETHI (R174). -/
def execAsethi (e : Eid) (g : Grd) (ad : BitVec 2) (rs1 : Reg) (s : State) : Host.Outcome State Fault Refusal :=
  run1 s e (encR g 0x32 (ad.setWidth 5) rs1 0 2) (asetBody 2 g ad rs1)

/-- AGETLO (R174). -/
def execAgetlo (e : Eid) (g : Grd) (rd : Reg) (src : BitVec 2) (s : State) : Host.Outcome State Fault Refusal :=
  run1 s e (encR g 0x32 rd (src.setWidth 5) 0 3) (agetBody 0 g rd src)

/-- AGETHI (R174). -/
def execAgethi (e : Eid) (g : Grd) (rd : Reg) (src : BitVec 2) (s : State) : Host.Outcome State Fault Refusal :=
  run1 s e (encR g 0x32 rd (src.setWidth 5) 0 4) (agetBody 2 g rd src)

/-- ANARROW (R175). -/
def execAnarrow (e : Eid) (g : Grd) (w : BitVec 2) (rd : Reg) (src : BitVec 2) (rs2 : Reg) (s : State) : Host.Outcome State Fault Refusal :=
  run1 s e (encR g 0x32 rd (src.setWidth 5) rs2 (w.toNat * 64 + 5)) (anarrowBody g w rd src rs2)

/-- AREDUCE (R176). -/
def execAreduce (e : Eid) (g : Grd) (rd : Reg) (src : BitVec 2) (s : State) : Host.Outcome State Fault Refusal :=
  run1 s e (encR g 0x32 rd (src.setWidth 5) 0 6) (areduceBody g rd src)

/-- ASAT (R174). -/
def execAsat (e : Eid) (g : Grd) (rd : Reg) (src : BitVec 2) (s : State) : Host.Outcome State Fault Refusal :=
  run1 s e (encR g 0x32 rd (src.setWidth 5) 0 7) (scalarResult g rd (asatVal src))

/-- AMOVE (R174). -/
def execAmove (e : Eid) (g : Grd) (ad src : BitVec 2) (s : State) : Host.Outcome State Fault Refusal :=
  run1 s e (encR g 0x32 (ad.setWidth 5) (src.setWidth 5) 0 8) (amoveBody g ad src)

end Sys2Proof.Machine
end

