-- ==== Sys2Proof/Machine/Dispatch.lean ====
section
/-!
DEFINITION. Machine/Dispatch.lean: one arm per command of spec/opcode_table.json, each a call of its meaning.
-/

namespace Sys2Proof.Machine

open Sys2Proof

/-- The effect of a command on everything but the queue. -/
def exec (i : Instr) (s : State) : Host.Outcome State Fault Refusal :=
  match i with
  | .add e g rd rs1 rs2 => Sys2Proof.Machine.execAdd e g rd rs1 rs2 s
  | .addu e g rd rs1 rs2 => Sys2Proof.Machine.execAddu e g rd rs1 rs2 s
  | .sub e g rd rs1 rs2 => Sys2Proof.Machine.execSub e g rd rs1 rs2 s
  | .subu e g rd rs1 rs2 => Sys2Proof.Machine.execSubu e g rd rs1 rs2 s
  | .neg e g rd rs1 => Sys2Proof.Machine.execNeg e g rd rs1 s
  | .cmp e g rs1 rs2 => Sys2Proof.Machine.execCmp e g rs1 rs2 s
  | .and e g rd rs1 rs2 => Sys2Proof.Machine.execAnd e g rd rs1 rs2 s
  | .or e g rd rs1 rs2 => Sys2Proof.Machine.execOr e g rd rs1 rs2 s
  | .xor e g rd rs1 rs2 => Sys2Proof.Machine.execXor e g rd rs1 rs2 s
  | .andn e g rd rs1 rs2 => Sys2Proof.Machine.execAndn e g rd rs1 rs2 s
  | .orn e g rd rs1 rs2 => Sys2Proof.Machine.execOrn e g rd rs1 rs2 s
  | .tst e g rs1 rs2 => Sys2Proof.Machine.execTst e g rs1 rs2 s
  | .sll e g rd rs1 rs2 => Sys2Proof.Machine.execSll e g rd rs1 rs2 s
  | .srl e g rd rs1 rs2 => Sys2Proof.Machine.execSrl e g rd rs1 rs2 s
  | .sra e g rd rs1 rs2 => Sys2Proof.Machine.execSra e g rd rs1 rs2 s
  | .rol e g rd rs1 rs2 => Sys2Proof.Machine.execRol e g rd rs1 rs2 s
  | .ror e g rd rs1 rs2 => Sys2Proof.Machine.execRor e g rd rs1 rs2 s
  | .min e g rd rs1 rs2 => Sys2Proof.Machine.execMin e g rd rs1 rs2 s
  | .max e g rd rs1 rs2 => Sys2Proof.Machine.execMax e g rd rs1 rs2 s
  | .minu e g rd rs1 rs2 => Sys2Proof.Machine.execMinu e g rd rs1 rs2 s
  | .maxu e g rd rs1 rs2 => Sys2Proof.Machine.execMaxu e g rd rs1 rs2 s
  | .clz e g rd rs1 => Sys2Proof.Machine.execClz e g rd rs1 s
  | .ctz e g rd rs1 => Sys2Proof.Machine.execCtz e g rd rs1 s
  | .popc e g rd rs1 => Sys2Proof.Machine.execPopc e g rd rs1 s
  | .sxb e g rd rs1 => Sys2Proof.Machine.execSxb e g rd rs1 s
  | .sxh e g rd rs1 => Sys2Proof.Machine.execSxh e g rd rs1 s
  | .sxw e g rd rs1 => Sys2Proof.Machine.execSxw e g rd rs1 s
  | .zxb e g rd rs1 => Sys2Proof.Machine.execZxb e g rd rs1 s
  | .zxh e g rd rs1 => Sys2Proof.Machine.execZxh e g rd rs1 s
  | .zxw e g rd rs1 => Sys2Proof.Machine.execZxw e g rd rs1 s
  | .mul e g rd rs1 rs2 => Sys2Proof.Machine.execMul e g rd rs1 rs2 s
  | .mulu e g rd rs1 rs2 => Sys2Proof.Machine.execMulu e g rd rs1 rs2 s
  | .mulh e g rd rs1 rs2 => Sys2Proof.Machine.execMulh e g rd rs1 rs2 s
  | .mulhu e g rd rs1 rs2 => Sys2Proof.Machine.execMulhu e g rd rs1 rs2 s
  | .div e g rd rs1 rs2 => Sys2Proof.Machine.execDiv e g rd rs1 rs2 s
  | .divu e g rd rs1 rs2 => Sys2Proof.Machine.execDivu e g rd rs1 rs2 s
  | .rem e g rd rs1 rs2 => Sys2Proof.Machine.execRem e g rd rs1 rs2 s
  | .remu e g rd rs1 rs2 => Sys2Proof.Machine.execRemu e g rd rs1 rs2 s
  | .addi e g rd rs1 imm => Sys2Proof.Machine.execAddi e g rd rs1 imm s
  | .addui e g rd rs1 imm => Sys2Proof.Machine.execAddui e g rd rs1 imm s
  | .andi e g rd rs1 imm => Sys2Proof.Machine.execAndi e g rd rs1 imm s
  | .ori e g rd rs1 imm => Sys2Proof.Machine.execOri e g rd rs1 imm s
  | .xori e g rd rs1 imm => Sys2Proof.Machine.execXori e g rd rs1 imm s
  | .cmpi e g rs1 imm => Sys2Proof.Machine.execCmpi e g rs1 imm s
  | .shi e g rd rs1 imm => Sys2Proof.Machine.execShi e g rd rs1 imm s
  | .movi e g rd imm => Sys2Proof.Machine.execMovi e g rd imm s
  | .movk e g rd imm => Sys2Proof.Machine.execMovk e g rd imm s
  | .sel e g cond rd rs1 rs2 => Sys2Proof.Machine.execSel e g cond rd rs1 rs2 s
  | .cmov e g cond rd rs1 => Sys2Proof.Machine.execCmov e g cond rd rs1 s
  | .b e g cond off => Sys2Proof.Machine.execB e g cond off s
  | .jal e g rd imm => Sys2Proof.Machine.execJal e g rd imm s
  | .jr e g rd rs1 => Sys2Proof.Machine.execJr e g rd rs1 s
  | .cmove e g rd rs1 => Sys2Proof.Machine.execCmove e g rd rs1 s
  | .cmoveSet e g rd rs1 rs2 => Sys2Proof.Machine.execCmoveSet e g rd rs1 rs2 s
  | .cmoveAdd e g rd rs1 rs2 => Sys2Proof.Machine.execCmoveAdd e g rd rs1 rs2 s
  | .cmoveAddi e g rd rs1 imm => Sys2Proof.Machine.execCmoveAddi e g rd rs1 imm s
  | .cnarrow e g rd rs1 rs2 => Sys2Proof.Machine.execCnarrow e g rd rs1 rs2 s
  | .cmask e g rd rs1 rs2 => Sys2Proof.Machine.execCmask e g rd rs1 rs2 s
  | .cseal e g rd rs1 rs2 => Sys2Proof.Machine.execCseal e g rd rs1 rs2 s
  | .copen e g rd rs1 rs2 => Sys2Proof.Machine.execCopen e g rd rs1 rs2 s
  | .ckind e g rd rs1 => Sys2Proof.Machine.execCkind e g rd rs1 s
  | .ckindPerm e g rd rs1 => Sys2Proof.Machine.execCkindPerm e g rd rs1 s
  | .ckindOtype e g rd rs1 => Sys2Proof.Machine.execCkindOtype e g rd rs1 s
  | .ckindLin e g rd rs1 => Sys2Proof.Machine.execCkindLin e g rd rs1 s
  | .cbase e g rd rs1 => Sys2Proof.Machine.execCbase e g rd rs1 s
  | .cbaseCur e g rd rs1 => Sys2Proof.Machine.execCbaseCur e g rd rs1 s
  | .clen e g rd rs1 => Sys2Proof.Machine.execClen e g rd rs1 s
  | .clenR e g rd rs1 => Sys2Proof.Machine.execClenR e g rd rs1 s
  | .clenM e g rd rs1 => Sys2Proof.Machine.execClenM e g rd rs1 s
  | .ldb e g rd rs1 imm => Sys2Proof.Machine.execLdb e g rd rs1 imm s
  | .ldbu e g rd rs1 imm => Sys2Proof.Machine.execLdbu e g rd rs1 imm s
  | .ldh e g rd rs1 imm => Sys2Proof.Machine.execLdh e g rd rs1 imm s
  | .ldhu e g rd rs1 imm => Sys2Proof.Machine.execLdhu e g rd rs1 imm s
  | .ldw e g rd rs1 imm => Sys2Proof.Machine.execLdw e g rd rs1 imm s
  | .ldwu e g rd rs1 imm => Sys2Proof.Machine.execLdwu e g rd rs1 imm s
  | .ldd e g rd rs1 imm => Sys2Proof.Machine.execLdd e g rd rs1 imm s
  | .ldq e g rd rs1 imm => Sys2Proof.Machine.execLdq e g rd rs1 imm s
  | .stb e g rv rs1 imm => Sys2Proof.Machine.execStb e g rv rs1 imm s
  | .sth e g rv rs1 imm => Sys2Proof.Machine.execSth e g rv rs1 imm s
  | .stw e g rv rs1 imm => Sys2Proof.Machine.execStw e g rv rs1 imm s
  | .std e g rv rs1 imm => Sys2Proof.Machine.execStd e g rv rs1 imm s
  | .stq e g rv rs1 imm => Sys2Proof.Machine.execStq e g rv rs1 imm s
  | .ldx e g rd rs1 ix mode size sx => Sys2Proof.Machine.execLdx e g rd rs1 ix mode size sx s
  | .stx e g rv rs1 ix mode size => Sys2Proof.Machine.execStx e g rv rs1 ix mode size s
  | .ldu e g rd rs1 ix mode size sx => Sys2Proof.Machine.execLdu e g rd rs1 ix mode size sx s
  | .stu e g rv rs1 ix mode size => Sys2Proof.Machine.execStu e g rv rs1 ix mode size s
  | .tas e g rd rs1 => Sys2Proof.Machine.execTas e g rd rs1 s
  | .lres e g rd rs1 => Sys2Proof.Machine.execLres e g rd rs1 s
  | .scnd e g rd rs1 rs2 => Sys2Proof.Machine.execScnd e g rd rs1 rs2 s
  | .barAcq e g => Sys2Proof.Machine.execBarAcq e g s
  | .barRel e g => Sys2Proof.Machine.execBarRel e g s
  | .barFull e g => Sys2Proof.Machine.execBarFull e g s
  | .msync e g => Sys2Proof.Machine.execMsync e g s
  | .trap e g num => Sys2Proof.Machine.execTrap e g num s
  | .gsr e g rd sr => Sys2Proof.Machine.execGsr e g rd sr s
  | .ssr e g sr rs1 => Sys2Proof.Machine.execSsr e g sr rs1 s
  | .nop e g => Sys2Proof.Machine.execNop e g s
  | .xret e g => Sys2Proof.Machine.execXret e g s
  | .pflush e g => Sys2Proof.Machine.execPflush e g s
  | .pbar e g => Sys2Proof.Machine.execPbar e g s
  | .tinvAll e g => Sys2Proof.Machine.execTinvAll e g s
  | .tinvAsid e g rs1 => Sys2Proof.Machine.execTinvAsid e g rs1 s
  | .tinvVa e g rs1 rs2 => Sys2Proof.Machine.execTinvVa e g rs1 rs2 s
  | .tinvBcast e g rs1 rs2 => Sys2Proof.Machine.execTinvBcast e g rs1 rs2 s
  | .wait e g => Sys2Proof.Machine.execWait e g s
  | .loop e g lvl rs1 end13 => Sys2Proof.Machine.execLoop e g lvl rs1 end13 s
  | .loopi e g lvl cnt end13 => Sys2Proof.Machine.execLoopi e g lvl cnt end13 s
  | .lclr e g lvl => Sys2Proof.Machine.execLclr e g lvl s
  | .cpyb e g rd rs1 rs2 => Sys2Proof.Machine.execCpyb e g rd rs1 rs2 s
  | .fillb e g rd rs1 rs2 => Sys2Proof.Machine.execFillb e g rd rs1 rs2 s
  | .fillbP e g rd rs2 => Sys2Proof.Machine.execFillbP e g rd rs2 s
  | .sweep e g rd rs2 => Sys2Proof.Machine.execSweep e g rd rs2 s
  | .macr e g w acc rd rs1 rs2 => Sys2Proof.Machine.execMacr e g w acc rd rs1 rs2 s
  | .macru e g w acc rd rs1 rs2 => Sys2Proof.Machine.execMacru e g w acc rd rs1 rs2 s
  | .macrq e g w acc rd rs1 rs2 => Sys2Proof.Machine.execMacrq e g w acc rd rs1 rs2 s
  | .longChunk e => Sys2Proof.Machine.execLongChunk e s
  | .ladd e g w rd rs1 rs2 => Sys2Proof.Machine.execLadd e g w rd rs1 rs2 s
  | .ladds e g w rd rs1 rs2 => Sys2Proof.Machine.execLadds e g w rd rs1 rs2 s
  | .laddus e g w rd rs1 rs2 => Sys2Proof.Machine.execLaddus e g w rd rs1 rs2 s
  | .lsub e g w rd rs1 rs2 => Sys2Proof.Machine.execLsub e g w rd rs1 rs2 s
  | .lsubs e g w rd rs1 rs2 => Sys2Proof.Machine.execLsubs e g w rd rs1 rs2 s
  | .lsubus e g w rd rs1 rs2 => Sys2Proof.Machine.execLsubus e g w rd rs1 rs2 s
  | .lmul e g w rd rs1 rs2 => Sys2Proof.Machine.execLmul e g w rd rs1 rs2 s
  | .lmulq e g w rd rs1 rs2 => Sys2Proof.Machine.execLmulq e g w rd rs1 rs2 s
  | .lmin e g w rd rs1 rs2 => Sys2Proof.Machine.execLmin e g w rd rs1 rs2 s
  | .lmax e g w rd rs1 rs2 => Sys2Proof.Machine.execLmax e g w rd rs1 rs2 s
  | .lminu e g w rd rs1 rs2 => Sys2Proof.Machine.execLminu e g w rd rs1 rs2 s
  | .lmaxu e g w rd rs1 rs2 => Sys2Proof.Machine.execLmaxu e g w rd rs1 rs2 s
  | .labs e g w rd rs1 => Sys2Proof.Machine.execLabs e g w rd rs1 s
  | .lnegs e g w rd rs1 => Sys2Proof.Machine.execLnegs e g w rd rs1 s
  | .land e g w rd rs1 rs2 => Sys2Proof.Machine.execLand e g w rd rs1 rs2 s
  | .lor e g w rd rs1 rs2 => Sys2Proof.Machine.execLor e g w rd rs1 rs2 s
  | .lxor e g w rd rs1 rs2 => Sys2Proof.Machine.execLxor e g w rd rs1 rs2 s
  | .landn e g w rd rs1 rs2 => Sys2Proof.Machine.execLandn e g w rd rs1 rs2 s
  | .lsll e g w rd rs1 rs2 => Sys2Proof.Machine.execLsll e g w rd rs1 rs2 s
  | .lsrl e g w rd rs1 rs2 => Sys2Proof.Machine.execLsrl e g w rd rs1 rs2 s
  | .lsra e g w rd rs1 rs2 => Sys2Proof.Machine.execLsra e g w rd rs1 rs2 s
  | .lsplat e g w rd rs1 => Sys2Proof.Machine.execLsplat e g w rd rs1 s
  | .lperm e g rd rs1 rs2 => Sys2Proof.Machine.execLperm e g rd rs1 rs2 s
  | .lrev e g w rd rs1 => Sys2Proof.Machine.execLrev e g w rd rs1 s
  | .lziplo e g w rd rs1 rs2 => Sys2Proof.Machine.execLziplo e g w rd rs1 rs2 s
  | .lziphi e g w rd rs1 rs2 => Sys2Proof.Machine.execLziphi e g w rd rs1 rs2 s
  | .lunzipe e g w rd rs1 rs2 => Sys2Proof.Machine.execLunzipe e g w rd rs1 rs2 s
  | .lunzipo e g w rd rs1 rs2 => Sys2Proof.Machine.execLunzipo e g w rd rs1 rs2 s
  | .lins e g w rd rs1 k => Sys2Proof.Machine.execLins e g w rd rs1 k s
  | .lext e g w rd rs1 k => Sys2Proof.Machine.execLext e g w rd rs1 k s
  | .lexts e g w rd rs1 k => Sys2Proof.Machine.execLexts e g w rd rs1 k s
  | .lpacks e g w rd rs1 rs2 => Sys2Proof.Machine.execLpacks e g w rd rs1 rs2 s
  | .lpackus e g w rd rs1 rs2 => Sys2Proof.Machine.execLpackus e g w rd rs1 rs2 s
  | .lwidenLo e g w rd rs1 => Sys2Proof.Machine.execLwidenLo e g w rd rs1 s
  | .lwidenHi e g w rd rs1 => Sys2Proof.Machine.execLwidenHi e g w rd rs1 s
  | .pcmpEq e g w pd rs1 rs2 => Sys2Proof.Machine.execPcmpEq e g w pd rs1 rs2 s
  | .pcmpNe e g w pd rs1 rs2 => Sys2Proof.Machine.execPcmpNe e g w pd rs1 rs2 s
  | .pcmpLt e g w pd rs1 rs2 => Sys2Proof.Machine.execPcmpLt e g w pd rs1 rs2 s
  | .pcmpLe e g w pd rs1 rs2 => Sys2Proof.Machine.execPcmpLe e g w pd rs1 rs2 s
  | .pcmpLtu e g w pd rs1 rs2 => Sys2Proof.Machine.execPcmpLtu e g w pd rs1 rs2 s
  | .pcmpLeu e g w pd rs1 rs2 => Sys2Proof.Machine.execPcmpLeu e g w pd rs1 rs2 s
  | .pand e g pd ps1 ps2 => Sys2Proof.Machine.execPand e g pd ps1 ps2 s
  | .por e g pd ps1 ps2 => Sys2Proof.Machine.execPor e g pd ps1 ps2 s
  | .pxor e g pd ps1 ps2 => Sys2Proof.Machine.execPxor e g pd ps1 ps2 s
  | .pandn e g pd ps1 ps2 => Sys2Proof.Machine.execPandn e g pd ps1 ps2 s
  | .pnot e g pd ps1 => Sys2Proof.Machine.execPnot e g pd ps1 s
  | .pset e g pd rs1 => Sys2Proof.Machine.execPset e g pd rs1 s
  | .pget e g rd ps1 => Sys2Proof.Machine.execPget e g rd ps1 s
  | .ptail e g pd rs1 => Sys2Proof.Machine.execPtail e g pd rs1 s
  | .mac e g w ad rs1 rs2 => Sys2Proof.Machine.execMac e g w ad rs1 rs2 s
  | .macu e g w ad rs1 rs2 => Sys2Proof.Machine.execMacu e g w ad rs1 rs2 s
  | .msu e g w ad rs1 rs2 => Sys2Proof.Machine.execMsu e g w ad rs1 rs2 s
  | .macq e g w ad rs1 rs2 => Sys2Proof.Machine.execMacq e g w ad rs1 rs2 s
  | .azero e g ad => Sys2Proof.Machine.execAzero e g ad s
  | .asetlo e g ad rs1 => Sys2Proof.Machine.execAsetlo e g ad rs1 s
  | .asethi e g ad rs1 => Sys2Proof.Machine.execAsethi e g ad rs1 s
  | .agetlo e g rd src => Sys2Proof.Machine.execAgetlo e g rd src s
  | .agethi e g rd src => Sys2Proof.Machine.execAgethi e g rd src s
  | .anarrow e g w rd src rs2 => Sys2Proof.Machine.execAnarrow e g w rd src rs2 s
  | .areduce e g rd src => Sys2Proof.Machine.execAreduce e g rd src s
  | .asat e g rd src => Sys2Proof.Machine.execAsat e g rd src s
  | .amove e g ad src => Sys2Proof.Machine.execAmove e g ad src s
  | .l1dLineFill e upset => Sys2Proof.Machine.execL1dLineFill e upset s
  | .storeBufferWrite e => Sys2Proof.Machine.execStoreBufferWrite e s
  | .impreciseUmeEntry e => Sys2Proof.Machine.execImpreciseUmeEntry e s
  | .wrongPathFetch e a => Sys2Proof.Machine.execWrongPathFetch e a s
  | .lineageFilterFill e => Sys2Proof.Machine.execLineageFilterFill e s
  | .tableWalk e => Sys2Proof.Machine.execTableWalk e s
  | .tlbEntryExpire e walkCache idx => Sys2Proof.Machine.execTlbEntryExpire e walkCache idx s
  | .bcastInvalidateAck e => Sys2Proof.Machine.execBcastInvalidateAck e s
  | .eventDelivery id => Sys2Proof.Machine.execEventDelivery id s
  | .eventEntry e => Sys2Proof.Machine.execEventEntry e s
  | .schedulingDecision e => Sys2Proof.Machine.execSchedulingDecision e s
  | .taskSwitch e => Sys2Proof.Machine.execTaskSwitch e s
  | .sliceExpiry e => Sys2Proof.Machine.execSliceExpiry e s
  | .evrRaise m data => Sys2Proof.Machine.execEvrRaise m data s
  | .evrBind m n data => Sys2Proof.Machine.execEvrBind m n data s
  | .bind m e slot => Sys2Proof.Machine.execBind m e slot s
  | .unbind m e slot => Sys2Proof.Machine.execUnbind m e slot s
  | .suspend m e slot => Sys2Proof.Machine.execSuspend m e slot s
  | .resume m e slot => Sys2Proof.Machine.execResume m e slot s
  | .wake m e slot vec => Sys2Proof.Machine.execWake m e slot vec s
  | .spill m e chuck => Sys2Proof.Machine.execSpill m e chuck s
  | .query m e slot => Sys2Proof.Machine.execQuery m e slot s
  | .reload m e slot => Sys2Proof.Machine.execReload m e slot s
  | .schedCommandComplete e => Sys2Proof.Machine.execSchedCommandComplete e s
  | .alloc m idx owner => Sys2Proof.Machine.execAlloc m idx owner s
  | .revoke m idx => Sys2Proof.Machine.execRevoke m idx s
  | .retire m idx => Sys2Proof.Machine.execRetire m idx s
  | .free m idx => Sys2Proof.Machine.execFree m idx s
  | .mint m idx => Sys2Proof.Machine.execMint m idx s
  | .read m idx => Sys2Proof.Machine.execRead m idx s
  | .check m idx => Sys2Proof.Machine.execCheck m idx s
  | .filterInvalidateAck e => Sys2Proof.Machine.execFilterInvalidateAck e s
  | .linBroadcastTimeout => Sys2Proof.Machine.execLinBroadcastTimeout s
  | .linCommandComplete => Sys2Proof.Machine.execLinCommandComplete s
  | .mpuRattr m u k data => Sys2Proof.Machine.execMpuRattr m u k data s
  | .mpuSync m u => Sys2Proof.Machine.execMpuSync m u s
  | .mpuSyncDone u => Sys2Proof.Machine.execMpuSyncDone u s
  | .mpuFinfoClear m u => Sys2Proof.Machine.execMpuFinfoClear m u s
  | .ceWriteBack a => Sys2Proof.Machine.execCeWriteBack a s
  | .apply m c data => Sys2Proof.Machine.execApply m c data s
  | .applyComplete c => Sys2Proof.Machine.execApplyComplete c s
  | .dramTrainingComplete chB ok => Sys2Proof.Machine.execDramTrainingComplete chB ok s
  | .dqsRetrain chB ok => Sys2Proof.Machine.execDqsRetrain chB ok s
  | .scrubPassStart u => Sys2Proof.Machine.execScrubPassStart u s
  | .scrubCellRead u => Sys2Proof.Machine.execScrubCellRead u s
  | .scrbFillStart m k => Sys2Proof.Machine.execScrbFillStart m k s
  | .scrbFillComplete k => Sys2Proof.Machine.execScrbFillComplete k s
  | .smHead m t data => Sys2Proof.Machine.execSmHead m t data s
  | .smBurst t => Sys2Proof.Machine.execSmBurst t s
  | .smRestart m t => Sys2Proof.Machine.execSmRestart m t s
  | .smErrClear m t => Sys2Proof.Machine.execSmErrClear m t s
  | .forcedSignaturePoint p => Sys2Proof.Machine.execForcedSignaturePoint p s
  | .signatureCompare p => Sys2Proof.Machine.execSignatureCompare p s
  | .signatureTimeout p => Sys2Proof.Machine.execSignatureTimeout p s
  | .leadTimeout p => Sys2Proof.Machine.execLeadTimeout p s
  | .gatedActTimeout p => Sys2Proof.Machine.execGatedActTimeout p s
  | .unpairedActForward e => Sys2Proof.Machine.execUnpairedActForward e s
  | .engineHang e => Sys2Proof.Machine.execEngineHang e s
  | .clockMonitorWindow monB bad => Sys2Proof.Machine.execClockMonitorWindow monB bad s
  | .supplyMonitorTrip coreMismatch => Sys2Proof.Machine.execSupplyMonitorTrip coreMismatch s
  | .caliperSelfTest pass => Sys2Proof.Machine.execCaliperSelfTest pass s
  | .monitorSelfTest clockPass supplyPass => Sys2Proof.Machine.execMonitorSelfTest clockPass supplyPass s
  | .vermilionEdge => Sys2Proof.Machine.execVermilionEdge s
  | .safeOutputMismatch vermilion => Sys2Proof.Machine.execSafeOutputMismatch vermilion s
  | .kickWindowExpire => Sys2Proof.Machine.execKickWindowExpire s
  | .modeCopyMismatch => Sys2Proof.Machine.execModeCopyMismatch s
  | .safeMode m data => Sys2Proof.Machine.execSafeMode m data s
  | .safeKick m data => Sys2Proof.Machine.execSafeKick m data s
  | .safeKcfg m data => Sys2Proof.Machine.execSafeKcfg m data s
  | .safePol m data => Sys2Proof.Machine.execSafePol m data s
  | .cretalLockstepMismatch => Sys2Proof.Machine.execCretalLockstepMismatch s
  | .partnerFrameTransmit p => Sys2Proof.Machine.execPartnerFrameTransmit p s
  | .partnerFrameReceive p f => Sys2Proof.Machine.execPartnerFrameReceive p f s
  | .descRetry p => Sys2Proof.Machine.execDescRetry p s
  | .cmdRetransmit p => Sys2Proof.Machine.execCmdRetransmit p s
  | .portCmd m p data => Sys2Proof.Machine.execPortCmd m p data s
  | .portLinken m p en => Sys2Proof.Machine.execPortLinken m p en s
  | .portCtlRestart m p => Sys2Proof.Machine.execPortCtlRestart m p s
  | .portDmaBurst p => Sys2Proof.Machine.execPortDmaBurst p s
  | .portDmaErrClear m p => Sys2Proof.Machine.execPortDmaErrClear m p s
  | .coarse m p => Sys2Proof.Machine.execCoarse m p s
  | .fine m p => Sys2Proof.Machine.execFine m p s
  | .abort m p => Sys2Proof.Machine.execAbort m p s
  | .tdrNoconfTimeout p => Sys2Proof.Machine.execTdrNoconfTimeout p s
  | .tdrProbe p samples => Sys2Proof.Machine.execTdrProbe p samples s
  | .tdrResultWrite p => Sys2Proof.Machine.execTdrResultWrite p s
  | .senseRun m run => Sys2Proof.Machine.execSenseRun m run s
  | .senseSingle m => Sys2Proof.Machine.execSenseSingle m s
  | .senseConversion code => Sys2Proof.Machine.execSenseConversion code s
  | .senseStatRead m => Sys2Proof.Machine.execSenseStatRead m s
  | .noiseStart m => Sys2Proof.Machine.execNoiseStart m s
  | .noiseMeasurementComplete r => Sys2Proof.Machine.execNoiseMeasurementComplete r s
  | .enumSend => Sys2Proof.Machine.execEnumSend s
  | .enumReceive trk1 f => Sys2Proof.Machine.execEnumReceive trk1 f s
  | .syncSend => Sys2Proof.Machine.execSyncSend s
  | .syncReceive trk1 f => Sys2Proof.Machine.execSyncReceive trk1 f s
  | .syncTimeout => Sys2Proof.Machine.execSyncTimeout s
  | .dreqSend trk1 => Sys2Proof.Machine.execDreqSend trk1 s
  | .dreqReceive trk1 f => Sys2Proof.Machine.execDreqReceive trk1 f s
  | .drspReceive trk1 f => Sys2Proof.Machine.execDrspReceive trk1 f s
  | .mbxFrameReceive trk1 f => Sys2Proof.Machine.execMbxFrameReceive trk1 f s
  | .budgetFrameSend => Sys2Proof.Machine.execBudgetFrameSend s
  | .budgetFrameReceive trk1 f => Sys2Proof.Machine.execBudgetFrameReceive trk1 f s
  | .budgetShareTimeout => Sys2Proof.Machine.execBudgetShareTimeout s
  | .trunkLinkDown trk1 => Sys2Proof.Machine.execTrunkLinkDown trk1 s
  | .timeSetHi m data => Sys2Proof.Machine.execTimeSetHi m data s
  | .ethTxcmd m eth1 data => Sys2Proof.Machine.execEthTxcmd m eth1 data s
  | .ethTransmitComplete eth1 => Sys2Proof.Machine.execEthTransmitComplete eth1 s
  | .ethFrameReceive eth1 wire => Sys2Proof.Machine.execEthFrameReceive eth1 wire s
  | .ethLinkChange eth1 up speed => Sys2Proof.Machine.execEthLinkChange eth1 up speed s
  | .mbxReqWrite m n ofs data => Sys2Proof.Machine.execMbxReqWrite m n ofs data s
  | .ring m n => Sys2Proof.Machine.execRing m n s
  | .ack m n => Sys2Proof.Machine.execAck m n s
  | .take m n => Sys2Proof.Machine.execTake m n s
  | .done m n => Sys2Proof.Machine.execDone m n s
  | .mbxReset m n => Sys2Proof.Machine.execMbxReset m n s
  | .cretalEventService => Sys2Proof.Machine.execCretalEventService s
  | .cretalPeriodicScan => Sys2Proof.Machine.execCretalPeriodicScan s
  | .getInfo n => Sys2Proof.Machine.execGetInfo n s
  | .heartbeat n => Sys2Proof.Machine.execHeartbeat n s
  | .getHealth n => Sys2Proof.Machine.execGetHealth n s
  | .readLog n => Sys2Proof.Machine.execReadLog n s
  | .imgList n => Sys2Proof.Machine.execImgList n s
  | .imgWrite n => Sys2Proof.Machine.execImgWrite n s
  | .imgCommit n => Sys2Proof.Machine.execImgCommit n s
  | .imgErase n => Sys2Proof.Machine.execImgErase n s
  | .lifecycle n => Sys2Proof.Machine.execLifecycle n s
  | .otpKey n => Sys2Proof.Machine.execOtpKey n s
  | .engineStart n => Sys2Proof.Machine.execEngineStart n s
  | .taskCreate n => Sys2Proof.Machine.execTaskCreate n s
  | .taskSuspend n => Sys2Proof.Machine.execTaskSuspend n s
  | .taskResume n => Sys2Proof.Machine.execTaskResume n s
  | .taskUnbind n => Sys2Proof.Machine.execTaskUnbind n s
  | .taskQuery n => Sys2Proof.Machine.execTaskQuery n s
  | .taskReload n => Sys2Proof.Machine.execTaskReload n s
  | .eventBind n => Sys2Proof.Machine.execEventBind n s
  | .linAlloc n => Sys2Proof.Machine.execLinAlloc n s
  | .grant n => Sys2Proof.Machine.execGrant n s
  | .linRevoke n => Sys2Proof.Machine.execLinRevoke n s
  | .linRetire n => Sys2Proof.Machine.execLinRetire n s
  | .linSwept n => Sys2Proof.Machine.execLinSwept n s
  | .linQuery n => Sys2Proof.Machine.execLinQuery n s
  | .portDiscover n => Sys2Proof.Machine.execPortDiscover n s
  | .portStatus n => Sys2Proof.Machine.execPortStatus n s
  | .portRestart n => Sys2Proof.Machine.execPortRestart n s
  | .tdrRun n => Sys2Proof.Machine.execTdrRun n s
  | .calWrite n => Sys2Proof.Machine.execCalWrite n s
  | .senseNoise n => Sys2Proof.Machine.execSenseNoise n s
  | .decSet n => Sys2Proof.Machine.execDecSet n s
  | .powerStatus n => Sys2Proof.Machine.execPowerStatus n s
  | .tilePower n => Sys2Proof.Machine.execTilePower n s
  | .budgetSet n => Sys2Proof.Machine.execBudgetSet n s
  | .modeGet n => Sys2Proof.Machine.execModeGet n s
  | .runCommit n => Sys2Proof.Machine.execRunCommit n s
  | .safeEnter n => Sys2Proof.Machine.execSafeEnter n s
  | .recover n => Sys2Proof.Machine.execRecover n s
  | .policyRaise n => Sys2Proof.Machine.execPolicyRaise n s
  | .timeStatus n => Sys2Proof.Machine.execTimeStatus n s
  | .timeSet n => Sys2Proof.Machine.execTimeSet n s
  | .trunkStatus n => Sys2Proof.Machine.execTrunkStatus n s
  | .remote n => Sys2Proof.Machine.execRemote n s
  | .remoteRetry n => Sys2Proof.Machine.execRemoteRetry n s
  | .dbgChallenge n => Sys2Proof.Machine.execDbgChallenge n s
  | .dbgResponse n => Sys2Proof.Machine.execDbgResponse n s
  | .dbgClose n => Sys2Proof.Machine.execDbgClose n s
  | .authLockoutExpire => Sys2Proof.Machine.execAuthLockoutExpire s
  | .backgroundCommandComplete n => Sys2Proof.Machine.execBackgroundCommandComplete n s
  | .engRel m t data => Sys2Proof.Machine.execEngRel m t data s
  | .clkTile m t data => Sys2Proof.Machine.execClkTile m t data s
  | .pwrTileReq m t data => Sys2Proof.Machine.execPwrTileReq m t data s
  | .pwrBudget m data => Sys2Proof.Machine.execPwrBudget m data s
  | .tileWakeStart t => Sys2Proof.Machine.execTileWakeStart t s
  | .tileWakeComplete t => Sys2Proof.Machine.execTileWakeComplete t s
  | .tileIdleEntry t => Sys2Proof.Machine.execTileIdleEntry t s
  | .tileNapEntry t => Sys2Proof.Machine.execTileNapEntry t s
  | .pwrDevctl m data => Sys2Proof.Machine.execPwrDevctl m data s
  | .dormantWake src => Sys2Proof.Machine.execDormantWake src s
  | .umbAlarmExpire => Sys2Proof.Machine.execUmbAlarmExpire s
  | .x32CrystalLoss => Sys2Proof.Machine.execX32CrystalLoss s
  | .pllLockLoss src => Sys2Proof.Machine.execPllLockLoss src s
  | .thermalReading temps => Sys2Proof.Machine.execThermalReading temps s
  | .thermalLimitStep => Sys2Proof.Machine.execThermalLimitStep s
  | .powerOnReset pin straps => Sys2Proof.Machine.execPowerOnReset pin straps s
  | .warmReset => Sys2Proof.Machine.execWarmReset s
  | .rstDev m data => Sys2Proof.Machine.execRstDev m data s
  | .rstTile m data => Sys2Proof.Machine.execRstTile m data s
  | .rstEng m t data => Sys2Proof.Machine.execRstEng m t data s
  | .engineResetComplete e => Sys2Proof.Machine.execEngineResetComplete e s
  | .channelCrossCheck failed => Sys2Proof.Machine.execChannelCrossCheck failed s
  | .extest pins => Sys2Proof.Machine.execExtest pins s
  | .idcode => Sys2Proof.Machine.execIdcode s
  | .samplePreload pins => Sys2Proof.Machine.execSamplePreload pins s
  | .bypass => Sys2Proof.Machine.execBypass s
  | .busRead a => Sys2Proof.Machine.execBusRead a s
  | .busWrite a data => Sys2Proof.Machine.execBusWrite a data s
  | .cellKindRead a => Sys2Proof.Machine.execCellKindRead a s
  | .engineStateRead a => Sys2Proof.Machine.execEngineStateRead a s
  | .engineStateWrite a data => Sys2Proof.Machine.execEngineStateWrite a data s
  | .dbgaccComplete => Sys2Proof.Machine.execDbgaccComplete s
  | .dbgHalt m => Sys2Proof.Machine.execDbgHalt m s
  | .step m => Sys2Proof.Machine.execStep m s
  | .dbgResume m => Sys2Proof.Machine.execDbgResume m s
  | .engineHalt e => Sys2Proof.Machine.execEngineHalt e s
  | .coupledHalt p => Sys2Proof.Machine.execCoupledHalt p s
  | .dbgAuth m data => Sys2Proof.Machine.execDbgAuth m data s
  | .dbgPmcfgClr m => Sys2Proof.Machine.execDbgPmcfgClr m s
  | .registerWrite m a data => Sys2Proof.Machine.execRegisterWrite m a data s
  | .illegalInstruction e w => Sys2Proof.Machine.execIllegalInstruction e w s
  | .trunkLinkUp trk1 => Sys2Proof.Machine.execTrunkLinkUp trk1 s
  | .trunkFrameError trk1 => Sys2Proof.Machine.execTrunkFrameError trk1 s
  | .pllRelock src => Sys2Proof.Machine.execPllRelock src s
  | .romBoot b => Sys2Proof.Machine.execRomBoot b s
  | .tileResetComplete t => Sys2Proof.Machine.execTileResetComplete t s

end Sys2Proof.Machine
end

