-- ==== Sys2Proof/Safety.lean ====
section
/-!
DEFINITION. Safety.lean: what a run that goes well is, in the terms the statements use: an engine that fetches and executes a word,
operands that are well-kinded, results in registers, and what a step leaves as it was.
-/

namespace Sys2Proof.Machine

open Sys2Proof

/-! ## An engine executes a word -/

/-- Engine `e` is ready, fetches the word `w` at PCC, and executes it: the word is an instruction its level and class may execute and
its guard is on. `t` is the state after the fetch, which may have filled a line of L1I. -/
structure Runs (s : State) (e : Eid) (w : Word) (t : State) : Prop where
  ready : s.ready e.toNat = true
  free : (s.engine e.toNat).long = none
  go : s.pairGo e.toNat = true
  fetched : (fetch e.toNat false).run s = .ok w t
  decoded : (decodeWord e.toNat w).run t = .ok () t
  guarded : t.guardOn e.toNat w = true

/-- The command answers the state `u` retired in sequence: PCC goes on (R181), the engine counts a commit (R390). -/
def Retires (i : Instr) (s : State) (e : Eid) (u : State) : Prop := exec i s = .next (u.retire e.toNat .seq)

/-- The command raises an exception in state `t`: code, EVAL, register and ACC (Table 07-2). -/
def Faults (i : Instr) (s : State) (e : Eid) (t : State) (code val : Nat) (reg : Option Nat) (acc : Nat) : Prop :=
  exec i s = .next (t.takeAbort e.toNat (.exc { code := code, val := val, reg := reg, acc := acc }))

/-! ## Operands and results -/

/-- The cell of a general register of the running chuck. -/
def regOf (t : State) (e : Eid) (r : Reg) : Cell := (t.chuck e.toNat).reg r.toNat

/-- Register `r` holds the integer `x` (R117). -/
def IntOp (t : State) (e : Eid) (r : Reg) (x : Dword) : Prop :=
  ((regOf t e r).kind = .raw ∨ (regOf t e r).kind = .int) ∧ (regOf t e r).bits.setWidth 64 = x

/-- Register `r` holds the 128 bits `x` of an integer operand (R165). -/
def QuadOp (t : State) (e : Eid) (r : Reg) (x : Quad) : Prop :=
  ((regOf t e r).kind = .raw ∨ (regOf t e r).kind = .int) ∧ (regOf t e r).bits = x

/-- The merge of an instruction's `c` lanes with rd under the mask `m`: no lane is kept, or rd holds the integer `o` (R165). -/
def Merges (t : State) (e : Eid) (rd : Reg) (m : BitVec 16) (c : Nat) (o : Quad) : Prop := m.toNat % 2 ^ c = 2 ^ c - 1 ∨ QuadOp t e rd o

/-- Register `r` holds a well-formed unsealed capability `c` whose lineage is in order (tests 2 to 6 of Table 02-6), as the engine's
lineage filter shows without a fill. The check leaves `u`: the engine holds it as made (R102). -/
def CapOp (t u : State) (e : Eid) (r : Reg) (c : Cell) : Prop :=
  regOf t e r = c ∧ c.kind = .cap ∧ capMalformed c = false ∧ (linkOk e.toNat c false).run t = .ok true u

/-- `t` with a general register written; c0 ignores it (R56). -/
def setR (t : State) (e : Eid) (rd : Reg) (c : Cell) : State := t.updChuck e.toNat (fun k => k.setReg rd.toNat c)

/-- `t` with an integer result written (R117). -/
def setI (t : State) (e : Eid) (rd : Reg) (v : Dword) : State := setR t e rd { bits := v.setWidth 128, kind := .int }

/-- `t` with N, Z of the result and C, V in TSTAT[3:0]; a stream task has no flags (R119, R128). -/
def withFlags (t : State) (e : Eid) (f : Flagged) : State :=
  if t.stream e.toNat then t
  else t.updChuck e.toNat (fun c => c.setSysr 0 (setBits (c.sysr 0) 3 0
    ((if f.res.toNat ≥ 2 ^ 63 then 8 else 0) + (if f.res = 0 then 4 else 0) + (if f.c then 2 else 0) + (if f.v then 1 else 0))))

/-- TSTAT.OVE of the running chuck. -/
def oveSet (t : State) (e : Eid) : Bool := bit ((t.chuck e.toNat).sysr 0) 9

/-- Does a signed result fall outside 64 bits. -/
def overflows (z : Int) : Bool := decide (z < -(2 ^ 63) ∨ 2 ^ 63 ≤ z)

/-! ## Accesses -/

/-- An access of `n` bytes at `a` through capability `c` in rs1 passes every check of R144 and falls in memory: at physical address `pa`
of a page of type `mt`; `t9` stands for test 9. The checks leave `v`: the engine holds what they found (R102). -/
def Reaches (t v : State) (e : Eid) (rs1 : Reg) (c : Cell) (a n : Nat) (wr user : Bool) (t9 : EM Unit) (pa : Nat) (mt : MemType) : Prop :=
  (dataAccess e.toNat { cap := c, a := a, n := n, need := [if wr then .st else .ld], rd := !wr, wr := wr, align := true, user := user
                        inl := false, reg := some rs1.toNat, accCode := if wr then 2 else 1 }
    t9).run t = .ok (pa, mt) v ∧
  v.busBad pa n mt wr false = false ∧ ∀ b o, v.region pa ≠ .regs b o

/-- The memory path gives a load the cell `m` without a miss, leaving `u`: buffered bytes, a line of L1D, or memory for a DEVICE page. -/
def Sees (t : State) (e : Eid) (pa n : Nat) (mt : MemType) (m : MCell) (u : State) : Prop :=
  ∀ (reg : Option Nat) (miss : LoadReq), (loadMem e.toNat pa n mt reg miss).run t = .ok m u

/-- The number in the `n` bytes at address `a` of its cell's data bits. -/
def partOf (q : Quad) (a n : Nat) : Nat := q.toNat / 2 ^ (8 * (a % 16)) % 2 ^ (8 * n)

/-- What a load of `n` bytes gives from a cell of kind `k` (R146, R59): a cell load the cell; a part load the number, extended, of
kind INT, or POISON from a POISON cell. -/
def loadedCell (n : Nat) (sx : Bool) (a : Nat) (m : MCell) (k : Kind) : Cell :=
  if n = 16 then { bits := m.bits, kind := k }
  else
    let v := partOf m.bits a n
    { bits := BitVec.ofNat 128 (if sx = true ∧ 2 ^ (8 * n - 1) ≤ v then v + 2 ^ 64 - 2 ^ (8 * n) else v)
      kind := if k = .poison then .poison else .int }

/-- `t` with the write-back of a new cursor to rs1, if the mode makes one (R145). -/
def wroteBack (t : State) (e : Eid) (rs1 : Reg) (c : Cell) (new : Option Nat) : State :=
  match new with
  | some a => setR t e rs1 (cursorMove c a)
  | none => t

/-- The store of `n` bytes `data` at `pa` waits in the store buffer of engine `e`, behind what waited in `t`; nothing else of the
memory, the registers or the reservations differs (R206). -/
def Buffered (t u : State) (e : Eid) (pa n data : Nat) (k : Kind) : Prop :=
  (u.engine e.toNat).sb = (t.engine e.toNat).sb ++
    [{ cell := alignDown (keyOf e.toNat pa) 16, ofs := keyOf e.toNat pa % 16, n := n, data := data, kind := if n = 16 then k else .raw, sync := false }] ∧
  u.mem = t.mem ∧ (u.engine e.toNat).chucks = (t.engine e.toNat).chucks ∧ (u.engine e.toNat).resv = (t.engine e.toNat).resv ∧
  ∀ i, i ≠ e.toNat → u.engine i = t.engine i

/-- The store of `n` bytes `data` at `pa` is in memory: its bytes, and the kind of its cell (R58); no other byte and no other cell's kind
differs, and the store buffer of engine `e` is empty (Table 05-2). -/
def Stored (t u : State) (e : Eid) (pa n data : Nat) (k : Kind) : Prop :=
  let key := keyOf e.toNat pa
  (u.engine e.toNat).sb = [] ∧ (∀ a, ¬(key ≤ a ∧ a < key + n) → u.mem.byte a = t.mem.byte a) ∧
  (∀ i, i < n → u.mem.byte (key + i) = BitVec.ofNat 8 (data / 2 ^ (8 * i))) ∧
  u.mem.tag (alignDown key 16) = (if n = 16 then kindTag k else 0) ∧ ∀ a, a ≠ alignDown key 16 → u.mem.tag a = t.mem.tag a

/-! ## Requests to firmware -/

/-- Cretal's MPU lets firmware read and write every register of the blocks of Table 01-7 (R337, R492). -/
def CretalRegs (s : State) : Prop := ∀ b o acc, b < 0x100 → o < 0x10000 → acc ≠ .exec → s.lets .cretal b o acc = true

/-- Firmware runs and reaches what it uses (R491 to R494): no cell of Cretal's RAM holds an error, and Cretal's MPU lets it at the
registers, the xSPI window and the lineage windows (Table 01-6). -/
structure CretalReaches (s : State) : Prop where
  ram : s.ramErrs = []
  regs : CretalRegs s
  windows : ∀ pa, (0x20000000 ≤ pa ∧ pa < 0x30000000) ∨ (0x40000000 ≤ pa ∧ pa < 0x40080000) →
    (s.mpuDecide .cretal pa .read true false (plainMt pa)).1 = 0

/-- The request `q` that channel `n` has in service is for the command `code`, undamaged, new, and of that command's channels and form:
what checks 1 to 5 of R505 and R506 ask; and firmware reaches what it uses. -/
structure Asks (s : State) (n : BitVec 5) (code : Nat) (q : Req) : Prop where
  reaches : CretalReaches s
  served : s.serving n.toNat = some q
  code : q.cmd = code
  crc : crc32 (q.head ++ q.pay) = q.crc
  new : s.repeated q = none
  form : q.check = none

/-- The command answers the request with a status and payload, in state `t` but for the answer. -/
def Answers (i : Instr) (s t : State) (q : Req) (st : Nat) (pay : List Byte) : Prop := exec i s = .next (t.answer q st pay)

/-- The command leaves the request of channel `n` in the background (R507). -/
def InBackground (t : State) (n : BitVec 5) (code val aux : Nat) : Prop :=
  t.fw.bg.find? (fun p => p.1 == n.toNat) = some (n.toNat, { cmd := code, val := val, aux := aux })

/-- The LIN block can take a command for an entry whose copies agree and hold `v`. -/
def LinReady (s : State) (i : Nat) (v : Word) : Prop :=
  s.lin.phase = .idle ∧ s.linBg = false ∧ s.fld 8 0x14 0 0 = 0 ∧ s.linEntry false i = v ∧ s.linEntry true i = v ∧
  s.mem.err (alignDown (linKey false i) 16) = 0 ∧ s.mem.err (alignDown (linKey true i) 16) = 0

/-! ## Frames -/

/-- No byte of memory differs. -/
def SameMem (s u : State) : Prop := ∀ a, u.mem.byte a = s.mem.byte a ∧ u.mem.tag a = s.mem.tag a

/-- No general register, predicate, accumulator or 64-bit register of any engine's running chuck differs but for general register `rd`
of engine `e`, the bits of its TSTAT below bit `lo` and its loop counts (R181), and no engine register of an engine outside a pair
differs. -/
def SameRegs (s u : State) (e : Eid) (rd : Option Reg) (lo : Nat) : Prop :=
  (∀ i, i ≠ e.toNat → u.chuck i = s.chuck i) ∧
  (∀ r : Nat, rd.map (·.toNat) ≠ some r → (u.chuck e.toNat).reg r = (s.chuck e.toNat).reg r) ∧
  (∀ p, (u.chuck e.toNat).pred p = (s.chuck e.toNat).pred p) ∧
  (∀ a, (u.chuck e.toNat).acc a = (s.chuck e.toNat).acc a) ∧
  (∀ n, n ≠ 0 → ¬(0x18 ≤ n ∧ n ≤ 0x1A) → (u.chuck e.toNat).sysr n = (s.chuck e.toNat).sysr n) ∧
  (bits ((u.chuck e.toNat).sysr 0) 63 lo = bits ((s.chuck e.toNat).sysr 0) 63 lo) ∧
  (s.pairedEng e.toNat = false → ∀ i n, u.esys i n = s.esys i n ∧ u.ecell i n = s.ecell i n)

end Sys2Proof.Machine
end

