-- ==== Sys2Proof/Certificates/Slice0/Obligations.lean ====
section
/-!
DEFINITION. Certificates/Slice0/Obligations.lean: the statements about the ZU1024 model, from the numbered rules of spec/.
-/

open Sys2Proof
open Sys2Proof.Machine

/-! ## The block as a whole -/

/-- A step gives the command at the front of the queue its effect, on the state with the rest of the queue (notes/assumptions/1.md). With no
command waiting, the trace port takes the oldest byte of a trace buffer that holds one, and nothing else changes: R566, and the model's
choice of when (notes/assumptions/1.md). -/
def Obligations.StepRunsFront : Prop :=
  (
  ∀ (s : State) (c : Instr) (rest : List Instr), step { s with pending := c :: rest } = exec c { s with pending := rest }) ∧
  (
  ∀ s : State, s.pending = [] →
    ∃ t, step s = .next t ∧ t.trace.buf = s.trace.buf.tail ∧ { t with trace := s.trace } = s)

/-- No command ends in a fault or a refusal: whatever the state, a command of the table answers a next state. No command changes the queue of
commands that wait. -/
def Obligations.EveryCommandAnswers : Prop :=
  (
  ∀ (i : Instr) (s : State), ∃ t, exec i s = .next t) ∧
  (
  ∀ (i : Instr) (s t : State), exec i s = .next t → t.pending = s.pending)

/-- Reset: mode START in both copies, every engine held, no event pending, entry 0 of both lineage tables LIVE with owner 0 (R90, R418, R511),
Cretal in reset. The memory of reset is in canonical form and lists nothing. -/
def Obligations.ResetState : Prop :=
  (
  State.reset.mode = .start ∧ State.reset.safe.modeA = .start ∧ State.reset.safe.modeB = .start ∧ State.reset.ochre = false ∧
  (∀ e, (State.reset.engine e).held = true ∧ (State.reset.engine e).stopped = false) ∧
  State.reset.events = [] ∧ State.reset.pending = [] ∧ Map.get 0 State.reset.linA 0 = 0x10 ∧ Map.get 0 State.reset.linB 0 = 0x10 ∧
  State.reset.lin.phase = .idle ∧ State.reset.cretalReset = true) ∧
  (
  State.reset.mem.wf = true ∧ ∀ k, State.reset.mem.byte k = byteDefault k ∧ State.reset.mem.tag k = tagDefault k)

/-- Every step keeps memory in canonical form: addresses rising, no entry at what an unlisted address reads as. -/
def Obligations.MemoryCanonical : Prop :=
  ∀ s t : State, s.mem.wf = true → step s = .next t → t.mem.wf = true

/-- R519: what is programmed once into OTP only goes forward, whatever the step: the lifecycle and the minimum image version do not fall, a
programmed key keeps its use and digest, and a revoked key stays revoked. -/
def Obligations.FusesStay : Prop :=
  ∀ s t : State, step s = .next t →
    s.otp.life ≤ t.otp.life ∧ s.otp.minVer ≤ t.otp.minVer ∧
    ∀ k, let x := Map.get { use := 0, revoked := false, hash := [] } s.otp.keys k
      let y := Map.get { use := 0, revoked := false, hash := [] } t.otp.keys k
      (x.use ≠ 0 → y.use = x.use ∧ y.hash = x.hash) ∧ (x.revoked = true → y.revoked = true)

/-! ## Integer instructions -/

/-- ADD, ADDU, SUB, SUBU and NEG, with ADDI and ADDUI (R125, R126, R128): the result modulo 2^64, the carry out of bit 63 (for a difference,
no borrow), signed overflow, and no trap but where the trapping form overflows with TSTAT.OVE set. CMP and CMPI set the flags of a
difference, TST those of a bitwise and; none writes a register (R125, R126, R128). -/
def Obligations.SumsAndFlags : Prop :=
  (
  ∀ (s t : State) (e : Eid) (g : Grd) (rd rs1 rs2 : Reg) (imm : BitVec 13) (x y : Dword), IntOp t e rs1 x →
    let sum : Dword → Flagged := fun y => ⟨x + y, decide (2 ^ 64 ≤ x.toNat + y.toNat), overflows (x.toInt + y.toInt)⟩
    let dif : Flagged := ⟨x - y, decide (y.toNat ≤ x.toNat), overflows (x.toInt - y.toInt)⟩
    let opp : Flagged := ⟨-x, decide (x = 0), overflows (-x.toInt)⟩
    let z : Dword := imm.signExtend 64
    let out : Flagged → State := fun f => setI (withFlags t e f) e rd f.res
    (IntOp t e rs2 y → Runs s e (encR g 1 rd rs1 rs2 0) t → ((sum y).v && oveSet t e) = false → Retires (.add e g rd rs1 rs2) s e (out (sum y))) ∧
    (IntOp t e rs2 y → Runs s e (encR g 1 rd rs1 rs2 1) t → Retires (.addu e g rd rs1 rs2) s e (out (sum y))) ∧
    (IntOp t e rs2 y → Runs s e (encR g 1 rd rs1 rs2 2) t → (dif.v && oveSet t e) = false → Retires (.sub e g rd rs1 rs2) s e (out dif)) ∧
    (IntOp t e rs2 y → Runs s e (encR g 1 rd rs1 rs2 3) t → Retires (.subu e g rd rs1 rs2) s e (out dif)) ∧
    (Runs s e (encR g 1 rd rs1 0 4) t → (opp.v && oveSet t e) = false → Retires (.neg e g rd rs1) s e (out opp)) ∧
    (Runs s e (encI g 3 rd rs1 imm) t → ((sum z).v && oveSet t e) = false → Retires (.addi e g rd rs1 imm) s e (out (sum z))) ∧
    (Runs s e (encI g 4 rd rs1 imm) t → Retires (.addui e g rd rs1 imm) s e (out (sum z)))) ∧
  (
  ∀ (s t : State) (e : Eid) (g : Grd) (rs1 rs2 : Reg) (imm : BitVec 13) (x y : Dword), IntOp t e rs1 x →
    let dif : Dword → Flagged := fun y => ⟨x - y, decide (y.toNat ≤ x.toNat), overflows (x.toInt - y.toInt)⟩
    (IntOp t e rs2 y → Runs s e (encR g 1 0 rs1 rs2 5) t → Retires (.cmp e g rs1 rs2) s e (withFlags t e (dif y))) ∧
    (IntOp t e rs2 y → Runs s e (encR g 1 0 rs1 rs2 0x0D) t → Retires (.tst e g rs1 rs2) s e (withFlags t e ⟨x &&& y, false, false⟩)) ∧
    (Runs s e (encI g 8 0 rs1 imm) t → Retires (.cmpi e g rs1 imm) s e (withFlags t e (dif (imm.signExtend 64)))))

/-- The two-source functions of Table 03-5 that only set N and Z, with their func codes, and the immediate forms of R126 with their majors:
the bitwise functions, minima and maxima, and rotations. The rows AND, OR, XOR, ANDN, ORN, ROL, ROR, MIN, MAX, MINU, MAXU, ANDI, ORI and
XORI. -/
def Obligations.PlainResults : Prop :=
  (∀ p ∈ ([(.and, 0x08, fun x y => x &&& y), (.or, 0x09, fun x y => x ||| y), (.xor, 0x0A, fun x y => x ^^^ y),
      (.andn, 0x0B, fun x y => x &&& ~~~y), (.orn, 0x0C, fun x y => x ||| ~~~y), (.rol, 0x13, fun x y => x.rotateLeft (y.toNat % 64)),
      (.ror, 0x14, fun x y => x.rotateRight (y.toNat % 64)), (.min, 0x18, fun x y => if x.toInt < y.toInt then x else y),
      (.max, 0x19, fun x y => if x.toInt < y.toInt then y else x), (.minu, 0x1A, fun x y => if x.toNat < y.toNat then x else y),
      (.maxu, 0x1B, fun x y => if x.toNat < y.toNat then y else x)] :
      List ((Eid → Grd → Reg → Reg → Reg → Instr) × Nat × (Dword → Dword → Dword))),
    ∀ (s t : State) (e : Eid) (g : Grd) (rd rs1 rs2 : Reg) (x y : Dword), IntOp t e rs1 x → IntOp t e rs2 y →
      Runs s e (encR g 1 rd rs1 rs2 p.2.1) t →
      Retires (p.1 e g rd rs1 rs2) s e (setI (withFlags t e ⟨p.2.2 x y, false, false⟩) e rd (p.2.2 x y))) ∧
  (∀ p ∈ ([(.andi, 5, fun x y => x &&& y), (.ori, 6, fun x y => x ||| y), (.xori, 7, fun x y => x ^^^ y)] :
      List ((Eid → Grd → Reg → Reg → BitVec 13 → Instr) × Nat × (Dword → Dword → Dword))),
    ∀ (s t : State) (e : Eid) (g : Grd) (rd rs1 : Reg) (imm : BitVec 13) (x : Dword), IntOp t e rs1 x →
      Runs s e (encI g p.2.1 rd rs1 imm) t →
      Retires (p.1 e g rd rs1 imm) s e (setI (withFlags t e ⟨p.2.2 x (imm.signExtend 64), false, false⟩) e rd (p.2.2 x (imm.signExtend 64))))

/-- Shifts by a register (the whole of rs2 as an unsigned amount) and by SHI's amount (R127, R128): 0 or sign bits from 64 on, and C the last
bit shifted out. The rows SLL, SRL and SRA. The one-source functions of Table 03-5: bit counts and extensions. The rows CLZ, CTZ, POPC,
SXB, SXH, SXW, ZXB, ZXH and ZXW. R120, R133: SEL and CMOV by a condition of Table 03-4 over TSTAT in a control task, by bit 0 of a
predicate in a stream task. -/
def Obligations.ShiftsAndSelects : Prop :=
  (
  ∀ (s t : State) (e : Eid) (g : Grd) (rd rs1 rs2 : Reg) (imm : BitVec 13) (x y : Dword), IntOp t e rs1 x →
    let sll : Nat → Flagged := fun n => ⟨BitVec.ofNat 64 (x.toNat * 2 ^ n), decide (0 < n ∧ n ≤ 64) && x.getLsbD (64 - n), false⟩
    let srl : Nat → Flagged := fun n => ⟨BitVec.ofNat 64 (x.toNat / 2 ^ n), decide (0 < n) && x.getLsbD (n - 1), false⟩
    let sra : Nat → Flagged := fun n => ⟨BitVec.ofInt 64 (x.toInt / 2 ^ n), decide (0 < n) && (if 64 ≤ n then x.msb else x.getLsbD (n - 1)), false⟩
    let rol : Nat → Flagged := fun n => ⟨x.rotateLeft n, false, false⟩
    let ror : Nat → Flagged := fun n => ⟨x.rotateRight n, false, false⟩
    let out : Flagged → State := fun f => setI (withFlags t e f) e rd f.res
    (IntOp t e rs2 y → Runs s e (encR g 1 rd rs1 rs2 0x10) t → Retires (.sll e g rd rs1 rs2) s e (out (sll y.toNat))) ∧
    (IntOp t e rs2 y → Runs s e (encR g 1 rd rs1 rs2 0x11) t → Retires (.srl e g rd rs1 rs2) s e (out (srl y.toNat))) ∧
    (IntOp t e rs2 y → Runs s e (encR g 1 rd rs1 rs2 0x12) t → Retires (.sra e g rd rs1 rs2) s e (out (sra y.toNat))) ∧
    (Runs s e (encI g 9 rd rs1 imm) t → ∀ f, [sll, srl, sra, rol, ror][imm.toNat / 64]? = some f →
      Retires (.shi e g rd rs1 imm) s e (out (f (imm.toNat % 64))))) ∧
  (
  ∀ (s t : State) (e : Eid) (g : Grd) (rd rs1 : Reg) (x r : Dword), IntOp t e rs1 x →
    let out : State := setI (withFlags t e ⟨r, false, false⟩) e rd r
    (Runs s e (encR g 1 rd rs1 0 0x20) t → r.toNat ≤ 64 → (∀ i, 64 - r.toNat ≤ i → x.getLsbD i = false) →
      (r.toNat < 64 → x.getLsbD (63 - r.toNat) = true) → Retires (.clz e g rd rs1) s e out) ∧
    (Runs s e (encR g 1 rd rs1 0 0x21) t → r.toNat ≤ 64 → (∀ i, i < r.toNat → x.getLsbD i = false) →
      (r.toNat < 64 → x.getLsbD r.toNat = true) → Retires (.ctz e g rd rs1) s e out) ∧
    (Runs s e (encR g 1 rd rs1 0 0x22) t → r.toNat = ((List.range 64).filter (fun i => x.getLsbD i)).length → Retires (.popc e g rd rs1) s e out) ∧
    (Runs s e (encR g 1 rd rs1 0 0x28) t → r = (x.setWidth 8).signExtend 64 → Retires (.sxb e g rd rs1) s e out) ∧
    (Runs s e (encR g 1 rd rs1 0 0x29) t → r = (x.setWidth 16).signExtend 64 → Retires (.sxh e g rd rs1) s e out) ∧
    (Runs s e (encR g 1 rd rs1 0 0x2A) t → r = (x.setWidth 32).signExtend 64 → Retires (.sxw e g rd rs1) s e out) ∧
    (Runs s e (encR g 1 rd rs1 0 0x2B) t → r.toNat = x.toNat % 2 ^ 8 → Retires (.zxb e g rd rs1) s e out) ∧
    (Runs s e (encR g 1 rd rs1 0 0x2C) t → r.toNat = x.toNat % 2 ^ 16 → Retires (.zxh e g rd rs1) s e out) ∧
    (Runs s e (encR g 1 rd rs1 0 0x2D) t → r.toNat = x.toNat % 2 ^ 32 → Retires (.zxw e g rd rs1) s e out)) ∧
  (
  ∀ (s t : State) (e : Eid) (g : Grd) (cond : BitVec 4) (rd rs1 rs2 : Reg) (x y : Dword), IntOp t e rs1 x →
    let ts := (t.chuck e.toNat).sysr 0
    let c : Bool := if t.stream e.toNat then bit ((t.chuck e.toNat).pred (cond.toNat % 8)) 0
      else condHolds cond.toNat (bit ts 3) (bit ts 2) (bit ts 1) (bit ts 0)
    (IntOp t e rs2 y → Runs s e (encR g 0x0C rd rs1 rs2 cond.toNat) t →
      Retires (.sel e g cond rd rs1 rs2) s e (setI t e rd (if c then x else y))) ∧
    (Runs s e (encR g 0x0C rd rs1 0 (0x80 + cond.toNat)) t → Retires (.cmov e g cond rd rs1) s e (if c then setI t e rd x else t)))

/-- Products and quotients (R128, R131): the halves of the product, the quotient truncated toward zero with the remainder of the dividend's
sign, and for a zero divisor TSTAT.DZ, quotient 0 and the dividend as remainder. The rows MUL, MULU, MULH, MULHU, DIVU, REM and REMU.
R128, R129: with TSTAT.OVE set a trapping form whose result overflows raises Integer Overflow with the result in EVAL and writes neither
register nor flag; with TSTAT.DZE set, DIV by zero sets TSTAT.DZ and raises Divide by Zero with the dividend in EVAL. -/
def Obligations.ProductsAndQuotients : Prop :=
  (
  ∀ (s t : State) (e : Eid) (g : Grd) (rd rs1 rs2 : Reg) (x y : Dword), IntOp t e rs1 x → IntOp t e rs2 y →
    let p : Int := x.toInt * y.toInt
    let dz : State := if y = 0 then t.updChuck e.toNat (fun c => c.setSysr 0 (setBit (c.sysr 0) 4 true)) else t
    let out : State → Flagged → State := fun t f => setI (withFlags t e f) e rd f.res
    let q : Flagged := ⟨if y = 0 then 0 else BitVec.ofInt 64 (x.toInt.tdiv y.toInt), false, decide (y ≠ 0) && overflows (x.toInt.tdiv y.toInt)⟩
    (Runs s e (encR g 2 rd rs1 rs2 0) t → (overflows p && oveSet t e) = false →
      Retires (.mul e g rd rs1 rs2) s e (out t ⟨BitVec.ofInt 64 p, false, overflows p⟩)) ∧
    (Runs s e (encR g 2 rd rs1 rs2 1) t →
      Retires (.mulu e g rd rs1 rs2) s e (out t ⟨x * y, decide (2 ^ 64 ≤ x.toNat * y.toNat), false⟩)) ∧
    (Runs s e (encR g 2 rd rs1 rs2 2) t → Retires (.mulh e g rd rs1 rs2) s e (out t ⟨BitVec.ofInt 64 (p / 2 ^ 64), false, false⟩)) ∧
    (Runs s e (encR g 2 rd rs1 rs2 3) t →
      Retires (.mulhu e g rd rs1 rs2) s e (out t ⟨BitVec.ofNat 64 (x.toNat * y.toNat / 2 ^ 64), false, false⟩)) ∧
    (Runs s e (encR g 2 rd rs1 rs2 4) t → (q.v && oveSet t e) = false → (y = 0 → bit ((t.chuck e.toNat).sysr 0) 8 = false) →
      Retires (.div e g rd rs1 rs2) s e (out dz q)) ∧
    (Runs s e (encR g 2 rd rs1 rs2 5) t → Retires (.divu e g rd rs1 rs2) s e (out dz ⟨BitVec.ofNat 64 (x.toNat / y.toNat), false, false⟩)) ∧
    (Runs s e (encR g 2 rd rs1 rs2 6) t →
      Retires (.rem e g rd rs1 rs2) s e (out dz ⟨BitVec.ofInt 64 (x.toInt - y.toInt * x.toInt.tdiv y.toInt), false, false⟩)) ∧
    (Runs s e (encR g 2 rd rs1 rs2 7) t → Retires (.remu e g rd rs1 rs2) s e (out dz ⟨BitVec.ofNat 64 (x.toNat % y.toNat), false, false⟩))) ∧
  (
  ∀ (s t : State) (e : Eid) (g : Grd) (rd rs1 rs2 : Reg) (imm : BitVec 13) (x y : Dword), IntOp t e rs1 x →
    let trap : Instr → Dword → Prop := fun i r => Faults i s e t 0x11 r.toNat (some rd.toNat) 0
    (IntOp t e rs2 y → oveSet t e = true →
      (Runs s e (encR g 1 rd rs1 rs2 0) t → overflows (x.toInt + y.toInt) = true → trap (.add e g rd rs1 rs2) (x + y)) ∧
      (Runs s e (encR g 1 rd rs1 rs2 2) t → overflows (x.toInt - y.toInt) = true → trap (.sub e g rd rs1 rs2) (x - y)) ∧
      (Runs s e (encR g 2 rd rs1 rs2 0) t → overflows (x.toInt * y.toInt) = true → trap (.mul e g rd rs1 rs2) (x * y)) ∧
      (Runs s e (encR g 2 rd rs1 rs2 4) t → x.toInt = -(2 ^ 63) → y.toInt = -1 → trap (.div e g rd rs1 rs2) x)) ∧
    (oveSet t e = true → Runs s e (encR g 1 rd rs1 0 4) t → x.toInt = -(2 ^ 63) → trap (.neg e g rd rs1) x) ∧
    (oveSet t e = true → Runs s e (encI g 3 rd rs1 imm) t → overflows (x.toInt + imm.toInt) = true →
      trap (.addi e g rd rs1 imm) (x + imm.signExtend 64)) ∧
    (IntOp t e rs2 0 → bit ((t.chuck e.toNat).sysr 0) 8 = true → Runs s e (encR g 2 rd rs1 rs2 4) t →
      Faults (.div e g rd rs1 rs2) s e (t.updChuck e.toNat (fun c => c.setSysr 0 (setBit (c.sysr 0) 4 true))) 0x10 x.toNat (some rd.toNat) 0))

/-- R132: MOVI writes sext(imm18, 64); MOVK replaces 16 bits of rd. Neither changes a flag. -/
def Obligations.ImmediateMoves : Prop :=
  ∀ (s t : State) (e : Eid) (g : Grd) (rd : Reg) (imm : BitVec 18) (x : Dword),
    (Runs s e (encJ g 0x0A rd imm) t → Retires (.movi e g rd imm) s e (setI t e rd (imm.signExtend 64))) ∧
    (Runs s e (encJ g 0x0B rd imm) t → IntOp t e rd x →
      ∃ v, Retires (.movk e g rd imm) s e (setI t e rd v) ∧
        ∀ i < 64, v.getLsbD i = if i / 16 = imm.toNat / 2 ^ 16 then imm.getLsbD (i % 16) else x.getLsbD i)

/-- What an integer, select or capability-extracting instruction leaves (R117, R119, R122): a state `u` that differs from the fetch only in
register `rd` and the low bits of TSTAT, once retired, has the memory, registers and predicates of the state before the command, `rd`,
those bits and the loop counts apart. -/
def Obligations.RegisterFrame : Prop :=
  ∀ (s t : State) (e : Eid) (w : Word) (rd : Reg) (c : Cell) (f : Flagged), Runs s e w t →
    let keep : State → Option Reg → Nat → Prop := fun u r lo =>
      SameMem s (u.retire e.toNat .seq) ∧ SameRegs s (u.retire e.toNat .seq) e r lo
    keep t none 0 ∧ keep (setR t e rd c) (some rd) 0 ∧ keep (withFlags t e f) none 4 ∧ keep (setR (withFlags t e f) e rd c) (some rd) 4 ∧
    setR t e 0 c = t

/-! ## Capabilities -/

/-- R66, R67: a cursor move inside the representable window keeps kind, base and top; outside it the result is INT with the new cursor. R69:
CLEN.R answers the smallest length not below the one asked that CNARROW can represent at an aligned base, and CLEN.M the mask of that
alignment. -/
def Obligations.CapabilityBounds : Prop :=
  (
  ∀ (c : Cell) (a : Nat), a < 2 ^ 56 → c.kind = .cap → capMalformed c = false →
    capCursor (cursorMove c a) = a ∧ capPerm (cursorMove c a) = capPerm c ∧
    (inWindow c a = true → (cursorMove c a).kind = .cap ∧ capBase (cursorMove c a) = capBase c ∧ capTop (cursorMove c a) = capTop c) ∧
    (inWindow c a = false → (cursorMove c a).kind = .int)) ∧
  (
  ∀ l : Dword, l.toNat ≤ 2 ^ 56 →
    l.toNat ≤ (clenR l).toNat ∧ (capEncode 0 (clenR l).toNat).isSome = true ∧
    (∀ n : Nat, l.toNat ≤ n → n ≤ 2 ^ 56 → (capEncode 0 n).isSome = true → (clenR l).toNat ≤ n) ∧
    ∀ b : Nat, b + (clenR l).toNat ≤ 2 ^ 56 → (BitVec.ofNat 64 b &&& ~~~clenM l) = 0 → (capEncode b (clenR l).toNat).isSome = true)

/-- R67, R77 (Table 02-7): CMOVE copies a cell of any kind; the cursor moves set or add to the cursor of a sound capability. The rows
CMOVE_SET, CMOVE_ADD and CMOVE_ADDI. R68, R77, R79, R81 (Table 02-7): what CNARROW, CMASK, CSEAL and COPEN derive. CNARROW answers exactly
the range from the cursor for the length asked, within the old bounds and with the old permissions; CMASK only takes permissions away;
CSEAL and COPEN set and clear the object type under an authority whose cursor names it. R69, R139 (Table 02-2): the extractors of a field
of a capability, 0 of an integer cell (CBASE.CUR gives the low bits of any cell), and CLEN.R and CLEN.M of a length. The rows CKIND,
CKIND_PERM, CKIND_OTYPE, CKIND_LIN, CBASE_CUR, CLEN_R and CLEN_M. R74 (Table 02-6): the tests of an access in their order, each with its
code and EVAL the address: POISON is a Kind Fault, no capability or a malformed one a Tag Fault, a sealed one a Seal Violation, a dead
lineage Capability Revoked, a missing permission a Permission Fault, and bytes outside the bounds a Bounds Fault; an access that passes
all has had its lineage check and no other effect. -/
def Obligations.CapabilityInstructions : Prop :=
  (
  ∀ (s t u : State) (e : Eid) (g : Grd) (rd rs1 rs2 : Reg) (imm : BitVec 13) (c : Cell) (y : Dword),
    (Runs s e (encR g 0x0D rd rs1 0 0) t → Retires (.cmove e g rd rs1) s e (setR t e rd (regOf t e rs1))) ∧
    (CapOp t u e rs1 c →
      (IntOp t e rs2 y → Runs s e (encR g 0x0D rd rs1 rs2 1) t →
        Retires (.cmoveSet e g rd rs1 rs2) s e (setR u e rd (cursorMove c (y.toNat % 2 ^ 56)))) ∧
      (IntOp t e rs2 y → Runs s e (encR g 0x0D rd rs1 rs2 2) t →
        Retires (.cmoveAdd e g rd rs1 rs2) s e (setR u e rd (cursorMove c ((capCursor c + y.toNat) % 2 ^ 56)))) ∧
      (Runs s e (encI g 0x0E rd rs1 imm) t →
        Retires (.cmoveAddi e g rd rs1 imm) s e (setR u e rd (cursorMove c ((capCursor c + (imm.signExtend 56).toNat) % 2 ^ 56)))))) ∧
  (
  ∀ (s t u v : State) (e : Eid) (g : Grd) (rd rs1 rs2 : Reg) (c a : Cell) (y : Dword),
    (capLin c ≠ 0 ∨ ((t.engine e.toNat).level ≠ .t ∧ capHas (t.chuck e.toNat).pcc .sys = true)) →
    (CapOp t u e rs1 c → IntOp t e rs2 y → Runs s e (encR g 0x0D rd rs1 rs2 8) t → (capEncode (capCursor c) y.toNat).isSome = true →
      capBase c ≤ capCursor c → capCursor c + y.toNat ≤ capTop c →
      ∃ d, Retires (.cnarrow e g rd rs1 rs2) s e (setR u e rd d) ∧ d.kind = .cap ∧ capMalformed d = false ∧ capBase d = capCursor c ∧
        capTop d = capCursor c + y.toNat ∧ capCursor d = capCursor c ∧ capPerm d = capPerm c ∧ capLin d = capLin c ∧ capGen d = capGen c) ∧
    (CapOp t u e rs1 c → IntOp t e rs2 y → Runs s e (encR g 0x0D rd rs1 rs2 9) t →
      ∃ d, Retires (.cmask e g rd rs1 rs2) s e (setR u e rd d) ∧ d.kind = .cap ∧ capDecode d = capDecode c ∧ capLin d = capLin c ∧
        capGen d = capGen c ∧ ∀ p, capHas d p = (capHas c p && y.getLsbD p.idx)) ∧
    (CapOp t u e rs1 c → CapOp u v e rs2 a → Runs s e (encR g 0x0D rd rs1 rs2 0x0A) t → capHas a .seal = true →
      capBase a ≤ capCursor a → capCursor a < capTop a → 1 ≤ capCursor a → capCursor a ≤ 0xFF → (0xF0 ≤ capCursor a → capHas a .sys = true) →
      ∃ d, Retires (.cseal e g rd rs1 rs2) s e (setR v e rd d) ∧ d.kind = .sealed ∧ capOtype d = capCursor a ∧ capDecode d = capDecode c ∧
        capPerm d = capPerm c ∧ capLin d = capLin c) ∧
    (regOf t e rs1 = c → c.kind = .sealed → capMalformed c = false → (linkOk e.toNat c false).run t = .ok true u → CapOp u v e rs2 a →
      Runs s e (encR g 0x0D rd rs1 rs2 0x0B) t → capHas a .unseal = true → capCursor a = capOtype c → capBase a ≤ capCursor a →
      capCursor a < capTop a →
      ∃ d, Retires (.copen e g rd rs1 rs2) s e (setR v e rd d) ∧ d.kind = .cap ∧ capOtype d = 0 ∧ capDecode d = capDecode c ∧
        capHas d .gbl = (capHas c .gbl && capHas a .gbl) ∧ ∀ p, p ≠ .gbl → capHas d p = capHas c p)) ∧
  (
  ∀ (s t : State) (e : Eid) (g : Grd) (rd rs1 : Reg) (c : Cell) (x : Dword), regOf t e rs1 = c →
    let f : Nat → Nat := fun v => if c.kind = .cap ∨ c.kind = .sealed then v else 0
    let out : Nat → State := fun v => setI t e rd (BitVec.ofNat 64 v)
    (Runs s e (encR g 0x0D rd rs1 0 0x10) t →
      Retires (.ckind e g rd rs1) s e (out (match c.kind with | .raw => 0 | .int => 1 | .cap => 2 | .sealed => 3 | .poison => 4))) ∧
    (c.kind ≠ .poison →
      (Runs s e (encR g 0x0D rd rs1 0 0x11) t → Retires (.ckindPerm e g rd rs1) s e (out (f (capPerm c)))) ∧
      (Runs s e (encR g 0x0D rd rs1 0 0x12) t → Retires (.ckindOtype e g rd rs1) s e (out (f (capOtype c)))) ∧
      (Runs s e (encR g 0x0D rd rs1 0 0x13) t → Retires (.ckindLin e g rd rs1) s e (out (f (capLin c * 16 + capGen c)))) ∧
      (Runs s e (encR g 0x0D rd rs1 0 0x14) t → Retires (.cbase e g rd rs1) s e (out (f (capBase c)))) ∧
      (Runs s e (encR g 0x0D rd rs1 0 0x15) t → Retires (.cbaseCur e g rd rs1) s e (out (capCursor c))) ∧
      (Runs s e (encR g 0x0D rd rs1 0 0x16) t → Retires (.clen e g rd rs1) s e (out (f (capTop c - capBase c))))) ∧
    (IntOp t e rs1 x →
      (Runs s e (encR g 0x0D rd rs1 0 0x17) t → Retires (.clenR e g rd rs1) s e (setI t e rd (clenR x))) ∧
      (Runs s e (encR g 0x0D rd rs1 0 0x18) t → Retires (.clenM e g rd rs1) s e (setI t e rd (clenM x))))) ∧
  (
  ∀ (t u : State) (e : Nat) (c : Cell) (a n : Nat) (need : List Perm) (reg : Option Nat) (acc : Nat),
    let r := (capTests e c a n need reg acc false).run t
    let bad : State → Nat → EStateM.Result Abort State Unit := fun v code => .error (.exc { code := code, val := a, reg := reg, acc := acc }) v
    let sound : Bool → Prop := fun live => c.kind = .cap ∧ capMalformed c = false ∧ (linkOk e c false).run t = .ok live u
    (c.kind = .poison → r = bad t 3) ∧
    (c.kind = .raw ∨ c.kind = .int ∨ ((c.kind = .cap ∨ c.kind = .sealed) ∧ capMalformed c = true) → r = bad t 4) ∧
    (c.kind = .sealed ∧ capMalformed c = false → r = bad t 7) ∧
    (sound false → r = bad u 8) ∧
    (sound true → (∃ p ∈ need, capHas c p = false) → r = bad u 6) ∧
    (sound true → (∀ p ∈ need, capHas c p = true) → (a < capBase c ∨ capTop c < a + n) → r = bad u 5) ∧
    (sound true → (∀ p ∈ need, capHas c p = true) → capBase c ≤ a → a + n ≤ capTop c → r = .ok () u))

/-! ## Branches and loops -/

/-- R134 to R137: a taken branch or jump sets PCC's cursor, a branch not taken goes on, JAL and JR write the link; targets outside the bounds
of PCC are faults of B and JAL, and JR enters the capability of rs1, or the one that a call entry (object type 0xFF) seals. Registers but
the link, and memory, stay as they were. -/
def Obligations.BranchesAndJumps : Prop :=
  ∀ (s t u : State) (e : Eid) (g : Grd) (cond : BitVec 4) (rd rs1 : Reg) (off : BitVec 18) (c : Cell),
    let pcc := (t.chuck e.toNat).pcc
    let a := capCursor pcc
    let tgt := (a + 4 * (off.signExtend 56).toNat) % 2 ^ 56
    let ts := (t.chuck e.toNat).sysr 0
    let taken : Bool := t.stream e.toNat || condHolds cond.toNat (bit ts 3) (bit ts 2) (bit ts 1) (bit ts 0)
    let link : Cell := { withCursor pcc (a + 4) with kind := .cap }
    let goes : Instr → Cell → Option Reg → Prop := fun i p r =>
      ∃ u, exec i s = .next u ∧ (u.chuck e.toNat).pcc = p ∧ SameMem s u ∧ SameRegs s u e r 0
    (Runs s e (encB g cond off) t →
      (taken = true → capBase pcc ≤ tgt → tgt + 4 ≤ capTop pcc → goes (.b e g cond off) (alignPcc (withCursor pcc tgt)) none) ∧
      (taken = false → ((t.engine e.toNat).level = .rest ∨ (loopEnd a ((t.engine e.toNat).level == .k) 3 (t.chuck e.toNat)).1 = none) →
        goes (.b e g cond off) (withCursor pcc (a + 4)) none) ∧
      (taken = true → (tgt < capBase pcc ∨ capTop pcc < tgt + 4) → Faults (.b e g cond off) s e t 5 tgt none 3)) ∧
    (Runs s e (encJ g 0x22 rd off) t →
      (capBase pcc ≤ tgt → tgt + 4 ≤ capTop pcc → goes (.jal e g rd off) (alignPcc (withCursor pcc tgt)) (some rd) ∧
        ∀ u, exec (.jal e g rd off) s = .next u → rd ≠ 0 → regOf u e rd = link) ∧
      ((tgt < capBase pcc ∨ capTop pcc < tgt + 4) → Faults (.jal e g rd off) s e t 5 tgt none 3)) ∧
    (Runs s e (encR g 0x23 rd rs1 0 0) t → regOf t e rs1 = c → (c.kind = .cap ∨ c.kind = .sealed ∧ capOtype c = 0xFF) →
      capMalformed c = false → capCursor c % 4 = 0 → capHas c .ex = true →
      let d : Cell := { bits := setBits c.bits 127 120 0, kind := .cap }
      (linkOk e.toNat d false).run t = .ok true u → goes (.jr e g rd rs1) d (some rd) ∧ ∀ u, exec (.jr e g rd rs1) s = .next u → rd ≠ 0 → regOf u e rd = link)

/-- R180, R182: LOOP and LOOPI at level k start a body of a count above 0, skip one of count 0, and LCLR ends levels k to 2. R181: where PCC
goes after an instruction at address x below level Rest: with no level looping back, to x + 4; at the end address of a level whose count
is above 1, to the start of its body with one pass less; with count 1, past the body with the level ended. -/
def Obligations.HardwareLoops : Prop :=
  (
  ∀ (s t : State) (e : Eid) (g : Grd) (lvl : BitVec 2) (rs1 cnt : Reg) (end13 : BitVec 13) (x : Dword),
    let k := lvl.toNat
    let c := t.chuck e.toNat
    let a := capCursor c.pcc
    let le := a + 4 * end13.toNat
    let count : Nat → Nat := fun j => bits (c.sysr (0x18 + j)) 62 0
    let nests := (∀ j, k ≤ j → j ≤ 2 → count j = 0) ∧ (0 < k → count (k - 1) ≠ 0 ∧ le ≤ bits (c.sysr (0x14 + k - 1)) 55 0)
    let begun : Nat → State := fun n => t.updChuck e.toNat (fun c =>
      ((c.setSysr (0x10 + k) (BitVec.ofNat 64 (a + 4))).setSysr (0x14 + k) (BitVec.ofNat 64 le)).setSysr (0x18 + k)
        (BitVec.ofNat 64 (n + if (t.engine e.toNat).level = .k then 2 ^ 63 else 0)))
    let runs : Instr → Nat → Prop := fun i n =>
      nests →
        (0 < n → capBase c.pcc ≤ le → le + 4 ≤ capTop c.pcc → exec i s = .next ((begun n).retire e.toNat .seq)) ∧
        (n = 0 → capBase c.pcc ≤ le + 4 → le + 8 ≤ capTop c.pcc → exec i s = .next (t.retire e.toNat (.skip (withCursor c.pcc (le + 4)))))
    (Runs s e (encL g lvl 0 rs1 end13) t → IntOp t e rs1 x → runs (.loop e g lvl rs1 end13) (x.toNat % 2 ^ 63)) ∧
    (Runs s e (encL g lvl 1 cnt end13) t → runs (.loopi e g lvl cnt end13) cnt.toNat) ∧
    (Runs s e (encL g lvl 2 0 0) t →
      ∃ u, Retires (.lclr e g lvl) s e u ∧ (∀ j, k ≤ j → j ≤ 2 → (u.chuck e.toNat).sysr (0x18 + j) = 0) ∧
        (∀ n, ¬(0x18 + k ≤ n ∧ n ≤ 0x1A) → (u.chuck e.toNat).sysr n = c.sysr n) ∧ (u.chuck e.toNat).regs = c.regs)) ∧
  (
  ∀ (u : State) (e k : Nat), k ≤ 2 →
    let c := u.chuck e
    let a := capCursor c.pcc
    let live : Nat → Prop := fun j =>
      bits (c.sysr (0x18 + j)) 62 0 ≠ 0 ∧ (c.sysr (0x14 + j)).toNat = a ∧ bit (c.sysr (0x18 + j)) 63 = decide ((u.engine e).level = .k)
    (u.engine e).level ≠ .rest →
    ((∀ j, j ≤ 2 → ¬live j) → (u.advance e).chuck e = { c with pcc := withCursor c.pcc (a + 4) }) ∧
    (live k → (∀ j, j ≤ 2 → j ≠ k → ¬live j) → 1 < bits (c.sysr (0x18 + k)) 62 0 →
      (u.advance e).chuck e = { c.setSysr (0x18 + k) (c.sysr (0x18 + k) - 1) with pcc := alignPcc (withCursor c.pcc (c.sysr (0x10 + k)).toNat) }) ∧
    (live k → (∀ j, j ≤ 2 → j ≠ k → ¬live j) → bits (c.sysr (0x18 + k)) 62 0 = 1 →
      (u.advance e).chuck e = { c.setSysr (0x18 + k) 0 with pcc := withCursor c.pcc (a + 4) }))

/-! ## Loads, stores, atomics, ordering -/

/-- R140, R142, R177 (Table 03-10): the address of each mode and the cursor it writes back: offset, indexed with the index scaled by the size,
post-increment by a signed immediate times the size, modulo and bit-reversed in the buffer of MODk. R140, R144 to R147: a load whose
access is allowed and whose cell the memory path has gives rd that cell's number or cell, extended as its row of Table 03-9 says, and LDX
and LDU the same by size and mode, with the base written back. The rows LDB, LDBU, LDH, LDHU, LDW, LDWU, LDD and LDQ. -/
def Obligations.Loads : Prop :=
  (
  ∀ (t : State) (e : Eid) (c : Cell) (n lg k : Nat) (imm : BitVec 13) (ix : Reg) (x : Dword) (reg : Option Nat) (acc : Nat),
    let cur : Nat := capCursor c
    let md := (t.chuck e.toNat).sysr (0x20 + k)
    let len : Nat := md.toNat % 2 ^ 28
    let o : Nat := (cur + 2 ^ 56 - capBase c) % 2 ^ 56 % len
    let step : Int := ((md.toNat / 2 ^ 32 % 2 ^ 16 : Nat) : Int) - (if bit md 47 then 2 ^ 16 else 0)
    let nc : Nat := (capBase c + (((o : Int) + step * (n : Int)) % (len : Int)).toNat) % 2 ^ 56
    (Addr.eval (.ofs imm) e.toNat c n reg acc).run t = .ok ((cur + (imm.signExtend 56).toNat) % 2 ^ 56, none) t ∧
    (IntOp t e ix x → (Addr.eval (.idx ix lg) e.toNat c n reg acc).run t = .ok ((cur + x.toNat * 2 ^ lg) % 2 ^ 56, none) t) ∧
    (Addr.eval (.post ix) e.toNat c n reg acc).run t = .ok (cur, some (((cur : Int) + ix.toInt * (n : Int)) % 2 ^ 56).toNat) t ∧
    ((c.kind = .cap ∨ c.kind = .sealed) → capMalformed c = false → n ≠ 0 →
      (len = 0 ∨ len % n ≠ 0 → (Addr.eval (.modulo k) e.toNat c n reg acc).run t = .error (.exc { code := 9, val := cur, reg := reg, acc := acc }) t) ∧
      (len ≠ 0 → len % n = 0 →
        (Addr.eval (.modulo k) e.toNat c n reg acc).run t = .ok ((capBase c + o) % 2 ^ 56, some nc) t ∧
        ∀ b, len / n = 2 ^ b →
          (Addr.eval (.rev k) e.toNat c n reg acc).run t = .ok ((capBase c + bitrev b (o / n) * n + o % n) % 2 ^ 56, some nc) t))) ∧
  (
  ∀ (s t v u : State) (e : Eid) (g : Grd) (rd rs1 ix : Reg) (c : Cell) (m : MCell) (k : Kind) (pa : Nat) (mt : MemType),
    regOf t e rs1 = c → kindOfTag m.tag = some k →
    let legal : Nat → Prop := fun n => if n = 16 then (k = .cap ∨ k = .sealed → capHas c .ldc = true) else k ≠ .cap ∧ k ≠ .sealed
    (∀ p ∈ ([(.ldb, 0x10, 1, true), (.ldbu, 0x11, 1, false), (.ldh, 0x12, 2, true), (.ldhu, 0x13, 2, false), (.ldw, 0x14, 4, true),
        (.ldwu, 0x15, 4, false), (.ldd, 0x16, 8, false), (.ldq, 0x17, 16, false)] :
        List ((Eid → Grd → Reg → Reg → BitVec 13 → Instr) × Nat × Nat × Bool)),
      ∀ imm : BitVec 13, Runs s e (encI g p.2.1 rd rs1 imm) t →
        let a := (capCursor c + (imm.signExtend 56).toNat) % 2 ^ 56
        Reaches t v e rs1 c a p.2.2.1 false false (pure ()) pa mt → Sees v e pa p.2.2.1 mt m u → legal p.2.2.1 →
        Retires (p.1 e g rd rs1 imm) s e (setR u e rd (loadedCell p.2.2.1 p.2.2.2 a m k))) ∧
    (∀ (mode size : BitVec 3) (sx : Bool) (a : Nat) (new : Option Nat), size.toNat ≤ 4 →
      let n := 2 ^ size.toNat
      (Addr.eval (addrOf mode ix size.toNat) e.toNat c n (some rs1.toNat) 1).run t = .ok (a, new) t → Sees v e pa n mt m u → legal n →
      (Runs s e (encM g 0x1D rd rs1 ix mode size sx false) t → Reaches t v e rs1 c a n false false (pure ()) pa mt →
        Retires (.ldx e g rd rs1 ix mode size sx) s e (setR (wroteBack u e rs1 c new) e rd (loadedCell n sx a m k))) ∧
      (Runs s e (encM g 0x1D rd rs1 ix mode size sx true) t → Reaches t v e rs1 c a n false true (pure ()) pa mt →
        Retires (.ldu e g rd rs1 ix mode size sx) s e (setR (wroteBack u e rs1 c new) e rd (loadedCell n sx a m k)))))

/-- R206, R208: where a load finds its cell: bytes the engine still buffers, else the line of L1D, and memory itself for a DEVICE page; a miss
changes nothing but to wait for the line; a line with an uncorrectable error at the cell is dropped and read again. R206, R208: the line a
load waits for returns: with every cell of it sound the load completes with its cell of memory, the engine's own buffered bytes over it,
and the line stands in L1D. The row L1D_LINE_FILL. -/
def Obligations.LoadPath : Prop :=
  (
  ∀ (t : State) (e : Eid) (pa n : Nat) (mt : MemType) (l : L1Line) (reg : Option Nat) (miss : LoadReq),
    let x := t.engine e.toNat
    let key := keyOf e.toNat pa
    let m := (loadMem e.toNat pa n mt reg miss).run t
    (mt ≠ .device → sbCovers x.sb (alignDown key 16) (key % 16) n = true → m = .ok (sbOver x.sb (alignDown key 16) MCell.poison) t) ∧
    (mt ≠ .device → sbCovers x.sb (alignDown key 16) (key % 16) n = false → l1Find x.l1d (key / 64) = some l →
      let w := errWeight (l.err (key % 64))
      (w.1 = 0 ∨ w.1 = 1 ∧ w.2 < 20 → m = .ok (l.cell (key % 64)) t) ∧
      (w.1 = 2 ∨ w.1 = 1 ∧ 20 ≤ w.2 →
        m = .error .wait (t.updEngine e.toNat (fun x => { (x.dropL1d key) with load := some { miss with refetch := true } })))) ∧
    (mt ≠ .device → sbCovers x.sb (alignDown key 16) (key % 16) n = false → l1Find x.l1d (key / 64) = none →
      m = .error .wait (t.updEngine e.toNat (fun x => { x with load := some miss }))) ∧
    (mt = .device → x.sb = [] → t.mem.err (alignDown key 16) = 0 → m = .ok (t.mem.cell key) t)) ∧
  (
  ∀ (s : State) (e : Eid) (upset : List (BitVec 176)) (r : LoadReq) (k : Kind),
    let n := e.toNat
    let key := keyOf n r.pa
    let m := sbOver (s.engine n).sb (alignDown key 16) (s.mem.cell key)
    (s.engine n).load = some r → (∀ j, alignDown key 64 ≤ j → j < alignDown key 64 + 64 → s.mem.err (alignDown j 16) = 0) →
    kindOfTag m.tag = some k → (if r.n = 16 then (k = .cap ∨ k = .sealed → capHas r.base .ldc = true) else k ≠ .cap ∧ k ≠ .sealed) →
    r.rd ≠ 0 → (r.wb.isSome = true → r.rd ≠ r.rs1) → r.n ≤ 16 →
    ∃ u, exec (.l1dLineFill e upset) s = .next u ∧ (u.engine n).load = none ∧ (l1Find (u.engine n).l1d (key / 64)).isSome = true ∧
      (u.chuck n).reg r.rd = loadedCell r.n r.sx r.va m k ∧ SameMem s u)

/-- R140 to R147, R206, Table 05-2: a store whose access is allowed completes: with room in the store buffer it retires with its bytes in the
buffer, its value read before any write-back; on a DEVICE page, with the buffer empty, it retires with its bytes in memory; STQ and the
16-byte forms keep the kind, a capability's after its lineage check (R94). With the buffer full, or not yet empty for a DEVICE page, it
stays at PCC, and STORE_BUFFER_WRITE makes the room. The rows STB, STH, STW, STD, STX and STU. R58, R206: STORE_BUFFER_WRITE takes the
oldest buffered store to memory: a whole cell with its kind, or its bytes merged into the cell, which becomes RAW. Every byte of memory
outside the stored cell reads as before, and within it every byte not stored to. -/
def Obligations.Stores : Prop :=
  (
  ∀ (s t u w : State) (e : Eid) (g : Grd) (rv rs1 ix : Reg) (c v : Cell) (k : Kind) (pa : Nat) (mt : MemType),
    regOf t e rs1 = c → regOf t e rv = v →
    let n1 := e.toNat
    let t9 : Nat → Nat → EM Unit := fun n a => if n = 16 then test9 c v a (some rs1.toNat) else pure ()
    let legal : Nat → Prop := fun n =>
      if n = 16 then (storeKind n1 v false).run u = .ok k w else (v.kind = .raw ∨ v.kind = .int) ∧ w = u
    let key := keyOf n1 pa
    let completes : Instr → Nat → Option Nat → Prop := fun i n new =>
      let data := v.bits.toNat % 2 ^ (8 * n)
      (mt ≠ .device → (w.engine n1).sb.length < 4 → ∃ x, Retires i s e (wroteBack x e rs1 c new) ∧ Buffered w x e pa n data k) ∧
      (mt = .device → (w.engine n1).sb = [] → w.mem.wf = true → w.mem.err (alignDown key 16) = 0 → ¬(0x20000000 ≤ key ∧ key < 0x30000000) →
        ∃ x, Retires i s e (wroteBack x e rs1 c new) ∧ Stored w x e pa n data k) ∧
      ((if mt = .device then (w.engine n1).sb ≠ [] else 4 ≤ (w.engine n1).sb.length) → exec i s = .next w)
    (∀ p ∈ ([(.stb, 0x18, 1), (.sth, 0x19, 2), (.stw, 0x1A, 4), (.std, 0x1B, 8), (.stq, 0x1C, 16)] :
        List ((Eid → Grd → Reg → Reg → BitVec 13 → Instr) × Nat × Nat)),
      ∀ imm : BitVec 13, Runs s e (encI g p.2.1 rv rs1 imm) t →
        let a := (capCursor c + (imm.signExtend 56).toNat) % 2 ^ 56
        Reaches t u e rs1 c a p.2.2 true false (t9 p.2.2 a) pa mt → legal p.2.2 → completes (p.1 e g rv rs1 imm) p.2.2 none) ∧
    (∀ (mode size : BitVec 3) (a : Nat) (new : Option Nat), size.toNat ≤ 4 →
      let n := 2 ^ size.toNat
      (Addr.eval (addrOf mode ix size.toNat) e.toNat c n (some rs1.toNat) 2).run t = .ok (a, new) t → legal n →
      (Runs s e (encM g 0x1E rv rs1 ix mode size false false) t → Reaches t u e rs1 c a n true false (t9 n a) pa mt →
        completes (.stx e g rv rs1 ix mode size) n new) ∧
      (Runs s e (encM g 0x1E rv rs1 ix mode size false true) t → Reaches t u e rs1 c a n true true (t9 n a) pa mt →
        completes (.stu e g rv rs1 ix mode size) n new))) ∧
  (
  ∀ (s : State) (e : Eid) (b : SbEntry) (l : List SbEntry), s.mem.wf = true → (s.engine e.toNat).sb = b :: l → b.cell % 16 = 0 →
    ¬(0x20000000 ≤ b.cell ∧ b.cell < 0x30000000) → s.mem.err b.cell = 0 →
    (b.n = 16 ∧ b.ofs = 0 ∨ b.n < 16 ∧ b.ofs + b.n ≤ 16 ∧ 0 < b.n) →
    ∃ u, exec (.storeBufferWrite e) s = .next u ∧ (u.engine e.toNat).sb = l ∧ u.mem.wf = true ∧
      (∀ a, ¬(b.cell + b.ofs ≤ a ∧ a < b.cell + b.ofs + b.n) → u.mem.byte a = s.mem.byte a) ∧
      (∀ i, i < b.n → u.mem.byte (b.cell + b.ofs + i) = BitVec.ofNat 8 (b.data / 2 ^ (8 * i))) ∧
      u.mem.tag b.cell = (if b.n = 16 then kindTag b.kind else 0) ∧ ∀ a, a ≠ b.cell → u.mem.tag a = s.mem.tag a)

/-- R150: TAS of a sound cell that is no capability loads the old byte and leaves 0x01 there, the cell RAW. R151: LRES loads a cell and holds
its reservation; SCND on the cell reserved stores the cell and gives 0, on any other gives 1 and stores nothing; either way the
reservation is gone, and a store breaks the reservations of every engine on the cell. -/
def Obligations.AtomicAccesses : Prop :=
  (
  ∀ (s t v : State) (e : Eid) (g : Grd) (rd rs1 : Reg) (c : Cell) (pa : Nat) (k : Kind),
    let key := keyOf e.toNat pa
    let cell := t.mem.cell key
    Runs s e (encR g 0x1F rd rs1 0 1) t → regOf t e rs1 = c → capCursor c % 16 = key % 16 →
    (atomAccess e.toNat c 1 [.ld, .st] true true rs1 (pure ())).run t = .ok pa v → ¬(0x20000000 ≤ key ∧ key < 0x30000000) →
    t.mem.err (alignDown key 16) = 0 → kindOfTag cell.tag = some k → k ≠ .cap → k ≠ .sealed →
    ∃ u, Retires (.tas e g rd rs1) s e u ∧ (rd ≠ 0 → regOf u e rd = loadedCell 1 false key cell k) ∧
      u.mem = t.mem.setCell key { bits := mergeBytes cell.bits (key % 16) 1 1, tag := 0 }) ∧
  (
  ∀ (s t a w : State) (e : Eid) (g : Grd) (rd rs1 rs2 : Reg) (c v : Cell) (pa : Nat) (k : Kind),
    let key := keyOf e.toNat pa
    let cell := t.mem.cell key
    regOf t e rs1 = c → regOf t e rs2 = v → ¬(0x20000000 ≤ key ∧ key < 0x30000000) → t.mem.err (alignDown key 16) = 0 →
    (Runs s e (encR g 0x1F rd rs1 0 2) t → (atomAccess e.toNat c 16 [.ld] true false rs1 (pure ())).run t = .ok pa a →
      kindOfTag cell.tag = some k → (k = .cap ∨ k = .sealed → capHas c .ldc = true) →
      ∃ u, Retires (.lres e g rd rs1) s e u ∧ (u.engine e.toNat).resv = some (alignDown key 16) ∧
        (rd ≠ 0 → regOf u e rd = { bits := cell.bits, kind := k }) ∧ u.mem = t.mem) ∧
    (Runs s e (encR g 0x1F rd rs1 rs2 3) t →
      (atomAccess e.toNat c 16 [.st] false true rs1 (test9 c v (capCursor c) (some rs1.toNat))).run t = .ok pa a →
      ((t.engine e.toNat).resv = some (alignDown key 16) → (storeKind e.toNat v false).run a = .ok k w →
        ∃ u, Retires (.scnd e g rd rs1 rs2) s e u ∧ (rd ≠ 0 → regOf u e rd = intCell 0) ∧
          u.mem = t.mem.setCell key { bits := v.bits, tag := kindTag k } ∧ ∀ i, (u.engine i).resv ≠ some (alignDown key 16)) ∧
      ((t.engine e.toNat).resv ≠ some (alignDown key 16) →
        ∃ u, Retires (.scnd e g rd rs1 rs2) s e u ∧ (rd ≠ 0 → regOf u e rd = intCell 1) ∧ u.mem = t.mem ∧ (u.engine e.toNat).resv = none)))

/-- R155, R353 (Table 03-13): BAR.REL, BAR.FULL and MSYNC complete once the store buffer is empty, and wait before; BAR.ACQ and BAR.FULL drop
the lines of L1D that hold cluster memory or DRAM. The rows BAR_ACQ, BAR_REL and BAR_FULL. R160, R215, R218, R233, R246, R253: NOP changes
nothing; PFLUSH forgets the task's direction counters and branch targets, and PBAR does so for good, with DET in the task's descriptor;
WAIT goes on past unmasked recorded vectors, else its task waits and the engine looks for another; at K it ends a scheduler trap. -/
def Obligations.BarriersAndWaits : Prop :=
  (
  ∀ (s t : State) (e : Eid) (g : Grd),
    let acquired : State → Prop := fun u =>
      u.mem = t.mem ∧ (u.engine e.toNat).chucks = (t.engine e.toNat).chucks ∧
      (∀ l ∈ (u.engine e.toNat).l1d, l ∈ (t.engine e.toNat).l1d) ∧
      ∀ l ∈ (t.engine e.toNat).l1d, l ∈ (u.engine e.toNat).l1d ↔ ¬(64 * l.line < 0x4000000 ∨ (0x10000000000 ≤ 64 * l.line ∧ 64 * l.line < 0x10400000000))
    (Runs s e (encR g 0x20 0 0 0 1) t → ∃ u, Retires (.barAcq e g) s e u ∧ acquired u) ∧
    ((t.engine e.toNat).sb = [] →
      (Runs s e (encR g 0x20 0 0 0 2) t → Retires (.barRel e g) s e t) ∧
      (Runs s e (encR g 0x20 0 0 0 3) t → ∃ u, Retires (.barFull e g) s e u ∧ acquired u) ∧
      (Runs s e (encR g 0x20 0 0 0 8) t → Retires (.msync e g) s e t)) ∧
    ((t.engine e.toNat).sb ≠ [] →
      (Runs s e (encR g 0x20 0 0 0 2) t → exec (.barRel e g) s = .next t) ∧
      (Runs s e (encR g 0x20 0 0 0 3) t → exec (.barFull e g) s = .next t) ∧
      (Runs s e (encR g 0x20 0 0 0 8) t → exec (.msync e g) s = .next t))) ∧
  (
  ∀ (s t : State) (e : Eid) (g : Grd),
    let n := e.toNat
    let x := t.engine n
    let forgot : Engine → Prop := fun y =>
      (∀ p ∈ y.dirc, p ∈ x.dirc ∧ p.2.owner ≠ some x.slot) ∧ (∀ b ∈ y.btb, b ∈ x.btb ∧ b.task ≠ t.taskId n) ∧ y.chucks = x.chucks
    (Runs s e (encR g 0x27 0 0 0 0) t → Retires (.nop e g) s e t) ∧
    (Runs s e (encR g 0x27 0 0 0 2) t → ∃ u, Retires (.pflush e g) s e u ∧ forgot (u.engine n) ∧ u.mem = t.mem) ∧
    (Runs s e (encR g 0x27 0 0 0 3) t → t.mem.wf = true → (
      let d := t.descAddr n x.slot + 0x10
      ∃ u, Retires (.pbar e g) s e u ∧ forgot (u.engine n) ∧ u.detMode n = true ∧
        (∀ a, ¬(d ≤ a ∧ a < d + 16) → u.mem.byte a = t.mem.byte a) ∧ (t.isMemory d = false → u.mem = t.mem) ∧
        (t.isMemory d = true → t.mem.err d = 0 → u.mem.cell d = { bits := (t.mem.cell d).bits ||| 0x20, tag := 0 }))) ∧
    (Runs s e (encR g 0x27 0 0 0 0x10) t → t.twinWaits n = false →
      (x.level = .t → (t.curSlot n).pend &&& ~~~(t.curSlot n).emask ≠ 0 →
        ∃ u, Retires (.wait e g) s e u ∧ (u.curSlot n).pend = (t.curSlot n).pend &&& (t.curSlot n).emask ∧ (u.curSlot n).st = (t.curSlot n).st) ∧
      (x.level = .t → (t.curSlot n).pend &&& ~~~(t.curSlot n).emask = 0 →
        ∃ u, exec (.wait e g) s = .next u ∧ (u.engine n).running = false ∧ (u.curSlot n).st = .waiting ∧ (u.engine n).resv = none) ∧
      (x.level = .k → x.trap = true →
        ∃ u, exec (.wait e g) s = .next u ∧ (u.engine n).trap = false ∧ (u.engine n).level = .t ∧ (u.engine n).running = false) ∧
      (x.level = .k → x.trap = false → Retires (.wait e g) s e t) ∧ (x.level = .rest → Retires (.wait e g) s e t)))

/-- R148, R393, R400, R403: a 4-byte load of a device register by an unpaired engine gives what the register reads, extended; a store that is
no gated act writes it; a gated act waits at the gate, and UNPAIRED_ACT_FORWARD then writes the register and retires the store. -/
def Obligations.DeviceRegisterAccess : Prop :=
  ∀ (s t u x : State) (e : Eid) (g : Grd) (rd rs1 : Reg) (imm : BitVec 13) (c v : Cell) (pa b o : Nat) (w : Word),
    let a := (capCursor c + (imm.signExtend 56).toNat) % 2 ^ 56
    let reaches : Bool → Prop := fun wr =>
      (dataAccess e.toNat { cap := c, a := a, n := 4, need := [if wr then .st else .ld], rd := !wr, wr := wr, align := true, user := false
                            inl := false, reg := some rs1.toNat, accCode := if wr then 2 else 1 } (pure ())).run t = .ok (pa, .device) x
    regOf t e rs1 = c → t.region pa = .regs b o → (t.engine e.toNat).sb = [] → t.pairedEng e.toNat = false →
    (reaches false → engineMay b false = true → x.regRead (.engine e) b o = (w, u) →
      (Runs s e (encI g 0x15 rd rs1 imm) t → Retires (.ldwu e g rd rs1 imm) s e (setI u e rd (w.setWidth 64))) ∧
      (Runs s e (encI g 0x14 rd rs1 imm) t → Retires (.ldw e g rd rs1 imm) s e (setI u e rd (w.signExtend 64)))) ∧
    (reaches true → engineMay b true = true → regOf t e rd = v → (v.kind = .raw ∨ v.kind = .int) → Runs s e (encI g 0x1A rd rs1 imm) t →
      (gatedReg b o = false → (x.regWrite (.engine e) b o (v.bits.setWidth 32)).pairedEng e.toNat = false →
        Retires (.stw e g rd rs1 imm) s e (x.regWrite (.engine e) b o (v.bits.setWidth 32))) ∧
      (gatedReg b o = true → ∃ h, exec (.stw e g rd rs1 imm) s = .next (x.updEngine e.toNat (fun x => { x with act := some h })) ∧
        h.addr = pa ∧ h.data = v.bits.setWidth 32)) ∧
    (∀ h, (s.engine e.toNat).act = some h → s.pairedEng e.toNat = false → s.region h.addr = .regs b o → h.wb = none →
      let f := (s.regWrite (.engine e) b o h.data).updEngine e.toNat (fun x => { x with act := none })
      f.pairedEng e.toNat = false → (f.retire e.toNat .seq).pairedEng e.toNat = false →
      exec (.unpairedActForward e) s = .next (f.retire e.toNat .seq))

/-! ## Exceptions and system instructions -/

/-- R156, R161, R162: TRAP raises System Call with its number in EVAL, at the TRAP; a word that is no instruction of the task's class raises
Illegal Instruction with the word in EVAL and changes nothing before the entry. The row ILLEGAL_INSTRUCTION. -/
def Obligations.TrapsAndIllegalWords : Prop :=
  ∀ (s t : State) (e : Eid) (g : Grd) (num : BitVec 12) (w : Word),
    (Runs s e (encI g 0x24 0 0 (num.setWidth 13)) t → Faults (.trap e g num) s e t 0x12 num.toNat none 0) ∧
    (s.ready e.toNat = true → (s.engine e.toNat).long = none → s.pairGo e.toNat = true → (fetch e.toNat false).run s = .ok w t →
      legalWord w (s.stream e.toNat) (bit (s.esys e.toNat 0x10A) 4) = false →
      Faults (.illegalInstruction e w) s e t 1 w.toNat none 0)

/-- R283, R284: the entry at K of an exception of a task: the level becomes K in chuck 7, EPCC takes PCC, ESTAT the level T and whether the
engine ran in a task's chuck, ECAUSE the code, ACC and register, EVAL the value, and PCC the handler that VBAR and VMODE name, at a
multiple of 4 (notes/assumptions/59.md); a handler that cannot be fetched escalates to Rest instead. R288: an exception at level Rest
stops the engine: nothing further is READY or RUNNING on it, ENG_STOP is set, and EPCC, ECAUSE and EVAL say where and why. -/
def Obligations.ExceptionEntry : Prop :=
  (
  ∀ (s : State) (e : Nat) (x : Exc) (epc h : Cell) (imp : Bool) (u : State), (s.engine e).level = .t →
    let saved := (((s.setEcell e 0x100 epc).setEsys e 0x101 (BitVec.ofNat 64 (4 * (s.inTask e).toNat + 128 * imp.toNat))).setEsys e 0x103
      (BitVec.ofNat 64 x.val)).setEsys e 0x102 (BitVec.ofNat 64 (x.code + x.acc * 2 ^ 16 + match x.reg with
        | some r => 2 ^ 13 + r * 256
        | none => 0))
    let inK := (saved.toLevel e .k).sigExc e x.code x.val
    inK.vector e x.code = (some h, u) → ((u.setPcc e h).firstFetch e).1 = true →
    let v := s.enterK e x epc imp
    v = ((u.setPcc e h).firstFetch e).2 ∧ (v.engine e).level = .k ∧ (v.engine e).cur = 7 ∧ (v.chuck e).pcc = alignPcc h ∧ v.ecell e 0x100 = epc ∧
      v.esys e 0x103 = BitVec.ofNat 64 x.val ∧ bits (v.esys e 0x102) 5 0 = x.code % 64 ∧ bits (v.esys e 0x101) 1 0 = 0 ∧
      (v.engine e).resv = none) ∧
  (
  ∀ (s : State) (e : Nat) (x : Exc) (epc : Cell) (imp : Bool), e < 1024 → (s.engine e).level = .rest → (s.engine e).stopped = false →
    s.pairedEng e = false →
    let v := s.enterK e x epc imp
    (v.engine e).stopped = true ∧ (v.engine e).running = false ∧ v.ecell e 0x100 = epc ∧
      v.esys e 0x102 = BitVec.ofNat 64 (x.code * 2 ^ 24 + 0x3F) ∧ v.esys e 0x103 = BitVec.ofNat 64 x.val ∧
      v.fld (tileBlk (tileOf e)) 0x304 (e % 32) (e % 32) = 1 ∧ ∀ p ∈ (v.engine e).slots, p.2.st = .free ∨ p.2.st = .stopped)

/-- R291: an XRET returns to the level, chuck and PCC that ESTAT and EPCC name, where R291's tests of them pass: at K of an entry that pushed
no frame at once, else after the pop of the frame, which moves the stack register up by 64 bytes; what fails the tests is a Return
Privilege Violation. PCC takes EPCC at a multiple of 4 (notes/assumptions/59.md). -/
def Obligations.ExceptionReturn : Prop :=
  ∀ (s t v : State) (e : Eid) (g : Grd), Runs s e (encR g 0x27 0 0 0 1) t →
    let n := e.toNat
    let lvl := (t.engine n).level
    let sr := if lvl = .rest then 0x181 else 0x104
    let st := t.esys n 0x101
    let tgt := t.ecell n 0x100
    (t.xretFault n = 0 → (lvl = .k ∧ bit st 3 = false ∧ v = t) ∨ ((lvl = .rest ∨ bit st 3 = true) ∧ (popFrame n lvl).run t = .ok () v) →
      ∃ u, exec (.xret e g) s = .next u ∧ (u.chuck n).pcc = alignPcc tgt ∧ (u.engine n).resv = none ∧
        ((u.engine n).level = if st.toNat % 4 = 0 then .t else .k) ∧
        ((u.engine n).cur = if bit st 2 then (v.curSlot n).chuck.getD 7 else 7) ∧ SameMem v u) ∧
    ((popFrame n lvl).run t = .ok () v → v.ecell n sr = withCursor (t.ecell n sr) (capCursor (t.ecell n sr) + 64)) ∧
    (t.xretFault n ≠ 0 → Faults (.xret e g) s e t 0x18 (t.xretFault n) none 0)

/-- R157, R158, R195, R217 (Table 03-14): what GSR gives: PCC, the cell registers, TASKID, the engine's id, the constant feature registers, 0
for PSALT, the chuck's and the engine's 64-bit registers; CYCLE counts on with every read, and TIME is system time. R124, R157 to R159,
R217: what SSR leaves: a cell register takes the cell of rs1; a 64-bit register takes the writable bits of rs1, but for an encoded field
given a reserved value, which stays and sets TSTAT.CFGERR; TSTAT's write-1-to-clear bits fall, and its class stays; PSALT is the salt of
the task from then on. -/
def Obligations.SystemRegisters : Prop :=
  (
  ∀ (s t : State) (e : Eid) (g : Grd) (rd : Reg) (sr : BitVec 12), Runs s e (encI g 0x25 rd 0 (sr.setWidth 13)) t →
    let n := sr.toNat
    let gives : Dword → Prop := fun v => Retires (.gsr e g rd sr) s e (setI t e rd v)
    let isCell := n = 0x100 ∨ n = 0x104 ∨ n = 0x105 ∨ n = 0x180 ∨ n = 0x181
    (n = 1 → Retires (.gsr e g rd sr) s e (setR t e rd (t.chuck e.toNat).pcc)) ∧
    (isCell → Retires (.gsr e g rd sr) s e (setR t e rd (t.ecell e.toNat n))) ∧
    (n = 2 → gives (BitVec.ofNat 64 (t.taskId e.toNat))) ∧ (n = 3 → gives (e.setWidth 64)) ∧ (n = 0x10D → gives 0) ∧
    (n = 0x30 → gives 0x0001000F4834080F) ∧ (n = 0x31 → gives 0x2040107F) ∧
    (n = 0x32 → gives 0x0000408020200888) ∧ (n = 0x33 → gives 0x0000A20004000001) ∧
    ((n = 0 ∨ n = 8 ∨ 0x10 ≤ n ∧ n ≤ 0x23) → gives ((t.chuck e.toNat).sysr n)) ∧
    (0x101 ≤ n → ¬isCell → n ≠ 0x10D → gives (t.esys e.toNat n)) ∧
    (n = 4 → Retires (.gsr e g rd sr) s e (setI { t with freeCtr := t.freeCtr + 1 } e rd (Config.cycleCount t.freeCtr))) ∧
    (n = 5 → t.pairedEng e.toNat = false → Retires (.gsr e g rd sr) s e (setI t.now.2 e rd t.now.1))) ∧
  (
  ∀ (s t : State) (e : Eid) (g : Grd) (sr : BitVec 12) (rs1 : Reg) (v : Dword), Runs s e (encI g 0x26 0 rs1 (sr.setWidth 13)) t →
    let n := sr.toNat
    ((n = 0x100 ∨ n = 0x104 ∨ n = 0x105 ∨ n = 0x180 ∨ n = 0x181) →
      Retires (.ssr e g sr rs1) s e (t.setEcell e.toNat n (regOf t e rs1))) ∧
    (IntOp t e rs1 v →
      (n = 0 → ∃ u, Retires (.ssr e g sr rs1) s e u ∧ (
        let a := (t.chuck e.toNat).sysr 0
        let b := (u.chuck e.toNat).sysr 0
        (∀ i, i ≤ 3 ∨ i = 8 ∨ i = 9 → bit b i = bit v i) ∧ (∀ i, i = 4 ∨ i = 12 → bit b i = (bit a i && !bit v i)) ∧ bit b 16 = bit a 16 ∧
        bit b 17 = (if (t.engine e.toNat).level = .t then bit a 17 else bit v 17))) ∧
      ((n = 0x101 ∨ n = 0x106 ∨ n = 0x10A) →
        ∃ u, Retires (.ssr e g sr rs1) s e u ∧
          (let bad := if n = 0x10A then v.toNat % 4 = 3 else 2 ≤ v.toNat % 4
           (bad → bits (u.esys e.toNat n) 1 0 = bits (t.esys e.toNat n) 1 0 ∧ bit ((u.chuck e.toNat).sysr 0) 12 = true) ∧
           (¬bad → bits (u.esys e.toNat n) 1 0 = v.toNat % 4 ∧ (u.chuck e.toNat).sysr 0 = (t.chuck e.toNat).sysr 0))) ∧
      ((n = 0x108 ∨ n = 0x109) → Retires (.ssr e g sr rs1) s e (t.setEsys e.toNat n (v &&& 0xFFFFFFFF000))) ∧
      ((n = 0x102 ∨ n = 0x103 ∨ n = 0x10B) →
        Retires (.ssr e g sr rs1) s e (t.setEsys e.toNat n (if n = 0x102 then v &&& 0x3F033F3F else if n = 0x10B then v &&& 0xFFF else v))) ∧
      (n = 0x10D → ∃ u, Retires (.ssr e g sr rs1) s e u ∧ u.esys e.toNat n = v &&& 0xFFFFFFFFFFFFFFF ∧
        (u.curSlot e.toNat).psalt = v.setWidth 60 ∧ (u.engine e.toNat).chucks = (t.engine e.toNat).chucks ∧ u.mem = t.mem) ∧
      ((n = 8 ∨ 0x10 ≤ n ∧ n ≤ 0x16 ∨ 0x18 ≤ n ∧ n ≤ 0x1A ∨ 0x20 ≤ n ∧ n ≤ 0x23) →
        Retires (.ssr e g sr rs1) s e (t.updChuck e.toNat (fun c => c.setSysr n (v &&&
          (if n = 8 then 0x80FFFFFFFFFFFFFF else if n ≤ 0x16 then 0xFFFFFFFFFFFFFF else if n ≤ 0x1A then BitVec.allOnes 64 else 0xFFFF0FFFFFFF)))))))

/-- R205, R329 to R334, R511 (Table 08-8): TINV drops the TLB entries its form names and every walk-cache entry of the engine, after the store
buffer is empty; TINV.BCAST then holds the engine until every other engine has acknowledged, which one that is held or asleep does at
once. The rows TINV_ALL, TINV_ASID, TINV_VA and TINV_BCAST. -/
def Obligations.TlbInvalidation : Prop :=
  ∀ (s t : State) (e : Eid) (g : Grd) (rs1 rs2 : Reg) (v a : Dword), (t.engine e.toNat).sb = [] →
    let n := e.toNat
    let tlb := (t.engine n).tlb
    let va := v.toNat % 2 ^ 56
    let asid := a.toNat % 2 ^ 12
    let walks : State → Prop := fun u => ∀ w ∈ Map.get [] u.wcache (clusterOf n), w.owner ≠ n
    (Runs s e (encR g 0x27 0 0 0 8) t → ∃ u, Retires (.tinvAll e g) s e u ∧ (u.engine n).tlb = [] ∧ (u.engine n).l1i = [] ∧ walks u) ∧
    (IntOp t e rs1 v →
      (Runs s e (encR g 0x27 0 rs1 0 9) t →
        ∃ u, Retires (.tinvAsid e g rs1) s e u ∧ (u.engine n).tlb = tlb.filter (fun q => q.g || q.asid != v.toNat % 2 ^ 12) ∧
          (u.engine n).l1i = [] ∧ walks u) ∧
      (IntOp t e rs2 a →
        (Runs s e (encR g 0x27 0 rs1 rs2 10) t →
          ∃ u, Retires (.tinvVa e g rs1 rs2) s e u ∧ (u.engine n).tlb = tlb.filter (fun q => !q.hit va asid) ∧ walks u) ∧
        (Runs s e (encR g 0x27 0 rs1 rs2 11) t →
          let pend := (List.range 1024).filter (fun i => i != n && !t.acksAtOnce i)
          let swept : State → Prop := fun u => walks u ∧ (u.engine n).tlb = tlb.filter (fun q => !q.hit va asid) ∧
            ∀ i, i < 1024 → i ≠ n → t.acksAtOnce i = true → (u.engine i).tlb = (t.engine i).tlb.filter (fun q => !q.hit va asid)
          (pend ≠ [] → (∀ b ∈ t.bcasts, b.pend ≠ []) →
            ∃ u, exec (.tinvBcast e g rs1 rs2) s = .next u ∧ swept u ∧ (u.engine n).bcast = true ∧
              u.bcasts = t.bcasts ++ [{ issuer := n, va := va, asid := asid, pend := pend }]) ∧
          (pend = [] → t.bcasts = [] → ∃ u, Retires (.tinvBcast e g rs1 rs2) s e u ∧ swept u ∧ (u.engine n).bcast = false ∧ u.bcasts = []))))

/-! ## Long instructions -/

/-- R185, R186, R190, R191: the start of CPYB, FILLB, FILLB.P, SWEEP, MACR, MACRU and MACRQ with operands in order. A length of 0 completes at
once with PROG 0; any other takes up its operands, and the bytes PROG says are done, for LONG_CHUNK to go on with; CPYB runs down where it
must. The row FILLB_P. R187 to R191: a chunk of a fill with POISON or a value whose line is allowed: its cells hold the fill, no byte
outside the chunk changes, and the instruction goes on with the next chunk or, after the last, retires with PROG 0. -/
def Obligations.LongInstructions : Prop :=
  (
  ∀ (s t : State) (e : Eid) (g : Grd) (w a : BitVec 2) (rd rs1 rs2 : Reg) (len : Dword),
    let n := e.toNat
    let dst := regOf t e rd
    let src := regOf t e rs1
    let lane := 2 ^ w.toNat
    let prog := (t.chuck n).sysr 8
    let from_ := if bit prog 63 = true ∧ bits prog 55 40 = bits (BitVec.ofNat 56 (capCursor (t.chuck n).pcc)) 17 2 ∧ bits prog 39 0 < len.toNat
      then bits prog 39 0 else 0
    let starts : Instr → LongFn → Nat → Nat → Cell → Bool → Prop := fun i fn step r1 src down =>
      (len = 0 → Retires i s e (t.updChuck n (fun c => c.setSysr 8 0))) ∧
      (len ≠ 0 → len.toNat < 2 ^ 40 → capCursor dst % step = 0 → len.toNat % step = 0 → (fn.two = true → capCursor src % step = 0) →
        exec i s = .next (t.updEngine n (fun x => { x with
          long := some { fn := fn, dst := dst, src := src, rdN := rd.toNat, rs1N := r1, len := len.toNat, down := down, done := from_ }
          lchk := [] })))
    IntOp t e rs2 len →
    (Runs s e (encR g 0x29 rd rs1 rs2 1) t → starts (.cpyb e g rd rs1 rs2) .cpyb 1 rs1.toNat src
      (decide (capCursor src < capCursor dst ∧ capCursor dst < capCursor src + len.toNat))) ∧
    (Runs s e (encR g 0x29 rd rs1 rs2 2) t → (src.kind = .raw ∨ src.kind = .int) → starts (.fillb e g rd rs1 rs2) .fillb 16 rs1.toNat src false) ∧
    (Runs s e (encR g 0x29 rd 0 rs2 3) t → starts (.fillbP e g rd rs2) .fillbP 16 0 (regOf t e 0) false) ∧
    (Runs s e (encR g 0x29 rd 0 rs2 4) t → starts (.sweep e g rd rs2) .sweep 16 0 (regOf t e 0) false) ∧
    (w ≠ 3 →
      (Runs s e (encR g 0x29 rd rs1 rs2 (w.toNat * 64 + a.toNat * 16 + 8)) t → starts (.macr e g w a rd rs1 rs2) (.mac .mac w a) lane rs1.toNat src false) ∧
      (Runs s e (encR g 0x29 rd rs1 rs2 (w.toNat * 64 + a.toNat * 16 + 9)) t → starts (.macru e g w a rd rs1 rs2) (.mac .macu w a) lane rs1.toNat src false) ∧
      (Runs s e (encR g 0x29 rd rs1 rs2 (w.toNat * 64 + a.toNat * 16 + 10)) t →
        starts (.macrq e g w a rd rs1 rs2) (.mac .macq w a) lane rs1.toNat src false))) ∧
  (
  ∀ (s v : State) (e : Eid) (l : LongOp) (pa : Nat), s.mem.wf = true →
    let n := e.toNat
    let o := l.done
    let k := min (l.len - o) (64 - (capCursor l.dst + o) % 64)
    let key := keyOf n pa
    (s.engine n).long = some l → s.ready n = true → (s.engine n).sb = [] → (l.fn = .fillb ∧ kindInt l.src.kind = true ∨ l.fn = .fillbP) →
    l.down = false → l.done < l.len → capCursor l.dst % 16 = 0 → l.len % 16 = 0 → l.done % 16 = 0 → key % 16 = 0 →
    (checkRanges n k (l.ranges o)).run s = .ok [pa] v → (∀ i, i < k → keyOf n (pa + i) = key + i) → (s.engine n).dbg.stepping = false →
    ∃ u, exec (.longChunk e) s = .next u ∧
      (∀ a, ¬(key ≤ a ∧ a < key + k) → u.mem.byte a = s.mem.byte a) ∧
      (∀ i, i < k → u.mem.byte (key + i) = if l.fn = .fillb then BitVec.ofNat 8 (l.src.bits.toNat / 2 ^ (8 * (i % 16))) else 0) ∧
      (∀ i, i < k / 16 → u.mem.tag (key + 16 * i) = if l.fn = .fillb then kindTag l.src.kind else 4) ∧
      (l.done + k < l.len → (u.engine n).long = some { l with done := l.done + k } ∧ (u.chuck n).pcc = (s.chuck n).pcc) ∧
      (l.len ≤ l.done + k → (u.engine n).long = none ∧ (u.chuck n).sysr 8 = 0))

/-! ## Lanes, predicates and accumulators -/

/-- R163 to R165, R167: LADD, LADDS, LADDUS, LSUB, LSUBS, LSUBUS, LMUL, LMULQ, LMIN, LMAX, LMINU, LMAXU, LAND, LOR, LXOR, LANDN, LSLL, LSRL
and LSRA (Table 04-2), each with its major and function code and its lane `i`: where bit `i` of the guard is 1 the lane of rd takes the
value, elsewhere it stays; with no lane's bit 1 it writes nothing. -/
def Obligations.LaneResults : Prop :=
  let table : List ((Eid → Grd → BitVec 2 → Reg → Reg → Reg → Instr) × Nat × Nat × (Nat → Nat → Nat → Nat)) :=
    [(.ladd, 0x30, 0x00, fun w x y => (x + y) % 2 ^ w), (.ladds, 0x30, 0x01, fun w x y => wrap w (satS w (signed w x + signed w y))),
     (.laddus, 0x30, 0x02, fun w x y => min (x + y) (2 ^ w - 1)), (.lsub, 0x30, 0x03, fun w x y => (x + 2 ^ w - y) % 2 ^ w),
     (.lsubs, 0x30, 0x04, fun w x y => wrap w (satS w (signed w x - signed w y))), (.lsubus, 0x30, 0x05, fun _ x y => x - y),
     (.lmul, 0x30, 0x06, fun w x y => x * y % 2 ^ w),
     (.lmulq, 0x30, 0x07, fun w x y => wrap w (satS w ((2 * signed w x * signed w y + 2 ^ (w - 1)) / 2 ^ w))),
     (.lmin, 0x30, 0x08, fun w x y => if signed w x ≤ signed w y then x else y), (.lmax, 0x30, 0x09, fun w x y => if signed w x ≤ signed w y then y else x),
     (.lminu, 0x30, 0x0A, fun _ x y => min x y), (.lmaxu, 0x30, 0x0B, fun _ x y => max x y),
     (.land, 0x30, 0x10, fun _ x y => x &&& y), (.lor, 0x30, 0x11, fun _ x y => x ||| y), (.lxor, 0x30, 0x12, fun _ x y => x ^^^ y),
     (.landn, 0x30, 0x13, fun w x y => x &&& (2 ^ w - 1 - y)), (.lsll, 0x30, 0x14, fun w x y => x * 2 ^ y % 2 ^ w),
     (.lsrl, 0x30, 0x15, fun _ x y => x / 2 ^ y), (.lsra, 0x30, 0x16, fun w x y => wrap w (signed w x / 2 ^ y))]
  ∀ p ∈ table, ∀ (s t : State) (e : Eid) (g : Grd) (w : BitVec 2) (rd rs1 rs2 : Reg) (x y o : Quad),
    let n := laneWidth w
    let m := (t.chuck e.toNat).pred g.toNat
    Runs s e (encR g p.2.1 rd rs1 rs2 (w.toNat * 64 + p.2.2.1)) t →
    (m.toNat % 2 ^ laneCount w = 0 → Retires (p.1 e g w rd rs1 rs2) s e t) ∧
    (m.toNat % 2 ^ laneCount w ≠ 0 → QuadOp t e rs1 x → QuadOp t e rs2 y → Merges t e rd m (laneCount w) o →
      ∃ q, Retires (p.1 e g w rd rs1 rs2) s e (setR t e rd { bits := q, kind := .int }) ∧
        ∀ i, i < laneCount w → lane q n i = if bit m i then p.2.2.2 n (lane x n i) (lane y n i) else lane o n i)

/-- R163 to R165, R167, R168: LABS, LNEGS, LSPLAT, LREV, LZIPLO, LZIPHI, LUNZIPE, LUNZIPO, LPACKS, LPACKUS, LPERM, LWIDEN.LO and LWIDEN.HI
(Tables 04-2, 04-3), each by the lane `j` of its result; with no lane's guard bit 1 it writes nothing. The rows LWIDEN_LO and LWIDEN_HI. -/
def Obligations.ShuffleResults : Prop :=
  ∀ (s t : State) (e : Eid) (g : Grd) (w : BitVec 2) (rd rs1 rs2 : Reg) (x y o : Quad),
    let n := laneWidth w
    let c := laneCount w
    let m := (t.chuck e.toNat).pred g.toNat
    QuadOp t e rs1 x →
    let gives : Instr → Nat → Nat → (Nat → Nat) → Prop := fun i n c f =>
      (m.toNat % 2 ^ c = 0 → Retires i s e t) ∧
      (m.toNat % 2 ^ c ≠ 0 → Merges t e rd m c o →
        ∃ q, Retires i s e (setR t e rd { bits := q, kind := .int }) ∧ ∀ j, j < c → lane q n j = if bit m j then f j else lane o n j)
    let runs : Nat → Reg → Prop := fun func r2 => Runs s e (encR g 0x34 rd rs1 r2 (w.toNat * 64 + func)) t
    (Runs s e (encR g 0x30 rd rs1 0 (w.toNat * 64 + 0x0C)) t → gives (.labs e g w rd rs1) n c (fun j =>
      if lane x n j = 2 ^ (n - 1) then 2 ^ (n - 1) - 1 else (signed n (lane x n j)).natAbs)) ∧
    (Runs s e (encR g 0x30 rd rs1 0 (w.toNat * 64 + 0x0D)) t → gives (.lnegs e g w rd rs1) n c (fun j =>
      if lane x n j = 2 ^ (n - 1) then 2 ^ (n - 1) - 1 else (2 ^ n - lane x n j) % 2 ^ n)) ∧
    (Runs s e (encR g 0x30 rd rs1 0 (w.toNat * 64 + 0x20)) t → gives (.lsplat e g w rd rs1) n c (fun _ => lane x n 0)) ∧
    (runs 1 0 → gives (.lrev e g w rd rs1) n c (fun j => lane x n (c - 1 - j))) ∧
    (QuadOp t e rs2 y →
      (runs 2 rs2 → gives (.lziplo e g w rd rs1 rs2) n c (fun j => lane (if j % 2 = 0 then x else y) n (j / 2))) ∧
      (runs 3 rs2 → gives (.lziphi e g w rd rs1 rs2) n c (fun j => lane (if j % 2 = 0 then x else y) n (c / 2 + j / 2))) ∧
      (runs 4 rs2 → gives (.lunzipe e g w rd rs1 rs2) n c (fun j => if j < c / 2 then lane x n (2 * j) else lane y n (2 * (j - c / 2)))) ∧
      (runs 5 rs2 → gives (.lunzipo e g w rd rs1 rs2) n c (fun j => if j < c / 2 then lane x n (2 * j + 1) else lane y n (2 * (j - c / 2) + 1))) ∧
      (runs 0x10 rs2 → w ≠ 3 → gives (.lpacks e g w rd rs1 rs2) n c (fun j =>
        wrap n (satS n (signed (2 * n) (if j < c / 2 then lane x (2 * n) j else lane y (2 * n) (j - c / 2)))))) ∧
      (runs 0x11 rs2 → w ≠ 3 → gives (.lpackus e g w rd rs1 rs2) n c (fun j =>
        wrap n (satU n (signed (2 * n) (if j < c / 2 then lane x (2 * n) j else lane y (2 * n) (j - c / 2)))))) ∧
      (Runs s e (encR g 0x34 rd rs1 rs2 0) t → gives (.lperm e g rd rs1 rs2) 8 16 (fun j =>
        if 128 ≤ lane y 8 j then 0 else lane x 8 (lane y 8 j % 16)))) ∧
    (w ≠ 3 →
      (runs 0x12 0 → gives (.lwidenLo e g w rd rs1) (2 * n) (c / 2) (fun j => wrap (2 * n) (signed n (lane x n j)))) ∧
      (runs 0x13 0 → gives (.lwidenHi e g w rd rs1) (2 * n) (c / 2) (fun j => wrap (2 * n) (signed n (lane x n (c / 2 + j))))))

/-- R164, R169: LINS writes one lane from an integer register, under that lane's guard bit; LEXT and LEXTS take one lane out, under bit 0 of
the guard; with the bit 0 each writes nothing. R164, R165, R171: an instruction under a stream major whose guard names no destination lane
writes nothing. R122: the words of every other engine instruction of a stream task, whatever it does, retire without effect where bit 0 of
the guard is 0, and B is then not taken. The row PCMP_EQ. -/
def Obligations.LaneMoves : Prop :=
  (
  ∀ (s t : State) (e : Eid) (g : Grd) (w : BitVec 2) (rd rs1 k : Reg) (x o : Quad) (v : Dword), k.toNat < laneCount w →
    let n := laneWidth w
    let m := (t.chuck e.toNat).pred g.toNat
    let l := lane x n k.toNat
    (Runs s e (encR g 0x34 rd rs1 k (w.toNat * 64 + 8)) t → bit m k.toNat = false → Retires (.lins e g w rd rs1 k) s e t) ∧
    (bit m 0 = false →
      (Runs s e (encR g 0x34 rd rs1 k (w.toNat * 64 + 9)) t → Retires (.lext e g w rd rs1 k) s e t) ∧
      (Runs s e (encR g 0x34 rd rs1 k (w.toNat * 64 + 0x0A)) t → Retires (.lexts e g w rd rs1 k) s e t)) ∧
    (Runs s e (encR g 0x34 rd rs1 k (w.toNat * 64 + 8)) t → IntOp t e rs1 v → QuadOp t e rd o → bit m k.toNat = true →
      ∃ q, Retires (.lins e g w rd rs1 k) s e (setR t e rd { bits := q, kind := .int }) ∧
        ∀ i, i < laneCount w → lane q n i = if i = k.toNat then v.toNat % 2 ^ n else lane o n i) ∧
    (QuadOp t e rs1 x → bit m 0 = true →
      (Runs s e (encR g 0x34 rd rs1 k (w.toNat * 64 + 9)) t → Retires (.lext e g w rd rs1 k) s e (setI t e rd (BitVec.ofNat 64 l))) ∧
      (Runs s e (encR g 0x34 rd rs1 k (w.toNat * 64 + 0x0A)) t →
        Retires (.lexts e g w rd rs1 k) s e (setI t e rd (BitVec.ofNat 64 (if 2 ^ (n - 1) ≤ l then l + 2 ^ 64 - 2 ^ n else l)))))) ∧
  (
  ∀ (s t : State) (e : Eid) (g : Grd) (w ad : BitVec 2) (pd ps : Grd) (rd rs1 rs2 : Reg) (v : Word)
    (body : Nat → EM Next) (cond : BitVec 4) (off : BitVec 18),
    (s.ready e.toNat = true → (s.engine e.toNat).long = none → s.pairGo e.toNat = true → (fetch e.toNat false).run s = .ok v t →
      (decodeWord e.toNat v).run t = .ok () t → t.guardOn e.toNat v = false →
      (wMajor v ≠ 0x21 → run1 s e v body = .next (t.retire e.toNat .seq)) ∧
      (v = encB g cond off → ∃ u, Retires (.b e g cond off) s e u ∧ (u.engine e.toNat).chucks = (t.engine e.toNat).chucks ∧ u.mem = t.mem)) ∧
    ((t.chuck e.toNat).pred g.toNat = 0 →
    (Runs s e (encR g 0x30 rd rs1 rs2 (w.toNat * 64)) t → Retires (.ladd e g w rd rs1 rs2) s e t) ∧
    (Runs s e (encR g 0x34 rd rs1 0 (w.toNat * 64 + 1)) t → Retires (.lrev e g w rd rs1) s e t) ∧
    (Runs s e (encR g 0x33 (pd.setWidth 5) rs1 rs2 (w.toNat * 64)) t → Retires (.pcmpEq e g w pd rs1 rs2) s e t) ∧
    (Runs s e (encR g 0x33 (pd.setWidth 5) (ps.setWidth 5) 0 0x14) t → Retires (.pnot e g pd ps) s e t) ∧
    (Runs s e (encR g 0x33 rd (ps.setWidth 5) 0 0x19) t → Retires (.pget e g rd ps) s e t) ∧
    (Runs s e (encR g 0x31 (ad.setWidth 5) rs1 rs2 (w.toNat * 64)) t → Retires (.mac e g w ad rs1 rs2) s e t) ∧
    (Runs s e (encR g 0x32 (ad.setWidth 5) 0 0 0) t → Retires (.azero e g ad) s e t)))

/-- R170, R171 (Table 04-4): PCMP.EQ, PCMP.NE, PCMP.LT, PCMP.LE, PCMP.LTU, PCMP.LEU, PAND, POR, PXOR, PANDN, PNOT, PSET and PTAIL retire with
the destination predicate written: a bit changes only where the function computes it and the guard's bit is 1, and p0 ignores the write
(R121); PGET gives the bits of a predicate under bit 0 of the guard. With none of its guard bits 1 each writes nothing. The rows PCMP_NE,
PCMP_LT, PCMP_LE, PCMP_LTU and PCMP_LEU. -/
def Obligations.PredicateResults : Prop :=
  ∀ (s t : State) (e : Eid) (g pd ps1 ps2 : Grd) (w : BitVec 2) (rd rs1 rs2 : Reg) (x y : Quad) (v : Dword),
    let ch := t.chuck e.toNat
    let n := laneWidth w
    let m := ch.pred g.toNat
    let a := ch.pred ps1.toNat
    let b := ch.pred ps2.toNat
    let gives : Instr → Nat → (Nat → Bool) → Prop := fun i c f =>
      m.toNat % 2 ^ c ≠ 0 →
      ∃ q, Retires i s e (t.updChuck e.toNat (fun k => k.setPred pd.toNat q)) ∧
        ∀ j, j < 16 → bit q j = if j < c ∧ bit m j = true then f j else bit (ch.pred pd.toNat) j
    let skips : Instr → Nat → Prop := fun i c => m.toNat % 2 ^ c = 0 → Retires i s e t
    let cmps : List ((Eid → Grd → BitVec 2 → Grd → Reg → Reg → Instr) × Nat × (Nat → Nat → Bool)) :=
      [(.pcmpEq, 0, fun x y => x == y), (.pcmpNe, 1, fun x y => x != y), (.pcmpLt, 2, fun x y => decide (signed n x < signed n y)),
       (.pcmpLe, 3, fun x y => decide (signed n x ≤ signed n y)), (.pcmpLtu, 4, fun x y => decide (x < y)), (.pcmpLeu, 5, fun x y => decide (x ≤ y))]
    let bools : List ((Eid → Grd → Grd → Grd → Grd → Instr) × Nat × (Bool → Bool → Bool)) :=
      [(.pand, 0x10, fun a b => a && b), (.por, 0x11, fun a b => a || b), (.pxor, 0x12, fun a b => a != b), (.pandn, 0x13, fun a b => a && !b)]
    (∀ p ∈ cmps, Runs s e (encR g 0x33 (pd.setWidth 5) rs1 rs2 (w.toNat * 64 + p.2.1)) t →
      (QuadOp t e rs1 x → QuadOp t e rs2 y → gives (p.1 e g w pd rs1 rs2) (laneCount w) (fun j => p.2.2 (lane x n j) (lane y n j))) ∧
      skips (p.1 e g w pd rs1 rs2) (laneCount w)) ∧
    (∀ p ∈ bools, Runs s e (encR g 0x33 (pd.setWidth 5) (ps1.setWidth 5) (ps2.setWidth 5) p.2.1) t →
      gives (p.1 e g pd ps1 ps2) 16 (fun j => p.2.2 (bit a j) (bit b j)) ∧ skips (p.1 e g pd ps1 ps2) 16) ∧
    (Runs s e (encR g 0x33 (pd.setWidth 5) (ps1.setWidth 5) 0 0x14) t → gives (.pnot e g pd ps1) 16 (fun j => !bit a j) ∧ skips (.pnot e g pd ps1) 16) ∧
    (Runs s e (encR g 0x33 (pd.setWidth 5) rs1 0 0x18) t →
      (IntOp t e rs1 v → gives (.pset e g pd rs1) 16 (fun j => bit v j)) ∧ skips (.pset e g pd rs1) 16) ∧
    (Runs s e (encR g 0x33 (pd.setWidth 5) rs1 0 0x1A) t →
      (IntOp t e rs1 v → gives (.ptail e g pd rs1) 16 (fun j => decide (j < v.toNat))) ∧ skips (.ptail e g pd rs1) 16) ∧
    (Runs s e (encR g 0x33 rd (ps1.setWidth 5) 0 0x19) t →
      (bit m 0 = true → Retires (.pget e g rd ps1) s e (setI t e rd (a.setWidth 64))) ∧ skips (.pget e g rd ps1) 1)

/-- R172, R173 (Table 04-5): MAC, MACU, MSU and MACQ add the guarded products of each quarter of the lanes into its accumulator lane, once and
exactly, and saturates the sum at 64 bits with the lane's S bit set where it must; with no lane's guard bit 1 they change nothing. R174 to
R176 (Table 04-6): the accumulator functions: AZERO, ASETLO, ASETHI, AGETLO, AGETHI and AMOVE clear, load, read and move lanes with their
S bits, ANARROW narrows with rounding and saturation, AREDUCE gives the saturated sum and ASAT the S bits, which it clears. With none of
its guard bits 1 each changes nothing. -/
def Obligations.Accumulators : Prop :=
  (
  ∀ (s t : State) (e : Eid) (g : Grd) (w ad : BitVec 2) (rs1 rs2 : Reg) (x y : Quad), w ≠ 3 →
    let n := laneWidth w
    let q := laneCount w / 4
    let m := (t.chuck e.toNat).pred g.toNat
    let old := (t.chuck e.toNat).acc ad.toNat
    ∀ p ∈ ([(.mac, 0, fun x y => signed n x * signed n y), (.macu, 1, fun x y => (x : Int) * y), (.msu, 2, fun x y => -(signed n x * signed n y)),
        (.macq, 3, fun x y => 2 * signed n x * signed n y)] : List ((Eid → Grd → BitVec 2 → BitVec 2 → Reg → Reg → Instr) × Nat × (Nat → Nat → Int))),
      Runs s e (encR g 0x31 (ad.setWidth 5) rs1 rs2 (w.toNat * 64 + p.2.1)) t →
      (m.toNat % 2 ^ laneCount w = 0 → Retires (p.1 e g w ad rs1 rs2) s e t) ∧
      (m.toNat % 2 ^ laneCount w ≠ 0 → QuadOp t e rs1 x → QuadOp t e rs2 y → ∃ a, Retires (p.1 e g w ad rs1 rs2) s e (t.updChuck e.toNat (fun k => k.setAcc ad.toNat a)) ∧
        ∀ j, j < 4 →
          let sum := (old.lane j).toInt +
            (((List.range q).map (fun i => if bit m (j * q + i) then p.2.2 (lane x n (j * q + i)) (lane y n (j * q + i)) else 0)).sum)
          (a.lane j).toInt = max (-(2 ^ 63)) (min (2 ^ 63 - 1) sum) ∧
          bit a.s j = (bit old.s j || decide (sum < -(2 ^ 63) ∨ 2 ^ 63 - 1 < sum)))) ∧
  (
  ∀ (s t : State) (e : Eid) (g : Grd) (w ad src : BitVec 2) (rd rs1 : Reg) (x o : Quad) (v : Dword),
    let n := laneWidth w
    let m := (t.chuck e.toNat).pred g.toNat
    let old := (t.chuck e.toNat).acc ad.toNat
    let b := (t.chuck e.toNat).acc src.toNat
    let sets : Instr → (Nat → Bool) → (Nat → Dword) → (Nat → Bool) → Prop := fun i on val sat =>
      ∃ a, Retires i s e (t.updChuck e.toNat (fun k => k.setAcc ad.toNat a)) ∧
        ∀ j, j < 4 → a.lane j = (if on j ∧ bit m j = true then val j else old.lane j) ∧ bit a.s j = if on j ∧ bit m j = true then sat j else bit old.s j
    let gets : Instr → Nat → Nat → (Nat → Nat) → Prop := fun i n c f =>
      Merges t e rd m c o → m.toNat % 2 ^ c ≠ 0 → ∃ q, Retires i s e (setR t e rd { bits := q, kind := .int }) ∧ ∀ j, j < c → lane q n j = if bit m j then f j else lane o n j
    let sum : Int := ((List.range 4).map (fun j => if bit m j then (b.lane j).toInt else 0)).sum
    let sh := min v.toNat 63
    let round : Int → Int := fun z => if sh = 0 then z else (z + 2 ^ (sh - 1)) / 2 ^ sh
    let skips : Instr → Nat → Nat → Prop := fun i lo c => m.toNat / 2 ^ lo % 2 ^ c = 0 → Retires i s e t
    let acc : Nat → Reg → Prop := fun func r1 => Runs s e (encR g 0x32 (ad.setWidth 5) r1 0 func) t
    let get : Reg → Reg → Nat → Prop := fun r1 r2 func => Runs s e (encR g 0x32 rd r1 r2 func) t
    (acc 0 0 → skips (.azero e g ad) 0 4) ∧ (acc 1 rs1 → skips (.asetlo e g ad rs1) 0 2) ∧ (acc 2 rs1 → skips (.asethi e g ad rs1) 2 2) ∧
    (acc 8 (src.setWidth 5) → skips (.amove e g ad src) 0 4) ∧ (get (src.setWidth 5) 0 3 → skips (.agetlo e g rd src) 0 2) ∧
    (get (src.setWidth 5) 0 4 → skips (.agethi e g rd src) 0 2) ∧
    (w ≠ 3 → get (src.setWidth 5) rs1 (w.toNat * 64 + 5) → skips (.anarrow e g w rd src rs1) 0 4) ∧
    (get (src.setWidth 5) 0 6 → skips (.areduce e g rd src) 0 4) ∧ (get (src.setWidth 5) 0 7 → skips (.asat e g rd src) 0 1) ∧
    (m.toNat % 16 ≠ 0 → Runs s e (encR g 0x32 (ad.setWidth 5) 0 0 0) t → sets (.azero e g ad) (fun _ => true) (fun _ => 0) (fun _ => false)) ∧
    (QuadOp t e rs1 x →
      (m.toNat % 4 ≠ 0 → Runs s e (encR g 0x32 (ad.setWidth 5) rs1 0 1) t →
        sets (.asetlo e g ad rs1) (fun j => j < 2) (fun j => BitVec.ofNat 64 (lane x 64 j)) (fun _ => false)) ∧
      (m.toNat / 4 % 4 ≠ 0 → Runs s e (encR g 0x32 (ad.setWidth 5) rs1 0 2) t →
        sets (.asethi e g ad rs1) (fun j => 2 ≤ j) (fun j => BitVec.ofNat 64 (lane x 64 (j - 2))) (fun _ => false))) ∧
    (m.toNat % 16 ≠ 0 → Runs s e (encR g 0x32 (ad.setWidth 5) (src.setWidth 5) 0 8) t →
      sets (.amove e g ad src) (fun _ => true) (fun j => b.lane j) (fun j => bit b.s j)) ∧
    ((Runs s e (encR g 0x32 rd (src.setWidth 5) 0 3) t → gets (.agetlo e g rd src) 64 2 (fun j => (b.lane j).toNat)) ∧
      (Runs s e (encR g 0x32 rd (src.setWidth 5) 0 4) t → gets (.agethi e g rd src) 64 2 (fun j => (b.lane (2 + j)).toNat)) ∧
      (w ≠ 3 → IntOp t e rs1 v → Runs s e (encR g 0x32 rd (src.setWidth 5) rs1 (w.toNat * 64 + 5)) t →
        gets (.anarrow e g w rd src rs1) n 4 (fun j => wrap n (satS n (round (b.lane j).toInt))))) ∧
    (m.toNat % 16 ≠ 0 → Runs s e (encR g 0x32 rd (src.setWidth 5) 0 6) t →
      let r := max (-(2 ^ 63)) (min (2 ^ 63 - 1) sum)
      Retires (.areduce e g rd src) s e (setI (if r = sum then t
        else t.updChuck e.toNat (fun k => k.setAcc src.toNat { b with s := setBit b.s 0 true })) e rd (BitVec.ofInt 64 r))) ∧
    (bit m 0 = true → Runs s e (encR g 0x32 rd (src.setWidth 5) 0 7) t →
      Retires (.asat e g rd src) s e (setI (t.updChuck e.toNat (fun k => k.setAcc src.toNat { b with s := 0 })) e rd (b.s.setWidth 64))))

/-! ## Lineage -/

/-- R95 to R103, R110 (Table 02-10): what each lineage command does from a quiet LIN block whose copies agree: ALLOC makes a FREE entry LIVE
for its owner; REVOKE advances the generation, or after the last one goes to SWEEP; RETIRE goes to SWEEP at the next generation; FREE
frees a SWEEP entry with the register sweep; MINT writes the image; READ only reads. REVOKE, RETIRE and FREE broadcast to every engine
first, where those held or asleep acknowledge at once (R103, R511); the others are done at once with OK. -/
def Obligations.LineageCommands : Prop :=
  ∀ (s : State) (m : Master) (idx : BitVec 16) (owner : Byte) (v : Word),
    let i := idx.toNat
    let gen := entGen v
    let put : State → Word → Prop := fun t w => t.linEntry false i = w ∧ t.linEntry true i = w
    let busy : State → Prop := fun t => t.fld 8 0x14 0 0 = 1 ∧ t.lin.idx = i
    let done : State → Prop := fun t => t.lin.phase = .done ∧ t.lin.result = 0
    let waits := (List.range 1024).filter (fun e => !s.acksAtOnce e)
    let sent : State → Bool → Prop := fun t sw =>
      (waits = [] → done t) ∧ (waits ≠ [] → t.lin.phase = .bcast ∧ t.lin.pend = waits ∧ i ∈ t.lin.bidx ∧ t.lin.sweep = sw)
    isMgmt m = true → s.lets m 8 0x10 .write = true → s.fld 8 0x14 0 0 = 0 → s.linEntry false i = v → s.linEntry true i = v →
    s.mem.err (alignDown (linKey false i) 16) = 0 → s.mem.err (alignDown (linKey true i) 16) = 0 →
    (i ≠ 0 →
      (entState v = 0 → ∃ t, exec (.alloc m idx owner) s = .next t ∧ busy t ∧ done t ∧ put t (mkEntry owner.toNat 1 gen)) ∧
      (entState v = 1 →
        (∃ t, exec (.revoke m idx) s = .next t ∧ busy t ∧ sent t false ∧
          put t (if gen < 15 then mkEntry (entOwner v) 1 (gen + 1) else mkEntry (entOwner v) 2 0)) ∧
        (∃ t, exec (.retire m idx) s = .next t ∧ busy t ∧ sent t false ∧ put t (mkEntry (entOwner v) 2 (gen + 1)))) ∧
      (entState v = 2 → ∃ t, exec (.free m idx) s = .next t ∧ busy t ∧ sent t true ∧ put t (mkEntry 0 0 gen))) ∧
    (let c : Cell := { bits := s.mintImage, kind := if s.fld 8 0x50 2 0 = 3 then .sealed else .cap }
     m ≠ .debug → capMalformed c = false → capLin c = i → s.isMemory s.mintAddr = true → entState v = 1 → gen = capGen c →
      ∃ t, exec (.mint m idx) s = .next t ∧ busy t ∧ done t ∧ t.mem = s.mem.setCell s.mintAddr { bits := c.bits, tag := kindTag c.kind }) ∧
    (∃ t, exec (.read m idx) s = .next t ∧ busy t ∧ done t ∧ put t v ∧ t.mem = s.mem)

/-- R96: the refusals of the lineage commands, in the order of their tests: index 0, a MINT image that is malformed or of another lineage, a
MINT target outside memory, and an entry in the wrong state. The entry and memory stay. R97, R99, R101, R103, R104, R110, R511: how
lineage commands go on. CHECK of equal copies is done with OK; an engine without accesses under way that it checked under an index
broadcast, or held or asleep, acknowledges and drops the indices from its filter, with the last one ending the broadcast; the time-out
stops the engines that still execute and gives a command TIMEOUT; completion clears BUSY, gives RESULT and LIN_ENTRY and raises event
1660, with 1661 after a mismatch and 1662 after a time-out. The rows FILTER_INVALIDATE_ACK, LIN_BROADCAST_TIMEOUT and
LIN_COMMAND_COMPLETE. R91 to R93, R102: the fill of a lineage filter. From a sound copy of the engine's own channel, a LIVE entry's
generation goes into the filter, and the check then passes exactly a capability of that generation; any other entry, and an uncorrectable
one, makes the waiting check fail. The row LINEAGE_FILTER_FILL. -/
def Obligations.LineageProgress : Prop :=
  (
  ∀ (s : State) (m : Master) (idx : BitVec 16) (owner : Byte) (v : Word),
    let i := idx.toNat
    let c : Cell := { bits := s.mintImage, kind := if s.fld 8 0x50 2 0 = 3 then .sealed else .cap }
    let ends : Instr → Nat → Prop := fun x r =>
      ∃ t, exec x s = .next t ∧ t.lin.phase = .done ∧ t.lin.result = r ∧ t.linEntry false i = s.linEntry false i ∧
        t.linEntry true i = s.linEntry true i ∧ t.mem = s.mem
    isMgmt m = true → s.lets m 8 0x10 .write = true → s.fld 8 0x14 0 0 = 0 →
    (i = 0 → ends (.alloc m idx owner) 2 ∧ ends (.revoke m idx) 2 ∧ ends (.retire m idx) 2 ∧ ends (.free m idx) 2) ∧
    (m ≠ .debug → capMalformed c = true ∨ capLin c ≠ i → ends (.mint m idx) 3) ∧
    (m ≠ .debug → capMalformed c = false → capLin c = i → s.isMemory s.mintAddr = false → ends (.mint m idx) 4) ∧
    (i ≠ 0 → s.linEntry false i = v → s.linEntry true i = v →
      s.mem.err (alignDown (linKey false i) 16) = 0 → s.mem.err (alignDown (linKey true i) 16) = 0 →
      (entState v ≠ 0 → ends (.alloc m idx owner) 1) ∧ (entState v ≠ 1 → ends (.revoke m idx) 1 ∧ ends (.retire m idx) 1) ∧
      (entState v ≠ 2 → ends (.free m idx) 1))) ∧
  (
  ∀ (s : State) (m : Master) (idx : BitVec 16) (e : Eid),
    (isMgmt m = true → s.lets m 8 0x10 .write = true → s.fld 8 0x14 0 0 = 0 → (∀ i, s.linEntry false i = s.linEntry true i) → s.mem.errs = [] →
      ∃ t, exec (.check m idx) s = .next t ∧ t.lin.phase = .done ∧ t.lin.result = 0 ∧ t.linA = s.linA ∧ t.linB = s.linB) ∧
    let x := s.engine e.toNat
    (e.toNat ∈ s.lin.pend →
      (x.sb = [] ∧ x.load = none ∧ x.act = none ∧ ∀ p ∈ x.lchk, p.2 = none ∨ p.1 ∉ s.lin.bidx) ∨ x.held = true ∨ 1 ≤ s.tileCur (tileOf e.toNat) →
      ∃ t, exec (.filterInvalidateAck e) s = .next t ∧ (∀ p ∈ (t.engine e.toNat).filt, p.1 ∉ s.lin.bidx) ∧ e.toNat ∉ t.lin.pend ∧
        (s.lin.pend = [e.toNat] → s.lin.phase = .bcast → t.lin.phase = .done ∧ t.lin.bidx = [])) ∧
    (let rest := s.lin.pend.filter (fun n => !s.acksIdle n)
     (rest ≠ [] → ∃ t, exec .linBroadcastTimeout s = .next t ∧ t.lin.result = (if s.lin.phase = .bcast then 6 else s.lin.result) ∧
       ∀ n ∈ rest, (t.engine n).stopped = true) ∧
     (rest = [] → s.lin.pend ≠ [] → s.lin.phase = .bcast → ∃ t, exec .linBroadcastTimeout s = .next t ∧ t.lin.phase = .done ∧
       t.lin.result = s.lin.result)) ∧
    (s.lin.phase = .done →
      ∃ t, exec .linCommandComplete s = .next t ∧ t.fld 8 0x14 0 0 = 0 ∧ t.fld 8 0x14 11 8 = s.lin.result % 16 ∧
        t.reg 8 0x18 = s.linEntry false s.lin.idx ∧ t.lin.phase = .idle ∧ 1660 ∈ t.events.map (·.1) ∧
        (s.lin.found ≠ 0 → 1661 ∈ t.events.map (·.1)) ∧ (s.lin.result = 6 → 1662 ∈ t.events.map (·.1)) ∧
        (s.lin.found = 0 → s.lin.result ≠ 6 → t.events.map (·.1) = s.events.map (·.1) ++ [1660]))) ∧
  (
  ∀ (s : State) (e : Eid) (i : Nat) (c : Cell),
    let n := e.toNat
    let v := s.linEntry (inB n) i
    let err := s.mem.err (alignDown (linKey (inB n) i) 16)
    (s.engine n).lfill = some i → (s.engine n).lchk.find? (fun p => p.1 == i) = none → i ≠ 0 → capLin c = i →
    (err = 0 ∨ (errWeight err).1 = 2) →
    ∃ t, exec (.lineageFilterFill e) s = .next t ∧ (t.engine n).lfill = none ∧
      (err = 0 → entState v = 1 → (i, entGen v) ∈ (t.engine n).filt ∧ (linkOk n c false).run t = .ok (capGen c == entGen v) t) ∧
      (err = 0 → entState v ≠ 1 → (linkOk n c false).run t = .ok false t) ∧
      ((errWeight err).1 = 2 → (linkOk n c false).run t = .ok false t))

/-! ## Events, tasks and the scheduler -/

/-- R50, R252 to R258, R260: raising and binding. A software event goes on the queue of raised events with the binding in force, by a master
that is no channel B engine of a pair in a paired context; management writes a binding; the oldest raise is delivered as its binding says:
to Cretal, to a bound task's vector (a WAITING task becomes READY), or to both twins. The rows EVENT_DELIVERY, EVR_RAISE and EVR_BIND. -/
def Obligations.Events : Prop :=
  ∀ (s : State) (m : Master) (data : Word) (n id : BitVec 11) (b : Word),
    let raised := data.toNat % 2 ^ 11
    let slot : State → Nat → Slot := fun t e => Map.get Slot.free (t.engine e).slots (b.toNat % 64)
    let e := b.toNat / 64 % 1024
    let vec := b.toNat / 2 ^ 16 % 16
    ((raised < 1024 ∨ 1984 ≤ raised) → (m = .cretal ∨ m = .debug ∨ ∃ x, m = .engine x ∧ (inB x.toNat && s.pairedCtx x.toNat) = false) →
      s.lets m 4 0x10 .write = true → exec (.evrRaise m data) s = .next { s with events := s.events ++ [(raised, s.reg 4 (0x2000 + 4 * raised))] }) ∧
    (isMgmt m = true → s.lets m 4 (0x2000 + 4 * n.toNat) .write = true → cretalOnly n.toNat = false →
      ∃ t, exec (.evrBind m n data) s = .next t ∧ t.fld 4 (0x2000 + 4 * n.toNat) 15 0 = data.toNat % 2 ^ 16 ∧
        t.fld 4 (0x2000 + 4 * n.toNat) 19 16 = data.toNat / 2 ^ 16 % 16 ∧ t.fld 4 (0x2000 + 4 * n.toNat) 31 29 = data.toNat / 2 ^ 29 % 8) ∧
    (s.events.find? (fun p => p.1 == id.toNat) = some (id.toNat, b) →
      ((bit b 31 = false ∨ bit b 30 = false) →
        ∃ t, exec (.eventDelivery id) s = .next t ∧ t.events = s.events.erase (id.toNat, b) ∧
          t.fld 4 (0x100 + 4 * (id.toNat / 32)) (id.toNat % 32) (id.toNat % 32) = 1) ∧
      (bit b 31 = true → bit b 30 = true → bit b 29 = false → (slot s e).st ≠ .free →
        ∃ t, exec (.eventDelivery id) s = .next t ∧ t.events = s.events.erase (id.toNat, b) ∧ bit (slot t e).pend vec = true ∧
          Map.get 0 (slot t e).evids vec = BitVec.ofNat 12 id.toNat ∧
          (slot t e).st = if (slot s e).st = .waiting ∧ (s.engine e).dbg.halted = false then .ready else (slot s e).st) ∧
      (bit b 31 = true → bit b 30 = true → bit b 29 = true → e < 512 → (slot s e).st ≠ .free → (slot s (twinOf e)).st ≠ .free →
        ∃ t, exec (.eventDelivery id) s = .next t ∧ bit (slot t e).pend vec = true ∧ bit (slot t (twinOf e)).pend vec = true))

/-- R226 to R232, R254, R261 to R264 (Tables 06-2, 06-9): what the scheduler commands do for a master that may give them, with no command
under way, and their completion: SUSPEND, RESUME, UNBIND and WAKE of a bound task, QUERY, SPILL of a chuck that holds no task that runs,
BIND and RELOAD from a descriptor that is in order. One that a master may not give ends with DENIED and no other effect. The row
SCHED_COMMAND_COMPLETE. -/
def Obligations.SchedulerCommands : Prop :=
  ∀ (s : State) (m : Master) (e : Eid) (slot : BitVec 6) (vec : BitVec 4) (chuck : BitVec 3) (t : Slot),
    let n := e.toNat
    let k := slot.toNat
    let b := tileBlk (tileOf n)
    let o := 0x204 + 8 * (n % 32)
    let at_ : State → Slot := fun u => Map.get Slot.free (u.engine n).slots k
    let starts : Instr → Nat → (State → Prop) → Prop := fun i op p =>
      (s.schedDenied m n op k 0 = false → ∃ u, exec i s = .next u ∧ (u.engine n).cmd = some 0 ∧ u.fld b o 0 0 = 1 ∧ p u) ∧
      (s.schedDenied m n op k 0 = true → ∃ u, exec i s = .next u ∧ (u.engine n).cmd = some 2 ∧ (u.engine n).slots = (s.engine n).slots)
    (m = .cretal ∨ m = .debug ∨ m = .engine e) → s.lets m b (0x200 + 8 * (n % 32)) .write = true → s.fld b o 0 0 = 0 → at_ s = t →
    ((t.st = .ready ∨ t.st = .waiting) → starts (.suspend m e slot) 3 (fun u => (at_ u).st = .suspended ∧ (at_ u).wasWaiting = (t.st == .waiting))) ∧
    (t.st = .running → starts (.suspend m e slot) 3 (fun u => (at_ u).st = .running ∧ (at_ u).suspendReq = true)) ∧
    (t.st = .suspended → starts (.resume m e slot) 4 (fun u => (at_ u).st = if t.wasWaiting = true ∧ t.pend = 0 then .waiting else .ready)) ∧
    (t.st ≠ .free → t.st ≠ .running → starts (.unbind m e slot) 2 (fun u => at_ u = Slot.free ∧
      ∀ c, t.chuck = some c → Map.get Chuck.empty (u.engine n).chucks c = Chuck.empty)) ∧
    (t.st = .running → starts (.unbind m e slot) 2 (fun u => (at_ u).unbindReq = true)) ∧
    (t.st ≠ .free → starts (.wake m e slot vec) 5 (fun u => bit (at_ u).pend vec.toNat = true ∧
      Map.get 0 (at_ u).evids vec.toNat = 0x800 ∧ (t.st = .waiting → (s.engine n).dbg.halted = false → (at_ u).st = .ready))) ∧
    starts (.query m e slot) 7 (fun u => u.fld b o 11 9 = t.st.code ∧ u.fld b o 31 16 = t.pend.toNat ∧ u.fld b o 15 15 = t.chuck.isSome.toNat) ∧
    (∀ d : Slot,
      let fresh := (s.engine n).allFree
      let base := if fresh then s.fld b (0x180 + 4 * (n % 32)) 29 0 else s.effFld b (0x180 + 4 * (n % 32)) 29 0
      let paired := if fresh then s.fld b (0x100 + 4 * (n % 32)) 1 1 else s.effFld b (0x100 + 4 * (n % 32)) 1 1
      let addr : Bool → Nat := fun bind => (if bind then base else s.effFld b (0x180 + 4 * (n % 32)) 29 0) * 2 ^ 14 + 256 * k
      let reads : Nat → Prop := fun a => s.isMemory a = true ∧ s.isMemory (a + 255) = true ∧ (∀ i, i < 16 → s.mem.err (a + 16 * i) = 0) ∧
        descSlot ((List.range 16).map (fun i => s.mem.cell (a + 16 * i))) = some d
      (t.st = .free → reads (addr true) → d.paired = (paired == 1) →
        starts (.bind m e slot) 1 (fun v => at_ v = { d with readyAt := (s.engine n).readyCtr })) ∧
      (t.st ≠ .free → reads (addr false) →
        starts (.reload m e slot) 8 (fun v => at_ v = { t with prio := d.prio, emask := d.emask, slice := d.slice }))) ∧
    (∀ (r : Nat) (u : State), chuck ≠ 7 → (Map.get Chuck.empty (s.engine n).chucks chuck.toNat).occ = some r →
      (let s1 := (s.schedCmd m n 0 0 chuck.toNat 0).setFld b o 0 0 1
       let ch := Map.get Chuck.empty (s.engine n).chucks chuck.toNat
       let q := Map.get Slot.free (s.engine n).slots r
       q.st ≠ .running → s.schedDenied m n 6 0 chuck.toNat = false → (spill n q ch).run (s1.sbDrain n) = .ok () u →
        ∃ v, exec (.spill m e chuck) s = .next v ∧ (v.engine n).cmd = some 0 ∧
          Map.get Chuck.empty (v.engine n).chucks chuck.toNat = Chuck.empty ∧ (Map.get Slot.free (v.engine n).slots r).chuck = none)) ∧
    (∀ c, (s.engine n).cmd = some c →
      ∃ u, exec (.schedCommandComplete e) s = .next u ∧ (u.engine n).cmd = none ∧ u.fld b o 0 0 = 0 ∧ u.fld b o 8 5 = c % 16 ∧
        u.events.map (·.1) = s.events.map (·.1) ++ [1024 + 8 * tileOf n + 2])

/-- R247 (Table 06-8): the task a decision chooses is READY, and no READY task has a higher priority, or the same and has waited longer. R239,
R247 to R251, R254, R267: the scheduler of an unpaired engine at a preemption point. An idle engine switches to the task its decision
picks, in its chuck if it has one; a RUNNING task makes room for a READY one of higher priority, and when its slice is over for one of its
own, else its slice starts again; a pending unmasked vector of the RUNNING task enters K with the vector's cause and event id. The rows
EVENT_ENTRY, SCHEDULING_DECISION and SLICE_EXPIRY. R241 to R244, R238, R240: TASK_SWITCH to a resident READY task with an empty store
buffer dispatches it: RUNNING in its chuck at level T, under its own TTB0, ASID, TASKCEIL and PSALT, with no reservation; one to a task
that is not resident first fills the chuck from its save area. R234, R235: a chuck filled from the cells it was spilled to is the same
chuck: every register, PCC at a multiple of 4 (notes/assumptions/59.md), and, for a stream task, every predicate and accumulator comes
back. -/
def Obligations.Scheduling : Prop :=
  (
  ∀ (x : Engine) (n : Nat) (t : Slot), x.pick = some (n, t) →
    (n, t) ∈ x.slots ∧ t.st = .ready ∧
    ∀ p ∈ x.slots, p.2.st = .ready → p.2.prio.toNat < t.prio.toNat ∨ (p.2.prio = t.prio ∧ t.readyAt ≤ p.2.readyAt)) ∧
  (
  ∀ (s : State) (e : Eid) (k c : Nat) (t : Slot),
    let n := e.toNat
    let x := s.engine n
    s.atPoint n = true → s.pairedEng n = false → x.long = none →
    (x.running = false → x.pick = some (k, t) → t.chuck = some c →
      exec (.schedulingDecision e) s = .next (s.updEngine n (fun x => { x with sw := some { slot := k, chuck := c, victim := none } }))) ∧
    (∀ r, x.running = true → s.curSlot n = r → r.unbindReq = false → r.suspendReq = false → x.pick = some (k, t) → r.prio.toNat < t.prio.toNat →
      t.chuck = some c → ∃ u, exec (.schedulingDecision e) s = .next u ∧ (u.engine n).sw = some { slot := k, chuck := c, victim := none } ∧
        (u.engine n).running = false ∧ (u.curSlot n).st = .ready) ∧
    (x.running = true → s.curSlot n = t → t.sliceNow ≠ 0 →
      ((∃ p ∈ x.slots, p.1 ≠ x.slot ∧ p.2.st = .ready ∧ p.2.prio = t.prio) →
        ∃ u, exec (.sliceExpiry e) s = .next u ∧ (u.engine n).running = false ∧ (u.curSlot n).st = .ready ∧ (u.curSlot n).readyAt = x.readyCtr) ∧
      ((∀ p ∈ x.slots, p.1 = x.slot ∨ p.2.st ≠ .ready ∨ p.2.prio ≠ t.prio) →
        exec (.sliceExpiry e) s = .next (s.updSlot n x.slot (fun q => { q with used := 0 })))) ∧
    (x.running = true → s.curSlot n = t → t.pend &&& t.emask ≠ 0 → s.decisionDue n = false →
      let v := lowestVec (t.pend &&& t.emask)
      bit (t.pend &&& t.emask) v = true ∧ (∀ j, j < v → bit (t.pend &&& t.emask) j = false) ∧
      exec (.eventEntry e) s = .next ((s.updSlot n x.slot (fun q => { q with pend := setBit q.pend v false })).enterK n
        { code := 0x20 + v, val := (Map.get 0 t.evids v).toNat, reg := none, acc := 0 } (s.chuck n).pcc false))) ∧
  (
  ∀ (s : State) (e : Eid) (w : Switch) (t : Slot),
    let n := e.toNat
    (s.engine n).sw = some w → w.victim = none → Map.get Slot.free (s.engine n).slots w.slot = t → t.st = .ready → (s.engine n).sb = [] →
    (t.chuck = none → ∀ l v, (fillCellsOf n t).run s = .ok l v →
      ∃ u, exec (.taskSwitch e) s = .next u ∧ (u.engine n).running = true ∧ (u.engine n).slot = w.slot ∧ (u.engine n).cur = w.chuck ∧
        (u.engine n).sw = none ∧ u.chuck n = chuckOf l t.firstFill t.cls w.slot ∧ (u.curSlot n).st = .running ∧ (u.curSlot n).chuck = some w.chuck) ∧
    (t.chuck = some w.chuck → ∃ u, exec (.taskSwitch e) s = .next u ∧ (u.engine n).sw = none ∧ (u.engine n).running = true ∧ (u.engine n).level = .t ∧
      (u.engine n).slot = w.slot ∧ (u.engine n).cur = w.chuck ∧ (u.engine n).resv = none ∧ (u.curSlot n).st = .running ∧
      u.esys n 0x108 = t.ttb0 ∧ u.esys n 0x10B = t.asid.setWidth 64 ∧ u.esys n 0x107 = t.ceil.setWidth 64 ∧
      u.esys n 0x10D = t.psalt.setWidth 64 ∧ u.chuck n = Map.get Chuck.empty (s.engine n).chucks w.chuck)) ∧
  (
  ∀ (c : Chuck) (cls : Bool) (slot : Nat), (∀ n ∈ saveItems, c.sysr n &&& sysMask n = c.sysr n) → bit (c.sysr 0) 16 = cls →
    let d := chuckOf c.saveCells false cls slot
    (∀ r, r < 32 → d.reg r = c.reg r) ∧ d.pcc = alignPcc c.pcc ∧ (∀ n ∈ saveItems, d.sysr n = c.sysr n) ∧ d.occ = some slot ∧
    (cls = true → (∀ p, p < 8 → d.pred p = c.pred p) ∧ ∀ a, a < 4 → d.acc a = c.acc a))

/-! ## Translation and protection -/

/-- R311, R315, R316, R318, R325, R326: TABLE_WALK, of a walk that the cluster's walker has started or can start, of a lower-half address
through three levels with an empty walk cache: two table descriptors and a normal 4 KiB page descriptor with AF, in memory without errors,
give the TLB entry of that page; an invalid first descriptor is a Translation Fault of subtype 3. A walk that an invalidation crossed
(R330) is dropped. R220 to R222, R298, R327, R333, R334: the engine's other steps beside its program: a TLB or walk-cache entry expires;
an engine invalidates for the broadcast under way and, the last of them, lets the issuer's TINV.BCAST complete; a fetch on a wrong path
only fills L1I and counts; an uncorrectable store enters K, imprecisely. The rows IMPRECISE_UME_ENTRY, WRONG_PATH_FETCH, TLB_ENTRY_EXPIRE
and BCAST_INVALIDATE_ACK. -/
def Obligations.EngineBackground : Prop :=
  (
  ∀ (s : State) (e : Eid) (r : WalkReq) (p2 p1 : Nat) (d0 d : Dword),
    let n := e.toNat
    let ttb := bits (s.esys n 0x108) 43 12 * 4096
    let desc : Nat → Dword → Prop := fun a v =>
      s.isMemory a = true ∧ s.mem.err (alignDown a 16) = 0 ∧ (kindOfTag (s.mem.cell a).tag = some .raw ∨ kindOfTag (s.mem.cell a).tag = some .int) ∧
      BitVec.ofNat 64 ((s.mem.cell a).bits.toNat >>> (8 * (a % 16))) = v
    let leaf : TlbEntry :=
      { half := false, vbase := r.va / 4096, shift := 12, asid := bits (s.esys n 0x10B) 11 0, g := bit d 9, u := bit d 4, xt := bit d 5
        xk := bit d 6, w := bit d 7, df := bit d 3, mt := .normal, pbase := bits d 43 12 * 4096 }
    let z := s.walkServe (clusterOf n)
    (z.engine n).walk = some r → r.started = true →
    (r.discard = true → exec (.tableWalk e) s = .next ((z.updEngine n (fun x => { x with walk := none })).walkServe (clusterOf n))) ∧
    (r.discard = false → r.va < 2 ^ 39 → bits (s.esys n 0x10A) 1 0 = 0 → Map.get [] s.wcache (clusterOf n) = [] → inB n = false →
      desc (ttb + 8 * (r.va / 2 ^ 30 % 512)) d0 →
      (bit d0 0 = false → (s.engine n).long = none →
        exec (.tableWalk e) s = .next (((z.updEngine n (fun x => { x with walk := none })).takeAbort n
          (.exc { code := 0x0A, val := 3 * 2 ^ 56 + r.va, reg := r.reg, acc := r.accCode })).walkServe (clusterOf n))) ∧
      (p2 < 2 ^ 32 → p1 < 2 ^ 32 → d0 = BitVec.ofNat 64 (4096 * p2 + 3) → desc (4096 * p2 + 8 * (r.va / 2 ^ 21 % 512)) (BitVec.ofNat 64 (4096 * p1 + 3)) →
        desc (4096 * p1 + 8 * (r.va / 4096 % 512)) d → bits d 2 0 = 5 → bit d 8 = false → bits d 11 10 = 0 → bits d 63 44 = 0 →
        (s.engine n).tlb.length < 32 → pageCheck leaf true r.acc r.lvl r.user (r.acc != .exec && bit ((s.chuck n).sysr 0) 17) = none →
        ∃ t, exec (.tableWalk e) s = .next t ∧ (t.engine n).tlb = (s.engine n).tlb ++ [leaf] ∧ (t.engine n).walk = none ∧ t.mem = s.mem ∧
          (t.engine n).chucks = (s.engine n).chucks))) ∧
  (
  ∀ (s : State) (e : Eid) (i : BitVec 6) (b : TlbBcast) (l : List TlbBcast) (a : VAddr) (pa : Nat),
    let n := e.toNat
    let key := keyOf n pa
    (∃ t, exec (.tlbEntryExpire e false i) s = .next t ∧ (t.engine n).tlb = (s.engine n).tlb.eraseIdx i.toNat ∧ t.mem = s.mem) ∧
    (∃ t, exec (.tlbEntryExpire e true i) s = .next t ∧
      Map.get [] t.wcache (clusterOf n) = (Map.get [] s.wcache (clusterOf n)).eraseIdx i.toNat ∧ t.eng = s.eng ∧ t.mem = s.mem) ∧
    (s.bcasts = b :: l → n ∈ b.pend → b.issuer ≠ n → (∀ c ∈ l, c.pend ≠ []) →
      ∃ t, exec (.bcastInvalidateAck e) s = .next t ∧ (t.engine n).tlb = (s.engine n).tlb.filter (fun q => !q.hit b.va b.asid) ∧
        (b.pend = [n] → t.bcasts = l ∧ (t.engine b.issuer).bcast = false) ∧
        (b.pend.filter (· != n) ≠ [] → t.bcasts = { b with pend := b.pend.filter (· != n) } :: l ∧
          (t.engine b.issuer).bcast = (s.engine b.issuer).bcast)) ∧
    (s.ready n = true → s.wrongPathPa n a.toNat = some pa → l1Find (s.engine n).l1i (key / 64) = none →
      (∀ j, j < 4 → s.mem.err (alignDown (alignDown key 64 + 16 * j) 16) = 0) →
      ∃ t, exec (.wrongPathFetch e a) s = .next t ∧ (l1Find (t.engine n).l1i (key / 64)).isSome = true ∧ t.mem = s.mem ∧
        t.regs = s.regs ∧ t.events = s.events ∧ (t.engine n).chucks = (s.engine n).chucks ∧ (t.engine n).tlb = (s.engine n).tlb) ∧
    ((s.engine n).imp = some pa → s.atBoundary n = true → (s.engine n).dbg.haltReq = none → (s.engine n).long = none →
      ((s.engine n).level = .t → (s.engine n).running = true) →
      exec (.impreciseUmeEntry e) s = .next ((s.updEngine n (fun x => { x with imp := none })).enterK n
        { code := 0x16, val := alignDown pa 16, reg := none, acc := 2 } (s.chuck n).pcc true)))

/-- R340 to R342, R344, R346, R347 (Table 09-3): how an MPU decides: the highest-numbered region whose lines hold the access's line decides
alone: a paired-only region an engine accesses from no paired context, then the permission of the access at its level, then the memory
type; with no region, STRICT mode and level T refuse, and K may all but execute outside cluster memory, the usable DRAM and the xSPI
window. R339, R349, R350, R353 to R355: an MPU's registers: MPU_RATTR from management with the region unlocked takes its fields and brings
the written addresses into force; a locked region keeps its value and sets CFGERR; SYNC sets BUSY until the accesses checked before it are
complete; the write of VALID by Cretal, the debug port or the MPU's own engine empties the capture; a first violation is captured, a later
one counted. The rows MPU_SYNC, MPU_SYNC_DONE and MPU_FINFO_CLEAR. -/
def Obligations.ProtectionUnits : Prop :=
  (
  ∀ (s : State) (u : MpuUnit) (pa : Nat) (acc : Access) (k paired : Bool) (mt : MemType) (w : Nat),
    let b := (mpuAt u).1
    let o : Nat → Nat := fun j => (mpuAt u).2.1 + 16 * j
    let lo : Nat → Nat := fun j => s.effFld b (o j + 8) 5 0 * 2 ^ 32 + (s.effReg b (o j)).toNat
    let hi : Nat → Nat := fun j => s.effFld b (o j + 8) 21 16 * 2 ^ 32 + (s.effReg b (o j + 4)).toNat
    let holds : Nat → Prop := fun j => bit (s.reg b (o j + 12)) 31 = true ∧ lo j ≤ pa / 64 ∧ pa / 64 ≤ hi j
    let a := s.reg b (o w + 12)
    let p := (match acc with | .read => 0 | .write => 1 | .exec => 2) + if k then 4 else 0
    let r := (s.mpuDecide u pa acc k paired mt).1
    (w < 16 → holds w → (∀ j, j < 16 → w < j → ¬holds j) →
      let needsPair := bit a 29 = true ∧ (∃ e, u = .engine e) ∧ paired = false
      (needsPair → r = 3) ∧ (¬needsPair → bit a p = false → r = 2) ∧
      (¬needsPair → bit a p = true → bits a 9 8 ≠ 0 → bits a 9 8 ≠ mt.code → r = 4) ∧
      (¬needsPair → bit a p = true → (bits a 9 8 = 0 ∨ bits a 9 8 = mt.code) → r = 0)) ∧
    ((∀ j, j < 16 → ¬holds j) →
      (s.mpuStrict u = true ∨ k = false → r = 1) ∧
      (s.mpuStrict u = false → k = true → acc ≠ .exec → r = 0) ∧
      (s.mpuStrict u = false → k = true → acc = .exec →
        let may := pa < 0x4000000 ∨ (0x20000000 ≤ pa ∧ pa < 0x30000000) ∨
          (0x10000000000 ≤ pa ∧ pa < 0x10000000000 + s.fld 0x0A 0x10 11 8 * 0x30000000) ∨
          (0x10200000000 ≤ pa ∧ pa < 0x10200000000 + s.fld 0x0B 0x10 11 8 * 0x30000000)
        (may → r = 0) ∧ (¬may → r = 2)))) ∧
  (
  ∀ (s : State) (m : Master) (u : MpuUnit) (k : BitVec 4) (data : Word) (pa reason region : Nat) (acc : Access) (lvl src : Nat),
    let b := (mpuAt u).1
    let o := (mpuAt u).2.1 + 16 * k.toNat
    let c := (mpuAt u).2.2
    let lets : Nat → Prop := fun r => s.lets m b r .write = true
    (isMgmt m = true → lets (o + 12) → bit (s.reg b (o + 12)) 30 = false →
      ∃ t, exec (.mpuRattr m u k data) s = .next t ∧ t.reg b (o + 12) = (data &&& 0xE0000377) ∧
        (∀ j, j = 0 ∨ j = 4 ∨ j = 8 → t.effReg b (o + j) = s.reg b (o + j)) ∧ t.mem = s.mem ∧ t.eng = s.eng) ∧
    (lets (o + 12) → isMgmt m = false ∨ bit (s.reg b (o + 12)) 30 = true → exec (.mpuRattr m u k data) s = .next (s.cfgerr b (o + 12))) ∧
    (lets (c + 0x14) → ∃ t, exec (.mpuSync m u) s = .next t ∧ bit (t.reg b (c + 0x14)) 1 = true ∧ t.mem = s.mem ∧
      ∀ i, (t.engine i).chucks = (s.engine i).chucks ∧ (t.engine i).sb.length = (s.engine i).sb.length) ∧
    (s.mpuQuiet u = true → ∃ t, exec (.mpuSyncDone u) s = .next t ∧ bit (t.reg b (c + 0x14)) 1 = false ∧ t.eng = s.eng) ∧
    (m = .cretal ∨ m = .debug ∨ (∃ e, m = .engine e ∧ u = .engine e) → lets (c + 0xC) →
      ∃ t, exec (.mpuFinfoClear m u) s = .next t ∧ bit (t.reg b (c + 0xC)) 31 = false ∧ bits (t.reg b (c + 0x10)) 15 0 = 0 ∧ t.eng = s.eng) ∧
    (bit (s.reg b (c + 0xC)) 31 = true →
      s.mpuCapture u pa reason region acc lvl src = s.setFld b (c + 0x10) 15 0 (min (bits (s.reg b (c + 0x10)) 15 0 + 1) 0xFFFF)) ∧
    (bit (s.reg b (c + 0xC)) 31 = false → 0 < reason → reason < 8 → region < 32 → lvl < 4 →
      let t := s.mpuCapture u pa reason region acc lvl src
      bit (t.reg b (c + 0xC)) 31 = true ∧ bits (t.reg b (c + 0xC)) 29 27 = reason ∧ bits (t.reg b (c + 0xC)) 26 22 = region ∧
        (t.reg b (c + 4)).toNat = pa % 2 ^ 32))

/-! ## Memory upkeep -/

/-- R366 to R372, R375 (Table 10-3): a read through the symbol code: a codeword without error gives its cell and changes nothing; one wrong
stored symbol is corrected, counted and waits for its write-back, which leaves the codeword right; a wrong address symbol, or two wrong
symbols, are uncorrectable and counted. The row CE_WRITE_BACK. R360, R363, R366, R377, R378, R380: the units that look after memory. APPLY
starts a change of a cluster's cache size to the size written with it, a size written while BUSY waits for the next, and the completion
brings the size into force and leaves POISON where cache was or is; DRAM training and retraining set TRAINED or FAIL; a scrub pass starts,
reads on cell by cell and raises its event at its end, and one due while the last still runs sets OVR; a POISON fill leaves exactly its
range POISON with zero bits, and raises its event. The rows APPLY_COMPLETE, DRAM_TRAINING_COMPLETE, DQS_RETRAIN, SCRUB_PASS_START,
SCRUB_CELL_READ, SCRB_FILL_START and SCRB_FILL_COMPLETE. -/
def Obligations.MemoryIntegrity : Prop :=
  (
  ∀ (s : State) (key pa src master : Nat) (a : PKey),
    let w := errWeight (s.mem.err (alignDown key 16))
    let r := s.readCell key pa src master
    let b := (logBlk key).1
    ¬(0x20000000 ≤ key ∧ key < 0x30000000) →
    (s.mem.err (alignDown key 16) = 0 → r = (some (s.mem.cell key), s)) ∧
    (w.1 = 1 → w.2 < 20 → r.1 = some (s.mem.cell key) ∧ r.2.ceq = s.ceq ++ [(alignDown key 16, s.mem.cell key)] ∧ r.2.mem = s.mem ∧
      bits (r.2.reg b 0x4C) 15 0 = min (bits (s.reg b 0x4C) 15 0 + 1) 0xFFFF) ∧
    (w.1 = 2 ∨ w.1 = 1 ∧ 20 ≤ w.2 → r.1 = none ∧ r.2.mem = s.mem ∧ bits (r.2.reg b 0x50) 15 0 = min (bits (s.reg b 0x50) 15 0 + 1) 0xFFFF) ∧
    (∀ c, s.mem.wf = true → s.ceq.find? (fun p => p.1 == a.toNat) = some (a.toNat, c) → a.toNat % 16 = 0 →
      ∃ t, exec (.ceWriteBack a) s = .next t ∧ t.mem.err a.toNat = 0 ∧ t.ceq = s.ceq.erase (a.toNat, c) ∧
        (¬(0x40000000 ≤ a.toNat ∧ a.toNat < 0x40080000) → t.mem.cell a.toNat = c) ∧
        (∀ x, x < a.toNat ∨ a.toNat + 16 ≤ x → t.mem.byte x = s.mem.byte x) ∧ ∀ i, (t.engine i).resv = (s.engine i).resv)) ∧
  (
  ∀ (s : State) (m : Master) (c : BitVec 7) (data : Word) (chB ok : Bool) (u : ScrubUnit) (k : BitVec 1) (n : Nat),
    let cb := tileBlk (c.toNat / 4)
    let co := 0x400 + 4 * (c.toNat % 4)
    let mb := if chB then 0x0B else 0x0A
    let poisoned : State → Nat → Nat → Prop := fun t lo n =>
      (∀ a, lo ≤ a → a < lo + n → t.mem.byte a = byteDefault a ∧ t.mem.tag a = tagDefault a ∧ t.mem.err a = 0) ∧
      ∀ a, ¬(lo ≤ a ∧ a < lo + n) → t.mem.byte a = s.mem.byte a ∧ t.mem.tag a = s.mem.tag a ∧ t.mem.err a = s.mem.err a
    let raised : State → Nat → Prop := fun t id => id ∈ t.events.map (·.1)
    let held := Map.get 0 s.applying c.toNat
    (isMgmt m = true → s.lets m cb co .write = true → bits data 1 0 ≠ 3 →
      ∃ t, exec (.apply m c data) s = .next t ∧ t.fld cb co 1 0 = bits data 1 0 ∧ t.mem = s.mem ∧
        (s.fld cb co 9 9 = 0 → t.fld cb co 9 9 = bits data 8 8 ∧ (bit data 8 = true → Map.get 0 t.applying c.toNat = bits data 1 0)) ∧
        (s.fld cb co 9 9 = 1 → t.fld cb co 9 9 = 1 ∧ t.applying = s.applying)) ∧
    (s.fld cb co 9 9 = 1 → (
      let z := max (cacheBytes (s.effFld cb co 1 0)) (cacheBytes held)
      ∃ t, exec (.applyComplete c) s = .next t ∧ t.fld cb co 9 9 = 0 ∧ t.effFld cb co 1 0 = held % 4 ∧
        poisoned t (0x80000 * c.toNat + 0x80000 - z) z ∧ raised t (1024 + 8 * (c.toNat / 4) + 6))) ∧
    (s.fld mb 0x14 0 0 = 1 →
      ∃ t, exec (.dramTrainingComplete chB ok) s = .next t ∧ t.fld mb 0x14 0 0 = 0 ∧ (ok = true → t.fld mb 0x14 1 1 = 1) ∧
        (ok = false → t.fld mb 0x14 2 2 = 1 ∧ raised t (1613 + chB.toNat))) ∧
    (s.fld mb 0x14 1 1 = 1 → s.fld mb 0x14 2 2 = 0 →
      exec (.dqsRetrain chB true) s = .next s ∧
      ∃ t, exec (.dqsRetrain chB false) s = .next t ∧ t.fld mb 0x14 2 2 = 1 ∧ raised t (1613 + chB.toNat)) ∧
    (let run := Map.get { active := false, next := 0 } s.scrub (scrubNo u)
     (run.active = true → ∃ t, exec (.scrubPassStart u) s = .next t ∧ t.fld 9 0x14 0 0 = 1 ∧ raised t 1612 ∧ t.scrub = s.scrub) ∧
     (run.active = false → s.scrubStep u 0 ≠ .done →
       ∃ t, exec (.scrubPassStart u) s = .next t ∧ Map.get { active := false, next := 0 } t.scrub (scrubNo u) = { active := true, next := 0 }) ∧
     (run = { active := true, next := n } →
       (∀ key pa, s.scrubStep u n = .cell key pa →
         exec (.scrubCellRead u) s =
           .next { (s.readCell key pa 7 0).2 with scrub := Map.put { active := true, next := n + 1 } (s.readCell key pa 7 0).2.scrub (scrubNo u) }) ∧
       (s.scrubStep u n = .done → ∃ t, exec (.scrubCellRead u) s = .next t ∧
         Map.get { active := false, next := 0 } t.scrub (scrubNo u) = { active := false, next := 0 } ∧ raised t (1609 + scrubNo u)))) ∧
    (let o := 0x20 + 16 * k.toNat
     let a := s.fld 9 o 31 6 * 64 + s.fld 9 (o + 4) 11 0 * 2 ^ 32
     let z := 64 * (s.reg 9 (o + 8)).toNat
     (isMgmt m = true → s.lets m 9 (o + 12) .write = true → s.fld 9 (o + 12) 1 1 = 0 →
       (s.oneRegion a z ≠ 0 → z ≠ 0 → ∃ t, exec (.scrbFillStart m k) s = .next t ∧ poisoned t a z ∧ t.fld 9 (o + 12) 1 1 = 1) ∧
       (s.oneRegion a z = 0 → ∃ t, exec (.scrbFillStart m k) s = .next t ∧ t.mem = s.mem ∧ t.fld 9 (o + 12) 2 2 = 1 ∧ raised t (1615 + k.toNat))) ∧
     (s.fld 9 (o + 12) 1 1 = 1 →
       ∃ t, exec (.scrbFillComplete k) s = .next t ∧ t.fld 9 (o + 12) 1 1 = 0 ∧ raised t (1615 + k.toNat) ∧ t.mem = s.mem)))

/-- R381 to R383: a stream mover. SM_HEAD offers descriptors; a burst of a descriptor without TWIN copies bytes upward within one line of each
side, the cells written RAW, and the last of it advances TAIL; RESTART empties the ring and brings its base into force; clearing ERR
starts the descriptor again. The rows SM_BURST, SM_RESTART and SM_ERR_CLEAR. -/
def Obligations.StreamMover : Prop :=
  ∀ (s : State) (m : Master) (t : BitVec 5) (data : Word) (r : SmRun),
    let n := t.toNat
    let b := tileBlk n
    let tail := s.fld b 0x510 7 0
    let may : Nat → Access → Prop := fun a acc => (s.mpuDecide (.mover t) a acc false false (plainMt a)).1 = 0 ∧ s.memRegion a = true
    let own := isMgmt m = true ∨ ∃ e : Eid, m = .engine e ∧ e.toNat / 32 = n
    (own → s.lets m b 0x50C .write = true → ∃ u, exec (.smHead m t data) s = .next u ∧ u.fld b 0x50C 7 0 = bits data 7 0 ∧ u.mem = s.mem ∧
      (bits data 7 0 = tail → u.sm.find? (fun p => p.1 == n) = none) ∧ (bits data 7 0 ≠ tail → u.sm = s.sm)) ∧
    (isMgmt m = true → s.lets m b 0x508 .write = true → ∃ u, exec (.smRestart m t) s = .next u ∧ u.fld b 0x50C 7 0 = 0 ∧ u.reg b 0x510 = 0 ∧
      u.effReg b 0x500 = s.reg b 0x500 ∧ u.effReg b 0x504 = s.reg b 0x504 ∧ u.sm.find? (fun p => p.1 == n) = none) ∧
    (s.lets m b 0x510 .write = true → s.fld b 0x510 31 31 = 1 → ∃ u, exec (.smErrClear m t) s = .next u ∧ u.fld b 0x510 31 31 = 0 ∧ u.fld b 0x510 7 0 = tail ∧
      u.sm.find? (fun p => p.1 == n) = none) ∧
    (let a := r.src + r.done
     let d := r.dst + r.done
     let k := min (r.len - r.done) (min (64 - a % 64) (64 - d % 64))
     s.fld b 0x510 31 31 = 0 → s.safe.dmaStop = false → s.tileCur n < 2 → s.sm.find? (fun p => p.1 == n) = some (n, r) → r.flags < 2 →
     r.done < r.len → s.mem.wf = true → s.mem.errs = [] → may a .read → may d .write →
      ∃ u, exec (.smBurst t) s = .next u ∧ (∀ i, i < k → u.mem.byte (d + i) = s.mem.byte (a + i)) ∧
        (∀ x, ¬(d ≤ x ∧ x < d + k) → u.mem.byte x = s.mem.byte x) ∧
        (∀ x, x % 16 = 0 → u.mem.tag x = if d < x + 16 ∧ x < d + k then 0 else s.mem.tag x) ∧
        (r.done + k < r.len → u.sm.find? (fun p => p.1 == n) = some (n, { r with done := r.done + k }) ∧ u.fld b 0x510 7 0 = tail) ∧
        (r.done + k = r.len → u.sm.find? (fun p => p.1 == n) = none ∧ u.fld b 0x510 7 0 = (tail + 1) % 256 ∧
          (r.flags = 1 → 1024 + 8 * n ∈ u.events.map (·.1))))

/-! ## Pairing and safety -/

/-- R392, R397, R398, R401, R405, R412: the caliper's timers and comparison for a pair that runs. A forced point notes channel A's count and
signature; equal signatures of a point are taken off and the count becomes the last good one; unequal ones, and each time-out, are a
divergence: both engines stopped, the act held dropped, the reason in CAL_PSTATn, event 1664. Of a pair that has diverged or that is
halted nothing is compared or timed again. A hung engine is stopped with event 1671. The rows FORCED_SIGNATURE_POINT, SIGNATURE_COMPARE,
SIGNATURE_TIMEOUT, LEAD_TIMEOUT, GATED_ACT_TIMEOUT and ENGINE_HANG. -/
def Obligations.PairChecks : Prop :=
  ∀ (s : State) (p : BitVec 9) (e : Eid) (a b : SigPoint) (h : Act),
    let n := p.toNat
    let x := s.engine n
    let q := s.pair n
    let diverges : Instr → Nat → Prop := fun i reason =>
      ∃ t, exec i s = .next t ∧ (t.engine n).stopped = true ∧ (t.engine (twinOf n)).stopped = true ∧ (t.pair n).held = none ∧
        t.fld 7 (0x1000 + 4 * n) 31 31 = 1 ∧ t.fld 7 (0x1000 + 4 * n) 30 27 = reason ∧ 1664 ∈ t.events.map (·.1) ∧ t.mem = s.mem
    (s.pairedEng n = true → s.pairStopped n = false → s.pairHalted n = false →
      (x.stopped = false → q.since < x.commits → (∀ y ∈ q.points, y.count ≠ x.commits) →
        ∃ t, exec (.forcedSignaturePoint p) s = .next t ∧ (t.pair n).points = q.points ++ [{ count := x.commits, sig := x.sig, kind := .commit }] ∧
          (t.pair n).since = x.commits ∧ t.eng = s.eng ∧ t.mem = s.mem) ∧
      (q.points.find? (fun y => q.bSigs.any (fun z => z.count == y.count)) = some a → q.bSigs.find? (fun z => z.count == a.count) = some b →
        (a.sig = b.sig → ∃ t, exec (.signatureCompare p) s = .next t ∧ (t.pair n).lastGood = a.count ∧ s.fld 7 (0x1000 + 4 * n) 15 0 ≤ t.fld 7 (0x1000 + 4 * n) 15 0 ∧
          (t.pair n).points = q.points.filter (fun y => y.count != a.count) ∧ t.eng = s.eng ∧ t.mem = s.mem) ∧
        (a.sig ≠ b.sig → diverges (.signatureCompare p) 1)) ∧
      ((∃ y ∈ q.points, ∀ z ∈ q.bSigs, z.count ≠ y.count) → diverges (.signatureTimeout p) 4) ∧
      (q.bHeld = true → diverges (.leadTimeout p) 5) ∧
      (q.held = some h → diverges (.gatedActTimeout p) 4)) ∧
    (s.pairStopped n = true → ∀ i ∈ [Instr.signatureCompare p, .signatureTimeout p, .gatedActTimeout p, .forcedSignaturePoint p], exec i s = .next s) ∧
    (s.pairHalted n = true → ∀ i ∈ [Instr.signatureTimeout p, .leadTimeout p, .gatedActTimeout p, .forcedSignaturePoint p], exec i s = .next s) ∧
    (s.monitored e.toNat = true → s.pairedEng e.toNat = false →
      ∃ t, exec (.engineHang e) s = .next t ∧ (t.engine e.toNat).stopped = true ∧ t.esys e.toNat 0x102 = 0x3F ∧
        t.fld (tileBlk (tileOf e.toNat)) 0x304 (e.toNat % 32) (e.toNat % 32) = 1 ∧ 1671 ∈ t.events.map (·.1))

/-- R410, R411, R416 to R418, R420 to R422, R425, R495: what trips each monitor: its flag in SAFE_STAT, its event, and the reaction of its
class: 0 nothing, else SAFE_CAUSE holds the first class, and 2 takes a device in START or RUN to SAFE. What passes leaves the mode. A
tile's clock is compared only in RUN and while it does not ramp (R533). A fault in a mode copy leaves the copies different, which counts
as SAFE. The rows CLOCK_MONITOR_WINDOW, SUPPLY_MONITOR_TRIP, CALIPER_SELF_TEST, MONITOR_SELF_TEST, SAFE_OUTPUT_MISMATCH,
KICK_WINDOW_EXPIRE, MODE_COPY_MISMATCH and CRETAL_LOCKSTEP_MISMATCH. -/
def Obligations.MonitorsTrip : Prop :=
  ∀ (s : State) (bad : List Nat) (monB v : Bool),
    let trips : Instr → Nat → Nat → Nat → Prop := fun i flag ev cls =>
      ∃ t, exec i s = .next t ∧ t.fld 6 0x2C flag flag = 1 ∧ ev ∈ t.events.map (·.1) ∧
        let act := s.fld 6 0x18 (2 * cls + 1) (2 * cls)
        (act = 0 → t.mode = s.mode) ∧
        (act = 2 → s.mode = .start ∨ s.mode = .run ∨ s.safe.modeA ≠ s.safe.modeB → t.mode = .safe ∧ t.fld 6 0x30 0 0 = 0) ∧
        (act ≠ 0 → s.fld 6 0x14 31 31 = 0 → t.fld 6 0x14 31 31 = 1 ∧ t.fld 6 0x14 23 20 = cls) ∧
        (s.fld 6 0x14 31 31 = 1 → t.reg 6 0x14 = s.reg 6 0x14)
    let prev := if monB then s.safe.badB else s.safe.badA
    let runs := s.mode = .run
    let compared : Nat → Prop := fun c => c < 8 ∨ (32 ≤ c ∧ c < 64 ∧ s.fld 2 (0x100 + 4 * (c - 32)) 9 8 = 0 ∧ s.fld 1 (0x100 + 4 * (c - 32)) 31 31 = 0)
    ((∃ c ∈ bad, compared c ∧ c ∈ prev) → trips (.clockMonitorWindow monB bad) 0 1666 3) ∧
    ((∀ c ∈ bad, compared c → c ∉ prev) → ∃ t, exec (.clockMonitorWindow monB bad) s = .next t ∧
      (∀ c, c ∈ (if monB then t.safe.badB else t.safe.badA) ↔ c ∈ bad ∧ compared c) ∧ t.mode = s.mode ∧ t.events = s.events) ∧
    trips (.supplyMonitorTrip v) 1 1667 4 ∧
    (runs → ∃ t, exec (.caliperSelfTest true) s = .next t ∧ t.fld 6 0x30 15 8 = (s.fld 6 0x30 15 8 + 1) % 256 ∧ t.mode = .run ∧ t.eng = s.eng) ∧
    (runs → ∃ t, exec (.caliperSelfTest false) s = .next t ∧ t.fld 7 0x14 2 2 = 1 ∧ 1665 ∈ t.events.map (·.1) ∧
      (s.fld 6 0x18 5 4 = 2 → t.mode = .safe) ∧
      ∀ p, p < 512 → s.pairedEng p = true → (t.engine p).stopped = true ∧ (t.engine (twinOf p)).stopped = true) ∧
    (runs → exec (.monitorSelfTest true true) s = .next s ∧ trips (.monitorSelfTest false true) 0 1666 3 ∧ trips (.monitorSelfTest true false) 1 1667 4) ∧
    trips (.safeOutputMismatch v) 2 1669 5 ∧
    (s.safe.kickOpen = true → (runs → trips .kickWindowExpire 3 1670 6) ∧
      ∃ t, exec .kickWindowExpire s = .next t ∧ t.safe.kickOpen = false ∧ t.safe.vermilion = false) ∧
    (s.safe.modeA ≠ s.safe.modeB → trips .modeCopyMismatch 4 1676 7) ∧
    (∃ t, exec .modeCopyMismatch s = .next t ∧ t.mode = .safe ∧ t.fld 6 0x2C 4 4 = 1 ∧ 1676 ∈ t.events.map (·.1) ∧ t.ochre = false) ∧
    (trips .cretalLockstepMismatch 5 1675 8 ∧
      ∃ t, exec .cretalLockstepMismatch s = .next t ∧ t.cretalReset = true ∧ t.safe.dmaStop = true ∧ (∀ c, c < 32 → t.mbxState c = 0) ∧
        ∀ a, t.mem.byte a = if cretalRam ≤ a ∧ a < cretalRam + 0x100000 then byteDefault a else s.mem.byte a)

/-- R413, R414, R416, R419, R421, R423, R549 (Tables 11-9, 11-11): SAFE_MODE with its key makes exactly the changes of Table 11-9, in both
copies with event 1668, and refuses others; SAFE_VERMILION toggles while SAFE_OCHRE is driven and the kick window is open; SAFE_KICK opens
it; a time-out of 1 to 100 is taken; SAFE_POL keeps a class's action that is reserved, below its least, or lowered in RUN; the cross-check
ends TEST with START_OK for sound tables, trained memories, no failed pair of the instance and passed tests. What a master may not write
(R48 for an engine, Cretal's MPU, the debug port's scope) has no such effect. The rows SAFE_MODE, SAFE_KICK, SAFE_KCFG, SAFE_POL,
VERMILION_EDGE and CHANNEL_CROSS_CHECK. -/
def Obligations.SafetyState : Prop :=
  ∀ (s : State) (m : Master) (data : Word) (failed : List Nat) (q : Mode) (c : Nat) (e : Eid), isMgmt m = true →
    let may : Nat → Prop := fun o => s.lets m 6 o .write = true
    let code := match q with | .start => 0 | .run => 1 | .safe => 2 | .test => 3 | .recovery => 4
    let ok := s.fld 6 0x30 0 0 = 1
    let allowed := (s.mode = .start ∧ q = .test) ∨ (s.mode = .test ∧ q = .start ∧ ok) ∨
      (s.mode = .start ∧ q = .run ∧ m = .cretal ∧ ok ∧ s.fld 7 0x14 2 2 = 0 ∧ s.safe.kickOpen = true) ∨ (s.mode = .safe ∧ q = .recovery) ∨
      (s.mode = .recovery ∧ q = .test) ∨ (s.mode ≠ .safe ∧ q = .safe)
    let key := bits data 31 16 = 0x5AFE
    (may 0x10 → key → bits data 10 8 = code →
      (allowed → ∃ t, exec (.safeMode m data) s = .next t ∧ t.mode = q ∧ t.safe.modeA = q ∧ t.safe.modeB = q ∧
        t.events.map (·.1) = s.events.map (·.1) ++ [1668] ∧ t.fld 6 0x30 0 0 = (if q = .safe ∨ q = .recovery then 0 else s.fld 6 0x30 0 0) ∧
        (t.ochre = true ↔ q = .run)) ∧
      (¬allowed → exec (.safeMode m data) s = .next (s.cfgerr 6 0x10))) ∧
    (¬key → (may 0x10 → exec (.safeMode m data) s = .next (s.cfgerr 6 0x10)) ∧ (may 0x20 → exec (.safeKick m data) s = .next (s.cfgerr 6 0x20))) ∧
    (∀ i o, (i, o) ∈ [(Instr.safeMode m data, 0x10), (.safePol m data, 0x18), (.safeKick m data, 0x20), (.safeKcfg m data, 0x24)] →
      ¬may o → exec i s = .next (s.turned m 6 o .write)) ∧
    (∀ i ∈ [Instr.safeMode (.engine e) data, .safePol (.engine e) data, .safeKick (.engine e) data, .safeKcfg (.engine e) data], exec i s = .next s) ∧
    (s.ochre = true → s.safe.kickOpen = true →
      exec .vermilionEdge s = .next { s with safe := { s.safe with vermilion := !s.safe.vermilion } }) ∧
    (may 0x20 → key → exec (.safeKick m data) s = .next { s with safe := { s.safe with kickOpen := true } }) ∧
    (may 0x24 → 1 ≤ bits data 7 0 → bits data 7 0 ≤ 100 → ∃ t, exec (.safeKcfg m data) s = .next t ∧ t.fld 6 0x24 7 0 = bits data 7 0 ∧ t.mode = s.mode) ∧
    (may 0x18 → c < 15 → ∃ t, exec (.safePol m data) s = .next t ∧ t.mode = s.mode ∧
      (let old := s.fld 6 0x18 (2 * c + 1) (2 * c)
       let new := bits data (2 * c + 1) (2 * c)
       let least := if c ∈ [0, 1, 9, 10, 14] then 1 else if c ∈ [2, 3, 4, 5, 6, 7, 8] then 2 else 0
       t.fld 6 0x18 (2 * c + 1) (2 * c) = if new = 3 ∨ new < least ∨ (s.mode = .run ∧ new < old) then old else new)) ∧
    (s.mode = .test → s.cretalReset = false → s.lin.phase = .idle → s.fld 8 0x14 0 0 = 0 →
      let named := ∃ p ∈ failed, ∃ r, s.inst = some r ∧ ∃ x ∈ r.engines, x.id = p ∨ x.id = twinOf p
      let same := ∀ i, i < 65536 → s.linEntry false i = s.linEntry true i
      let rest := s.fld 0x0A 0x14 1 1 = 1 ∧ s.fld 0x0B 0x14 1 1 = 1 ∧ ¬named ∧ Config.testOutcome s.freeCtr = 0
      let clean := ∀ i, i < 65536 → s.mem.err (alignDown (linKey false i) 16) = 0 ∧ s.mem.err (alignDown (linKey true i) 16) = 0
      ∃ t, exec (.channelCrossCheck failed) s = .next t ∧ (same → clean → rest → t.fld 6 0x30 0 0 = 1) ∧ (¬same ∨ ¬rest → t.fld 6 0x30 0 0 = 0) ∧
        (same → clean → rest → (∀ j ∈ s.fw.bg, j.2.cmd ≠ 0x0604) → s.lets .cretal 6 0x10 .write = true →
          (∀ k, k < 32 → s.lets .cretal 2 (0x100 + 4 * k) .write = true) → t.mode = .start))

/-! ## Ports and measurement -/

/-- R403, R457 to R467, R473: the partner link of a port. A frame sent is a comma, SEQ, flags, 40 bytes of segment behind 80 zeros and CRC-16,
TDR requests first, then new commands; 64 valid frames end TRAIN; 75 invalid ones in UP are a link loss that isolates the port; an ACK
makes its command's value the commanded one; a descriptor is taken or refused and asked for again; a command waits in the queue, is due
again when not acknowledged and dropped after three retries; LINKEN and RESTART start the link anew. The rows PARTNER_FRAME_TRANSMIT,
PARTNER_FRAME_RECEIVE, DESC_RETRY, CMD_RETRANSMIT, PORT_CMD, PORT_LINKEN and PORT_CTL_RESTART. -/
def Obligations.PartnerLink : Prop :=
  ∀ (s : State) (m : Master) (p : BitVec 3) (data : Word) (f : PFrame) (c : PCmd) (d : List Byte),
    let n := p.toNat
    let b := portBlk n
    let q := s.port n
    let raised : State → Nat → Prop := fun t k => 1280 + 32 * n + k ∈ t.events.map (·.1)
    let sends : List Byte → (State → Prop) → Prop := fun seg also =>
      ∃ t, exec (.partnerFrameTransmit p) s = .next t ∧ also t ∧ (t.port n).txSeq = (q.txSeq + 1) % 256 ∧ (
        let body := [BitVec.ofNat 8 q.txSeq, BitVec.ofNat 8 ((if s.mode = .run ∧ s.planeOn = true then 0 else 1) + (if s.fld b 0x14 2 2 = 1 ∨ s.blkEn b = false then 2 else 0))] ++
          List.replicate 80 0 ++ seg ++ List.replicate (40 - seg.length) 0
        (t.port n).sent = [0xBC] ++ body ++ toBytes 2 (crc16 body))
    let restarted : State → Prop := fun t => (t.port n).link = (if t.fld b 0x10 1 1 = 1 then .train else .off) ∧ t.fld b 0x14 0 0 = 0
    (q.link ≠ .off →
      (∀ g gs, q.segOut = g :: gs → g.length ≤ 40 → sends g (fun t => (t.port n).segOut = gs)) ∧
      (q.segOut = [] → s.fld b 0x14 2 2 = 0 → q.flight.find? (fun c => c.due) = none → ∀ c cs, q.cq = c :: cs → q.cqWait = [] →
        sends ([0x01] ++ toBytes 2 q.cmdSeq ++ [BitVec.ofNat 8 c.output] ++ toBytes 2 c.value) (fun t => (t.port n).cq = cs ∧
          (t.port n).cmdSeq = (q.cmdSeq + 1) % 65536 ∧ ∃ x ∈ (t.port n).flight, x.seq = some q.cmdSeq ∧ x.value = c.value))) ∧
    (q.link = .train → frameValid q.rxSeq f = true → 63 ≤ q.valid →
      ∃ t, exec (.partnerFrameReceive p f) s = .next t ∧ (t.port n).link = .desc ∧ (t.port n).valid = q.valid + 1) ∧
    (q.link = .up → frameValid q.rxSeq f = false → 74 ≤ q.invalid →
      ∃ t, exec (.partnerFrameReceive p f) s = .next t ∧ restarted t ∧ t.fld b 0x14 2 2 = 1 ∧ (t.port n).cq = [] ∧ (t.port n).blk = none ∧
        1673 ∈ t.events.map (·.1) ∧ raised t 1) ∧
    (q.link = .desc ∨ q.link = .delay ∨ q.link = .up → frameValid q.rxSeq f = true → (f.bytes.drop 82).head? = some 7 →
      q.flight.find? (fun x => x.seq == some (ofBytes ((f.bytes.drop 83).take 2))) = some c →
      ∃ t, exec (.partnerFrameReceive p f) s = .next t ∧ Map.get 0 (t.port n).vals c.output = c.value ∧ ∀ x ∈ (t.port n).flight, x.seq ≠ c.seq) ∧
    (d.length = 256 →
      (descOk d = true → (let t := s.takeDesc n d
        (t.port n).link = .delay ∧ t.fld b 0x14 1 1 = 1 ∧ ∀ i, i < 256 → t.portDesc n i = (d.getD i 0).toNat)) ∧
      (descOk d = false → (let t := s.takeDesc n d
        (t.port n).link = q.link ∧ (t.port n).retry = true ∧ t.fld b 0x14 4 4 = 1 ∧ raised t 2))) ∧
    (q.link = .desc → q.retry = true →
      ∃ t, exec (.descRetry p) s = .next t ∧ (t.port n).retry = false ∧ (t.port n).descNext = 0 ∧ (t.port n).descIn = []) ∧
    (q.flight.find? (fun x => decide (8 ≤ x.age) && !x.due) = some c →
      (3 ≤ c.tries → ∃ t, exec (.cmdRetransmit p) s = .next t ∧ raised t 6 ∧ (t.port n).flight = q.flight.filter (fun x => x.seq != c.seq)) ∧
      (c.tries < 3 → ∃ t, exec (.cmdRetransmit p) s = .next t ∧ { c with due := true, tries := c.tries + 1, age := 0 } ∈ (t.port n).flight)) ∧
    (((∀ e, m ≠ .engine e) ∨ s.mode = .run) → s.lets m b 0x100 .write = true →
      (s.fld b 0x14 0 0 = 1 → s.blkEn b = true → s.fld b 0x14 2 2 = 0 → bits data 21 16 < s.portDesc n 0xF3 → q.cq.length < 16 →
        ∃ t, exec (.portCmd m p data) s = .next t ∧ (t.port n).cq = q.cq ++
          [{ output := bits data 21 16, value := bits data 15 0, seq := none, tries := 0, age := 0, due := false }] ∧ t.regs = s.regs) ∧
      ((s.fld b 0x14 0 0 = 0 ∨ s.blkEn b = false ∨ s.fld b 0x14 2 2 = 1) →
        ∃ t, exec (.portCmd m p data) s = .next t ∧ t.ports = s.ports ∧ t.fld b 0x14 31 16 = min (s.fld b 0x14 31 16 + 1) 0xFFFF)) ∧
    ((∃ e, m = .engine e) → s.mode ≠ .run → exec (.portCmd m p data) s = .next (s.count16 7 0x14 16)) ∧
    (s.lets m b 0x100 .write = false → exec (.portCmd m p data) s = .next (s.turned m b 0x100 .write)) ∧
    (isMgmt m = true → s.lets m b 0x10 .write = true →
      (s.fld b 0x10 1 1 = 0 → ∃ t, exec (.portLinken m p true) s = .next t ∧ (t.port n).link = .train ∧ t.fld b 0x10 1 1 = 1) ∧
      (s.fld b 0x10 1 1 = 1 → ∃ t, exec (.portLinken m p false) s = .next t ∧ (t.port n).link = .off ∧ t.fld b 0x10 1 1 = 0 ∧ (t.port n).tdr = none) ∧
      (∃ t, exec (.portCtlRestart m p) s = .next t ∧ restarted t ∧ t.fld b 0x14 2 2 = 0 ∧ (t.port n).cq = [] ∧ (t.port n).vals = []))

/-- R427, R428, R470 to R472: the sample path. The decimation filter is the sum of the bits over three windows of R, scaled, rounded and
saturated; a port DMA burst writes its line to both channels' memory and nothing else, the last line of a block raising its event, and a
stopped DMA runs on once management clears ERR, the block in progress then lost. The rows PORT_DMA_BURST and PORT_DMA_ERR_CLEAR. -/
def Obligations.SamplePath : Prop :=
  (∀ (hist : List Int) (r : Nat), 0 < r →
    sinc3 hist r = ((List.range r).map (fun a => ((List.range r).map (fun b => ((List.range r).map (fun c => hist.getD (a + b + c) 0)).sum)).sum)).sum) ∧
  (∀ (v : Int) (r w : Nat), 0 < r → 0 < w →
    let x := sincSample v r w
    x < 2 ^ (w - 1) ∧ -(2 ^ (w - 1)) ≤ x ∧
    (-(2 ^ (w - 1)) < x → x < 2 ^ (w - 1) - 1 → (2 * x - 1) * (r : Int) ^ 3 ≤ 2 * v * 2 ^ (w - 1) ∧ 2 * v * 2 ^ (w - 1) < (2 * x + 1) * (r : Int) ^ 3)) ∧
  ∀ (s : State) (m : Master) (p : BitVec 3) (l : DmaLine) (ls : List DmaLine) (tw : Nat),
    let n := p.toNat
    let b := portBlk n
    let may : Nat → Prop := fun a => (s.mpuDecide (.port p) a .write false false .normal).1 = 0 ∧ s.memRegion a = true
    (s.mem.wf = true → s.dmaHalted n = false → s.planeOn = true → (s.port n).out = l :: ls → l.data.length = 64 → l.addr % 64 = 0 → may l.addr → may tw →
      twinLoc l.addr = some tw →
      ∃ t, exec (.portDmaBurst p) s = .next t ∧ (t.port n).out = ls ∧
        (∀ a, t.mem.byte a = if l.addr ≤ a ∧ a < l.addr + 64 then l.data.getD (a - l.addr) 0
          else if tw ≤ a ∧ a < tw + 64 then l.data.getD (a - tw) 0 else s.mem.byte a) ∧
        t.mem.tag l.addr = 0 ∧ t.mem.tag tw = 0 ∧ t.events.map (·.1) = s.events.map (·.1) ++ if l.last then [1280 + 32 * n + 3] else []) ∧
    (isMgmt m = true → s.lets m b 0x20C .write = true → s.fld b 0x20C 1 1 = 1 →
      ∃ t, exec (.portDmaErrClear m p) s = .next t ∧ t.fld b 0x20C 1 1 = 0 ∧ t.fld b 0x20C 15 12 = 0 ∧ t.mem = s.mem ∧
        (t.port n).blk = (s.port n).blk.map (fun k => { k with skip := true }) ∧ (t.port n).out = (s.port n).out)

/-- R441 to R447: a reflectometer acquisition. COARSE and FINE start one under the registers as last written and ask the partner to switch; a
probe adds its correlation to every bin; results are written 16 to a line, saturated to 32 bits, and the last line ends the acquisition
with its event; ABORT and a missing confirmation end it in error. Outside RUN no master but Cretal starts one. A bin's delay counts the
reference plane of TDR_ZERO and the way over the link (log entry 25). The rows COARSE, FINE, ABORT, TDR_NOCONF_TIMEOUT, TDR_PROBE and
TDR_RESULT_WRITE. R433 to R439: the sense block. RUN and SINGLE start a scan of the inputs of SENSE_SCAN; a conversion gives its input the
nearest word of the corrected voltage, and the last of a scan stores the results, counts the scan and raises event 1840; a read of
SENSE_STAT holds the results for its master; a noise measurement runs while no scan does, its end gives the noise and its ratio to the
Johnson noise, and starts a RUN that waited. The rows SENSE_RUN, SENSE_SINGLE, SENSE_CONVERSION, SENSE_STAT_READ, NOISE_START and
NOISE_MEASUREMENT_COMPLETE. -/
def Obligations.Measurement : Prop :=
  (
  ∀ (s : State) (m : Master) (p : BitVec 3) (a : Acq) (samples : List Int),
    let n := p.toNat
    let b := portBlk n
    let q := s.port n
    let raised : State → Nat → Prop := fun t k => 1280 + 32 * n + k ∈ t.events.map (·.1)
    let ends : Instr → Nat → Prop := fun i code =>
      ∃ t, exec i s = .next t ∧ (t.port n).tdr = none ∧ t.fld b 0x60C 0 0 = 0 ∧ t.fld b 0x60C 4 4 = 1 ∧ t.fld b 0x60C 31 28 = code ∧ raised t 9
    let starts : Instr → Bool → Prop := fun i fine =>
      ∃ t x, exec i s = .next t ∧ (t.port n).tdr = some x ∧ x.fine = fine ∧ x.phase = .asked ∧ x.rep = 0 ∧ x.sums = [] ∧ x.next = 0 ∧
        x.navg = s.fld b 0x600 3 0 ∧ x.twin = bit (s.reg b 0x600) 31 ∧ x.buf = s.fld b 0x614 11 0 * 2 ^ 32 + (s.reg b 0x610).toNat ∧
        x.centre = s.fld b 0x604 14 0 ∧ x.zero = s.fld b 0x618 19 0 ∧ x.ldly = s.fld b 0x18 19 0 ∧ x.cable = s.fld b 0x600 20 16 ∧ t.fld b 0x60C 0 0 = 1 ∧
        (t.port n).segOut = q.segOut ++ [[0x04, 0x01, BitVec.ofNat 8 (s.fld b 0x600 20 16)]]
    let may : Nat → Prop := fun a => (s.mpuDecide (.port p) a .write false false .normal).1 = 0 ∧ s.memRegion a = true
    let delay : Nat → Nat := fun bin => 4 * bin + 4 * a.zero + 125 * a.ldly
    (((∀ e, m ≠ .engine e) ∨ s.mode = .run) → s.lets m b 0x608 .write = true →
      (m = .cretal ∨ s.mode = .run → s.fld b 0x60C 0 0 = 0 → s.blkEn b = true → starts (.coarse m p) false ∧
        (512 ≤ s.fld b 0x604 14 0 → s.fld b 0x604 14 0 ≤ 32255 → starts (.fine m p) true)) ∧
      (m ≠ .cretal → s.mode ≠ .run → exec (.coarse m p) s = .next s ∧ exec (.fine m p) s = .next s) ∧
      (q.tdr = some a → ends (.abort m p) 6)) ∧
    (q.tdr = some a →
      (a.phase = .asked → ends (.tdrNoconfTimeout p) 2) ∧
      (a.phase = .running → s.planeOn = true → ∃ t x, exec (.tdrProbe p samples) s = .next t ∧ (t.port n).tdr = some x ∧ x.rep = a.rep + 1 ∧
        (x.phase = .writing ↔ a.total ≤ a.rep + 1) ∧
        (a.fine = false → ∀ j, j < 32768 → Map.get 0 x.sums j = Map.get 0 a.sums j + correlate samples 0 (delay (625 * j))) ∧
        (a.fine = true → ∀ k j, j < 1024 → k < 2 ^ a.klog →
          let bin := 625 * a.centre - 512 + j
          let phase := a.rep / 2 ^ a.navg
          Map.get 0 x.sums (1024 * k + j) = Map.get 0 a.sums (1024 * k + j) +
            if k = a.rep % 2 ^ a.navg % 2 ^ a.klog ∧ bin % 625 = phase then correlate samples phase (delay bin) else 0)) ∧
      (a.phase = .writing → s.planeOn = true → s.mem.wf = true → a.twin = false → (a.buf + 64 * a.next) % 64 = 0 → may (a.buf + 64 * a.next) →
        ∃ t, exec (.tdrResultWrite p) s = .next t ∧
          (∀ i, i < 64 → t.mem.byte (a.buf + 64 * a.next + i) =
            BitVec.ofNat 8 (wrap 32 (satS 32 (Map.get 0 a.sums (16 * a.next + i / 4))) / 2 ^ (8 * (i % 4)))) ∧
          (∀ x, ¬(a.buf + 64 * a.next ≤ x ∧ x < a.buf + 64 * a.next + 64) → t.mem.byte x = s.mem.byte x) ∧
          ((a.next + 1) * 16 < a.subs * a.bins → (t.port n).tdr = some { a with next := a.next + 1 }) ∧
          (a.subs * a.bins ≤ (a.next + 1) * 16 → (t.port n).tdr = none ∧ t.fld b 0x60C 0 0 = 0 ∧ t.fld b 0x60C 2 2 = 1 ∧ raised t 8)))) ∧
  (
  ∀ (s : State) (m : Master) (code : Int) (nr : NoiseReading) (i : Nat) (rest : List Nat),
    let scan := (List.range 16).filter (fun i => bit (s.reg 0x0E 0x14) i)
    let corr := signed 24 (s.fld 0x0E 0x20 23 0)
    let w := senseWord code corr
    let ready := s.fld 0x0E 0x24 1 1 = 0 ∧ s.sense.scan = none ∧ s.blkEn 0x0E = true ∧ scan ≠ []
    let may : Nat → Prop := fun o => s.lets m 0x0E o .write = true
    (may 0x18 → ready → ∃ t, exec (.senseRun m true) s = .next t ∧ t.fld 0x0E 0x18 0 0 = 1 ∧ t.sense.scan = some scan ∧ t.sense.results = s.sense.results) ∧
    (may 0x18 → s.fld 0x0E 0x24 1 1 = 1 → exec (.senseRun m true) s = .next { s with sense := { s.sense with runWait := true } }) ∧
    (may 0x18 → ∃ t, exec (.senseRun m false) s = .next t ∧ t.fld 0x0E 0x18 0 0 = 0 ∧ t.sense.scan = s.sense.scan ∧ t.sense.runWait = false) ∧
    (may 0x18 → ready → s.fld 0x0E 0x18 0 0 = 0 → ∃ t, exec (.senseSingle m) s = .next t ∧ t.fld 0x0E 0x18 0 0 = 0 ∧ t.sense.scan = some scan) ∧
    (s.sense.scan = some (i :: rest) → rest ≠ [] →
      ∃ t, exec (.senseConversion code) s = .next t ∧ t.sense.scan = some rest ∧ t.sense.results = s.sense.results ∧
        Map.get 0 t.sense.cur i = BitVec.ofNat 32 (wrap 32 w)) ∧
    (s.sense.scan = some [i] → i < 16 → s.fld 0x0E 0x18 0 0 = 0 →
      ∃ t, exec (.senseConversion code) s = .next t ∧ t.sense.scan = none ∧ 1840 ∈ t.events.map (·.1) ∧
        t.fld 0x0E 0x1C 31 16 = (s.fld 0x0E 0x1C 31 16 + 1) % 65536 ∧
        (s.sense.cur.all (fun v => v.1 != i) = true → Map.get 0 t.sense.results i = BitVec.ofNat 32 (wrap 32 w))) ∧
    (-(2 ^ 31) < w → w < 2 ^ 31 - 1 → 2 ^ 17 * 10 ^ 8 * w ≤ 2 * code * (10 ^ 8 + corr) + 2 ^ 16 * 10 ^ 8 ∧
      2 * code * (10 ^ 8 + corr) + 2 ^ 16 * 10 ^ 8 < 2 ^ 17 * 10 ^ 8 * (w + 1)) ∧
    (s.lets m 0x0E 0x1C .read = true → ∃ t, exec (.senseStatRead m) s = .next t ∧ Map.get [] t.sense.snaps (masterIdx m) = s.sense.results ∧ t.sense.results = s.sense.results) ∧
    (isMgmt m = true → may 0x24 → s.fld 0x0E 0x18 0 0 = 0 → s.sense.scan = none → ∃ t, exec (.noiseStart m) s = .next t ∧ t.fld 0x0E 0x24 1 1 = 1) ∧
    (isMgmt m = true → may 0x24 → (s.fld 0x0E 0x18 0 0 = 1 ∨ s.sense.scan ≠ none) → ∃ t, exec (.noiseStart m) s = .next t ∧ t.fld 0x0E 0x24 2 2 = 1 ∧
      t.fld 0x0E 0x24 1 1 = s.fld 0x0E 0x24 1 1) ∧
    (s.fld 0x0E 0x24 1 1 = 1 → ∃ t, exec (.noiseMeasurementComplete nr) s = .next t ∧ t.fld 0x0E 0x28 31 16 = nr.noise.toNat ∧ t.fld 0x0E 0x24 1 1 = 0 ∧
      1842 ∈ t.events.map (·.1) ∧ (s.sense.runWait = true → t.fld 0x0E 0x18 0 0 = 1 ∧ t.sense.runWait = false) ∧ (
        let john := 4 * 1380649 * 999 * nr.temp.toNat * Config.noiseOhms
        let meas := 65536 * nr.noise.toNat ^ 2 * 10 ^ 16
        let f := t.fld 0x0E 0x28 15 0
        0 < john → meas < 65535 ^ 2 * john → (f - 1) ^ 2 * john ≤ meas ∧ meas < (f + 1) ^ 2 * john)))

/-! ## Trunk and Ethernet -/

/-- R474 to R483, R539 (Tables 13-8, 13-9): the trunk ring. The manager originates ENUM, SYNC and BUDGET on both ports; a good frame that is
not the node's own, has hops left and was not seen goes on out of the other port with HOPS + 1 and is delivered; ENUM numbers a worker;
SYNC steers it and decides LOCK; DREQ and DRSP measure the hop; a worker takes its share of the budget, or falls back; link changes and
bad frames set their flags and events; TIME_SET loads system time on all but a worker. The rows ENUM_SEND, ENUM_RECEIVE, SYNC_SEND,
SYNC_RECEIVE, SYNC_TIMEOUT, DREQ_SEND, DREQ_RECEIVE, DRSP_RECEIVE, BUDGET_FRAME_SEND, BUDGET_FRAME_RECEIVE, BUDGET_SHARE_TIMEOUT,
TRUNK_LINK_UP, TRUNK_LINK_DOWN, TRUNK_FRAME_ERROR and TIME_SET_HI. -/
def Obligations.TrunkRing : Prop :=
  ∀ (s : State) (m : Master) (k : Bool) (f : TFrame) (data : Word) (t1 : Dword),
    let b := trkBlk k
    let by_ := f.bytes
    let good := frameGood by_ = true
    let raised : State → Nat → Prop := fun t id => id ∈ t.events.map (·.1)
    let time : Nat → Dword := fun c => s.timeBase + Config.timeElapsed c
    let node := if s.role = 2 then s.fld 0x0C 0x1C 20 16 else 0
    let outOf : State → Bool → List Byte := fun t p => Map.get [] t.trunk.out p.toNat
    let originates : Instr → Nat → Nat → List Byte → Prop := fun i ty hops pl =>
      ∃ t, exec i s = .next t ∧ (∀ p, outOf t p = mkFrame 0xFF node ty hops s.trunk.seq 0 pl) ∧ t.trunk.seq = (s.trunk.seq + 1) % 65536
    let fresh := fByte by_ 3 ≠ 32 ∧ fNum by_ 4 2 ∉ Map.get [] s.trunk.seen (fByte by_ 1) ∧ (s.hasNode = true → fByte by_ 1 ≠ node) ∧ fByte by_ 0 = 0xFF
    let onward : State → Nat → Prop := fun t corr =>
      outOf t (!k) = mkFrame 0xFF (fByte by_ 1) (fByte by_ 2) (fByte by_ 3 + 1) (fNum by_ 4 2) ((fNum by_ 8 8 + corr) % 2 ^ 64) (fPayload by_) ∧
      fNum by_ 4 2 ∈ Map.get [] t.trunk.seen (fByte by_ 1)
    (s.role = 1 → s.blkEn 0x0C = true → originates .enumSend 1 1 (toBytes 1 (s.fld 0x0C 0x1C 13 8)) ∧
      originates .syncSend 2 0 (toBytes 8 (time s.freeCtr).toNat)) ∧
    (s.role = 1 → originates .budgetFrameSend 6 0 ((List.range 32).flatMap (fun n => toBytes 2 (s.fld 2 (0x200 + 4 * n) 15 0)))) ∧
    (good → fByte by_ 2 = 1 → s.role = 1 → fByte by_ 1 = 0 →
      ∃ t, exec (.enumReceive k f) s = .next t ∧ t.fld 0x0C 0x1C 13 8 = fByte by_ 3 % 64) ∧
    (good → fByte by_ 2 = 1 → s.role = 2 → s.blkEn 0x0C = true → s.hasNode = false → fresh → fByte by_ 3 ≤ 31 → fByte by_ 3 ≤ fByte (fPayload by_) 0 →
      fByte (fPayload by_) 0 < 32 →
      ∃ t, exec (.enumReceive k f) s = .next t ∧ t.hasNode = true ∧ raised t 1540 ∧ onward t 0 ∧
        t.fld 0x0C 0x1C 20 16 = if k then fByte by_ 3 else fByte (fPayload by_) 0 - fByte by_ 3) ∧
    (good → fByte by_ 2 = 1 → s.role = 2 → s.blkEn 0x0C = true → s.hasNode = false → fByte by_ 3 = 32 →
      ∃ t, exec (.enumReceive k f) s = .next t ∧ t.hasNode = false ∧ t.trunk.far = true ∧ t.trunk.out = s.trunk.out ∧ raised t 1541) ∧
    (good → fByte by_ 2 = 2 → s.role = 2 → s.blkEn 0x0C = true → s.trunk.far = false → fresh →
      ∃ t, exec (.syncReceive k f) s = .next t ∧ onward t (s.fld b 0x14 23 0 + (Config.unstated s.freeCtr).toNat) ∧
        -858993 ≤ signed 24 (t.fld 0x0C 0x18 23 0) ∧ signed 24 (t.fld 0x0C 0x18 23 0) ≤ 858993 ∧
        (let off : Int := ((time (s.freeCtr + 1)).toNat : Int) - (fNum (fPayload by_) 0 8 + signed 64 (fNum by_ 8 8) + s.fld b 0x14 23 0)
         let was := s.fld 0x0C 0x1C 31 31
         t.fld 0x0C 0x1C 31 31 = if was = 1 then (if off.natAbs > 64 then 0 else 1) else if off.natAbs ≤ 16 ∧ 7 ≤ s.trunk.syncOk then 1 else 0)) ∧
    (s.role = 2 → s.fld 0x0C 0x1C 31 31 = 1 → ∃ t, exec .syncTimeout s = .next t ∧ t.fld 0x0C 0x1C 31 31 = 0 ∧ raised t 1793) ∧
    (∃ t, exec (.dreqSend k) s = .next t ∧ outOf t k = mkFrame 0xFF node 3 0 s.trunk.seq 0 [] ∧ Map.get 0 t.trunk.dreq k.toNat = time s.freeCtr) ∧
    (good → fByte by_ 2 = 3 → ∃ t, exec (.dreqReceive k f) s = .next t ∧
      outOf t k = mkFrame (fByte by_ 1) node 4 0 s.trunk.seq 0 (toBytes 8 (time s.freeCtr).toNat ++ toBytes 8 (time (s.freeCtr + 1)).toNat)) ∧
    (good → fByte by_ 2 = 4 → s.trunk.dreq.find? (fun v => v.1 == k.toNat) = some (k.toNat, t1) → Map.get [] s.trunk.hops k.toNat = [] →
      ∃ t, exec (.drspReceive k f) s = .next t ∧ t.fld b 0x14 31 31 = 1 ∧ t.trunk.dreq.find? (fun v => v.1 == k.toNat) = none ∧
        t.fld b 0x14 23 0 = wrap 24 ((((time s.freeCtr - t1).toNat : Int) - ((fNum (fPayload by_) 8 8 : Int) - fNum (fPayload by_) 0 8)) / 2)) ∧
    (good → fByte by_ 2 = 6 → s.role = 2 → s.hasNode = true → s.trunk.far = false → fresh → (
      let share := fNum (fPayload by_) (2 * node) 2
      s.pwFloor ≤ share → share ≤ 1000 → 0 < share → ∃ t, exec (.budgetFrameReceive k f) s = .next t ∧ t.budget = share ∧ onward t 0)) ∧
    (s.role = 2 → s.pwFloor ≤ 1000 → ∃ t, exec .budgetShareTimeout s = .next t ∧ t.budget = max (s.fld 2 0x18 9 0) s.pwFloor ∧ raised t 1735) ∧
    (s.fld b 0x10 0 0 = 0 → ∃ t, exec (.trunkLinkUp k) s = .next t ∧ t.fld b 0x10 1 0 = 3 ∧ raised t (if k then 1538 else 1536)) ∧
    (s.fld b 0x10 0 0 = 1 → ∃ t, exec (.trunkLinkDown k) s = .next t ∧ t.fld b 0x10 1 0 = 0 ∧ t.fld b 0x14 31 31 = 0 ∧ raised t (if k then 1539 else 1537)) ∧
    (∃ t, exec (.trunkFrameError k) s = .next t ∧ t.fld b 0x10 2 2 = 1 ∧ t.trunk = s.trunk) ∧
    (isMgmt m = true → s.lets m 0x0C 0x24 .write = true →
      (s.role ≠ 2 → ∃ t, exec (.timeSetHi m data) s = .next t ∧
        t.timeBase + Config.timeElapsed s.freeCtr = BitVec.ofNat 64 (data.toNat * 2 ^ 32 + (s.reg 0x0C 0x20).toNat)) ∧
      (s.role = 2 → exec (.timeSetHi m data) s = .next (s.cfgerr 0x0C 0x24)))

/-- R403, R484 to R487 (Table 13-7): the Ethernet MACs. ETH_TXCMD in range queues a frame of packet memory; its departure gives its bytes, TAG
and event, the FCS behind it; a good frame for the MAC goes into the receive ring behind 16 bytes of header without its FCS, with its
event, or is dropped and counted where the ring has no room; no other frame changes the ring or its registers, and a damaged or PAUSE
frame is counted (log entry 61); a link change sets its flag and event. The rows ETH_TXCMD, ETH_TRANSMIT_COMPLETE, ETH_FRAME_RECEIVE and
ETH_LINK_CHANGE. R498 to R503: the mailbox channels. A master that may use an IDLE channel writes its request and RINGs, with its identity
in MBX_REQIDn and event 1856 + n; TAKE and DONE by Cretal or the debug port serve it, DONE raising 1888 + n, on channels 8 to 15 sending
the response to the node that asked; ACK ends it; a message from the trunk rings an IDLE channel; each in another state is a collision.
RESET empties. Cretal takes the channels in REQ in turn, one request at a time but for those in the background. The rows MBX_REQ_WRITE,
RING, ACK, TAKE, DONE, MBX_RESET and MBX_FRAME_RECEIVE. -/
def Obligations.MacsAndMailboxes : Prop :=
  (
  ∀ (s : State) (m : Master) (k up : Bool) (data : Word) (fr : List Byte) (x : TxFrame) (xs : List TxFrame) (speed : BitVec 2),
    let b := ethBlk k
    let raised : State → Nat → Prop := fun t j => (if k then 1548 else 1544) + j ∈ t.events.map (·.1)
    let f : TxFrame := { tag := bits data 31 28, ofs := 16 * bits data 24 16, len := bits data 10 0 }
    let wire := fr ++ toBytes 4 (crc32 fr)
    let takes := s.blkEn b = true ∧ 60 ≤ fr.length ∧ fr.length ≤ 1518 ∧ isPause fr = false ∧ s.ethAccept k fr = true
    let head := s.fld b 0x30 14 4 * 16
    let room := (s.fld b 0x34 14 4 * 16 + 0x6000 - head - 1) % 0x6000
    let len := 16 + (fr.length + 15) / 16 * 16
    (((∀ e, m ≠ .engine e) ∨ s.mode = .run) → s.lets m b 0x20 .write = true →
      (60 ≤ f.len → f.len ≤ 1518 → f.ofs + f.len ≤ 0x2000 → (s.mac k).txq.length < 4 →
        ∃ t, exec (.ethTxcmd m k data) s = .next t ∧ (t.mac k).txq = (s.mac k).txq ++ [f] ∧ t.fld b 0x24 2 0 = (s.mac k).txq.length + 1) ∧
      (f.len < 60 ∨ 1518 < f.len ∨ 0x2000 < f.ofs + f.len → exec (.ethTxcmd m k data) s = .next (s.cfgerr b 0x20))) ∧
    ((∃ e, m = .engine e) → s.mode ≠ .run → exec (.ethTxcmd m k data) s = .next (s.count16 7 0x14 16)) ∧
    ((s.mac k).txq = x :: xs → (s.mac k).wait = [] → x.tag < 16 →
      ∃ t, exec (.ethTransmitComplete k) s = .next t ∧ (t.mac k).txq = xs ∧ t.fld b 0x24 31 28 = x.tag ∧ raised t 1 ∧
        (let bytes := (List.range x.len).map (fun i => s.macByte k (0x8000 + x.ofs + i))
         (t.mac k).out = bytes ++ toBytes 4 (crc32 bytes))) ∧
    (takes → head + len ≤ 0x6000 →
      (len ≤ room → ∃ t, exec (.ethFrameReceive k wire) s = .next t ∧ t.fld b 0x30 14 4 * 16 = (head + len) % 0x6000 ∧ raised t 0 ∧
        (∀ i, i < fr.length → t.macByte k (0xA000 + head + 16 + i) = fr.getD i 0) ∧
        (t.macByte k (0xA000 + head)).toNat + 256 * (t.macByte k (0xA000 + head + 1)).toNat = fr.length) ∧
      (room < len → ∃ t, exec (.ethFrameReceive k wire) s = .next t ∧ t.fld b 0x30 14 4 = s.fld b 0x30 14 4 ∧ raised t 3 ∧
        t.fld b 0x38 31 16 = min (s.fld b 0x38 31 16 + 1) 0xFFFF)) ∧
    (takes → 0x6000 < head + len → 0x6000 - head + len ≤ room →
      ∃ t, exec (.ethFrameReceive k wire) s = .next t ∧ t.fld b 0x30 14 4 * 16 = len ∧ raised t 0 ∧
        (∀ i, i < fr.length → t.macByte k (0xA000 + 16 + i) = fr.getD i 0) ∧
        (t.macByte k 0xA000).toNat + 256 * (t.macByte k 0xA001).toNat = fr.length) ∧
    (s.blkEn b = false → exec (.ethFrameReceive k fr) s = .next s) ∧
    (s.blkEn b = true → (ethGood fr = false ∨ isPause (fr.take (fr.length - 4)) = true) →
      ∃ t, exec (.ethFrameReceive k fr) s = .next t ∧ t.fld b 0x30 14 4 = s.fld b 0x30 14 4 ∧ t.fld b 0x38 31 16 = min (s.fld b 0x38 31 16 + 1) 0xFFFF ∧
        (∀ i, t.macByte k (0xA000 + i) = s.macByte k (0xA000 + i) ∨ 0x6000 ≤ i) ∧ t.events = s.events) ∧
    (s.fld b 0x38 0 0 ≠ up.toNat → ∃ t, exec (.ethLinkChange k up speed) s = .next t ∧ t.fld b 0x38 0 0 = up.toNat ∧ t.fld b 0x38 1 1 = 1 ∧
      t.fld b 0x38 5 4 = speed.toNat ∧ raised t 2)) ∧
  (
  ∀ (s : State) (m : Master) (n : BitVec 5) (ofs : BitVec 6) (data : Word) (k : Bool) (f : TFrame),
    let c := n.toNat
    let o := 0x1000 + 0x400 * c
    let st : State → Nat := fun t => t.fld 5 (o + 0x204) 1 0
    let raised : State → Nat → Prop := fun t id => id ∈ t.events.map (·.1)
    let collides : Instr → Prop := fun i => exec i s = .next (s.setFld 5 (o + 0x204) 2 2 1)
    let serves := ∀ e, m ≠ .engine e
    let may : Nat → Prop := fun r => s.lets m 5 (o + r) .write = true
    let turn := s.cretalReset = false ∧ s.inst ≠ none ∧ (∀ p ∈ s.fw.req, ∃ q ∈ s.fw.bg, q.1 = p.1) ∧
      ∃ i, i < 32 ∧ (s.fw.rr + 1 + i) % 32 = c ∧ ∀ j, j < i → s.mbxState ((s.fw.rr + 1 + j) % 32) ≠ 1
    (s.mbxMay m c = true → may 0x200 → may (4 * ofs.toNat) →
      (st s = 0 → exec (.mbxReqWrite m n ofs data) s = .next (s.setReg 5 (o + 4 * ofs.toNat) data)) ∧
      (st s = 0 → ∃ t, exec (.ring m n) s = .next t ∧ st t = 1 ∧ raised t (1856 + c) ∧ t.reg 5 (o + 0x20C) = s.reqId m) ∧
      (st s = 3 → ∃ t, exec (.ack m n) s = .next t ∧ st t = 0) ∧
      (st s ≠ 0 → collides (.mbxReqWrite m n ofs data) ∧ collides (.ring m n)) ∧ (st s ≠ 3 → collides (.ack m n))) ∧
    (s.mbxMay m c = false → may 0x200 → may (4 * ofs.toNat) → ∃ t, t = s.setFld 5 (o + 0x204) 3 3 1 ∧ exec (.mbxReqWrite m n ofs data) s = .next t ∧ exec (.ring m n) s = .next t ∧
      exec (.ack m n) s = .next t) ∧
    (serves → may 0x208 →
      (st s = 1 → m ≠ .cretal ∨ turn → ∃ t, exec (.take m n) s = .next t ∧ st t = 2 ∧
        (m = .cretal → Map.get [] t.fw.req c = s.mbxBytes c 0 ∧ t.fw.rr = c)) ∧
      (st s = 1 → m = .cretal → (∃ p ∈ s.fw.req, ∀ q ∈ s.fw.bg, q.1 ≠ p.1) → exec (.take m n) s = .next s) ∧
      (st s = 2 → ∃ t, exec (.done m n) s = .next t ∧ raised t (1888 + c) ∧ (¬(8 ≤ c ∧ c ≤ 15) → st t = 3) ∧
        (8 ≤ c → c ≤ 15 → st t = 0 ∧ Map.get [] t.trunk.out 0 =
          mkFrame (Map.get 0 s.trunk.src c) s.node 5 0 s.trunk.seq 0 ([BitVec.ofNat 8 c, 1, 0, 0] ++ s.mbxBytes c 0x100))) ∧
      (st s ≠ 1 → exec (.take m n) s = .next (s.cfgerr 5 (o + 0x208))) ∧ (st s ≠ 2 → exec (.done m n) s = .next (s.cfgerr 5 (o + 0x208))) ∧
      (∃ t, exec (.mbxReset m n) s = .next t ∧ st t = 0 ∧ t.reg 5 (o + 0x20C) = 0 ∧ ∀ i, i < 128 → t.reg 5 (o + 4 * i) = 0)) ∧
    ((∃ e, m = .engine e) → exec (.take m n) s = .next (s.cfgerr 5 (o + 0x208)) ∧ exec (.done m n) s = .next (s.cfgerr 5 (o + 0x208)) ∧
      exec (.mbxReset m n) s = .next (s.cfgerr 5 (o + 0x208))) ∧
    (let by_ := f.bytes
     frameGood by_ = true → fByte by_ 2 = 5 → s.role ≠ 2 → fByte by_ 0 = 0 → fByte by_ 1 ≠ 0 → fByte by_ 3 ≠ 32 →
     fNum by_ 4 2 ∉ Map.get [] s.trunk.seen (fByte by_ 1) → fByte (fPayload by_) 0 = c → 8 ≤ c → c ≤ 15 → fByte (fPayload by_) 1 = 0 →
      (st s = 0 → ∃ t, exec (.mbxFrameReceive k f) s = .next t ∧ st t = 1 ∧ raised t (1856 + c) ∧ Map.get 0 t.trunk.src c = fByte by_ 1 ∧
        ∀ i, i < 256 → (t.mbxBytes c 0).getD i 0 = (((fPayload by_).drop 4).take 256).getD i 0) ∧
      (st s ≠ 0 → ∃ t, exec (.mbxFrameReceive k f) s = .next t ∧ st t = st s)))

/-! ## Cretal's firmware -/

/-- R500, R505, R506: how firmware answers. For every command of Tables 14-12 and 14-13, the request of a channel in service: a wrong CRC is
BAD_CRC; a repeated request gets the response it got before; a request that fails a check of form or channel gets that check's status;
none of these changes anything else. An answer is a whole message of the response buffer, kept, and DONE. Firmware runs: no cell of its
RAM holds an error (R494). -/
def Obligations.RequestsAnswered : Prop :=
  let table : List ((BitVec 5 → Instr) × Nat) :=
    [(.getInfo, 0x0001), (.heartbeat, 0x0002), (.getHealth, 0x0003), (.readLog, 0x0004), (.imgList, 0x0101), (.imgWrite, 0x0102),
     (.imgCommit, 0x0103), (.imgErase, 0x0104), (.lifecycle, 0x0105), (.otpKey, 0x0106), (.engineStart, 0x0201), (.taskCreate, 0x0202),
     (.taskSuspend, 0x0203), (.taskResume, 0x0204), (.taskUnbind, 0x0205), (.taskQuery, 0x0206), (.taskReload, 0x0207),
     (.eventBind, 0x0208), (.linAlloc, 0x0301), (.grant, 0x0302), (.linRevoke, 0x0303), (.linRetire, 0x0304), (.linSwept, 0x0305),
     (.linQuery, 0x0306)] ++
    [(.portDiscover, 0x0401), (.portStatus, 0x0402), (.portRestart, 0x0403), (.tdrRun, 0x0404), (.calWrite, 0x0405), (.senseNoise, 0x0406),
     (.decSet, 0x0407), (.powerStatus, 0x0501), (.tilePower, 0x0502), (.budgetSet, 0x0503), (.modeGet, 0x0601), (.runCommit, 0x0602),
     (.safeEnter, 0x0603), (.recover, 0x0604), (.policyRaise, 0x0605), (.timeStatus, 0x0701), (.timeSet, 0x0702), (.trunkStatus, 0x0703),
     (.remote, 0x0704), (.dbgChallenge, 0x0801), (.dbgResponse, 0x0802), (.dbgClose, 0x0803)]
  (∀ p ∈ table, ∀ (s : State) (n : BitVec 5) (q : Req), s.serving n.toNat = some q → s.ramErrs = [] → q.cmd = p.2 →
    (crc32 (q.head ++ q.pay) ≠ q.crc → Answers (p.1 n) s s q 1 []) ∧
    (crc32 (q.head ++ q.pay) = q.crc →
      (∀ m, s.repeated q = some m → m.length = 256 → s.lets .cretal 5 (0x1000 + 0x400 * n.toNat + 0x208) .write = true →
        ∃ t, exec (p.1 n) s = .next t ∧ t.mbxBytes n.toNat 0x100 = m ∧ 1888 + n.toNat ∈ t.events.map (·.1) ∧ t.mem = s.mem ∧ t.eng = s.eng) ∧
      (s.repeated q = none → ∀ st, q.check = some st → Answers (p.1 n) s s q st []))) ∧
  ∀ (s : State) (q : Req) (st : Nat) (pay : List Byte), q.chan < 32 → s.mbxState q.chan = 2 → pay.length ≤ 240 →
    s.lets .cretal 5 (0x1000 + 0x400 * q.chan + 0x208) .write = true →
    let t := s.answer q st pay
    t.mbxBytes q.chan 0x100 = fwMsg q.cmd q.seq st (if st = 0 ∨ st = 9 ∨ st = 14 then pay else []) ∧ 1888 + q.chan ∈ t.events.map (·.1) ∧
    t.mbxState q.chan = (if 8 ≤ q.chan ∧ q.chan ≤ 15 then 0 else 3) ∧ t.mem = s.mem ∧ t.eng = s.eng ∧ t.otp = s.otp ∧ t.mode = s.mode

/-- Table 14-12, Table 14-13, R264, R508, R514: the commands that report: each answers OK with what the table lists. HEARTBEAT, from a paired
task of a heartbeat domain in START or RUN with the count it expects, opens the kick window. The rows GET_INFO, HEARTBEAT, GET_HEALTH,
READ_LOG, IMG_LIST, TASK_QUERY, LIN_QUERY, MODE_GET, PORT_STATUS, POWER_STATUS, TIME_STATUS and TRUNK_STATUS. -/
def Obligations.FirmwareReports : Prop :=
  ∀ (s : State) (n : BitVec 5) (q : Req),
    let reads : Instr → List (Nat × Nat) → List Byte → Prop := fun i l z => ∃ p t, (fwReads l).run s = .ok p t ∧ Answers i s t q 0 (p ++ z)
    let id := s.regRead .cretal 0 0
    let e := q.num 0 2 / 64
    let sl := Map.get Slot.free (s.engine e).slots (q.num 0 2 % 64)
    (Asks s n 0x0001 q → ∃ t, Answers (.getInfo n) s t q 0 (toBytes 2 (bits id.1 31 16) ++ [0xA2, 3, 2, BitVec.ofNat 8 s.otp.life,
      BitVec.ofNat 8 s.mode.code, BitVec.ofNat 8 (s.fld 0x0C 0x1C 20 16)] ++ toBytes 4 Config.fwBuild.toNat) ∧ t.mem = s.mem) ∧
    (Asks s n 0x0002 q →
      let may := q.paired = true ∧ q.flag Domain.heartbeat = true ∧ (s.mode = .start ∨ s.mode = .run)
      let next := ∀ h, s.fw.hb = some h → q.num 0 4 = (h + 1) % 2 ^ 32
      (may → next → ∃ t, Answers (.heartbeat n) s t q 0 (toBytes 4 (q.num 0 4)) ∧ t.safe.kickOpen = true ∧ t.fw.hb = some (q.num 0 4)) ∧
      (may → ¬next → Answers (.heartbeat n) s s q 7 []) ∧ (¬may → Answers (.heartbeat n) s s q 6 [])) ∧
    (Asks s n 0x0003 q → reads (.getHealth n) [(6, 0x14), (6, 0x2C), (7, 0x14), (7, 0x18), (9, 0x14)] []) ∧
    (Asks s n 0x0004 q →
      let l := (s.fw.log.drop (q.num 0 2)).take 14
      Answers (.readLog n) s s q 0 (toBytes 2 (q.num 0 2 + l.length) ++ toBytes 1 l.length ++ List.replicate 13 0 ++ l.flatMap LogEntry.bytes)) ∧
    (Asks s n 0x0101 q → q.flag Domain.image = true → 2 * s.slotSize ≤ 0x10000000 →
      let one : Nat → List Byte := fun k => if Map.get 0 s.img.st k = 0 then List.replicate 16 0
        else [BitVec.ofNat 8 (Map.get 0 s.img.st k)] ++ s.slotBytes k 6 1 ++ [0, 0] ++ s.slotBytes k 8 8 ++ List.replicate 4 0
      Answers (.imgList n) s s q 0 (one 0 ++ one 1)) ∧
    (Asks s n 0x0206 q → q.ownsEngine e = true → (∀ i ∈ s.taskEngines (q.num 0 2), s.fld (tileBlk (tileOf i)) (0x204 + 8 * (i % 32)) 0 0 = 0) →
      ∃ t, Answers (.taskQuery n) s t q 0 ([BitVec.ofNat 8 sl.st.code, BitVec.ofNat 8 sl.chuck.isSome.toNat] ++ toBytes 2 sl.pend.toNat) ∧
        Map.get Slot.free (t.engine e).slots (q.num 0 2 % 64) = sl) ∧
    (Asks s n 0x0306 q → s.ownsLin q (q.num 0 2) = true → Answers (.linQuery n) s s q 0 (toBytes 4 (s.linEntry false (q.num 0 2)).toNat)) ∧
    (Asks s n 0x0601 q → ∃ t, Answers (.modeGet n) s t q 0
      ([BitVec.ofNat 8 s.mode.code, BitVec.ofNat 8 (s.fld 6 0x30 0 0), 0, 0] ++ toBytes 4 (s.regRead .cretal 6 0x14).1.toNat) ∧ t.mem = s.mem) ∧
    (Asks s n 0x0402 q → q.byte 0 < 8 → s.ownsPort q (q.byte 0) = true →
      reads (.portStatus n) ([0x14, 0x18, 0x484, 0x104].map (fun o => (0x10 + q.byte 0, o))) []) ∧
    (Asks s n 0x0501 q → ∃ t, Answers (.powerStatus n) s t q 0 (toBytes 4 (25 * s.budget) ++ toBytes 4 (25 * (s.grant % 1024)) ++
      toBytes 8 ((List.range 32).foldl (fun a k => a + s.tileCur k * 4 ^ k) 0)) ∧ t.mem = s.mem) ∧
    (Asks s n 0x0701 q → reads (.timeStatus n) [(0x0C, 0x10), (0x0C, 0x14), (0x0C, 0x1C), (0x18, 0x14), (0x19, 0x14)] []) ∧
    (Asks s n 0x0703 q → reads (.trunkStatus n) [(0x18, 0x10), (0x19, 0x10)] [BitVec.ofNat 8 (s.fld 0x0C 0x1C 13 8)])

/-- R84, R85, R98, R109, R264, R507 to R516 (Table 14-13): lineages and tasks through firmware. LIN_ALLOC gives the lowest FREE index to its
domain; GRANT mints its capability into the drop cell; LIN_REVOKE, LIN_RETIRE and LIN_SWEPT start their LIN command and go to the
background; the task commands act on the task's engine; TASK_CREATE binds a task whose memory it could write, unless the TRNG fails its
health tests; EVENT_BIND writes the binding; ENGINE_START releases an engine whose record it could write. Before the first grant over a
resource its range is filled with POISON (R87). The rows LIN_ALLOC, GRANT, LIN_REVOKE, LIN_RETIRE, LIN_SWEPT, TASK_SUSPEND, TASK_RESUME,
TASK_UNBIND, TASK_RELOAD, TASK_CREATE, EVENT_BIND and ENGINE_START. -/
def Obligations.FirmwareTasks : Prop :=
  ∀ (s s0 s1 s2 s3 s4 : State) (n : BitVec 5) (q : Req) (v : Word) (i : Nat) (c ce cs ca : Cell) (r re rs ra : Resource) (x : EngineRec),
    let e := q.num 0 2 / 64
    let k := q.num 0 2 % 64
    let at_ : State → Nat → Nat → Slot := fun t e k => Map.get Slot.free (t.engine e).slots k
    let quiet : Nat → Prop := fun e => s.fld (tileBlk (tileOf e)) (0x204 + 8 * (e % 32)) 0 0 = 0
    let mine := q.ownsEngine e = true ∧ quiet e ∧ (at_ s e k).paired = false
    (Asks s n 0x0301 q → q.dom.id < 256 → s.linOwned q.dom.id < q.dom.quota → s.freeLin 1 65535 = some i → LinReady s i v → entState v = 0 → 0 < i →
      ∃ t, Answers (.linAlloc n) s t q 0 (toBytes 2 i) ∧ t.linEntry false i = mkEntry q.dom.id 1 (entGen v) ∧
        t.linEntry true i = mkEntry q.dom.id 1 (entGen v)) ∧
    (let sp := q.spec 0
     let pa := q.dom.drop + 16 * sp.drop
     Asks s n 0x0302 q → sp.drop < 64 → s.buildSpec q.all q.dom.id false sp = .ok (c, r) → r.mirror = false → s.domainPaired q.dom = false →
     pa % 16 = 0 → s.isMemory pa = true → LinReady s sp.lin v → entState v = 1 → capLin c = sp.lin → capGen c = entGen v → capMalformed c = false →
     c.kind = .cap →
      (let done := s.lin.filled = true ∨ r.num ∈ s.lin.fills
       let ok := fun (t : State) => Answers (.grant n) s t q 0 (toBytes 2 sp.lin ++ [BitVec.ofNat 8 (capGen c), 0])
       (done → ∃ t, ok t ∧ t.mem = s.mem.setCell pa { bits := c.bits, tag := kindTag .cap }) ∧
       (¬done → s.mem.wf = true → s.oneRegion r.base r.size ≠ 0 → 0 < r.size → r.base % 64 = 0 → r.size % 64 = 0 → r.base + r.size ≤ 2 ^ 38 →
         ∃ t, ok t ∧ t.mem.cell pa = { bits := c.bits, tag := kindTag .cap } ∧ r.num ∈ t.lin.fills ∧
           (∀ a, r.base ≤ a → a < r.base + r.size → ¬(pa ≤ a ∧ a < pa + 16) → t.mem.byte a = byteDefault a ∧ t.mem.tag a = tagDefault a) ∧
           (∀ a, ¬(r.base ≤ a ∧ a < r.base + r.size) → ¬(pa ≤ a ∧ a < pa + 16) → t.mem.byte a = s.mem.byte a ∧ t.mem.tag a = s.mem.tag a)))) ∧
    (∀ p ∈ ([(.linRevoke, 0x0303, 2, 1), (.linRetire, 0x0304, 3, 1), (.linSwept, 0x0305, 4, 2)] : List ((BitVec 5 → Instr) × Nat × Nat × Nat)),
      Asks s n p.2.1 q → s.ownsLin q (q.num 0 2) = true → 0 < q.num 0 2 → LinReady s (q.num 0 2) v →
      (entState v = p.2.2.2 → ∃ t, exec (p.1 n) s = .next t ∧ InBackground t n p.2.1 (q.num 0 2) p.2.2.1 ∧ t.lin.phase ≠ .idle ∧
        entState (t.linEntry false (q.num 0 2)) = if p.2.2.1 = 4 then 0 else if p.2.2.1 = 3 ∨ entGen v = 15 then 2 else 1) ∧
      (entState v ≠ p.2.2.2 → Answers (p.1 n) s s q 7 [])) ∧
    (mine → (at_ s e k).st = .ready → Asks s n 0x0203 q → ∃ t, Answers (.taskSuspend n) s t q 0 [] ∧ (at_ t e k).st = .suspended) ∧
    (mine → (at_ s e k).st = .suspended → Asks s n 0x0204 q →
      ∃ t, Answers (.taskResume n) s t q 0 [] ∧ (at_ t e k).st = if (at_ s e k).wasWaiting = true ∧ (at_ s e k).pend = 0 then .waiting else .ready) ∧
    (mine → (at_ s e k).st = .suspended → Asks s n 0x0205 q → ∃ t, Answers (.taskUnbind n) s t q 0 [] ∧ at_ t e k = Slot.free) ∧
    (let a := s.descAddr e k + 16
     let w := setBits (setBits (setBits (s.mem.cell a).bits 3 0 (q.byte 2)) 31 16 (q.num 6 2)) 79 64 (q.num 4 2)
     let m := s.mem.setCell a { bits := w, tag := 0 }
     let may : Access → Prop := fun acc => (s.mpuDecide .cretal a acc true false (plainMt a)).1 = 0
     mine → (at_ s e k).st ≠ .free → Asks s n 0x0207 q → q.byte 2 < 16 → q.byte 3 = 0 → may .read → may .write → s.isMemory (a - 16) = true →
     s.isMemory a = true → s.isMemory (a + 239) = true → s.mem.errs = [] → ∀ d, descSlot ((List.range 16).map (fun j => m.cell (a - 16 + 16 * j))) = some d →
      ∃ t, Answers (.taskReload n) s t q 0 [] ∧ t.mem = m ∧ at_ t e k = { at_ s e k with prio := d.prio, emask := d.emask, slice := d.slice }) ∧
    (let b := q.num 0 2
     let kind := q.byte 5
     Asks s n 0x0208 q → b < 2048 → q.byte 4 < 16 → kind < 4 → s.mayBind q b = true → (2 ≤ kind ∨ q.ownsEngine (q.num 2 2 / 64) = true) →
      ∃ t, Answers (.eventBind n) s t q 0 [] ∧ t.mem = s.mem ∧
        (cretalOnly b = false → bit (t.reg 4 (0x2000 + 4 * b)) 31 = true ∧ bit (t.reg 4 (0x2000 + 4 * b)) 30 = decide (kind < 2) ∧
          (kind < 2 → t.fld 4 (0x2000 + 4 * b) 15 0 = q.num 2 2 ∧ t.fld 4 (0x2000 + 4 * b) 19 16 = q.byte 4 ∧ t.fld 4 (0x2000 + 4 * b) 29 29 = kind))) ∧
    (let g := q.num 0 2
     let slot := q.byte 2
     let pa := ra.base + (capCursor ca - ra.vbase)
     Asks s n 0x0202 q → s.buildSpec q.all q.dom.id false (q.spec 0x18) = .ok (ce, re) → s.buildSpec q.all q.dom.id false (q.spec 0x38) = .ok (cs, rs) →
     s.buildSpec q.all q.dom.id false (q.spec 0x58) = .ok (ca, ra) → taskFieldsOk q (.ok (ce, re)) (.ok (ca, ra)) = true → q.byte 3 / 64 % 2 = 0 →
     q.ownsEngine g = true → (q.byte 0x12 = 0 ∨ q.flag Domain.trustk = true) → s.slotFree g slot = true →
      if Config.trngFailed s.freeCtr = true then ∃ t, Answers (.taskCreate n) s t q 8 [] ∧ t.mem = s.mem ∧ t.eng = s.eng
      else match (do [re, rs, ra].forM fwFill; fwTaskMemory q g slot ((Config.trng s.freeCtr).toNat % 2 ^ 60) pa ce cs ca : FM Unit).run { s with freeCtr := s.freeCtr + 1 } with
        | .ok _ t => (match (fwSched g 1 slot).run t with
          | .ok _ u => Answers (.taskCreate n) s u q 0 (toBytes 2 (64 * g + slot))
          | .error (.ans st z) u => Answers (.taskCreate n) s u q st z
          | .error _ _ => True)
        | .error (.ans st z) t => Answers (.taskCreate n) s t q st z
        | .error _ _ => True) ∧
    (let g := q.num 0 2
     let specs := [x.pcc, x.ksp, x.vbar, x.restpc, x.restsp, x.drop].map (s.buildSpec false x.domain true)
     let caps := specs.filterMap (fun r => match r with | .ok v => some v.1 | .error _ => none)
     Asks s n 0x0201 q → g < 1024 → q.ownsEngine g = true → s.engineRec g = some x → x.paired = false → x.id = g → (s.engine g).held = true →
     caps.length = 6 → (specs.forM (fun r => match r with | .ok v => fwFill v.2 | .error _ => pure ())).run s = .ok () s0 →
     (fwEngineRegs x g false).run s0 = .ok () s1 → (fwStartRecord q x caps false).run s1 = .ok () s2 →
     s2.regWrite .cretal (tileBlk (tileOf g)) 0x308 (BitVec.ofNat 32 (2 ^ (g % 32))) = s3 → (s3.engine g).held = false →
     s3.regWrite .cretal (tileBlk (tileOf g)) 0x300 (BitVec.ofNat 32 (2 ^ (g % 32))) = s4 → Answers (.engineStart n) s s4 q 0 [])

/-- R419, R421, R423, R432, R439, R445 to R447, R453, R467, R469, R482, R514, R515, R530, R535, R540: the commands that set something, where
they may. The mode commands, POLICY_RAISE, the port and measurement commands, power, budget and time, each with its effect; the long ones
go to the background; REMOTE is sent three times in all, then TIMEOUT. TILE_POWER to IDLE sets AUTOIDLE (log entry 7). The rows
RUN_COMMIT, SAFE_ENTER, RECOVER, POLICY_RAISE, PORT_DISCOVER, PORT_RESTART, DEC_SET, TDR_RUN, CAL_WRITE, SENSE_NOISE, TILE_POWER,
BUDGET_SET, TIME_SET, REMOTE and REMOTE_RETRY. -/
def Obligations.FirmwareControls : Prop :=
  ∀ (s : State) (n : BitVec 5) (q : Req) (b : Bg) (r : Resource),
    let p := q.byte 0
    let pb := 0x10 + p
    let port := p < 8 ∧ s.ownsPort q p = true
    let life := s.otp.life = 1 ∨ s.otp.life = 2
    (Asks s n 0x0602 q → q.paired = true → q.flag Domain.safety = true → life →
      (s.mode = .start → s.fld 6 0x30 0 0 = 1 → s.fld 7 0x14 2 2 = 0 → s.safe.kickOpen = true →
        ∃ t, Answers (.runCommit n) s t q 0 [] ∧ t.mode = .run ∧ t.ochre = true ∧ t.mem = s.mem) ∧
      (s.mode ≠ .start → ∃ t, Answers (.runCommit n) s t q 7 [] ∧ t.mode = s.mode)) ∧
    (Asks s n 0x0603 q → q.flag Domain.safety = true → s.mode ≠ .safe → ∃ t, Answers (.safeEnter n) s t q 0 [] ∧ t.mode = .safe ∧ t.ochre = false) ∧
    (Asks s n 0x0603 q → s.mode = .safe → Answers (.safeEnter n) s s q 6 []) ∧
    (Asks s n 0x0604 q → s.mode ≠ .safe → Answers (.recover n) s s q 6 []) ∧
    (Asks s n 0x0604 q → s.mode = .safe → (s.setMode .recovery).lets .cretal 6 0x10 .write = true → ∃ t, exec (.recover n) s = .next t ∧ t.mode = .test ∧ InBackground t n 0x0604 0 0) ∧
    (Asks s n 0x0605 q → (
      let w : Word := BitVec.ofNat 32 (q.num 0 4)
      bits w 31 30 = 0 → (∀ c, c < 15 → polMin c ≤ bits w (2 * c + 1) (2 * c) ∧ bits w (2 * c + 1) (2 * c) < 3) → q.flag Domain.safety = true →
      (s.mode = .run → ∀ c, c < 15 → s.fld 6 0x18 (2 * c + 1) (2 * c) ≤ bits w (2 * c + 1) (2 * c)) →
      ∃ t, Answers (.policyRaise n) s t q 0 [] ∧ ∀ c, c < 15 → t.fld 6 0x18 (2 * c + 1) (2 * c) = bits w (2 * c + 1) (2 * c))) ∧
    (port →
      (Asks s n 0x0401 q → s.fld pb 0x14 0 0 = 1 →
        (s.knownPartner p = false → ∃ t, Answers (.portDiscover n) s t q 0 ([1] ++ List.replicate 11 0) ∧ t.blkEn pb = false) ∧
        (s.knownPartner p = true → (∀ d, s.discOf p = some d → d.chan = none) →
          ∃ t, exec (.portDiscover n) s = .next t ∧ InBackground t n 0x0401 p 0 ∧ t.blkEn pb = true ∧ (t.port p).means = [])) ∧
      (Asks s n 0x0403 q → ∃ t, Answers (.portRestart n) s t q 0 [] ∧ t.fld pb 0x14 2 2 = 0 ∧ (t.port p).cq = [] ∧ t.fld pb 0x10 1 1 = s.fld pb 0x10 1 1) ∧
      (Asks s n 0x0407 q → q.byte 1 < 32 → 16 ≤ q.num 2 2 → q.num 2 2 ≤ 256 → q.byte 4 < 2 → q.byte 5 < 2 →
        ∃ t, Answers (.decSet n) s t q 0 [] ∧ t.blkEn pb = s.blkEn pb ∧ t.fld pb (0x400 + 4 * q.byte 1) 24 16 = q.num 2 2 ∧
          t.fld pb (0x400 + 4 * q.byte 1) 15 0 = q.num 6 2 ∧ t.fld pb (0x400 + 4 * q.byte 1) 31 31 = q.byte 5) ∧
      (Asks s n 0x0404 q → s.inst.bind (fun i => i.resources.find? (fun x => x.num == q.num 8 2)) = some r → resBelongs r q.all q.dom.id = true →
        q.byte 1 = 1 → q.byte 2 < 32 → q.byte 3 ≤ 10 → q.byte 4 ≤ 4 → q.byte 5 = 0 → q.num 6 2 < 0x8000 → q.num 8 2 < 1024 → q.num 10 2 = 0 →
        q.num 12 4 % 64 = 0 → q.num 12 4 + 0x20000 ≤ r.size → r.base % 64 = 0 → r.base + q.num 12 4 < 2 ^ 44 → (s.port p).tdr = none →
        s.fld pb 0x60C 0 0 = 0 → s.blkEn pb = true →
        ∃ t x, exec (.tdrRun n) s = .next t ∧ InBackground t n 0x0404 p 0 ∧ (t.port p).tdr = some x ∧ x.fine = false ∧ x.phase = .asked ∧
          x.navg = q.byte 3 ∧ x.cable = q.byte 2 ∧ x.buf = r.base + q.num 12 4 ∧ x.twin = r.mirror)) ∧
    (Asks s n 0x0405 q → q.flag Domain.cal = true → q.num 1 3 = 0 → p = 0 → q.num 4 4 ≤ 50000 →
      ∃ t, Answers (.calWrite n) s t q 0 [] ∧ t.fld 0x0E 0x20 23 0 = q.num 4 4) ∧
    (Asks s n 0x0406 q → q.flag Domain.cal = true → s.fld 0x0E 0x18 0 0 = 0 → s.sense.scan = none → s.fld 0x0E 0x24 1 1 = 0 →
      ∃ t, exec (.senseNoise n) s = .next t ∧ InBackground t n 0x0406 0 0 ∧ t.fld 0x0E 0x24 1 1 = 1) ∧
    (Asks s n 0x0502 q → p < 32 → q.ownsTile p = true → s.pairedTile p = false →
      (q.byte 1 = 0 → ∃ t, Answers (.tilePower n) s t q 0 [] ∧ t.fld 2 (0x100 + 4 * p) 1 0 = 0 ∧ (s.tileCur p ≠ 0 → p ∈ t.pw.wakeQ ∨ p ∈ t.pw.waking)) ∧
      (q.byte 1 = 1 → ∃ t, Answers (.tilePower n) s t q 0 [] ∧ t.fld 2 (0x100 + 4 * p) 4 4 = 1 ∧ t.fld 2 (0x100 + 4 * p) 1 0 = s.fld 2 (0x100 + 4 * p) 1 0) ∧
      (q.byte 1 = 2 → ∃ t, Answers (.tilePower n) s t q 0 [] ∧ t.fld 2 (0x100 + 4 * p) 1 0 = 1) ∧
      (q.byte 1 = 3 → (∀ i, i < 32 → (s.engine (32 * p + i)).allFree = true) → ∃ t, Answers (.tilePower n) s t q 0 [] ∧ t.tileCur p = 3)) ∧
    (Asks s n 0x0503 q → 2000 ≤ q.num 0 4 → q.num 0 4 ≤ 25000 → q.num 0 4 % 25 = 0 → q.flag Domain.sysmgr = true → s.role ≠ 2 →
      (s.pwFloor ≤ q.num 0 4 / 25 → ∃ t, Answers (.budgetSet n) s t q 0 [] ∧ t.budget = q.num 0 4 / 25) ∧
      (q.num 0 4 / 25 < s.pwFloor → ∃ t, Answers (.budgetSet n) s t q 7 [] ∧ t.budget = s.budget)) ∧
    (Asks s n 0x0702 q → q.flag Domain.sysmgr = true →
      (s.role ≠ 2 → ∃ t, Answers (.timeSet n) s t q 0 [] ∧ t.timeBase + Config.timeElapsed s.freeCtr = BitVec.ofNat 64 (q.num 0 8)) ∧
      (s.role = 2 → Answers (.timeSet n) s s q 6 [])) ∧
    (Asks s n 0x0704 q → p < 32 → 8 ≤ q.byte 1 → q.byte 1 ≤ 15 →
      (let seq := (Config.unstated s.freeCtr).toNat % 65536
       ∃ t, exec (.remote n) s = .next t ∧ InBackground t n 0x0704 seq 1 ∧
        Map.get [] t.trunk.out 0 = mkFrame p s.node 5 0 s.trunk.seq 0 ([BitVec.ofNat 8 (q.byte 1), 0, 0, 0] ++ fwMsg (q.num 2 2) seq 0 (q.pay.drop 4)))) ∧
    (s.background n.toNat = some (b, q) → b.cmd = 0x0704 →
      (b.aux < 3 → ∃ t, exec (.remoteRetry n) s = .next t ∧ InBackground t n 0x0704 b.val (b.aux + 1) ∧
        Map.get [] t.trunk.out 0 = mkFrame p s.node 5 0 s.trunk.seq 0 ([BitVec.ofNat 8 (q.byte 1), 0, 0, 0] ++ fwMsg (q.num 2 2) b.val 0 (q.pay.drop 4))) ∧
      (3 ≤ b.aux → Answers (.remoteRetry n) s s q 10 []))

/-- R489, R492, R495, R496, R507, R517 to R521, R542 (Table 15-8): images, lifecycle, keys, debug authentication, start-up and Cretal's
events. The image commands take effect at their completion; OTP only gains; a challenge gives a nonce, an answer opens the port for its
scope, and each attempt uses the nonce up; ROM_BOOT starts Cretal and, from a valid image, the device's record and TEST; a scan serves
every pending event, and event 1734 takes the device to SAFE. The rows IMG_WRITE, IMG_COMMIT, IMG_ERASE, BACKGROUND_COMMAND_COMPLETE,
LIFECYCLE, OTP_KEY, DBG_CHALLENGE, DBG_RESPONSE, DBG_CLOSE, AUTH_LOCKOUT_EXPIRE, ROM_BOOT, CRETAL_PERIODIC_SCAN and CRETAL_EVENT_SERVICE. -/
def Obligations.FirmwareLife : Prop :=
  ∀ (s : State) (n : BitVec 5) (q : Req) (b : Bg) (i : BootInput),
    let p := q.byte 0
    let image := q.flag Domain.image = true ∧ p < 2
    (Asks s n 0x0102 q → image → s.img.booted ≠ some p → q.num 1 3 = 0 → q.num 4 4 % 4 = 0 → q.num 4 4 + (q.len - 8) ≤ s.slotSize →
      ∃ t, exec (.imgWrite n) s = .next t ∧ InBackground t n 0x0102 0 0 ∧ t.mem = s.mem) ∧
    (Asks s n 0x0103 q → image → ∃ t, exec (.imgCommit n) s = .next t ∧ InBackground t n 0x0103 0 0 ∧ t.mem = s.mem) ∧
    (Asks s n 0x0104 q → image → s.img.booted ≠ some p → ∃ t, exec (.imgErase n) s = .next t ∧ InBackground t n 0x0104 0 0 ∧ t.mem = s.mem) ∧
    (Asks s n 0x0104 q → image → s.img.booted = some p → Answers (.imgErase n) s s q 7 []) ∧
    (s.background n.toNat = some (b, q) → b.cmd = q.cmd → CretalReaches s → 2 * s.slotSize ≤ 0x10000000 →
      (b.cmd = 0x0102 → ∃ t, Answers (.backgroundCommandComplete n) s t q 0 [] ∧
        (s.mem.wf = true → ∀ j, j < (q.pay.drop 8).length → t.mem.byte (s.slotBase p + q.num 4 4 + j) = (q.pay.drop 8).getD j 0)) ∧
      (b.cmd = 0x0104 → ∃ t, Answers (.backgroundCommandComplete n) s t q 0 [] ∧ Map.get 0 t.img.st p = 0 ∧
        ∀ a, t.mem.byte a = if s.slotBase p ≤ a ∧ a < s.slotBase p + s.slotSize then byteDefault a else s.mem.byte a) ∧
      (b.cmd = 0x0103 → ∃ t st, Answers (.backgroundCommandComplete n) s t q st [] ∧ st = (if s.imgValid p = true then 0 else 12) ∧ t.mem = s.mem) ∧
      (b.cmd = 0x0604 → s.mode = .test → b.aux = 1 → s.fld 6 0x30 0 0 = 1 →
        ∃ t, Answers (.backgroundCommandComplete n) s t q 0 [0, 0] ∧ t.mode = .start) ∧
      (b.cmd = 0x0303 ∨ b.cmd = 0x0304 ∨ b.cmd = 0x0305 → s.lin.phase = .done → s.lin.result ≠ 0 →
        ∃ t, Answers (.backgroundCommandComplete n) s t q 9 [8, BitVec.ofNat 8 s.lin.result] ∧ t.lin.phase = .idle)) ∧
    (Asks s n 0x0105 q → s.fw.locked = false → q.num 1 3 = 0 →
      (p = 1 → s.otp.life = 0 → (∃ k, k < 4 ∧ (s.otpKey k 1).isSome = true) → ∃ t, Answers (.lifecycle n) s t q 0 [] ∧ t.otp.life = 1 ∧ t.mem = s.mem) ∧
      (p = 2 → s.otp.life = 1 → ∃ t, Answers (.lifecycle n) s t q 0 [] ∧ t.otp.life = 2 ∧ t.mem = s.mem) ∧
      (p ≠ s.otp.life + 1 → Answers (.lifecycle n) s s q 5 [])) ∧
    (Asks s n 0x0106 q → p < 4 → (q.byte 1 = 1 ∨ q.byte 1 = 2) → q.byte 3 = 0 →
      (q.byte 2 = 0 → s.otp.life < 2 → s.otp.keys.find? (fun x => x.1 == p) = none → ∃ t, Answers (.otpKey n) s t q 0 [] ∧
        t.otp.keys.find? (fun x => x.1 == p) = some (p, { use := q.byte 1, revoked := false, hash := (q.pay.drop 4).take 32 })) ∧
      (∀ y, q.byte 2 = 1 → s.otp.keys.find? (fun x => x.1 == p) = some (p, y) → ∃ t, Answers (.otpKey n) s t q 0 [] ∧
        t.otp.keys.find? (fun x => x.1 == p) = some (p, { y with revoked := true }))) ∧
    (Asks s n 0x0801 q → p < 32 → s.otp.life = 2 →
      ∃ t, if Config.trngFailed s.freeCtr = true then Answers (.dbgChallenge n) s t q 8 [] ∧ t.fw.nonce = s.fw.nonce
        else Answers (.dbgChallenge n) s t q 0 (toBytes 16 (Config.trng s.freeCtr).toNat ++ toBytes 4 Config.serial.toNat) ∧
          t.fw.nonce = some { val := Config.trng s.freeCtr, scope := p }) ∧
    (Asks s n 0x0802 q → q.byte 64 < 4 → s.otp.life = 2 →
      (s.fw.locked = true → Answers (.dbgResponse n) s s q 13 []) ∧
      (s.fw.locked = false → ∃ t, t.fw.nonce = none ∧ match s.fw.nonce with
        | none => Answers (.dbgResponse n) s t q 7 [] ∧ t.regs = s.regs
        | some v =>
          if Config.nonceExpired s.freeCtr = true then Answers (.dbgResponse n) s t q 7 [] ∧ t.regs = s.regs
          else if s.debugSigned (q.byte 64) (toBytes 16 v.val.toNat ++ toBytes 4 Config.serial.toNat ++ toBytes 1 v.scope) (q.pay.take 64) = true then
            Answers (.dbgResponse n) s t q 0 [] ∧ t.fw.fails = 0
          else Answers (.dbgResponse n) s t q 11 [] ∧ t.fw.fails = s.fw.fails + 1 ∧ t.fw.locked = decide (3 ≤ s.fw.fails + 1) ∧ t.regs = s.regs)) ∧
    (Asks s n 0x0803 q → s.otp.life = 2 → ∃ t, Answers (.dbgClose n) s t q 0 [] ∧ bit (t.reg 0x1E 0x10) 31 = false) ∧
    (s.fw.locked = true → ∃ t, exec .authLockoutExpire s = .next t ∧ t.fw.locked = false ∧ t.fw.fails = 0) ∧
    (s.cretalReset = true → s.fld 1 0x10 3 2 = 3 → s.fld 2 0x20 1 0 ≠ 2 → s.mode = .start →
      (let s0 := { s with cretalReset := false }
       let rec_ := fun (k : Nat) => if k = 0 then i.rec0 else i.rec1
       (∀ k, s.img.booted = some k → ∃ t, exec (.romBoot i) s = .next t ∧ t.cretalReset = false ∧ t.img = s.img ∧
         (s.imgValid k = true → CretalRegs (s0.lockCretal (rec_ k)) → t.inst = some (rec_ k) ∧ t.mode = .start) ∧
         (s.imgValid k = false → t.inst = none ∧ t.mode = .start)) ∧
       (s.img.booted = none → (∀ k, (s0.setXspi i).bootSlot = some k → CretalRegs (s0.lockCretal (rec_ k))) →
      ∃ t, exec (.romBoot i) s = .next t ∧ t.cretalReset = false ∧
        match (s0.setXspi i).bootSlot with
        | none => t.mode = .start ∧ t.inst = s.inst ∧ t.img.booted = none
        | some k => t.inst = some (rec_ k) ∧ t.img.booted = some k ∧ t.mode = .test))) ∧
    (s.cretalReset = false → CretalReaches s → s.cpend 1734 = true → s.mode = .run →
      (∃ t, exec .cretalPeriodicScan s = .next t ∧ t.mode = .safe ∧ t.cpend 1734 = false) ∧
      (s.fld 4 (0x2000 + 4 * 1734) 31 31 = 1 → ∃ t, exec .cretalEventService s = .next t ∧ t.mode = .safe ∧ t.cpend 1734 = false))

/-! ## Power, clocks and resets -/

/-- R527 to R538, R541, R542: clocks, credits and power states. Each command with its effect for an unpaired tile: FREQ, with the effective
frequency in EFF; the budget; requests for RUN, NAP and OFF; a wake that waits for credits or starts, and completes; entry to IDLE and NAP
of a quiet tile; the clocks' flags and events; and the limits of a hot device. FREQ of a paired tile is its twin's too. The rows CLK_TILE,
PWR_TILE_REQ, PWR_BUDGET, TILE_WAKE_START, TILE_WAKE_COMPLETE, TILE_IDLE_ENTRY, TILE_NAP_ENTRY, X32_CRYSTAL_LOSS, PLL_LOCK_LOSS,
PLL_RELOCK, THERMAL_READING and THERMAL_LIMIT_STEP. -/
def Obligations.PowerAndClocks : Prop :=
  ∀ (s : State) (m : Master) (t : BitVec 5) (data : Word) (src : ClkSrc) (temps : List Int),
    let n := t.toNat
    let p := 0x100 + 4 * n
    let lock := match src with | .plla => 0 | .pllb => 1 | .plld => 2 | .xtal25 => 3
    let raised : State → Nat → Prop := fun u id => id ∈ u.events.map (·.1)
    let tmp : Nat → Int := fun k => max (temps.getD (2 * k) 0) (temps.getD (2 * k + 1) 0)
    let quiet := ∀ i, i < 32 → (s.engine (32 * n + i)).committing = false ∧ (s.engine (32 * n + i)).busy = false
    let idle := ∀ i, i < 32 → let x := s.engine (32 * n + i)
      x.busy = false ∧ (x.held = true ∨ x.level = .t) ∧ ∀ q ∈ x.slots, q.2.st ≠ .ready ∧ q.2.st ≠ .running
    (isMgmt m = true → s.lets m 1 p .write = true → s.pairedTile n = true → 50 ≤ bits data 9 0 → bits data 9 0 ≤ 1000 →
      ∃ u, exec (.clkTile m t data) s = .next u ∧ u.freq n = bits data 9 0 ∧ u.freq (twinTile n) = bits data 9 0) ∧
    (isMgmt m = true → s.lets m 1 p .write = true → s.lets m 2 p .write = true → s.pairedTile n = false →
      (50 ≤ bits data 9 0 → bits data 9 0 ≤ 1000 →
        ∃ u, exec (.clkTile m t data) s = .next u ∧ u.freq n = bits data 9 0 ∧ (∀ j, j < 32 → j ≠ n → u.freq j = s.freq j) ∧ u.fld 1 p 25 16 = u.effFreq n) ∧
      ((bits data 9 0 < 50 ∨ 1000 < bits data 9 0) → exec (.clkTile m t data) s = .next (s.cfgerr 1 p)) ∧
      (bits data 1 0 = 0 → ∃ u, exec (.pwrTileReq m t data) s = .next u ∧ u.fld 2 p 1 0 = 0 ∧ u.fld 2 p 4 4 = bits data 4 4 ∧
        (s.tileCur n ≠ 0 → (n ∈ u.pw.wakeQ ∨ n ∈ u.pw.waking) ∧ (n ∉ s.pw.wakeQ → n ∉ s.pw.waking → u.fld 2 p 16 16 = 1))) ∧
      (bits data 1 0 = 1 → ∃ u, exec (.pwrTileReq m t data) s = .next u ∧ u.fld 2 p 1 0 = 1 ∧ u.tileCur n = s.tileCur n) ∧
      (bits data 1 0 = 2 → (∀ i, i < 32 → (s.engine (32 * n + i)).allFree = true) →
        ∃ u, exec (.pwrTileReq m t data) s = .next u ∧ u.tileCur n = 3 ∧ (∀ i, i < 32 → (u.engine (32 * n + i)).held = true) ∧
          ∀ i o, i < 32 → o < 0x2000 → u.mem.byte (privKey (32 * n + i) o) = 0) ∧
      (bits data 1 0 = 2 → (∃ i, i < 32 ∧ (s.engine (32 * n + i)).allFree = false) → ∃ u, exec (.pwrTileReq m t data) s = .next u ∧
        u.tileCur n = s.tileCur n ∧ u.fld 2 8 0 0 = 1)) ∧
    (isMgmt m = true → s.lets m 2 0x10 .write = true →
      (s.pwFloor ≤ bits data 9 0 → 80 ≤ bits data 9 0 → bits data 9 0 ≤ 1000 →
        ∃ u, exec (.pwrBudget m data) s = .next u ∧ u.budget = bits data 9 0 ∧ u.eng = s.eng) ∧
      (bits data 9 0 < s.pwFloor → exec (.pwrBudget m data) s = .next (s.cfgerr 2 0x10))) ∧
    (n ∈ s.pw.wakeQ → s.wakeTurn n = true → s.pairedTile n = false →
      (s.tileCur n < 2 ∨ s.grant + tileCost (s.freq n) ≤ s.budget →
        ∃ u, exec (.tileWakeStart t) s = .next u ∧ n ∈ u.pw.waking ∧ n ∉ u.pw.wakeQ ∧ u.fld 2 p 16 16 = 0 ∧ u.fld 1 p 31 31 = 1) ∧
      (2 ≤ s.tileCur n → s.budget < s.grant + tileCost (s.freq n) → n ∉ s.pw.waited →
        ∃ u, exec (.tileWakeStart t) s = .next u ∧ n ∈ u.pw.wakeQ ∧ u.fld 2 p 16 16 = s.fld 2 p 16 16 ∧ raised u 1730)) ∧
    (n ∈ s.pw.waking → ∃ u, exec (.tileWakeComplete t) s = .next u ∧ u.tileCur n = 0 ∧ n ∉ u.pw.waking ∧ u.fld 1 p 31 31 = 0) ∧
    (s.tileCur n = 0 → s.fld 2 p 4 4 = 1 → idle →
      ∃ u, exec (.tileIdleEntry t) s = .next u ∧ u.tileCur n = 1 ∧ u.mem = s.mem ∧
        ∀ i, u.engine i = if i / 32 = n then { s.engine i with resv := none } else s.engine i) ∧
    (s.tileCur n ≤ 1 → s.fld 2 p 1 0 = 1 → quiet →
      ∃ u, exec (.tileNapEntry t) s = .next u ∧ u.tileCur n = 2 ∧ (∀ i, i < 32 → (u.engine (32 * n + i)).tlb = [] ∧ (u.engine (32 * n + i)).resv = none) ∧ u.mem = s.mem) ∧
    (∃ u, exec .x32CrystalLoss s = .next u ∧ u.fld 1 0x10 4 4 = 1 ∧ raised u 1729) ∧
    (s.fld 1 0x10 lock lock = 1 →
      ∃ u, exec (.pllLockLoss src) s = .next u ∧ u.fld 1 0x10 lock lock = 0 ∧ raised u 1728 ∧ raised u 1666 ∧ u.fld 6 0x2C 0 0 = 1) ∧
    (∃ u, exec (.pllRelock src) s = .next u ∧ u.fld 1 0x10 lock lock = 1) ∧
    ((∀ k, k < 32 → -(2 ^ 15) ≤ tmp k ∧ tmp k < 2 ^ 15 ∧ -(2 ^ 15) ≤ temps.getD (2 * k) 0 ∧ -(2 ^ 15) ≤ temps.getD (2 * k + 1) 0) →
      ∃ u, exec (.thermalReading temps) s = .next u ∧
        (∀ k, k < 32 → u.reg 0x0D (0x100 + 4 * k) = BitVec.ofNat 32 (wrap 16 (temps.getD (2 * k) 0) + 65536 * wrap 16 (temps.getD (2 * k + 1) 0))) ∧
        ((∃ k, k < 32 ∧ s.hot16 ≤ tmp k) → (∀ k, k < 32 → s.temp k < s.hot16) → u.fld 0x0D 0x14 1 1 = 1 ∧ u.pw.hotOn = true ∧ raised u 1733) ∧
        ((∃ k, k < 32 ∧ 2000 ≤ tmp k) → (∀ k, k < 32 → s.temp k < 2000) → u.fld 0x0D 0x14 2 2 = 1 ∧ raised u 1734 ∧ ∀ k, k < 32 → u.tlim k = 50)) ∧
    ((s.pw.hotOn = true → (∃ k, k < 32 ∧ s.hot16 - 80 ≤ s.temp k) →
      ∃ u, exec .thermalLimitStep s = .next u ∧ ∀ k, k < 32 → u.tlim k = max 50 (min (s.tlim k) (s.freq k) / 2)) ∧
     (s.pw.hotOn = false → s.pw.gradOn = [] →
      ∃ u, exec .thermalLimitStep s = .next u ∧ ∀ k, k < 32 → u.tlim k = min 1000 (2 * s.tlim k)))

/-- R543 to R548, R572, R577 (Table 15-6): the resets. A power-on or warm reset leaves the flash, OTP and free values and the cause, a warm
one also the umber registers, and everything else as State.reset has it; a tile reset leaves its engines held and its registers at reset;
an engine reset waits for the engine's stores. DOZE turns every tile off, DORMANT leaves the umber domain, which an enabled source ends.
The rows POWER_ON_RESET, WARM_RESET, RST_DEV, RST_TILE, TILE_RESET_COMPLETE, RST_ENG, ENGINE_RESET_COMPLETE, PWR_DEVCTL, DORMANT_WAKE and
UMB_ALARM_EXPIRE. -/
def Obligations.Resets : Prop :=
  ∀ (s : State) (m : Master) (t : BitVec 5) (e : Eid) (data : Word) (pin : Bool) (straps : List Nat) (src : BitVec 3),
    let fresh : State → Nat → Prop := fun u cause =>
      u.mode = .start ∧ (∀ i, (u.engine i).held = true) ∧ u.events = [] ∧ u.otp = s.otp ∧ u.reg 3 0x10 = BitVec.ofNat 32 cause ∧
      (∀ a, u.mem.byte a = if 0x20000000 ≤ a ∧ a < 0x30000000 then s.mem.byte a else byteDefault a) ∧ u.cretalReset = true
    let umber : State → Prop := fun u => u.reg 2 0x30 = s.reg 2 0x30 ∧ u.vsel = s.vsel
    let n := t.toNat
    let x := s.engine e.toNat
    let rb := 0x100 + 4 * (e.toNat / 32)
    let allFree := ∀ i, i < 1024 → (s.engine i).allFree = true
    (∃ u, exec (.powerOnReset pin straps) s = .next u ∧ fresh u (if pin then 2 else 1) ∧ u.vsel = straps) ∧
    (∃ u, exec .warmReset s = .next u ∧ fresh u 3 ∧ umber u ∧ u.reg 2 0x34 = s.reg 2 0x34) ∧
    (isMgmt m = true → s.lets m 3 0x14 .write = true → (bits data 31 16 = 0x5AFE → ∃ u, exec (.rstDev m data) s = .next u ∧ fresh u (if m = .debug then 5 else 4) ∧ umber u) ∧
      (bits data 31 16 ≠ 0x5AFE → exec (.rstDev m data) s = .next (s.cfgerr 3 0x14))) ∧
    (isMgmt m = true → s.lets m 3 0x18 .write = true → data = BitVec.ofNat 32 (2 ^ n) → s.pairedTile n = false → s.fld 3 0x18 n n = 0 → s.tileCur n < 2 →
      ∃ u, exec (.rstTile m data) s = .next u ∧ u.fld 3 0x18 n n = 1 ∧ (∀ i, i < 32 → (u.engine (32 * n + i)).held = true) ∧
        (∀ o, o < 0x10000 → u.reg (tileBlk n) o = resetWord (tileBlk n) o) ∧ u.mem = s.mem ∧ ∀ i, i / 32 ≠ n → u.engine i = s.engine i) ∧
    (Map.get 0 s.pw.defer n = 0 → ∃ u, exec (.tileResetComplete t) s = .next u ∧ u.fld 3 0x18 n n = 0 ∧ u.eng = s.eng) ∧
    (isMgmt m = true → s.lets m 3 rb .write = true → n = e.toNat / 32 → data = BitVec.ofNat 32 (2 ^ (e.toNat % 32)) → s.pairedEng e.toNat = false →
      s.fld 3 rb (e.toNat % 32) (e.toNat % 32) = 0 → s.tileCur n < 2 →
      ∃ u, exec (.rstEng m t data) s = .next u ∧ u.engine e.toNat = { x with resetPend := true } ∧ u.fld 3 rb (e.toNat % 32) (e.toNat % 32) = 1) ∧
    (x.resetPend = true →
      (x.sb = [] → ∃ u, exec (.engineResetComplete e) s = .next u ∧ (u.engine e.toNat).held = true ∧ (u.engine e.toNat).resetPend = false ∧
        (u.engine e.toNat).chucks = [] ∧ (u.engine e.toNat).commits = x.commits ∧ u.fld 3 rb (e.toNat % 32) (e.toNat % 32) = 0 ∧ u.mem = s.mem) ∧
      (x.sb ≠ [] → exec (.engineResetComplete e) s = .next s)) ∧
    (isMgmt m = true → s.lets m 2 0x20 .write = true → bits data 31 16 = 0x5AFE →
      (bits data 1 0 = 0 → ∃ u, exec (.pwrDevctl m data) s = .next u ∧ u.fld 2 0x20 1 0 = 0 ∧ u.eng = s.eng) ∧
      ((s.mode = .start ∨ s.mode = .safe) → allFree →
        (bits data 1 0 = 1 → ∃ u, exec (.pwrDevctl m data) s = .next u ∧ u.fld 2 0x20 1 0 = 1 ∧ ∀ k, k < 32 → u.tileCur k = 3) ∧
        (bits data 1 0 = 2 → ∃ u, exec (.pwrDevctl m data) s = .next u ∧ u.fld 2 0x20 1 0 = 2 ∧ u.mode = .start ∧ umber u)) ∧
      (s.mode = .run → 1 ≤ bits data 1 0 → exec (.pwrDevctl m data) s = .next (s.cfgerr 2 0x20))) ∧
    (s.fld 2 0x20 1 0 = 2 →
      ((src = 1 ∧ s.fld 2 0x34 0 0 = 1) ∨ (src = 2 ∧ s.fld 2 0x34 1 1 = 1) ∨ (src = 4 ∧ s.fld 2 0x34 2 2 = 1) →
        ∃ u, exec (.dormantWake src) s = .next u ∧ fresh u 6 ∧ u.fld 2 0x34 10 8 = src.toNat) ∧
      (s.reg 2 0x30 ≠ 0 → s.fld 2 0x34 1 1 = 1 → ∃ u, exec .umbAlarmExpire s = .next u ∧ fresh u 6 ∧ u.fld 2 0x34 10 8 = 2))

/-- R513: ENG_REL starts a held engine at level K, chuck 7, from a sound start record: PCC, DCC, VBAR's cell and the kernel's capabilities and
registers as the record gives them; a record that is not sound leaves the engine held and sets CFGERR. -/
def Obligations.EngineRelease : Prop :=
  ∀ (s u : State) (m : Master) (e : Eid) (l : List MCell),
    let n := e.toNat
    let t : BitVec 5 := BitVec.ofNat 5 (n / 32)
    let b := tileBlk (n / 32)
    let word : Word := BitVec.ofNat 32 (2 ^ (n % 32))
    let cap : Nat → Cell := fun i => { bits := (l.getD i MCell.poison).bits, kind := .cap }
    isMgmt m = true → s.lets m b 0x308 .write = true → (s.engine n).held = true → s.fld b 0x308 (n % 32) (n % 32) = 0 →
    s.read256 (s.startRecord n) n = (some l, u) → u.eng = s.eng →
    (startOk l = true →
      ∃ v, exec (.engRel m t word) s = .next v ∧ (v.engine n).held = false ∧ (v.engine n).level = .k ∧ (v.engine n).cur = 7 ∧
        (v.chuck n).pcc = cap 0 ∧ (v.chuck n).reg 1 = cap 5 ∧ (v.chuck n).sysr 0 = 0x20300 ∧ v.ecell n 0x105 = cap 2 ∧ v.ecell n 0x104 = cap 1 ∧
        v.ecell n 0x180 = cap 3 ∧ v.ecell n 0x181 = cap 4 ∧ (v.engine n).commits = 0 ∧ (v.engine n).sig = 0xFFFFFFFF ∧
        v.fld b 0x308 (n % 32) (n % 32) = 1) ∧
    (startOk l = false → exec (.engRel m t word) s = .next (u.cfgerr b 0x308))

/-! ## Registers and the debug port -/

/-- R13 to R19, R47, R48, Table 00-4: a 4-byte write to a register that its table describes whole. A field takes the value written, keeps its
own where it is read-only, where the value is reserved or where class S forbids a change, and clears or sets the bits written 1; each
offence, a master that does not own the register, and an offset with no register set CFGERR. An engine that Table 01-7 shuts out of the
block changes nothing, and so does a write to an index with no block or to no register; one that Cretal's MPU or the debug port's scope
forbids has no effect on the register. Cretal's MPU lies in its private space (Table 14-2). The row REGISTER_WRITE. -/
def Obligations.RegisterWrites : Prop :=
  (∀ (s : State) (m : Master) (a : Dword) (data : Word),
    let own := 0x100020000000 ≤ a.toNat ∧ a.toNat < 0x100020010000
    (a.toNat % 4 ≠ 0 ∨ (¬own ∧ ∀ b o, s.region a.toNat ≠ .regs b o) → exec (.registerWrite m a data) s = .next s) ∧
    (own → a.toNat % 4 = 0 → isMgmt m = false → exec (.registerWrite m a data) s = .next s) ∧
    (own → a.toNat % 4 = 0 → isMgmt m = true → s.lets m 0x100 (a.toNat % 0x10000) .write = true →
      exec (.registerWrite m a data) s = .next (s.regWrite m 0x100 (a.toNat % 0x10000) data))) ∧
  ∀ (s : State) (m : Master) (a : Dword) (data : Word) (b o : Nat) (r : RegRow), s.region a.toNat = .regs b o → o % 4 = 0 →
    (blkOf b = none → exec (.registerWrite m a data) s = .next s) ∧
    ((∃ e, m = .engine e) → engineMay b true = false → exec (.registerWrite m a data) s = .next s) ∧
    (blkOf b ≠ none → s.lets m b o .write = false → exec (.registerWrite m a data) s = .next (s.turned m b o .write)) ∧
    (blkOf b ≠ none → s.lets m b o .write = true → 0x10 ≤ o → s.writeSpecial m b o data = none →
      (regRow b o = none → exec (.registerWrite m a data) s = .next (s.cfgerr b o)) ∧
      (regRow b o = some r → r.own.lets m = false → exec (.registerWrite m a data) s = .next (s.cfgerr b o)) ∧
      (regRow b o = some r → r.own.lets m = true →
        ∃ u, exec (.registerWrite m a data) s = .next u ∧ u.mem = s.mem ∧ u.eng = s.eng ∧ u.mode = s.mode ∧
          ∀ f ∈ r.flds,
            let v := bits data f.hi f.lo
            let was := s.fld b o f.hi f.lo
            let now := u.fld b o f.hi f.lo
            let shut := f.ok.ok v = false ∨ (f.cls = .s ∧ s.blkEn b = true)
            (f.acc = .rw → ¬(f.cls = .s ∧ s.blkEn b = true) → f.ok.ok v = false → now = was ∧ u.fld b 8 0 0 = 1) ∧
            (f.acc = .rw → ¬shut → now = v) ∧ (f.acc = .rw → shut → v ≠ was → now = was ∧ u.fld b 8 0 0 = 1) ∧
            (f.acc = .ro ∨ f.acc = .rc ∨ f.acc = .wo → now = was) ∧ (f.acc = .wo → f.ok.ok v = false → u.fld b 8 0 0 = 1) ∧
            (f.acc = .w1s → now = Nat.lor was v) ∧ (f.acc = .w1c → now = Nat.land was (2 ^ (f.hi + 1 - f.lo) - 1 - v))))

/-- R554, R555, R581, Table 16-2: the JTAG instructions. IDCODE captures 0x21024735; SAMPLE/PRELOAD takes the boundary cells; EXTEST drives
them while the SCAN scope is held and the mode is not RUN, and is BYPASS otherwise. None changes anything but the port. The rows IDCODE,
BYPASS, SAMPLE_PRELOAD and EXTEST. Table 16-3: a DBGACC command that finds the port free is performed, or captured BUSY and left to
complete in the background (notes/assumptions/20.md: which of the two is a free value); completing performs it. The rows BUS_READ,
BUS_WRITE, CELL_KIND_READ, ENGINE_STATE_READ, ENGINE_STATE_WRITE and DBGACC_COMPLETE. R553, R556 to R558, R61, R563: what a DBGACC command
does. Without its scope it is NOTOPEN and without effect, DBG_AUTH and MBX channels 24 to 27 apart; a write in the DBG block needs HALT,
its trace port TRACE (log entry 21). An access to a line in a LOCKED or PAIRED region is DENIED. A read gives the bytes, or the kind, of
its cell; a write merges its bytes into a cell that becomes RAW. Registers are read and written as the debug port. An access to engine
state needs the engine halted or stopped; a write of bits makes the cell RAW, a write of the kind gives RAW, INT or POISON and nothing
else. -/
def Obligations.DebugPort : Prop :=
  (
  ∀ (s : State) (pins : List Bool),
    let drives := s.inScope 16 = true ∧ s.mode ≠ .run
    exec .idcode s = .next { s with jtag := { s.jtag with ir := 1, dr := 0x21024735 } } ∧
    exec .bypass s = .next { s with jtag := { s.jtag with ir := 0xFF, dr := 0 } } ∧
    exec (.samplePreload pins) s = .next { s with jtag := { s.jtag with ir := 2, cells := pins } } ∧
    (drives → exec (.extest pins) s = .next { s with jtag := { s.jtag with ir := 0, cells := pins } }) ∧
    (¬drives → exec (.extest pins) s = .next { s with jtag := { s.jtag with ir := 0, dr := 0 } })) ∧
  (
  ∀ (s : State) (a : BitVec 44) (data : Word) (c : DbgCmd),
    let t := { s with freeCtr := s.freeCtr + 1 }
    (∀ p ∈ ([(.busRead a, .busRead a.toNat), (.busWrite a data, .busWrite a.toNat data), (.cellKindRead a, .kind a.toNat),
        (.engineStateRead a, .stateRead a.toNat), (.engineStateWrite a data, .stateWrite a.toNat data)] : List (Instr × DbgCmd)),
      s.jtag.busy = none → ∃ u, exec p.1 s = .next u ∧ (u = t.dbgPerform p.2 ∨
        (u.jtag.status = 3 ∧ u.jtag.busy = some p.2 ∧ u.jtag.addr = a.toNat ∧ u.jtag.data = s.jtag.data ∧ { u with jtag := s.jtag } = t))) ∧
    (s.jtag.busy = some c → exec .dbgaccComplete s = .next (s.dbgPerform c))) ∧
  (
  ∀ (s : State) (a : BitVec 44) (w : Word) (m : MCell) (k : Kind),
    let n := a.toNat
    let shows : State → Nat → Word → Prop := fun u st d => u.jtag.status = st ∧ u.jtag.addr = n ∧ u.jtag.data = d ∧ u.jtag.busy = none
    let only : State → State → Prop := fun u t => { u with jtag := t.jtag } = t
    let does : DbgCmd → Nat → Word → State → Prop := fun c st d t => shows (s.dbgPerform c) st d ∧ only (s.dbgPerform c) t
    let old := s.jtag.data
    let holds : Nat → Prop := fun k => s.inScope k = true
    let opens : Nat → Nat → Bool → Prop := fun b o w => (b = 0x1E ∧ o = 0x10) ∨ (b = 5 ∧ 0x7000 ≤ o ∧ o < 0x8000) ∨
      if w = false then holds 1
      else if b = 0x1E ∧ 0x14 ≤ o then (if o = 0x14 then holds 2 ∨ holds 4 else if 0x30 ≤ o ∧ o < 0x44 then holds 8 else holds 4)
      else holds 2
    let rd := match s.region n with
      | .regs b o => opens b o false
      | _ => holds 1
    let wr := match s.region n with
      | .regs b o => opens b o true
      | _ => holds 2
    let plain := s.guarded n = false ∧ n % 4 = 0 ∧ ((∃ c, s.region n = .cluster c) ∨ ∃ h, s.region n = .dram h) ∧ s.mem.cell n = m ∧
      s.mem.err (alignDown n 16) = 0 ∧ ¬(0x20000000 ≤ n ∧ n < 0x30000000)
    let e := s.dbgSel
    (¬rd → does (.busRead n) 4 old s) ∧ (¬wr → does (.busWrite n w) 4 old s) ∧ (s.inScope 1 = false → does (.kind n) 4 old s) ∧
    (s.inScope 5 = false → does (.stateRead n) 4 old s) ∧ (s.inScope 6 = false → does (.stateWrite n w) 4 old s) ∧
    (s.guarded n = true → (rd → does (.busRead n) 1 0 s) ∧ (s.inScope 1 = true → does (.kind n) 1 0 s) ∧ (wr → does (.busWrite n w) 1 old (s.raise 1921))) ∧
    (s.guarded n = false → s.region n = .xspi ∨ s.region n = .none ∨ (∃ c i, s.region n = .lin c i) ∨ n % 4 ≠ 0 → wr → does (.busWrite n w) 6 old s) ∧
    (s.guarded n = false → s.region n = .none ∨ n % 4 ≠ 0 → rd → does (.busRead n) 6 0 s) ∧
    (plain → rd → does (.busRead n) 0 (BitVec.ofNat 32 (partOf m.bits n 4)) s) ∧
    (plain → s.inScope 1 = true → kindOfTag m.tag = some k → does (.kind n) 0 (BitVec.ofNat 32 (kindCode k)) s) ∧
    (plain → wr → shows (s.dbgPerform (.busWrite n w)) 0 old ∧
      (s.dbgPerform (.busWrite n w)).mem = s.mem.setCell n { bits := mergeBytes m.bits (n % 16) 4 w.toNat, tag := 0 }) ∧
    (∀ o, s.region n = .priv o → s.guarded n = false → n % 4 = 0 → s.mem.cell (privKey e o) = m → s.mem.err (alignDown (privKey e o) 16) = 0 →
      (rd → does (.busRead n) 0 (BitVec.ofNat 32 (partOf m.bits n 4)) s) ∧
      (wr → shows (s.dbgPerform (.busWrite n w)) 0 old ∧
        (s.dbgPerform (.busWrite n w)).mem = s.mem.setCell (privKey e o) { bits := mergeBytes m.bits (n % 16) 4 w.toNat, tag := 0 })) ∧
    (∀ b o, s.region n = .regs b o → s.guarded n = false → n % 4 = 0 → blkOf b ≠ none →
      (rd → does (.busRead n) 0 (s.regRead .debug b o).1 (s.regRead .debug b o).2) ∧
      (wr → (b = 0x1E ∧ o = 0x10 → does (.busWrite n w) 1 old (s.raise 1921)) ∧
        (¬(b = 0x1E ∧ o = 0x10) → only (s.dbgPerform (.busWrite n w)) (s.regWrite .debug b o w) ∧ (s.dbgPerform (.busWrite n w)).jtag.status = 0))) ∧
    (s.inScope 5 = true → (dbgRegOf a = none → does (.stateRead n) 5 0 s) ∧ (∀ p, dbgRegOf a = some p → s.dbgReady = false → does (.stateRead n) 3 0 s)) ∧
    (s.inScope 6 = true → (dbgRegOf a = none → does (.stateWrite n w) 5 old s) ∧
      (∀ p, dbgRegOf a = some p → s.dbgReady = false → does (.stateWrite n w) 3 old s)) ∧
    (∀ c r j, dbgRegOf a = some (.cell c r, j) → s.dbgReady = true →
      let cell := (s.chuckAt e c).reg r
      let u := s.dbgPerform (.stateWrite n w)
      let puts : Cell → Prop := fun d => shows u 0 old ∧ (r ≠ 0 → (u.chuckAt e c).reg r = d) ∧ (u.chuckAt e c).reg 0 = (s.chuckAt e c).reg 0 ∧
        u.mem = s.mem ∧ ∀ i, i ≠ e → i ≠ twinOf e → u.engine i = s.engine i
      (s.inScope 5 = true → does (.stateRead n) 0 (BitVec.ofNat 32 (if j = 4 then kindCode cell.kind else bits cell.bits (32 * j + 31) (32 * j))) s) ∧
      (s.inScope 6 = true →
        (j < 4 → puts { bits := setBits cell.bits (32 * j + 31) (32 * j) w.toNat, kind := .raw }) ∧
        (j = 4 → w = 0 → puts { cell with kind := .raw }) ∧ (j = 4 → w = 1 → puts { cell with kind := .int }) ∧
        (j = 4 → w = 4 → puts { cell with kind := .poison }) ∧
        (j = 4 → r ≠ 0 → w ≠ 0 → w ≠ 1 → w ≠ 4 → does (.stateWrite n w) 1 old (s.raise 1921)))))

/-- R558 to R562, R568, Table 16-8: the debug port halts, steps and resumes the selected engine. HALT requests a halt, of the channel A engine
of a coupled pair, and the engine takes it at its next boundary with event 1920; its twin of a coupled pair halts once it has reached the
same count. STEP and RESUME let a halted engine go on, and have no effect on a stopped one. CLR zeroes the four counters. DBG_AUTH is
Cretal's alone. The rows DBG_HALT, ENGINE_HALT, COUPLED_HALT, STEP, DBG_RESUME, DBG_PMCFG_CLR and DBG_AUTH. -/
def Obligations.HaltStepResume : Prop :=
  ∀ (s : State) (e : Eid) (p : BitVec 9) (data : Word) (r c : Nat),
    let d := s.dbgSel
    let x := s.engine d
    let y := s.engine e.toNat
    let z := s.engine (p.toNat + 512)
    let halt : State → Nat → Nat → Prop := fun t i reason => (t.engine i).dbg.halted = true ∧ (t.engine i).dbg.reason = reason ∧
      (t.engine i).chucks = (s.engine i).chucks ∧ (t.engine i).level = (s.engine i).level ∧ 1920 ∈ t.events.map (·.1) ∧ t.mem = s.mem ∧ t.mode = s.mode
    let may := s.lets .debug 0x1E 0x18 .write = true
    (may → s.coupled d = false → x.stopped = false → x.dbg.halted = false →
      ∃ t, exec (.dbgHalt .debug) s = .next t ∧ (t.engine d).dbg.haltReq = some 1 ∧ (t.engine d).chucks = x.chucks ∧ t.mem = s.mem) ∧
    (may → s.coupled d = true → (s.engine (d % 512)).stopped = false → (s.engine (d % 512)).dbg.halted = false →
      ∃ t, exec (.dbgHalt .debug) s = .next t ∧ (t.engine (d % 512)).dbg.haltReq = some 1) ∧
    (y.dbg.haltReq = some r → y.held = false → y.stopped = false → y.dbg.halted = false → y.boundary = true → s.tileCur (tileOf e.toNat) < 2 →
      y.long = none → ∃ t, exec (.engineHalt e) s = .next t ∧ halt t e.toNat r ∧ (t.engine e.toNat).dbg.haltReq = none ∧
        (s.coupled e.toNat = true → inB e.toNat = false → y.dbg.stepping = false → (t.pair (e.toNat % 512)).haltAt = some y.commits)) ∧
    ((s.pair p.toNat).haltAt = some c → c ≤ z.commits → z.held = false → z.stopped = false → z.dbg.halted = false → z.boundary = true → z.long = none →
      ∃ t, exec (.coupledHalt p) s = .next t ∧ halt t (p.toNat + 512) 5) ∧
    (may → s.coupled d = false → x.dbg.halted = true → x.stopped = false →
      (∃ t, exec (.step .debug) s = .next t ∧ (t.engine d).dbg.halted = false ∧ (t.engine d).dbg.stepping = true ∧ (t.engine d).chucks = x.chucks ∧
        t.mem = s.mem) ∧
      ∃ t, exec (.dbgResume .debug) s = .next t ∧ (t.engine d).dbg.halted = false ∧ (t.engine d).dbg.stepping = false ∧ (t.engine d).chucks = x.chucks ∧
        t.mem = s.mem) ∧
    (may → s.coupled d = false → x.stopped = true → ∃ t, exec (.dbgResume .debug) s = .next t ∧ (t.engine d).stopped = true ∧ (t.engine d).chucks = x.chucks) ∧
    (¬may → ∀ i ∈ [Instr.dbgHalt .debug, .step .debug, .dbgResume .debug], exec i s = .next (s.turned .debug 0x1E 0x18 .write)) ∧
    (s.lets .debug 0x1E 0x200 .write = true → ∃ t, exec (.dbgPmcfgClr .debug) s = .next t ∧ (t.engine d).dbg.counts = [] ∧ (t.engine d).chucks = x.chucks ∧ t.mem = s.mem) ∧
    (∀ e', exec (.dbgHalt (.engine e')) s = .next s ∧ exec (.step (.engine e')) s = .next s ∧ exec (.dbgResume (.engine e')) s = .next s ∧
      exec (.dbgPmcfgClr (.engine e')) s = .next s ∧ exec (.dbgAuth (.engine e') data) s = .next s) ∧
    exec (.dbgAuth .debug data) s = .next (s.raise 1921) ∧
    (s.lets .cretal 0x1E 0x10 .write = true → ∃ t, exec (.dbgAuth .cretal data) s = .next t ∧ t.fld 0x1E 0x10 31 31 = bits data 31 31 ∧ t.fld 0x1E 0x10 4 0 = bits data 4 0 ∧ t.mem = s.mem ∧
      (s.fld 0x1E 0x10 31 31 = 0 → bit data 31 = true → 1923 ∈ t.events.map (·.1)) ∧
      (s.fld 0x1E 0x10 31 31 = 1 → bit data 31 = false → 1924 ∈ t.events.map (·.1)))
end

