-- ==== Sys2Proof/Laws/State.lean ====
section
/-!
SUPPORT. Laws/State.lean: what each update of the state leaves, field by field; no later proof unfolds a record update.
-/

namespace Sys2Proof.Machine

open Sys2Proof

@[simp] theorem State.setEngine_pending (s : State) (e : Nat) (x : Engine) : (s.setEngine e x).pending = s.pending := rfl
@[simp] theorem State.setEngine_freeCtr (s : State) (e : Nat) (x : Engine) : (s.setEngine e x).freeCtr = s.freeCtr := rfl
@[simp] theorem State.setEngine_regs (s : State) (e : Nat) (x : Engine) : (s.setEngine e x).regs = s.regs := rfl
@[simp] theorem State.setEngine_eff (s : State) (e : Nat) (x : Engine) : (s.setEngine e x).eff = s.eff := rfl
@[simp] theorem State.setEngine_shadow (s : State) (e : Nat) (x : Engine) : (s.setEngine e x).shadow = s.shadow := rfl
@[simp] theorem State.setEngine_wcache (s : State) (e : Nat) (x : Engine) : (s.setEngine e x).wcache = s.wcache := rfl
@[simp] theorem State.setEngine_mem (s : State) (e : Nat) (x : Engine) : (s.setEngine e x).mem = s.mem := rfl
@[simp] theorem State.setEngine_linA (s : State) (e : Nat) (x : Engine) : (s.setEngine e x).linA = s.linA := rfl
@[simp] theorem State.setEngine_linB (s : State) (e : Nat) (x : Engine) : (s.setEngine e x).linB = s.linB := rfl
@[simp] theorem State.setEngine_lin (s : State) (e : Nat) (x : Engine) : (s.setEngine e x).lin = s.lin := rfl
@[simp] theorem State.setEngine_bcasts (s : State) (e : Nat) (x : Engine) : (s.setEngine e x).bcasts = s.bcasts := rfl
@[simp] theorem State.setEngine_walkRr (s : State) (e : Nat) (x : Engine) : (s.setEngine e x).walkRr = s.walkRr := rfl
@[simp] theorem State.setEngine_applying (s : State) (e : Nat) (x : Engine) : (s.setEngine e x).applying = s.applying := rfl
@[simp] theorem State.setEngine_events (s : State) (e : Nat) (x : Engine) : (s.setEngine e x).events = s.events := rfl
@[simp] theorem State.setEngine_pairs (s : State) (e : Nat) (x : Engine) : (s.setEngine e x).pairs = s.pairs := rfl
@[simp] theorem State.setEngine_safe (s : State) (e : Nat) (x : Engine) : (s.setEngine e x).safe = s.safe := rfl
@[simp] theorem State.setEngine_timeBase (s : State) (e : Nat) (x : Engine) : (s.setEngine e x).timeBase = s.timeBase := rfl
@[simp] theorem State.setEngine_scrub (s : State) (e : Nat) (x : Engine) : (s.setEngine e x).scrub = s.scrub := rfl
@[simp] theorem State.setEngine_sm (s : State) (e : Nat) (x : Engine) : (s.setEngine e x).sm = s.sm := rfl
@[simp] theorem State.setEngine_ceq (s : State) (e : Nat) (x : Engine) : (s.setEngine e x).ceq = s.ceq := rfl
@[simp] theorem State.setEngine_ports (s : State) (e : Nat) (x : Engine) : (s.setEngine e x).ports = s.ports := rfl
@[simp] theorem State.setEngine_sense (s : State) (e : Nat) (x : Engine) : (s.setEngine e x).sense = s.sense := rfl
@[simp] theorem State.setEngine_trunk (s : State) (e : Nat) (x : Engine) : (s.setEngine e x).trunk = s.trunk := rfl
@[simp] theorem State.setEngine_eth (s : State) (e : Nat) (x : Engine) : (s.setEngine e x).eth = s.eth := rfl
@[simp] theorem State.setEngine_fw (s : State) (e : Nat) (x : Engine) : (s.setEngine e x).fw = s.fw := rfl
@[simp] theorem State.setEngine_inst (s : State) (e : Nat) (x : Engine) : (s.setEngine e x).inst = s.inst := rfl
@[simp] theorem State.setEngine_otp (s : State) (e : Nat) (x : Engine) : (s.setEngine e x).otp = s.otp := rfl
@[simp] theorem State.setEngine_img (s : State) (e : Nat) (x : Engine) : (s.setEngine e x).img = s.img := rfl
@[simp] theorem State.setEngine_cretalReset (s : State) (e : Nat) (x : Engine) : (s.setEngine e x).cretalReset = s.cretalReset := rfl
@[simp] theorem State.setEngine_pw (s : State) (e : Nat) (x : Engine) : (s.setEngine e x).pw = s.pw := rfl
@[simp] theorem State.setEngine_trace (s : State) (e : Nat) (x : Engine) : (s.setEngine e x).trace = s.trace := rfl
@[simp] theorem State.setEngine_jtag (s : State) (e : Nat) (x : Engine) : (s.setEngine e x).jtag = s.jtag := rfl
@[simp] theorem State.setEngine_vsel (s : State) (e : Nat) (x : Engine) : (s.setEngine e x).vsel = s.vsel := rfl

@[simp] theorem State.updEngine_pending (s : State) (e : Nat) (f : Engine → Engine) : (s.updEngine e f).pending = s.pending := rfl
@[simp] theorem State.updEngine_freeCtr (s : State) (e : Nat) (f : Engine → Engine) : (s.updEngine e f).freeCtr = s.freeCtr := rfl
@[simp] theorem State.updEngine_regs (s : State) (e : Nat) (f : Engine → Engine) : (s.updEngine e f).regs = s.regs := rfl
@[simp] theorem State.updEngine_eff (s : State) (e : Nat) (f : Engine → Engine) : (s.updEngine e f).eff = s.eff := rfl
@[simp] theorem State.updEngine_shadow (s : State) (e : Nat) (f : Engine → Engine) : (s.updEngine e f).shadow = s.shadow := rfl
@[simp] theorem State.updEngine_wcache (s : State) (e : Nat) (f : Engine → Engine) : (s.updEngine e f).wcache = s.wcache := rfl
@[simp] theorem State.updEngine_mem (s : State) (e : Nat) (f : Engine → Engine) : (s.updEngine e f).mem = s.mem := rfl
@[simp] theorem State.updEngine_linA (s : State) (e : Nat) (f : Engine → Engine) : (s.updEngine e f).linA = s.linA := rfl
@[simp] theorem State.updEngine_linB (s : State) (e : Nat) (f : Engine → Engine) : (s.updEngine e f).linB = s.linB := rfl
@[simp] theorem State.updEngine_lin (s : State) (e : Nat) (f : Engine → Engine) : (s.updEngine e f).lin = s.lin := rfl
@[simp] theorem State.updEngine_bcasts (s : State) (e : Nat) (f : Engine → Engine) : (s.updEngine e f).bcasts = s.bcasts := rfl
@[simp] theorem State.updEngine_walkRr (s : State) (e : Nat) (f : Engine → Engine) : (s.updEngine e f).walkRr = s.walkRr := rfl
@[simp] theorem State.updEngine_applying (s : State) (e : Nat) (f : Engine → Engine) : (s.updEngine e f).applying = s.applying := rfl
@[simp] theorem State.updEngine_events (s : State) (e : Nat) (f : Engine → Engine) : (s.updEngine e f).events = s.events := rfl
@[simp] theorem State.updEngine_pairs (s : State) (e : Nat) (f : Engine → Engine) : (s.updEngine e f).pairs = s.pairs := rfl
@[simp] theorem State.updEngine_safe (s : State) (e : Nat) (f : Engine → Engine) : (s.updEngine e f).safe = s.safe := rfl
@[simp] theorem State.updEngine_timeBase (s : State) (e : Nat) (f : Engine → Engine) : (s.updEngine e f).timeBase = s.timeBase := rfl
@[simp] theorem State.updEngine_scrub (s : State) (e : Nat) (f : Engine → Engine) : (s.updEngine e f).scrub = s.scrub := rfl
@[simp] theorem State.updEngine_sm (s : State) (e : Nat) (f : Engine → Engine) : (s.updEngine e f).sm = s.sm := rfl
@[simp] theorem State.updEngine_ceq (s : State) (e : Nat) (f : Engine → Engine) : (s.updEngine e f).ceq = s.ceq := rfl
@[simp] theorem State.updEngine_ports (s : State) (e : Nat) (f : Engine → Engine) : (s.updEngine e f).ports = s.ports := rfl
@[simp] theorem State.updEngine_sense (s : State) (e : Nat) (f : Engine → Engine) : (s.updEngine e f).sense = s.sense := rfl
@[simp] theorem State.updEngine_trunk (s : State) (e : Nat) (f : Engine → Engine) : (s.updEngine e f).trunk = s.trunk := rfl
@[simp] theorem State.updEngine_eth (s : State) (e : Nat) (f : Engine → Engine) : (s.updEngine e f).eth = s.eth := rfl
@[simp] theorem State.updEngine_fw (s : State) (e : Nat) (f : Engine → Engine) : (s.updEngine e f).fw = s.fw := rfl
@[simp] theorem State.updEngine_inst (s : State) (e : Nat) (f : Engine → Engine) : (s.updEngine e f).inst = s.inst := rfl
@[simp] theorem State.updEngine_otp (s : State) (e : Nat) (f : Engine → Engine) : (s.updEngine e f).otp = s.otp := rfl
@[simp] theorem State.updEngine_img (s : State) (e : Nat) (f : Engine → Engine) : (s.updEngine e f).img = s.img := rfl
@[simp] theorem State.updEngine_cretalReset (s : State) (e : Nat) (f : Engine → Engine) : (s.updEngine e f).cretalReset = s.cretalReset := rfl
@[simp] theorem State.updEngine_pw (s : State) (e : Nat) (f : Engine → Engine) : (s.updEngine e f).pw = s.pw := rfl
@[simp] theorem State.updEngine_trace (s : State) (e : Nat) (f : Engine → Engine) : (s.updEngine e f).trace = s.trace := rfl
@[simp] theorem State.updEngine_jtag (s : State) (e : Nat) (f : Engine → Engine) : (s.updEngine e f).jtag = s.jtag := rfl
@[simp] theorem State.updEngine_vsel (s : State) (e : Nat) (f : Engine → Engine) : (s.updEngine e f).vsel = s.vsel := rfl

@[simp] theorem State.updPair_pending (s : State) (p : Nat) (f : Pair → Pair) : (s.updPair p f).pending = s.pending := rfl
@[simp] theorem State.updPair_freeCtr (s : State) (p : Nat) (f : Pair → Pair) : (s.updPair p f).freeCtr = s.freeCtr := rfl
@[simp] theorem State.updPair_regs (s : State) (p : Nat) (f : Pair → Pair) : (s.updPair p f).regs = s.regs := rfl
@[simp] theorem State.updPair_eff (s : State) (p : Nat) (f : Pair → Pair) : (s.updPair p f).eff = s.eff := rfl
@[simp] theorem State.updPair_shadow (s : State) (p : Nat) (f : Pair → Pair) : (s.updPair p f).shadow = s.shadow := rfl
@[simp] theorem State.updPair_eng (s : State) (p : Nat) (f : Pair → Pair) : (s.updPair p f).eng = s.eng := rfl
@[simp] theorem State.updPair_wcache (s : State) (p : Nat) (f : Pair → Pair) : (s.updPair p f).wcache = s.wcache := rfl
@[simp] theorem State.updPair_mem (s : State) (p : Nat) (f : Pair → Pair) : (s.updPair p f).mem = s.mem := rfl
@[simp] theorem State.updPair_linA (s : State) (p : Nat) (f : Pair → Pair) : (s.updPair p f).linA = s.linA := rfl
@[simp] theorem State.updPair_linB (s : State) (p : Nat) (f : Pair → Pair) : (s.updPair p f).linB = s.linB := rfl
@[simp] theorem State.updPair_lin (s : State) (p : Nat) (f : Pair → Pair) : (s.updPair p f).lin = s.lin := rfl
@[simp] theorem State.updPair_bcasts (s : State) (p : Nat) (f : Pair → Pair) : (s.updPair p f).bcasts = s.bcasts := rfl
@[simp] theorem State.updPair_walkRr (s : State) (p : Nat) (f : Pair → Pair) : (s.updPair p f).walkRr = s.walkRr := rfl
@[simp] theorem State.updPair_applying (s : State) (p : Nat) (f : Pair → Pair) : (s.updPair p f).applying = s.applying := rfl
@[simp] theorem State.updPair_events (s : State) (p : Nat) (f : Pair → Pair) : (s.updPair p f).events = s.events := rfl
@[simp] theorem State.updPair_safe (s : State) (p : Nat) (f : Pair → Pair) : (s.updPair p f).safe = s.safe := rfl
@[simp] theorem State.updPair_timeBase (s : State) (p : Nat) (f : Pair → Pair) : (s.updPair p f).timeBase = s.timeBase := rfl
@[simp] theorem State.updPair_scrub (s : State) (p : Nat) (f : Pair → Pair) : (s.updPair p f).scrub = s.scrub := rfl
@[simp] theorem State.updPair_sm (s : State) (p : Nat) (f : Pair → Pair) : (s.updPair p f).sm = s.sm := rfl
@[simp] theorem State.updPair_ceq (s : State) (p : Nat) (f : Pair → Pair) : (s.updPair p f).ceq = s.ceq := rfl
@[simp] theorem State.updPair_ports (s : State) (p : Nat) (f : Pair → Pair) : (s.updPair p f).ports = s.ports := rfl
@[simp] theorem State.updPair_sense (s : State) (p : Nat) (f : Pair → Pair) : (s.updPair p f).sense = s.sense := rfl
@[simp] theorem State.updPair_trunk (s : State) (p : Nat) (f : Pair → Pair) : (s.updPair p f).trunk = s.trunk := rfl
@[simp] theorem State.updPair_eth (s : State) (p : Nat) (f : Pair → Pair) : (s.updPair p f).eth = s.eth := rfl
@[simp] theorem State.updPair_fw (s : State) (p : Nat) (f : Pair → Pair) : (s.updPair p f).fw = s.fw := rfl
@[simp] theorem State.updPair_inst (s : State) (p : Nat) (f : Pair → Pair) : (s.updPair p f).inst = s.inst := rfl
@[simp] theorem State.updPair_otp (s : State) (p : Nat) (f : Pair → Pair) : (s.updPair p f).otp = s.otp := rfl
@[simp] theorem State.updPair_img (s : State) (p : Nat) (f : Pair → Pair) : (s.updPair p f).img = s.img := rfl
@[simp] theorem State.updPair_cretalReset (s : State) (p : Nat) (f : Pair → Pair) : (s.updPair p f).cretalReset = s.cretalReset := rfl
@[simp] theorem State.updPair_pw (s : State) (p : Nat) (f : Pair → Pair) : (s.updPair p f).pw = s.pw := rfl
@[simp] theorem State.updPair_trace (s : State) (p : Nat) (f : Pair → Pair) : (s.updPair p f).trace = s.trace := rfl
@[simp] theorem State.updPair_jtag (s : State) (p : Nat) (f : Pair → Pair) : (s.updPair p f).jtag = s.jtag := rfl
@[simp] theorem State.updPair_vsel (s : State) (p : Nat) (f : Pair → Pair) : (s.updPair p f).vsel = s.vsel := rfl

@[simp] theorem State.updPort_pending (s : State) (p : Nat) (f : Port → Port) : (s.updPort p f).pending = s.pending := rfl
@[simp] theorem State.updPort_freeCtr (s : State) (p : Nat) (f : Port → Port) : (s.updPort p f).freeCtr = s.freeCtr := rfl
@[simp] theorem State.updPort_regs (s : State) (p : Nat) (f : Port → Port) : (s.updPort p f).regs = s.regs := rfl
@[simp] theorem State.updPort_eff (s : State) (p : Nat) (f : Port → Port) : (s.updPort p f).eff = s.eff := rfl
@[simp] theorem State.updPort_shadow (s : State) (p : Nat) (f : Port → Port) : (s.updPort p f).shadow = s.shadow := rfl
@[simp] theorem State.updPort_eng (s : State) (p : Nat) (f : Port → Port) : (s.updPort p f).eng = s.eng := rfl
@[simp] theorem State.updPort_wcache (s : State) (p : Nat) (f : Port → Port) : (s.updPort p f).wcache = s.wcache := rfl
@[simp] theorem State.updPort_mem (s : State) (p : Nat) (f : Port → Port) : (s.updPort p f).mem = s.mem := rfl
@[simp] theorem State.updPort_linA (s : State) (p : Nat) (f : Port → Port) : (s.updPort p f).linA = s.linA := rfl
@[simp] theorem State.updPort_linB (s : State) (p : Nat) (f : Port → Port) : (s.updPort p f).linB = s.linB := rfl
@[simp] theorem State.updPort_lin (s : State) (p : Nat) (f : Port → Port) : (s.updPort p f).lin = s.lin := rfl
@[simp] theorem State.updPort_bcasts (s : State) (p : Nat) (f : Port → Port) : (s.updPort p f).bcasts = s.bcasts := rfl
@[simp] theorem State.updPort_walkRr (s : State) (p : Nat) (f : Port → Port) : (s.updPort p f).walkRr = s.walkRr := rfl
@[simp] theorem State.updPort_applying (s : State) (p : Nat) (f : Port → Port) : (s.updPort p f).applying = s.applying := rfl
@[simp] theorem State.updPort_events (s : State) (p : Nat) (f : Port → Port) : (s.updPort p f).events = s.events := rfl
@[simp] theorem State.updPort_pairs (s : State) (p : Nat) (f : Port → Port) : (s.updPort p f).pairs = s.pairs := rfl
@[simp] theorem State.updPort_safe (s : State) (p : Nat) (f : Port → Port) : (s.updPort p f).safe = s.safe := rfl
@[simp] theorem State.updPort_timeBase (s : State) (p : Nat) (f : Port → Port) : (s.updPort p f).timeBase = s.timeBase := rfl
@[simp] theorem State.updPort_scrub (s : State) (p : Nat) (f : Port → Port) : (s.updPort p f).scrub = s.scrub := rfl
@[simp] theorem State.updPort_sm (s : State) (p : Nat) (f : Port → Port) : (s.updPort p f).sm = s.sm := rfl
@[simp] theorem State.updPort_ceq (s : State) (p : Nat) (f : Port → Port) : (s.updPort p f).ceq = s.ceq := rfl
@[simp] theorem State.updPort_sense (s : State) (p : Nat) (f : Port → Port) : (s.updPort p f).sense = s.sense := rfl
@[simp] theorem State.updPort_trunk (s : State) (p : Nat) (f : Port → Port) : (s.updPort p f).trunk = s.trunk := rfl
@[simp] theorem State.updPort_eth (s : State) (p : Nat) (f : Port → Port) : (s.updPort p f).eth = s.eth := rfl
@[simp] theorem State.updPort_fw (s : State) (p : Nat) (f : Port → Port) : (s.updPort p f).fw = s.fw := rfl
@[simp] theorem State.updPort_inst (s : State) (p : Nat) (f : Port → Port) : (s.updPort p f).inst = s.inst := rfl
@[simp] theorem State.updPort_otp (s : State) (p : Nat) (f : Port → Port) : (s.updPort p f).otp = s.otp := rfl
@[simp] theorem State.updPort_img (s : State) (p : Nat) (f : Port → Port) : (s.updPort p f).img = s.img := rfl
@[simp] theorem State.updPort_cretalReset (s : State) (p : Nat) (f : Port → Port) : (s.updPort p f).cretalReset = s.cretalReset := rfl
@[simp] theorem State.updPort_pw (s : State) (p : Nat) (f : Port → Port) : (s.updPort p f).pw = s.pw := rfl
@[simp] theorem State.updPort_trace (s : State) (p : Nat) (f : Port → Port) : (s.updPort p f).trace = s.trace := rfl
@[simp] theorem State.updPort_jtag (s : State) (p : Nat) (f : Port → Port) : (s.updPort p f).jtag = s.jtag := rfl
@[simp] theorem State.updPort_vsel (s : State) (p : Nat) (f : Port → Port) : (s.updPort p f).vsel = s.vsel := rfl

@[simp] theorem State.updSafe_pending (s : State) (f : Safe → Safe) : (s.updSafe f).pending = s.pending := rfl
@[simp] theorem State.updSafe_freeCtr (s : State) (f : Safe → Safe) : (s.updSafe f).freeCtr = s.freeCtr := rfl
@[simp] theorem State.updSafe_regs (s : State) (f : Safe → Safe) : (s.updSafe f).regs = s.regs := rfl
@[simp] theorem State.updSafe_eff (s : State) (f : Safe → Safe) : (s.updSafe f).eff = s.eff := rfl
@[simp] theorem State.updSafe_shadow (s : State) (f : Safe → Safe) : (s.updSafe f).shadow = s.shadow := rfl
@[simp] theorem State.updSafe_eng (s : State) (f : Safe → Safe) : (s.updSafe f).eng = s.eng := rfl
@[simp] theorem State.updSafe_wcache (s : State) (f : Safe → Safe) : (s.updSafe f).wcache = s.wcache := rfl
@[simp] theorem State.updSafe_mem (s : State) (f : Safe → Safe) : (s.updSafe f).mem = s.mem := rfl
@[simp] theorem State.updSafe_linA (s : State) (f : Safe → Safe) : (s.updSafe f).linA = s.linA := rfl
@[simp] theorem State.updSafe_linB (s : State) (f : Safe → Safe) : (s.updSafe f).linB = s.linB := rfl
@[simp] theorem State.updSafe_lin (s : State) (f : Safe → Safe) : (s.updSafe f).lin = s.lin := rfl
@[simp] theorem State.updSafe_bcasts (s : State) (f : Safe → Safe) : (s.updSafe f).bcasts = s.bcasts := rfl
@[simp] theorem State.updSafe_walkRr (s : State) (f : Safe → Safe) : (s.updSafe f).walkRr = s.walkRr := rfl
@[simp] theorem State.updSafe_applying (s : State) (f : Safe → Safe) : (s.updSafe f).applying = s.applying := rfl
@[simp] theorem State.updSafe_events (s : State) (f : Safe → Safe) : (s.updSafe f).events = s.events := rfl
@[simp] theorem State.updSafe_pairs (s : State) (f : Safe → Safe) : (s.updSafe f).pairs = s.pairs := rfl
@[simp] theorem State.updSafe_timeBase (s : State) (f : Safe → Safe) : (s.updSafe f).timeBase = s.timeBase := rfl
@[simp] theorem State.updSafe_scrub (s : State) (f : Safe → Safe) : (s.updSafe f).scrub = s.scrub := rfl
@[simp] theorem State.updSafe_sm (s : State) (f : Safe → Safe) : (s.updSafe f).sm = s.sm := rfl
@[simp] theorem State.updSafe_ceq (s : State) (f : Safe → Safe) : (s.updSafe f).ceq = s.ceq := rfl
@[simp] theorem State.updSafe_ports (s : State) (f : Safe → Safe) : (s.updSafe f).ports = s.ports := rfl
@[simp] theorem State.updSafe_sense (s : State) (f : Safe → Safe) : (s.updSafe f).sense = s.sense := rfl
@[simp] theorem State.updSafe_trunk (s : State) (f : Safe → Safe) : (s.updSafe f).trunk = s.trunk := rfl
@[simp] theorem State.updSafe_eth (s : State) (f : Safe → Safe) : (s.updSafe f).eth = s.eth := rfl
@[simp] theorem State.updSafe_fw (s : State) (f : Safe → Safe) : (s.updSafe f).fw = s.fw := rfl
@[simp] theorem State.updSafe_inst (s : State) (f : Safe → Safe) : (s.updSafe f).inst = s.inst := rfl
@[simp] theorem State.updSafe_otp (s : State) (f : Safe → Safe) : (s.updSafe f).otp = s.otp := rfl
@[simp] theorem State.updSafe_img (s : State) (f : Safe → Safe) : (s.updSafe f).img = s.img := rfl
@[simp] theorem State.updSafe_cretalReset (s : State) (f : Safe → Safe) : (s.updSafe f).cretalReset = s.cretalReset := rfl
@[simp] theorem State.updSafe_pw (s : State) (f : Safe → Safe) : (s.updSafe f).pw = s.pw := rfl
@[simp] theorem State.updSafe_trace (s : State) (f : Safe → Safe) : (s.updSafe f).trace = s.trace := rfl
@[simp] theorem State.updSafe_jtag (s : State) (f : Safe → Safe) : (s.updSafe f).jtag = s.jtag := rfl
@[simp] theorem State.updSafe_vsel (s : State) (f : Safe → Safe) : (s.updSafe f).vsel = s.vsel := rfl

@[simp] theorem State.updFw_pending (s : State) (f : Fw → Fw) : (s.updFw f).pending = s.pending := rfl
@[simp] theorem State.updFw_freeCtr (s : State) (f : Fw → Fw) : (s.updFw f).freeCtr = s.freeCtr := rfl
@[simp] theorem State.updFw_regs (s : State) (f : Fw → Fw) : (s.updFw f).regs = s.regs := rfl
@[simp] theorem State.updFw_eff (s : State) (f : Fw → Fw) : (s.updFw f).eff = s.eff := rfl
@[simp] theorem State.updFw_shadow (s : State) (f : Fw → Fw) : (s.updFw f).shadow = s.shadow := rfl
@[simp] theorem State.updFw_eng (s : State) (f : Fw → Fw) : (s.updFw f).eng = s.eng := rfl
@[simp] theorem State.updFw_wcache (s : State) (f : Fw → Fw) : (s.updFw f).wcache = s.wcache := rfl
@[simp] theorem State.updFw_mem (s : State) (f : Fw → Fw) : (s.updFw f).mem = s.mem := rfl
@[simp] theorem State.updFw_linA (s : State) (f : Fw → Fw) : (s.updFw f).linA = s.linA := rfl
@[simp] theorem State.updFw_linB (s : State) (f : Fw → Fw) : (s.updFw f).linB = s.linB := rfl
@[simp] theorem State.updFw_lin (s : State) (f : Fw → Fw) : (s.updFw f).lin = s.lin := rfl
@[simp] theorem State.updFw_bcasts (s : State) (f : Fw → Fw) : (s.updFw f).bcasts = s.bcasts := rfl
@[simp] theorem State.updFw_walkRr (s : State) (f : Fw → Fw) : (s.updFw f).walkRr = s.walkRr := rfl
@[simp] theorem State.updFw_applying (s : State) (f : Fw → Fw) : (s.updFw f).applying = s.applying := rfl
@[simp] theorem State.updFw_events (s : State) (f : Fw → Fw) : (s.updFw f).events = s.events := rfl
@[simp] theorem State.updFw_pairs (s : State) (f : Fw → Fw) : (s.updFw f).pairs = s.pairs := rfl
@[simp] theorem State.updFw_safe (s : State) (f : Fw → Fw) : (s.updFw f).safe = s.safe := rfl
@[simp] theorem State.updFw_timeBase (s : State) (f : Fw → Fw) : (s.updFw f).timeBase = s.timeBase := rfl
@[simp] theorem State.updFw_scrub (s : State) (f : Fw → Fw) : (s.updFw f).scrub = s.scrub := rfl
@[simp] theorem State.updFw_sm (s : State) (f : Fw → Fw) : (s.updFw f).sm = s.sm := rfl
@[simp] theorem State.updFw_ceq (s : State) (f : Fw → Fw) : (s.updFw f).ceq = s.ceq := rfl
@[simp] theorem State.updFw_ports (s : State) (f : Fw → Fw) : (s.updFw f).ports = s.ports := rfl
@[simp] theorem State.updFw_sense (s : State) (f : Fw → Fw) : (s.updFw f).sense = s.sense := rfl
@[simp] theorem State.updFw_trunk (s : State) (f : Fw → Fw) : (s.updFw f).trunk = s.trunk := rfl
@[simp] theorem State.updFw_eth (s : State) (f : Fw → Fw) : (s.updFw f).eth = s.eth := rfl
@[simp] theorem State.updFw_inst (s : State) (f : Fw → Fw) : (s.updFw f).inst = s.inst := rfl
@[simp] theorem State.updFw_otp (s : State) (f : Fw → Fw) : (s.updFw f).otp = s.otp := rfl
@[simp] theorem State.updFw_img (s : State) (f : Fw → Fw) : (s.updFw f).img = s.img := rfl
@[simp] theorem State.updFw_cretalReset (s : State) (f : Fw → Fw) : (s.updFw f).cretalReset = s.cretalReset := rfl
@[simp] theorem State.updFw_pw (s : State) (f : Fw → Fw) : (s.updFw f).pw = s.pw := rfl
@[simp] theorem State.updFw_trace (s : State) (f : Fw → Fw) : (s.updFw f).trace = s.trace := rfl
@[simp] theorem State.updFw_jtag (s : State) (f : Fw → Fw) : (s.updFw f).jtag = s.jtag := rfl
@[simp] theorem State.updFw_vsel (s : State) (f : Fw → Fw) : (s.updFw f).vsel = s.vsel := rfl

@[simp] theorem State.updPw_pending (s : State) (f : Power → Power) : (s.updPw f).pending = s.pending := rfl
@[simp] theorem State.updPw_freeCtr (s : State) (f : Power → Power) : (s.updPw f).freeCtr = s.freeCtr := rfl
@[simp] theorem State.updPw_regs (s : State) (f : Power → Power) : (s.updPw f).regs = s.regs := rfl
@[simp] theorem State.updPw_eff (s : State) (f : Power → Power) : (s.updPw f).eff = s.eff := rfl
@[simp] theorem State.updPw_shadow (s : State) (f : Power → Power) : (s.updPw f).shadow = s.shadow := rfl
@[simp] theorem State.updPw_eng (s : State) (f : Power → Power) : (s.updPw f).eng = s.eng := rfl
@[simp] theorem State.updPw_wcache (s : State) (f : Power → Power) : (s.updPw f).wcache = s.wcache := rfl
@[simp] theorem State.updPw_mem (s : State) (f : Power → Power) : (s.updPw f).mem = s.mem := rfl
@[simp] theorem State.updPw_linA (s : State) (f : Power → Power) : (s.updPw f).linA = s.linA := rfl
@[simp] theorem State.updPw_linB (s : State) (f : Power → Power) : (s.updPw f).linB = s.linB := rfl
@[simp] theorem State.updPw_lin (s : State) (f : Power → Power) : (s.updPw f).lin = s.lin := rfl
@[simp] theorem State.updPw_bcasts (s : State) (f : Power → Power) : (s.updPw f).bcasts = s.bcasts := rfl
@[simp] theorem State.updPw_walkRr (s : State) (f : Power → Power) : (s.updPw f).walkRr = s.walkRr := rfl
@[simp] theorem State.updPw_applying (s : State) (f : Power → Power) : (s.updPw f).applying = s.applying := rfl
@[simp] theorem State.updPw_events (s : State) (f : Power → Power) : (s.updPw f).events = s.events := rfl
@[simp] theorem State.updPw_pairs (s : State) (f : Power → Power) : (s.updPw f).pairs = s.pairs := rfl
@[simp] theorem State.updPw_safe (s : State) (f : Power → Power) : (s.updPw f).safe = s.safe := rfl
@[simp] theorem State.updPw_timeBase (s : State) (f : Power → Power) : (s.updPw f).timeBase = s.timeBase := rfl
@[simp] theorem State.updPw_scrub (s : State) (f : Power → Power) : (s.updPw f).scrub = s.scrub := rfl
@[simp] theorem State.updPw_sm (s : State) (f : Power → Power) : (s.updPw f).sm = s.sm := rfl
@[simp] theorem State.updPw_ceq (s : State) (f : Power → Power) : (s.updPw f).ceq = s.ceq := rfl
@[simp] theorem State.updPw_ports (s : State) (f : Power → Power) : (s.updPw f).ports = s.ports := rfl
@[simp] theorem State.updPw_sense (s : State) (f : Power → Power) : (s.updPw f).sense = s.sense := rfl
@[simp] theorem State.updPw_trunk (s : State) (f : Power → Power) : (s.updPw f).trunk = s.trunk := rfl
@[simp] theorem State.updPw_eth (s : State) (f : Power → Power) : (s.updPw f).eth = s.eth := rfl
@[simp] theorem State.updPw_fw (s : State) (f : Power → Power) : (s.updPw f).fw = s.fw := rfl
@[simp] theorem State.updPw_inst (s : State) (f : Power → Power) : (s.updPw f).inst = s.inst := rfl
@[simp] theorem State.updPw_otp (s : State) (f : Power → Power) : (s.updPw f).otp = s.otp := rfl
@[simp] theorem State.updPw_img (s : State) (f : Power → Power) : (s.updPw f).img = s.img := rfl
@[simp] theorem State.updPw_cretalReset (s : State) (f : Power → Power) : (s.updPw f).cretalReset = s.cretalReset := rfl
@[simp] theorem State.updPw_trace (s : State) (f : Power → Power) : (s.updPw f).trace = s.trace := rfl
@[simp] theorem State.updPw_jtag (s : State) (f : Power → Power) : (s.updPw f).jtag = s.jtag := rfl
@[simp] theorem State.updPw_vsel (s : State) (f : Power → Power) : (s.updPw f).vsel = s.vsel := rfl

@[simp] theorem State.setReg_pending (s : State) (b o : Nat) (w : Word) : (s.setReg b o w).pending = s.pending := rfl
@[simp] theorem State.setReg_freeCtr (s : State) (b o : Nat) (w : Word) : (s.setReg b o w).freeCtr = s.freeCtr := rfl
@[simp] theorem State.setReg_eff (s : State) (b o : Nat) (w : Word) : (s.setReg b o w).eff = s.eff := rfl
@[simp] theorem State.setReg_shadow (s : State) (b o : Nat) (w : Word) : (s.setReg b o w).shadow = s.shadow := rfl
@[simp] theorem State.setReg_eng (s : State) (b o : Nat) (w : Word) : (s.setReg b o w).eng = s.eng := rfl
@[simp] theorem State.setReg_wcache (s : State) (b o : Nat) (w : Word) : (s.setReg b o w).wcache = s.wcache := rfl
@[simp] theorem State.setReg_mem (s : State) (b o : Nat) (w : Word) : (s.setReg b o w).mem = s.mem := rfl
@[simp] theorem State.setReg_linA (s : State) (b o : Nat) (w : Word) : (s.setReg b o w).linA = s.linA := rfl
@[simp] theorem State.setReg_linB (s : State) (b o : Nat) (w : Word) : (s.setReg b o w).linB = s.linB := rfl
@[simp] theorem State.setReg_lin (s : State) (b o : Nat) (w : Word) : (s.setReg b o w).lin = s.lin := rfl
@[simp] theorem State.setReg_bcasts (s : State) (b o : Nat) (w : Word) : (s.setReg b o w).bcasts = s.bcasts := rfl
@[simp] theorem State.setReg_walkRr (s : State) (b o : Nat) (w : Word) : (s.setReg b o w).walkRr = s.walkRr := rfl
@[simp] theorem State.setReg_applying (s : State) (b o : Nat) (w : Word) : (s.setReg b o w).applying = s.applying := rfl
@[simp] theorem State.setReg_events (s : State) (b o : Nat) (w : Word) : (s.setReg b o w).events = s.events := rfl
@[simp] theorem State.setReg_pairs (s : State) (b o : Nat) (w : Word) : (s.setReg b o w).pairs = s.pairs := rfl
@[simp] theorem State.setReg_safe (s : State) (b o : Nat) (w : Word) : (s.setReg b o w).safe = s.safe := rfl
@[simp] theorem State.setReg_timeBase (s : State) (b o : Nat) (w : Word) : (s.setReg b o w).timeBase = s.timeBase := rfl
@[simp] theorem State.setReg_scrub (s : State) (b o : Nat) (w : Word) : (s.setReg b o w).scrub = s.scrub := rfl
@[simp] theorem State.setReg_sm (s : State) (b o : Nat) (w : Word) : (s.setReg b o w).sm = s.sm := rfl
@[simp] theorem State.setReg_ceq (s : State) (b o : Nat) (w : Word) : (s.setReg b o w).ceq = s.ceq := rfl
@[simp] theorem State.setReg_ports (s : State) (b o : Nat) (w : Word) : (s.setReg b o w).ports = s.ports := rfl
@[simp] theorem State.setReg_sense (s : State) (b o : Nat) (w : Word) : (s.setReg b o w).sense = s.sense := rfl
@[simp] theorem State.setReg_trunk (s : State) (b o : Nat) (w : Word) : (s.setReg b o w).trunk = s.trunk := rfl
@[simp] theorem State.setReg_eth (s : State) (b o : Nat) (w : Word) : (s.setReg b o w).eth = s.eth := rfl
@[simp] theorem State.setReg_fw (s : State) (b o : Nat) (w : Word) : (s.setReg b o w).fw = s.fw := rfl
@[simp] theorem State.setReg_inst (s : State) (b o : Nat) (w : Word) : (s.setReg b o w).inst = s.inst := rfl
@[simp] theorem State.setReg_otp (s : State) (b o : Nat) (w : Word) : (s.setReg b o w).otp = s.otp := rfl
@[simp] theorem State.setReg_img (s : State) (b o : Nat) (w : Word) : (s.setReg b o w).img = s.img := rfl
@[simp] theorem State.setReg_cretalReset (s : State) (b o : Nat) (w : Word) : (s.setReg b o w).cretalReset = s.cretalReset := rfl
@[simp] theorem State.setReg_pw (s : State) (b o : Nat) (w : Word) : (s.setReg b o w).pw = s.pw := rfl
@[simp] theorem State.setReg_trace (s : State) (b o : Nat) (w : Word) : (s.setReg b o w).trace = s.trace := rfl
@[simp] theorem State.setReg_jtag (s : State) (b o : Nat) (w : Word) : (s.setReg b o w).jtag = s.jtag := rfl
@[simp] theorem State.setReg_vsel (s : State) (b o : Nat) (w : Word) : (s.setReg b o w).vsel = s.vsel := rfl

@[simp] theorem State.setFld_pending (s : State) (b o hi lo v : Nat) : (s.setFld b o hi lo v).pending = s.pending := rfl
@[simp] theorem State.setFld_freeCtr (s : State) (b o hi lo v : Nat) : (s.setFld b o hi lo v).freeCtr = s.freeCtr := rfl
@[simp] theorem State.setFld_eff (s : State) (b o hi lo v : Nat) : (s.setFld b o hi lo v).eff = s.eff := rfl
@[simp] theorem State.setFld_shadow (s : State) (b o hi lo v : Nat) : (s.setFld b o hi lo v).shadow = s.shadow := rfl
@[simp] theorem State.setFld_eng (s : State) (b o hi lo v : Nat) : (s.setFld b o hi lo v).eng = s.eng := rfl
@[simp] theorem State.setFld_wcache (s : State) (b o hi lo v : Nat) : (s.setFld b o hi lo v).wcache = s.wcache := rfl
@[simp] theorem State.setFld_mem (s : State) (b o hi lo v : Nat) : (s.setFld b o hi lo v).mem = s.mem := rfl
@[simp] theorem State.setFld_linA (s : State) (b o hi lo v : Nat) : (s.setFld b o hi lo v).linA = s.linA := rfl
@[simp] theorem State.setFld_linB (s : State) (b o hi lo v : Nat) : (s.setFld b o hi lo v).linB = s.linB := rfl
@[simp] theorem State.setFld_lin (s : State) (b o hi lo v : Nat) : (s.setFld b o hi lo v).lin = s.lin := rfl
@[simp] theorem State.setFld_bcasts (s : State) (b o hi lo v : Nat) : (s.setFld b o hi lo v).bcasts = s.bcasts := rfl
@[simp] theorem State.setFld_walkRr (s : State) (b o hi lo v : Nat) : (s.setFld b o hi lo v).walkRr = s.walkRr := rfl
@[simp] theorem State.setFld_applying (s : State) (b o hi lo v : Nat) : (s.setFld b o hi lo v).applying = s.applying := rfl
@[simp] theorem State.setFld_events (s : State) (b o hi lo v : Nat) : (s.setFld b o hi lo v).events = s.events := rfl
@[simp] theorem State.setFld_pairs (s : State) (b o hi lo v : Nat) : (s.setFld b o hi lo v).pairs = s.pairs := rfl
@[simp] theorem State.setFld_safe (s : State) (b o hi lo v : Nat) : (s.setFld b o hi lo v).safe = s.safe := rfl
@[simp] theorem State.setFld_timeBase (s : State) (b o hi lo v : Nat) : (s.setFld b o hi lo v).timeBase = s.timeBase := rfl
@[simp] theorem State.setFld_scrub (s : State) (b o hi lo v : Nat) : (s.setFld b o hi lo v).scrub = s.scrub := rfl
@[simp] theorem State.setFld_sm (s : State) (b o hi lo v : Nat) : (s.setFld b o hi lo v).sm = s.sm := rfl
@[simp] theorem State.setFld_ceq (s : State) (b o hi lo v : Nat) : (s.setFld b o hi lo v).ceq = s.ceq := rfl
@[simp] theorem State.setFld_ports (s : State) (b o hi lo v : Nat) : (s.setFld b o hi lo v).ports = s.ports := rfl
@[simp] theorem State.setFld_sense (s : State) (b o hi lo v : Nat) : (s.setFld b o hi lo v).sense = s.sense := rfl
@[simp] theorem State.setFld_trunk (s : State) (b o hi lo v : Nat) : (s.setFld b o hi lo v).trunk = s.trunk := rfl
@[simp] theorem State.setFld_eth (s : State) (b o hi lo v : Nat) : (s.setFld b o hi lo v).eth = s.eth := rfl
@[simp] theorem State.setFld_fw (s : State) (b o hi lo v : Nat) : (s.setFld b o hi lo v).fw = s.fw := rfl
@[simp] theorem State.setFld_inst (s : State) (b o hi lo v : Nat) : (s.setFld b o hi lo v).inst = s.inst := rfl
@[simp] theorem State.setFld_otp (s : State) (b o hi lo v : Nat) : (s.setFld b o hi lo v).otp = s.otp := rfl
@[simp] theorem State.setFld_img (s : State) (b o hi lo v : Nat) : (s.setFld b o hi lo v).img = s.img := rfl
@[simp] theorem State.setFld_cretalReset (s : State) (b o hi lo v : Nat) : (s.setFld b o hi lo v).cretalReset = s.cretalReset := rfl
@[simp] theorem State.setFld_pw (s : State) (b o hi lo v : Nat) : (s.setFld b o hi lo v).pw = s.pw := rfl
@[simp] theorem State.setFld_trace (s : State) (b o hi lo v : Nat) : (s.setFld b o hi lo v).trace = s.trace := rfl
@[simp] theorem State.setFld_jtag (s : State) (b o hi lo v : Nat) : (s.setFld b o hi lo v).jtag = s.jtag := rfl
@[simp] theorem State.setFld_vsel (s : State) (b o hi lo v : Nat) : (s.setFld b o hi lo v).vsel = s.vsel := rfl

@[simp] theorem State.boundary_pending (s : State) (b o : Nat) : (s.boundary b o).pending = s.pending := rfl
@[simp] theorem State.boundary_freeCtr (s : State) (b o : Nat) : (s.boundary b o).freeCtr = s.freeCtr := rfl
@[simp] theorem State.boundary_regs (s : State) (b o : Nat) : (s.boundary b o).regs = s.regs := rfl
@[simp] theorem State.boundary_shadow (s : State) (b o : Nat) : (s.boundary b o).shadow = s.shadow := rfl
@[simp] theorem State.boundary_eng (s : State) (b o : Nat) : (s.boundary b o).eng = s.eng := rfl
@[simp] theorem State.boundary_wcache (s : State) (b o : Nat) : (s.boundary b o).wcache = s.wcache := rfl
@[simp] theorem State.boundary_mem (s : State) (b o : Nat) : (s.boundary b o).mem = s.mem := rfl
@[simp] theorem State.boundary_linA (s : State) (b o : Nat) : (s.boundary b o).linA = s.linA := rfl
@[simp] theorem State.boundary_linB (s : State) (b o : Nat) : (s.boundary b o).linB = s.linB := rfl
@[simp] theorem State.boundary_lin (s : State) (b o : Nat) : (s.boundary b o).lin = s.lin := rfl
@[simp] theorem State.boundary_bcasts (s : State) (b o : Nat) : (s.boundary b o).bcasts = s.bcasts := rfl
@[simp] theorem State.boundary_walkRr (s : State) (b o : Nat) : (s.boundary b o).walkRr = s.walkRr := rfl
@[simp] theorem State.boundary_applying (s : State) (b o : Nat) : (s.boundary b o).applying = s.applying := rfl
@[simp] theorem State.boundary_events (s : State) (b o : Nat) : (s.boundary b o).events = s.events := rfl
@[simp] theorem State.boundary_pairs (s : State) (b o : Nat) : (s.boundary b o).pairs = s.pairs := rfl
@[simp] theorem State.boundary_safe (s : State) (b o : Nat) : (s.boundary b o).safe = s.safe := rfl
@[simp] theorem State.boundary_timeBase (s : State) (b o : Nat) : (s.boundary b o).timeBase = s.timeBase := rfl
@[simp] theorem State.boundary_scrub (s : State) (b o : Nat) : (s.boundary b o).scrub = s.scrub := rfl
@[simp] theorem State.boundary_sm (s : State) (b o : Nat) : (s.boundary b o).sm = s.sm := rfl
@[simp] theorem State.boundary_ceq (s : State) (b o : Nat) : (s.boundary b o).ceq = s.ceq := rfl
@[simp] theorem State.boundary_ports (s : State) (b o : Nat) : (s.boundary b o).ports = s.ports := rfl
@[simp] theorem State.boundary_sense (s : State) (b o : Nat) : (s.boundary b o).sense = s.sense := rfl
@[simp] theorem State.boundary_trunk (s : State) (b o : Nat) : (s.boundary b o).trunk = s.trunk := rfl
@[simp] theorem State.boundary_eth (s : State) (b o : Nat) : (s.boundary b o).eth = s.eth := rfl
@[simp] theorem State.boundary_fw (s : State) (b o : Nat) : (s.boundary b o).fw = s.fw := rfl
@[simp] theorem State.boundary_inst (s : State) (b o : Nat) : (s.boundary b o).inst = s.inst := rfl
@[simp] theorem State.boundary_otp (s : State) (b o : Nat) : (s.boundary b o).otp = s.otp := rfl
@[simp] theorem State.boundary_img (s : State) (b o : Nat) : (s.boundary b o).img = s.img := rfl
@[simp] theorem State.boundary_cretalReset (s : State) (b o : Nat) : (s.boundary b o).cretalReset = s.cretalReset := rfl
@[simp] theorem State.boundary_pw (s : State) (b o : Nat) : (s.boundary b o).pw = s.pw := rfl
@[simp] theorem State.boundary_trace (s : State) (b o : Nat) : (s.boundary b o).trace = s.trace := rfl
@[simp] theorem State.boundary_jtag (s : State) (b o : Nat) : (s.boundary b o).jtag = s.jtag := rfl
@[simp] theorem State.boundary_vsel (s : State) (b o : Nat) : (s.boundary b o).vsel = s.vsel := rfl

@[simp] theorem State.raise_pending (s : State) (id : Nat) : (s.raise id).pending = s.pending := rfl
@[simp] theorem State.raise_freeCtr (s : State) (id : Nat) : (s.raise id).freeCtr = s.freeCtr := rfl
@[simp] theorem State.raise_regs (s : State) (id : Nat) : (s.raise id).regs = s.regs := rfl
@[simp] theorem State.raise_eff (s : State) (id : Nat) : (s.raise id).eff = s.eff := rfl
@[simp] theorem State.raise_shadow (s : State) (id : Nat) : (s.raise id).shadow = s.shadow := rfl
@[simp] theorem State.raise_eng (s : State) (id : Nat) : (s.raise id).eng = s.eng := rfl
@[simp] theorem State.raise_wcache (s : State) (id : Nat) : (s.raise id).wcache = s.wcache := rfl
@[simp] theorem State.raise_mem (s : State) (id : Nat) : (s.raise id).mem = s.mem := rfl
@[simp] theorem State.raise_linA (s : State) (id : Nat) : (s.raise id).linA = s.linA := rfl
@[simp] theorem State.raise_linB (s : State) (id : Nat) : (s.raise id).linB = s.linB := rfl
@[simp] theorem State.raise_lin (s : State) (id : Nat) : (s.raise id).lin = s.lin := rfl
@[simp] theorem State.raise_bcasts (s : State) (id : Nat) : (s.raise id).bcasts = s.bcasts := rfl
@[simp] theorem State.raise_walkRr (s : State) (id : Nat) : (s.raise id).walkRr = s.walkRr := rfl
@[simp] theorem State.raise_applying (s : State) (id : Nat) : (s.raise id).applying = s.applying := rfl
@[simp] theorem State.raise_pairs (s : State) (id : Nat) : (s.raise id).pairs = s.pairs := rfl
@[simp] theorem State.raise_safe (s : State) (id : Nat) : (s.raise id).safe = s.safe := rfl
@[simp] theorem State.raise_timeBase (s : State) (id : Nat) : (s.raise id).timeBase = s.timeBase := rfl
@[simp] theorem State.raise_scrub (s : State) (id : Nat) : (s.raise id).scrub = s.scrub := rfl
@[simp] theorem State.raise_sm (s : State) (id : Nat) : (s.raise id).sm = s.sm := rfl
@[simp] theorem State.raise_ceq (s : State) (id : Nat) : (s.raise id).ceq = s.ceq := rfl
@[simp] theorem State.raise_ports (s : State) (id : Nat) : (s.raise id).ports = s.ports := rfl
@[simp] theorem State.raise_sense (s : State) (id : Nat) : (s.raise id).sense = s.sense := rfl
@[simp] theorem State.raise_trunk (s : State) (id : Nat) : (s.raise id).trunk = s.trunk := rfl
@[simp] theorem State.raise_eth (s : State) (id : Nat) : (s.raise id).eth = s.eth := rfl
@[simp] theorem State.raise_fw (s : State) (id : Nat) : (s.raise id).fw = s.fw := rfl
@[simp] theorem State.raise_inst (s : State) (id : Nat) : (s.raise id).inst = s.inst := rfl
@[simp] theorem State.raise_otp (s : State) (id : Nat) : (s.raise id).otp = s.otp := rfl
@[simp] theorem State.raise_img (s : State) (id : Nat) : (s.raise id).img = s.img := rfl
@[simp] theorem State.raise_cretalReset (s : State) (id : Nat) : (s.raise id).cretalReset = s.cretalReset := rfl
@[simp] theorem State.raise_pw (s : State) (id : Nat) : (s.raise id).pw = s.pw := rfl
@[simp] theorem State.raise_trace (s : State) (id : Nat) : (s.raise id).trace = s.trace := rfl
@[simp] theorem State.raise_jtag (s : State) (id : Nat) : (s.raise id).jtag = s.jtag := rfl
@[simp] theorem State.raise_vsel (s : State) (id : Nat) : (s.raise id).vsel = s.vsel := rfl

@[simp] theorem State.updChuck_pending (s : State) (e : Nat) (f : Chuck → Chuck) : (s.updChuck e f).pending = s.pending := rfl
@[simp] theorem State.updChuck_freeCtr (s : State) (e : Nat) (f : Chuck → Chuck) : (s.updChuck e f).freeCtr = s.freeCtr := rfl
@[simp] theorem State.updChuck_regs (s : State) (e : Nat) (f : Chuck → Chuck) : (s.updChuck e f).regs = s.regs := rfl
@[simp] theorem State.updChuck_eff (s : State) (e : Nat) (f : Chuck → Chuck) : (s.updChuck e f).eff = s.eff := rfl
@[simp] theorem State.updChuck_shadow (s : State) (e : Nat) (f : Chuck → Chuck) : (s.updChuck e f).shadow = s.shadow := rfl
@[simp] theorem State.updChuck_wcache (s : State) (e : Nat) (f : Chuck → Chuck) : (s.updChuck e f).wcache = s.wcache := rfl
@[simp] theorem State.updChuck_mem (s : State) (e : Nat) (f : Chuck → Chuck) : (s.updChuck e f).mem = s.mem := rfl
@[simp] theorem State.updChuck_linA (s : State) (e : Nat) (f : Chuck → Chuck) : (s.updChuck e f).linA = s.linA := rfl
@[simp] theorem State.updChuck_linB (s : State) (e : Nat) (f : Chuck → Chuck) : (s.updChuck e f).linB = s.linB := rfl
@[simp] theorem State.updChuck_lin (s : State) (e : Nat) (f : Chuck → Chuck) : (s.updChuck e f).lin = s.lin := rfl
@[simp] theorem State.updChuck_bcasts (s : State) (e : Nat) (f : Chuck → Chuck) : (s.updChuck e f).bcasts = s.bcasts := rfl
@[simp] theorem State.updChuck_walkRr (s : State) (e : Nat) (f : Chuck → Chuck) : (s.updChuck e f).walkRr = s.walkRr := rfl
@[simp] theorem State.updChuck_applying (s : State) (e : Nat) (f : Chuck → Chuck) : (s.updChuck e f).applying = s.applying := rfl
@[simp] theorem State.updChuck_events (s : State) (e : Nat) (f : Chuck → Chuck) : (s.updChuck e f).events = s.events := rfl
@[simp] theorem State.updChuck_pairs (s : State) (e : Nat) (f : Chuck → Chuck) : (s.updChuck e f).pairs = s.pairs := rfl
@[simp] theorem State.updChuck_safe (s : State) (e : Nat) (f : Chuck → Chuck) : (s.updChuck e f).safe = s.safe := rfl
@[simp] theorem State.updChuck_timeBase (s : State) (e : Nat) (f : Chuck → Chuck) : (s.updChuck e f).timeBase = s.timeBase := rfl
@[simp] theorem State.updChuck_scrub (s : State) (e : Nat) (f : Chuck → Chuck) : (s.updChuck e f).scrub = s.scrub := rfl
@[simp] theorem State.updChuck_sm (s : State) (e : Nat) (f : Chuck → Chuck) : (s.updChuck e f).sm = s.sm := rfl
@[simp] theorem State.updChuck_ceq (s : State) (e : Nat) (f : Chuck → Chuck) : (s.updChuck e f).ceq = s.ceq := rfl
@[simp] theorem State.updChuck_ports (s : State) (e : Nat) (f : Chuck → Chuck) : (s.updChuck e f).ports = s.ports := rfl
@[simp] theorem State.updChuck_sense (s : State) (e : Nat) (f : Chuck → Chuck) : (s.updChuck e f).sense = s.sense := rfl
@[simp] theorem State.updChuck_trunk (s : State) (e : Nat) (f : Chuck → Chuck) : (s.updChuck e f).trunk = s.trunk := rfl
@[simp] theorem State.updChuck_eth (s : State) (e : Nat) (f : Chuck → Chuck) : (s.updChuck e f).eth = s.eth := rfl
@[simp] theorem State.updChuck_fw (s : State) (e : Nat) (f : Chuck → Chuck) : (s.updChuck e f).fw = s.fw := rfl
@[simp] theorem State.updChuck_inst (s : State) (e : Nat) (f : Chuck → Chuck) : (s.updChuck e f).inst = s.inst := rfl
@[simp] theorem State.updChuck_otp (s : State) (e : Nat) (f : Chuck → Chuck) : (s.updChuck e f).otp = s.otp := rfl
@[simp] theorem State.updChuck_img (s : State) (e : Nat) (f : Chuck → Chuck) : (s.updChuck e f).img = s.img := rfl
@[simp] theorem State.updChuck_cretalReset (s : State) (e : Nat) (f : Chuck → Chuck) : (s.updChuck e f).cretalReset = s.cretalReset := rfl
@[simp] theorem State.updChuck_pw (s : State) (e : Nat) (f : Chuck → Chuck) : (s.updChuck e f).pw = s.pw := rfl
@[simp] theorem State.updChuck_trace (s : State) (e : Nat) (f : Chuck → Chuck) : (s.updChuck e f).trace = s.trace := rfl
@[simp] theorem State.updChuck_jtag (s : State) (e : Nat) (f : Chuck → Chuck) : (s.updChuck e f).jtag = s.jtag := rfl
@[simp] theorem State.updChuck_vsel (s : State) (e : Nat) (f : Chuck → Chuck) : (s.updChuck e f).vsel = s.vsel := rfl

@[simp] theorem State.updSlot_pending (s : State) (e n : Nat) (f : Slot → Slot) : (s.updSlot e n f).pending = s.pending := rfl
@[simp] theorem State.updSlot_freeCtr (s : State) (e n : Nat) (f : Slot → Slot) : (s.updSlot e n f).freeCtr = s.freeCtr := rfl
@[simp] theorem State.updSlot_regs (s : State) (e n : Nat) (f : Slot → Slot) : (s.updSlot e n f).regs = s.regs := rfl
@[simp] theorem State.updSlot_eff (s : State) (e n : Nat) (f : Slot → Slot) : (s.updSlot e n f).eff = s.eff := rfl
@[simp] theorem State.updSlot_shadow (s : State) (e n : Nat) (f : Slot → Slot) : (s.updSlot e n f).shadow = s.shadow := rfl
@[simp] theorem State.updSlot_wcache (s : State) (e n : Nat) (f : Slot → Slot) : (s.updSlot e n f).wcache = s.wcache := rfl
@[simp] theorem State.updSlot_mem (s : State) (e n : Nat) (f : Slot → Slot) : (s.updSlot e n f).mem = s.mem := rfl
@[simp] theorem State.updSlot_linA (s : State) (e n : Nat) (f : Slot → Slot) : (s.updSlot e n f).linA = s.linA := rfl
@[simp] theorem State.updSlot_linB (s : State) (e n : Nat) (f : Slot → Slot) : (s.updSlot e n f).linB = s.linB := rfl
@[simp] theorem State.updSlot_lin (s : State) (e n : Nat) (f : Slot → Slot) : (s.updSlot e n f).lin = s.lin := rfl
@[simp] theorem State.updSlot_bcasts (s : State) (e n : Nat) (f : Slot → Slot) : (s.updSlot e n f).bcasts = s.bcasts := rfl
@[simp] theorem State.updSlot_walkRr (s : State) (e n : Nat) (f : Slot → Slot) : (s.updSlot e n f).walkRr = s.walkRr := rfl
@[simp] theorem State.updSlot_applying (s : State) (e n : Nat) (f : Slot → Slot) : (s.updSlot e n f).applying = s.applying := rfl
@[simp] theorem State.updSlot_events (s : State) (e n : Nat) (f : Slot → Slot) : (s.updSlot e n f).events = s.events := rfl
@[simp] theorem State.updSlot_pairs (s : State) (e n : Nat) (f : Slot → Slot) : (s.updSlot e n f).pairs = s.pairs := rfl
@[simp] theorem State.updSlot_safe (s : State) (e n : Nat) (f : Slot → Slot) : (s.updSlot e n f).safe = s.safe := rfl
@[simp] theorem State.updSlot_timeBase (s : State) (e n : Nat) (f : Slot → Slot) : (s.updSlot e n f).timeBase = s.timeBase := rfl
@[simp] theorem State.updSlot_scrub (s : State) (e n : Nat) (f : Slot → Slot) : (s.updSlot e n f).scrub = s.scrub := rfl
@[simp] theorem State.updSlot_sm (s : State) (e n : Nat) (f : Slot → Slot) : (s.updSlot e n f).sm = s.sm := rfl
@[simp] theorem State.updSlot_ceq (s : State) (e n : Nat) (f : Slot → Slot) : (s.updSlot e n f).ceq = s.ceq := rfl
@[simp] theorem State.updSlot_ports (s : State) (e n : Nat) (f : Slot → Slot) : (s.updSlot e n f).ports = s.ports := rfl
@[simp] theorem State.updSlot_sense (s : State) (e n : Nat) (f : Slot → Slot) : (s.updSlot e n f).sense = s.sense := rfl
@[simp] theorem State.updSlot_trunk (s : State) (e n : Nat) (f : Slot → Slot) : (s.updSlot e n f).trunk = s.trunk := rfl
@[simp] theorem State.updSlot_eth (s : State) (e n : Nat) (f : Slot → Slot) : (s.updSlot e n f).eth = s.eth := rfl
@[simp] theorem State.updSlot_fw (s : State) (e n : Nat) (f : Slot → Slot) : (s.updSlot e n f).fw = s.fw := rfl
@[simp] theorem State.updSlot_inst (s : State) (e n : Nat) (f : Slot → Slot) : (s.updSlot e n f).inst = s.inst := rfl
@[simp] theorem State.updSlot_otp (s : State) (e n : Nat) (f : Slot → Slot) : (s.updSlot e n f).otp = s.otp := rfl
@[simp] theorem State.updSlot_img (s : State) (e n : Nat) (f : Slot → Slot) : (s.updSlot e n f).img = s.img := rfl
@[simp] theorem State.updSlot_cretalReset (s : State) (e n : Nat) (f : Slot → Slot) : (s.updSlot e n f).cretalReset = s.cretalReset := rfl
@[simp] theorem State.updSlot_pw (s : State) (e n : Nat) (f : Slot → Slot) : (s.updSlot e n f).pw = s.pw := rfl
@[simp] theorem State.updSlot_trace (s : State) (e n : Nat) (f : Slot → Slot) : (s.updSlot e n f).trace = s.trace := rfl
@[simp] theorem State.updSlot_jtag (s : State) (e n : Nat) (f : Slot → Slot) : (s.updSlot e n f).jtag = s.jtag := rfl
@[simp] theorem State.updSlot_vsel (s : State) (e n : Nat) (f : Slot → Slot) : (s.updSlot e n f).vsel = s.vsel := rfl

@[simp] theorem State.setEsys_pending (s : State) (e n : Nat) (v : Dword) : (s.setEsys e n v).pending = s.pending := rfl
@[simp] theorem State.setEsys_freeCtr (s : State) (e n : Nat) (v : Dword) : (s.setEsys e n v).freeCtr = s.freeCtr := rfl
@[simp] theorem State.setEsys_regs (s : State) (e n : Nat) (v : Dword) : (s.setEsys e n v).regs = s.regs := rfl
@[simp] theorem State.setEsys_eff (s : State) (e n : Nat) (v : Dword) : (s.setEsys e n v).eff = s.eff := rfl
@[simp] theorem State.setEsys_shadow (s : State) (e n : Nat) (v : Dword) : (s.setEsys e n v).shadow = s.shadow := rfl
@[simp] theorem State.setEsys_wcache (s : State) (e n : Nat) (v : Dword) : (s.setEsys e n v).wcache = s.wcache := rfl
@[simp] theorem State.setEsys_mem (s : State) (e n : Nat) (v : Dword) : (s.setEsys e n v).mem = s.mem := rfl
@[simp] theorem State.setEsys_linA (s : State) (e n : Nat) (v : Dword) : (s.setEsys e n v).linA = s.linA := rfl
@[simp] theorem State.setEsys_linB (s : State) (e n : Nat) (v : Dword) : (s.setEsys e n v).linB = s.linB := rfl
@[simp] theorem State.setEsys_lin (s : State) (e n : Nat) (v : Dword) : (s.setEsys e n v).lin = s.lin := rfl
@[simp] theorem State.setEsys_bcasts (s : State) (e n : Nat) (v : Dword) : (s.setEsys e n v).bcasts = s.bcasts := rfl
@[simp] theorem State.setEsys_walkRr (s : State) (e n : Nat) (v : Dword) : (s.setEsys e n v).walkRr = s.walkRr := rfl
@[simp] theorem State.setEsys_applying (s : State) (e n : Nat) (v : Dword) : (s.setEsys e n v).applying = s.applying := rfl
@[simp] theorem State.setEsys_events (s : State) (e n : Nat) (v : Dword) : (s.setEsys e n v).events = s.events := rfl
@[simp] theorem State.setEsys_pairs (s : State) (e n : Nat) (v : Dword) : (s.setEsys e n v).pairs = s.pairs := rfl
@[simp] theorem State.setEsys_safe (s : State) (e n : Nat) (v : Dword) : (s.setEsys e n v).safe = s.safe := rfl
@[simp] theorem State.setEsys_timeBase (s : State) (e n : Nat) (v : Dword) : (s.setEsys e n v).timeBase = s.timeBase := rfl
@[simp] theorem State.setEsys_scrub (s : State) (e n : Nat) (v : Dword) : (s.setEsys e n v).scrub = s.scrub := rfl
@[simp] theorem State.setEsys_sm (s : State) (e n : Nat) (v : Dword) : (s.setEsys e n v).sm = s.sm := rfl
@[simp] theorem State.setEsys_ceq (s : State) (e n : Nat) (v : Dword) : (s.setEsys e n v).ceq = s.ceq := rfl
@[simp] theorem State.setEsys_ports (s : State) (e n : Nat) (v : Dword) : (s.setEsys e n v).ports = s.ports := rfl
@[simp] theorem State.setEsys_sense (s : State) (e n : Nat) (v : Dword) : (s.setEsys e n v).sense = s.sense := rfl
@[simp] theorem State.setEsys_trunk (s : State) (e n : Nat) (v : Dword) : (s.setEsys e n v).trunk = s.trunk := rfl
@[simp] theorem State.setEsys_eth (s : State) (e n : Nat) (v : Dword) : (s.setEsys e n v).eth = s.eth := rfl
@[simp] theorem State.setEsys_fw (s : State) (e n : Nat) (v : Dword) : (s.setEsys e n v).fw = s.fw := rfl
@[simp] theorem State.setEsys_inst (s : State) (e n : Nat) (v : Dword) : (s.setEsys e n v).inst = s.inst := rfl
@[simp] theorem State.setEsys_otp (s : State) (e n : Nat) (v : Dword) : (s.setEsys e n v).otp = s.otp := rfl
@[simp] theorem State.setEsys_img (s : State) (e n : Nat) (v : Dword) : (s.setEsys e n v).img = s.img := rfl
@[simp] theorem State.setEsys_cretalReset (s : State) (e n : Nat) (v : Dword) : (s.setEsys e n v).cretalReset = s.cretalReset := rfl
@[simp] theorem State.setEsys_pw (s : State) (e n : Nat) (v : Dword) : (s.setEsys e n v).pw = s.pw := rfl
@[simp] theorem State.setEsys_trace (s : State) (e n : Nat) (v : Dword) : (s.setEsys e n v).trace = s.trace := rfl
@[simp] theorem State.setEsys_jtag (s : State) (e n : Nat) (v : Dword) : (s.setEsys e n v).jtag = s.jtag := rfl
@[simp] theorem State.setEsys_vsel (s : State) (e n : Nat) (v : Dword) : (s.setEsys e n v).vsel = s.vsel := rfl

@[simp] theorem State.setEcell_pending (s : State) (e n : Nat) (c : Cell) : (s.setEcell e n c).pending = s.pending := rfl
@[simp] theorem State.setEcell_freeCtr (s : State) (e n : Nat) (c : Cell) : (s.setEcell e n c).freeCtr = s.freeCtr := rfl
@[simp] theorem State.setEcell_regs (s : State) (e n : Nat) (c : Cell) : (s.setEcell e n c).regs = s.regs := rfl
@[simp] theorem State.setEcell_eff (s : State) (e n : Nat) (c : Cell) : (s.setEcell e n c).eff = s.eff := rfl
@[simp] theorem State.setEcell_shadow (s : State) (e n : Nat) (c : Cell) : (s.setEcell e n c).shadow = s.shadow := rfl
@[simp] theorem State.setEcell_wcache (s : State) (e n : Nat) (c : Cell) : (s.setEcell e n c).wcache = s.wcache := rfl
@[simp] theorem State.setEcell_mem (s : State) (e n : Nat) (c : Cell) : (s.setEcell e n c).mem = s.mem := rfl
@[simp] theorem State.setEcell_linA (s : State) (e n : Nat) (c : Cell) : (s.setEcell e n c).linA = s.linA := rfl
@[simp] theorem State.setEcell_linB (s : State) (e n : Nat) (c : Cell) : (s.setEcell e n c).linB = s.linB := rfl
@[simp] theorem State.setEcell_lin (s : State) (e n : Nat) (c : Cell) : (s.setEcell e n c).lin = s.lin := rfl
@[simp] theorem State.setEcell_bcasts (s : State) (e n : Nat) (c : Cell) : (s.setEcell e n c).bcasts = s.bcasts := rfl
@[simp] theorem State.setEcell_walkRr (s : State) (e n : Nat) (c : Cell) : (s.setEcell e n c).walkRr = s.walkRr := rfl
@[simp] theorem State.setEcell_applying (s : State) (e n : Nat) (c : Cell) : (s.setEcell e n c).applying = s.applying := rfl
@[simp] theorem State.setEcell_events (s : State) (e n : Nat) (c : Cell) : (s.setEcell e n c).events = s.events := rfl
@[simp] theorem State.setEcell_pairs (s : State) (e n : Nat) (c : Cell) : (s.setEcell e n c).pairs = s.pairs := rfl
@[simp] theorem State.setEcell_safe (s : State) (e n : Nat) (c : Cell) : (s.setEcell e n c).safe = s.safe := rfl
@[simp] theorem State.setEcell_timeBase (s : State) (e n : Nat) (c : Cell) : (s.setEcell e n c).timeBase = s.timeBase := rfl
@[simp] theorem State.setEcell_scrub (s : State) (e n : Nat) (c : Cell) : (s.setEcell e n c).scrub = s.scrub := rfl
@[simp] theorem State.setEcell_sm (s : State) (e n : Nat) (c : Cell) : (s.setEcell e n c).sm = s.sm := rfl
@[simp] theorem State.setEcell_ceq (s : State) (e n : Nat) (c : Cell) : (s.setEcell e n c).ceq = s.ceq := rfl
@[simp] theorem State.setEcell_ports (s : State) (e n : Nat) (c : Cell) : (s.setEcell e n c).ports = s.ports := rfl
@[simp] theorem State.setEcell_sense (s : State) (e n : Nat) (c : Cell) : (s.setEcell e n c).sense = s.sense := rfl
@[simp] theorem State.setEcell_trunk (s : State) (e n : Nat) (c : Cell) : (s.setEcell e n c).trunk = s.trunk := rfl
@[simp] theorem State.setEcell_eth (s : State) (e n : Nat) (c : Cell) : (s.setEcell e n c).eth = s.eth := rfl
@[simp] theorem State.setEcell_fw (s : State) (e n : Nat) (c : Cell) : (s.setEcell e n c).fw = s.fw := rfl
@[simp] theorem State.setEcell_inst (s : State) (e n : Nat) (c : Cell) : (s.setEcell e n c).inst = s.inst := rfl
@[simp] theorem State.setEcell_otp (s : State) (e n : Nat) (c : Cell) : (s.setEcell e n c).otp = s.otp := rfl
@[simp] theorem State.setEcell_img (s : State) (e n : Nat) (c : Cell) : (s.setEcell e n c).img = s.img := rfl
@[simp] theorem State.setEcell_cretalReset (s : State) (e n : Nat) (c : Cell) : (s.setEcell e n c).cretalReset = s.cretalReset := rfl
@[simp] theorem State.setEcell_pw (s : State) (e n : Nat) (c : Cell) : (s.setEcell e n c).pw = s.pw := rfl
@[simp] theorem State.setEcell_trace (s : State) (e n : Nat) (c : Cell) : (s.setEcell e n c).trace = s.trace := rfl
@[simp] theorem State.setEcell_jtag (s : State) (e n : Nat) (c : Cell) : (s.setEcell e n c).jtag = s.jtag := rfl
@[simp] theorem State.setEcell_vsel (s : State) (e n : Nat) (c : Cell) : (s.setEcell e n c).vsel = s.vsel := rfl

end Sys2Proof.Machine
end

