-- ==== Sys2Proof/Laws/Maps.lean ====
section
/-!
SUPPORT. Laws/Maps.lean: reading after writing: sparse maps, engines, pairs, ports, device registers and the registers of a chuck.
-/

namespace Sys2Proof.Machine

open Sys2Proof

/-- A map reads at `k` what was put there. -/
@[simp] theorem Map.get_put_self {α : Type} (d v : α) (m : Map α) (k : Nat) : Map.get d (Map.put v m k) k = v := by
  induction m with
  | nil => simp [Map.put, Map.get]
  | cons p m ih =>
    obtain ⟨j, u⟩ := p
    simp only [Map.put]
    split
    · simp [Map.get]
    · split
      · simp [Map.get]
      · simp [Map.get, *]

/-- A put at `k` leaves every other number. -/
theorem Map.get_put_ne {α : Type} (d v : α) (m : Map α) {k i : Nat} (h : i ≠ k) : Map.get d (Map.put v m k) i = Map.get d m i := by
  induction m with
  | nil => simp [Map.put, Map.get, Ne.symm h]
  | cons p m ih =>
    obtain ⟨j, u⟩ := p
    simp only [Map.put]
    split
    · next e => subst e; simp [Map.get, Ne.symm h]
    · split
      · simp [Map.get, Ne.symm h]
      · simp only [Map.get, ih]

/-- Reading at `i` after a put at `k`. -/
theorem Map.get_put {α : Type} (d v : α) (m : Map α) (k i : Nat) : Map.get d (Map.put v m k) i = if i = k then v else Map.get d m i := by
  split
  · next h => subst h; simp
  · next h => exact Map.get_put_ne d v m h

/-- Mapping the values of a map. -/
theorem Map.get_mapVal {α : Type} (f : α → α) (d : α) (hd : f d = d) (m : Map α) (k : Nat) : Map.get d (Map.mapVal f m) k = f (Map.get d m k) := by
  induction m with
  | nil => simp [Map.mapVal, Map.get, hd]
  | cons p m ih =>
    obtain ⟨j, u⟩ := p
    simp only [Map.mapVal, List.map_cons, Map.get] at ih ⊢
    split
    · rfl
    · exact ih

@[simp] theorem State.engine_setEngine_self (s : State) (e : Nat) (x : Engine) : (s.setEngine e x).engine e = x := by
  simp [State.engine, State.setEngine]

theorem State.engine_setEngine_ne (s : State) {e i : Nat} (x : Engine) (h : i ≠ e) : (s.setEngine e x).engine i = s.engine i := by
  simp [State.engine, State.setEngine, Map.get_put_ne _ _ _ h]

@[simp] theorem State.engine_updEngine_self (s : State) (e : Nat) (f : Engine → Engine) : (s.updEngine e f).engine e = f (s.engine e) := by
  simp [State.updEngine]

theorem State.engine_updEngine_ne (s : State) {e i : Nat} (f : Engine → Engine) (h : i ≠ e) : (s.updEngine e f).engine i = s.engine i := by
  simp [State.updEngine, State.engine_setEngine_ne s _ h]

@[simp] theorem State.pair_updPair_self (s : State) (p : Nat) (f : Pair → Pair) : (s.updPair p f).pair p = f (s.pair p) := by
  simp [State.pair, State.updPair]

@[simp] theorem State.port_updPort_self (s : State) (p : Nat) (f : Port → Port) : (s.updPort p f).port p = f (s.port p) := by
  simp [State.port, State.updPort]

@[simp] theorem State.engine_setReg (s : State) (b o : Nat) (w : Word) (e : Nat) : (s.setReg b o w).engine e = s.engine e := rfl
@[simp] theorem State.engine_setFld (s : State) (b o hi lo v e : Nat) : (s.setFld b o hi lo v).engine e = s.engine e := rfl
@[simp] theorem State.engine_raise (s : State) (id e : Nat) : (s.raise id).engine e = s.engine e := rfl
@[simp] theorem State.engine_updPair (s : State) (p : Nat) (f : Pair → Pair) (e : Nat) : (s.updPair p f).engine e = s.engine e := rfl

@[simp] theorem State.reg_setReg_self (s : State) (b o : Nat) (w : Word) : (s.setReg b o w).reg b o = w := by
  simp [State.reg, State.setReg]

theorem State.reg_setReg_ne (s : State) {b o c p : Nat} (w : Word) (h : regKey c p ≠ regKey b o) : (s.setReg b o w).reg c p = s.reg c p := by
  simp [State.reg, State.setReg, Map.get_put_ne _ _ _ h]

@[simp] theorem State.reg_setEngine (s : State) (e : Nat) (x : Engine) (b o : Nat) : (s.setEngine e x).reg b o = s.reg b o := rfl
@[simp] theorem State.reg_updEngine (s : State) (e : Nat) (f : Engine → Engine) (b o : Nat) : (s.updEngine e f).reg b o = s.reg b o := rfl
@[simp] theorem State.reg_raise (s : State) (id b o : Nat) : (s.raise id).reg b o = s.reg b o := rfl

/-- The chuck an engine runs in, after an update of it. -/
@[simp] theorem State.chuck_updChuck_self (s : State) (e : Nat) (f : Chuck → Chuck) : (s.updChuck e f).chuck e = f (s.chuck e) := by
  simp [State.chuck, State.updChuck, Map.upd]

theorem State.chuck_updChuck_ne (s : State) {e i : Nat} (f : Chuck → Chuck) (h : i ≠ e) : (s.updChuck e f).chuck i = s.chuck i := by
  simp [State.chuck, State.updChuck, State.engine_updEngine_ne s _ h]

@[simp] theorem Chuck.reg_zero (c : Chuck) : c.reg 0 = Cell.null := by simp [Chuck.reg]
@[simp] theorem Chuck.setReg_zero (c : Chuck) (v : Cell) : c.setReg 0 v = c := by simp [Chuck.setReg]

theorem Chuck.reg_setReg (c : Chuck) (r i : Nat) (v : Cell) : (c.setReg r v).reg i = if i = r ∧ r ≠ 0 then v else c.reg i := by
  by_cases h0 : r = 0
  · subst h0; simp
  · by_cases hi : i = 0
    · subst hi; simp [Ne.symm h0]
    · simp [Chuck.setReg, Chuck.reg, h0, hi, Map.get_put]

@[simp] theorem Chuck.sysr_setReg (c : Chuck) (r : Nat) (v : Cell) (n : Nat) : (c.setReg r v).sysr n = c.sysr n := by
  unfold Chuck.setReg; split <;> rfl
@[simp] theorem Chuck.pred_setReg (c : Chuck) (r : Nat) (v : Cell) (n : Nat) : (c.setReg r v).pred n = c.pred n := by
  unfold Chuck.setReg; split <;> rfl
@[simp] theorem Chuck.acc_setReg (c : Chuck) (r : Nat) (v : Cell) (n : Nat) : (c.setReg r v).acc n = c.acc n := by
  unfold Chuck.setReg; split <;> rfl
@[simp] theorem Chuck.pcc_setReg (c : Chuck) (r : Nat) (v : Cell) : (c.setReg r v).pcc = c.pcc := by
  unfold Chuck.setReg; split <;> rfl

theorem Chuck.sysr_setSysr (c : Chuck) (n i : Nat) (v : Dword) : (c.setSysr n v).sysr i = if i = n then v else c.sysr i := by
  simp [Chuck.setSysr, Chuck.sysr, Map.get_put]
@[simp] theorem Chuck.reg_setSysr (c : Chuck) (n : Nat) (v : Dword) (r : Nat) : (c.setSysr n v).reg r = c.reg r := rfl
@[simp] theorem Chuck.pcc_setSysr (c : Chuck) (n : Nat) (v : Dword) : (c.setSysr n v).pcc = c.pcc := rfl

theorem Chuck.pred_setPred (c : Chuck) (p i : Nat) (v : BitVec 16) : (c.setPred p v).pred i = if i = p ∧ p ≠ 0 then v else c.pred i := by
  by_cases h0 : p = 0
  · subst h0; simp [Chuck.setPred]
  · by_cases hi : i = 0
    · subst hi; simp [Chuck.pred, Ne.symm h0]
    · simp [Chuck.setPred, Chuck.pred, h0, hi, Map.get_put]

theorem Chuck.acc_setAcc (c : Chuck) (a i : Nat) (v : Accum) : (c.setAcc a v).acc i = if i = a then v else c.acc i := by
  simp [Chuck.setAcc, Chuck.acc, Map.get_put]

end Sys2Proof.Machine
end

