-- ==== Sys2Proof/Laws/Issue.lean ====
section
/-!
SUPPORT. Laws/Issue.lean: what the issue of an instruction does, once for all of them: it retires, faults, waits or halts as its body
ends; what the engine's monad does; and what the integer operands and results of a body do.
-/

namespace Sys2Proof.Machine

open Sys2Proof

/-! ## Runs of the engine's monad

Proved so that simp rewrites with them step by step and leaves no definitional unfolding to the kernel. -/

theorem em_bind {α β : Type} (x : EM α) (f : α → EM β) (s : State) :
    (x >>= f).run s = match x.run s with | .ok a t => (f a).run t | .error b t => .error b t := by
  rw [EStateM.run_bind]
  cases x.run s <;> rfl
theorem em_pure {α : Type} (a : α) (s : State) : (pure a : EM α).run s = .ok a s := (EStateM.run_pure a s).trans (Eq.refl _)
theorem em_get (s : State) : (get : EM State).run s = .ok s s := (EStateM.run_get s).trans (Eq.refl _)
theorem em_set (s t : State) : (set t : EM PUnit).run s = .ok ⟨⟩ t := (EStateM.run_set t s).trans (Eq.refl _)
theorem em_throw {α : Type} (b : Abort) (s : State) : (throw b : EM α).run s = .error b s := Eq.trans (b := .error b s) rfl (Eq.refl _)
theorem em_modify (f : State → State) (s : State) : (modify f : EM PUnit).run s = .ok ⟨⟩ (f s) := (EStateM.run_modify f s).trans (Eq.refl _)

/-! ## Issue -/

/-- A fault ends an instruction. -/
@[simp] theorem em_fault {α : Type} (code val : Nat) (reg : Option Nat) (acc : Nat) (s : State) :
    (fault code val reg acc : EM α).run s = .error (.exc { code := code, val := val, reg := reg, acc := acc }) s := rfl

/-- What an instruction that the engine executes comes to. -/
theorem run1_of_runs {s t : State} {e : Eid} {w : Word} (h : Runs s e w t) (body : Nat → EM Next) :
    run1 s e w body = match (body e.toNat).run t with
      | .ok nx u => .next (u.retire e.toNat nx)
      | .error a u => .next (u.takeAbort e.toNat a) := by
  obtain ⟨h1, h2, h3, h4, h5, h6⟩ := h
  have h2' : (s.engine e.toNat).long.isSome = false := by simp [h2]
  have hx : (execute e.toNat w (body e.toNat)).run t = (body e.toNat).run t := by
    simp [execute, h5, h6]
  simp only [run1, State.issue, h1, h2', h3, h4, hx]
  cases (body e.toNat).run t <;> simp

/-- A body that ends well retires. -/
theorem run1_ok {s t u : State} {e : Eid} {w : Word} {body : Nat → EM Next} {nx : Next} (h : Runs s e w t) (hb : (body e.toNat).run t = .ok nx u) :
    run1 s e w body = .next (u.retire e.toNat nx) := by
  rw [run1_of_runs h, hb]

/-- A body that raises an exception enters it. -/
theorem run1_err {s t u : State} {e : Eid} {w : Word} {body : Nat → EM Next} {a : Abort} (h : Runs s e w t) (hb : (body e.toNat).run t = .error a u) :
    run1 s e w body = .next (u.takeAbort e.toNat a) := by
  rw [run1_of_runs h, hb]

theorem kindInt_iff (k : Kind) : kindInt k = true ↔ k = .raw ∨ k = .int := by cases k <;> simp [kindInt]

/-- Reading an integer operand. -/
theorem ivalA_of {t : State} {e : Eid} {r : Reg} {x : Dword} (h : IntOp t e r x) (acc : Nat) : (ivalA e.toNat r.toNat acc).run t = .ok x t := by
  obtain ⟨h1, h2⟩ := h
  simp only [regOf] at h1 h2
  simp [ivalA, (kindInt_iff _).2 h1, h2]

theorem ival_of {t : State} {e : Eid} {r : Reg} {x : Dword} (h : IntOp t e r x) : (ival e.toNat r.toNat).run t = .ok x t := ivalA_of h 0

theorem ival128_of {t : State} {e : Eid} {r : Reg} {x : Quad} (h : QuadOp t e r x) : (ival128 e.toNat r.toNat).run t = .ok x t := by
  obtain ⟨h1, h2⟩ := h
  simp only [regOf] at h1 h2
  simp [ival128, (kindInt_iff _).2 h1, h2]

@[simp] theorem putReg_run (e : Eid) (rd : Reg) (c : Cell) (t : State) : (putReg e.toNat rd.toNat c).run t = .ok () (setR t e rd c) := rfl
@[simp] theorem wint_run (e : Eid) (rd : Reg) (v : Dword) (t : State) : (wint e.toNat rd.toNat v).run t = .ok () (setI t e rd v) := rfl

end Sys2Proof.Machine
end

