-- ==== Sys2Proof/Laws/Access.lean ====
section
/-!
SUPPORT. Laws/Access.lean: what the checks of an access do: an MPU none of whose regions is enabled, a capability that passes every test,
an untranslated address, and the fetch of a word from a line of L1I.
-/

namespace Sys2Proof.Machine

open Sys2Proof

/-! ## Register writes -/

/-- A write that its master may make has its effect (R34, R48, R337, R553). -/
theorem admits_of (s : State) (m : Master) (b o : Nat) (f : State → State) (h : s.lets m b o .write = true) : s.admits m b o f = f s := by
  simp [State.admits, h]

/-- A write that its master may not make leaves what the refusal leaves. -/
theorem admits_not (s : State) (m : Master) (b o : Nat) (f : State → State) (h : s.lets m b o .write = false) :
    s.admits m b o f = s.turned m b o .write := by
  simp [State.admits, h]

/-- A refused write of an engine or a trunk request changes nothing (R48). -/
@[simp] theorem turned_engine (s : State) (e : Eid) (b o : Nat) (acc : Access) : s.turned (.engine e) b o acc = s := rfl
@[simp] theorem turned_trunk (s : State) (b o : Nat) (acc : Access) : s.turned .trunk b o acc = s := rfl

/-- Cretal runs where its RAM holds no error (R494). -/
theorem cretalRun_of (s : State) (f : State → State) (h : s.ramErrs = []) : s.cretalRun f = f s := by
  simp [State.cretalRun, h]

/-! ## Accesses -/

/-- A hit of a line whose codeword holds no error gives its cell and changes nothing (R208). -/
theorem hitCell_clean (s : State) (l : L1Line) (ofs : Nat) (h : l.err ofs = 0) : s.hitCell l ofs = (some (l.cell ofs), s) := by
  have h0 : errWeight 0 = (0, 0) := by decide
  simp only [State.hitCell, decodeErr, h, h0]
  rfl

/-- With no region enabled, none wins (R340, R341). -/
theorem mpuWin_none (s : State) (b base pa n : Nat) (h : ∀ k, k < n → s.fld b (base + 16 * k + 12) 31 31 = 0) : s.mpuWin b base pa n = none := by
  induction n with
  | zero => rfl
  | succ n ih =>
    have h1 := h n (by omega)
    have h2 : s.mpuMatch b base n pa = false := by simp [State.mpuMatch, h1]
    simp [State.mpuWin, h2, ih (fun k hk => h k (by omega))]

/-- The highest-numbered matching region wins (R341). -/
theorem mpuWin_some (s : State) (b base pa w : Nat) (h : s.mpuMatch b base w pa = true) (n : Nat) (hn : w < n)
    (ho : ∀ k, w < k → k < n → s.mpuMatch b base k pa = false) : s.mpuWin b base pa n = some w := by
  induction n with
  | zero => omega
  | succ n ih =>
    by_cases hw : w = n
    · simp [State.mpuWin, ← hw, h]
    · simp [State.mpuWin, ho n (by omega) (by omega), ih (by omega) (fun k h1 h2 => ho k h1 (by omega))]

/-- A match outside STRICT mode lets levels K and Rest read and write everywhere and execute from memory (R342, R346). -/
theorem mpuCheck_open (s : State) (u : MpuUnit) (pa : Nat) (acc : Access) (paired : Bool) (mt : MemType) (lvl src : Nat)
    (h1 : s.mpuWin (mpuAt u).1 (mpuAt u).2.1 pa 16 = none) (h2 : s.mpuStrict u = false)
    (h3 : acc ≠ .exec ∨ s.execRow pa = true) :
    s.mpuCheck u pa acc true paired mt lvl src = (0, s) := by
  have h : s.mpuDecide u pa acc true paired mt = (0, 0x1F) := by
    rcases h3 with h3 | h3 <;> simp [State.mpuDecide, h1, h2, h3]
  simp [State.mpuCheck, h]

/-- A well-formed capability of lineage 0 passes the tests of Table 02-6 where it has the permissions and the range. -/
theorem capTests_ok (e : Nat) (c : Cell) (a n : Nat) (need : List Perm) (reg : Option Nat) (acc : Nat) (inl : Bool) (s : State)
    (hk : c.kind = .cap) (hm : capMalformed c = false) (hl : capLin c = 0) (hg : capGen c = 0) (hn : need.all (capHas c) = true)
    (hb : capBase c ≤ a) (ht : a + n ≤ capTop c) : (capTests e c a n need reg acc inl).run s = .ok () s := by
  have h1 : ¬(a < capBase c ∨ capTop c < a + n) := by omega
  simp [capTests, capSource, linkOk, hk, hm, hl, hg, hn, h1, isCap]

/-- Level Rest does not translate (R301). -/
theorem translate_rest (e : Nat) (r : XReq) (s : State) (h : r.lvl = .rest) : (translate e r).run s = .ok (r.va, plainMt r.va) s := by
  simp [translate, h]

/-- The SYS test asks nothing of an address that is no device register, nor of a capability with SYS (R72). -/
theorem sysTest_ok (c : Cell) (a pa : Nat) (reg : Option Nat) (acc : Nat) (s : State)
    (h : (∀ b o, s.region pa ≠ .regs b o) ∨ capHas c .sys = true) : (sysTest c a pa reg acc).run s = .ok () s := by
  simp only [sysTest, em_bind, em_get]
  generalize s.region pa = x at h
  cases x with
  | regs b o =>
    rcases h with h | h
    · exact absurd rfl (h b o)
    · dsimp only
      rw [h, if_neg (by simp), EStateM.run_pure]
  | _ => exact EStateM.run_pure _ _

/-- With no comparator armed, none triggers (R564). -/
theorem bpData_none (e a n : Nat) (rd wr : Bool) (acc : Nat) (s : State) (h : ∀ k, s.bpArmed e k = false) :
    (bpData e a n rd wr acc).run s = .ok () s := by
  simp only [bpData, em_bind, em_get, h, Bool.false_and, List.filter_false]
  rw [bpTake, EStateM.run_pure]

/-- An MPU that passes an access lets it go on. -/
theorem mpuE_pass (e pa : Nat) (acc : Access) (lvl : Level) (paired : Bool) (mt : MemType) (reg : Option Nat) (code : Nat) (s : State)
    (h : s.mpuCheck (.engine (BitVec.ofNat 10 e)) pa acc (lvl != .t) paired mt lvl.code (s.taskId e % 65536) = (0, s)) :
    (mpuE e pa acc lvl paired mt reg code).run s = .ok () s := by
  simp only [mpuE, em_bind, em_get]
  rw [h, EStateM.run_set]
  dsimp only
  rw [if_neg (by simp), EStateM.run_pure]

/-- An aligned access at level Rest through a capability of lineage 0 that allows it passes every check where the MPU has no region
enabled and no comparator is armed (R144). -/
theorem dataAccess_rest (e : Nat) (r : DReq) (t9 : EM Unit) (s : State) (hal : r.a % r.n = 0) (hk : r.cap.kind = .cap)
    (hm : capMalformed r.cap = false) (hl : capLin r.cap = 0) (hg : capGen r.cap = 0) (hn : r.need.all (capHas r.cap) = true)
    (hb : capBase r.cap ≤ r.a) (ht : r.a + r.n ≤ capTop r.cap) (h9 : t9.run s = .ok () s) (hlv : (s.engine e).level = .rest)
    (hr : (∀ b o, s.region r.a ≠ .regs b o) ∨ capHas r.cap .sys = true)
    (h1 : s.mpuWin (mpuAt (.engine (BitVec.ofNat 10 e))).1 (mpuAt (.engine (BitVec.ofNat 10 e))).2.1 r.a 16 = none)
    (h2 : s.mpuStrict (.engine (BitVec.ofNat 10 e)) = false) (hp : ∀ k, s.bpArmed e k = false) :
    (dataAccess e r t9).run s = .ok (r.a, plainMt r.a) s := by
  have hc := capTests_ok e r.cap r.a r.n r.need r.reg r.accCode r.inl s hk hm hl hg hn hb ht
  have hs := sysTest_ok r.cap r.a r.a r.reg r.accCode s hr
  have hx : (Level.rest != Level.t) = true := rfl
  have hw := mpuE_pass e r.a .write .rest (s.pairedCtx e) (plainMt r.a) r.reg r.accCode s (mpuCheck_open _ _ _ _ _ _ _ _ h1 h2 (.inl (by simp)))
  have hd := mpuE_pass e r.a .read .rest (s.pairedCtx e) (plainMt r.a) r.reg 1 s (mpuCheck_open _ _ _ _ _ _ _ _ h1 h2 (.inl (by simp)))
  have hbp := bpData_none e r.a r.n r.rd r.wr r.accCode s hp
  simp only [dataAccess]
  rw [if_neg (by omega)]
  simp only [em_bind, em_get, hc, h9, hlv, translate_rest, hs]
  cases hrd : r.rd <;> cases hwr : r.wr <;> simp [hrd, hwr, hw, hd] at hbp ⊢ <;> simp [hbp]

end Sys2Proof.Machine
end

