-- ==== Sys2Proof/Laws/Memory.lean ====
section
/-!
SUPPORT. Laws/Memory.lean: memory reads what was last written, a write leaves every other address, and every memory operation keeps
the canonical form.
-/

namespace Sys2Proof.Machine

open Sys2Proof

/-- The canonical form of one list: keys rising, no entry at its default. -/
def assocWf {α : Type} (d : Nat → α) (l : List (Nat × α)) : Prop := l.Pairwise (fun a b => a.1 < b.1) ∧ ∀ p ∈ l, p.2 ≠ d p.1

theorem assocGet_put {α : Type} [DecidableEq α] (d : Nat → α) (v : α) (l : List (Nat × α)) (k i : Nat)
    (h : l.Pairwise (fun a b => a.1 < b.1)) :
    assocGet (d i) (assocPut (d k) v l k) i = if i = k then v else assocGet (d i) l i := by
  induction l with
  | nil => by_cases hv : v = d k <;> by_cases hi : i = k <;> simp_all [assocPut, assocGet, eq_comm]
  | cons p l ih =>
    obtain ⟨j, u⟩ := p
    have ih := ih h.of_cons
    have hlt : ∀ {q : Nat × α}, q ∈ l → j < q.1 := fun hq => List.rel_of_pairwise_cons h hq
    have hno : ∀ m : List (Nat × α), (∀ q ∈ m, k < q.1) → assocGet (d k) m k = d k := by
      intro m hm
      induction m with
      | nil => rfl
      | cons q m ihm =>
        obtain ⟨a, b⟩ := q
        have h1 := hm (a, b) (by simp)
        simp only at h1
        have h2 : a ≠ k := by omega
        simp only [assocGet, h2, if_false]
        exact ihm (fun q hq => hm q (by simp [hq]))
    simp only [assocPut]
    by_cases hj : j = k
    · subst hj
      simp only [if_true]
      by_cases hv : v = d j <;> by_cases hi : i = j
      · subst hi; simp only [hv, if_true]; exact hno l (fun q hq => hlt hq)
      · simp [hv, hi, assocGet, Ne.symm hi]
      · simp [hv, hi, assocGet]
      · simp [hv, hi, assocGet, Ne.symm hi]
    · simp only [hj, if_false]
      by_cases hk : k < j
      · simp only [hk, if_true]
        by_cases hv : v = d k <;> by_cases hi : i = k
        · subst hi
          simp only [hv, if_true]
          apply hno
          intro q hq
          rcases List.mem_cons.1 hq with h1 | h1
          · subst h1; exact hk
          · exact lt_trans hk (hlt h1)
        · simp [hv, hi]
        · simp [hv, hi, assocGet]
        · simp [hv, hi, assocGet, Ne.symm hi]
      · simp only [hk, if_false, assocGet]
        by_cases hi : j = i
        · subst hi; simp [hj]
        · simp only [hi, if_false]; exact ih

theorem mem_assocPut {α : Type} [DecidableEq α] {d v : α} {l : List (Nat × α)} {k : Nat} {p : Nat × α} (h : p ∈ assocPut d v l k) :
    p ∈ l ∨ p = (k, v) ∧ v ≠ d := by
  induction l with
  | nil =>
    simp only [assocPut] at h
    split at h
    · simp at h
    · next hv => simp at h; exact .inr ⟨h, hv⟩
  | cons q l ih =>
    obtain ⟨j, u⟩ := q
    simp only [assocPut] at h
    split at h
    · split at h
      · exact .inl (by simp [h])
      · next hv => rcases List.mem_cons.1 h with h1 | h1
                   · exact .inr ⟨h1, hv⟩
                   · exact .inl (by simp [h1])
    · split at h
      · split at h
        · exact .inl h
        · next hv => rcases List.mem_cons.1 h with h1 | h1
                     · exact .inr ⟨h1, hv⟩
                     · exact .inl h1
      · rcases List.mem_cons.1 h with h1 | h1
        · exact .inl (by simp [h1])
        · rcases ih h1 with h2 | h2
          · exact .inl (by simp [h2])
          · exact .inr h2

/-- A write keeps one list canonical. -/
theorem assocWf_put {α : Type} [DecidableEq α] (d : Nat → α) (v : α) (l : List (Nat × α)) (k : Nat) (h : assocWf d l) :
    assocWf d (assocPut (d k) v l k) := by
  refine ⟨?_, fun p hp => ?_⟩
  · have h1 := h.1
    clear h
    induction l with
    | nil => simp only [assocPut]; split <;> simp
    | cons q l ih =>
      obtain ⟨j, u⟩ := q
      have ih := ih h1.of_cons
      have hlt : ∀ {q : Nat × α}, q ∈ l → j < q.1 := fun hq => List.rel_of_pairwise_cons h1 hq
      simp only [assocPut]
      split
      · next hj =>
        subst hj
        split
        · exact h1.of_cons
        · exact List.pairwise_cons.2 ⟨fun p hp => hlt hp, h1.of_cons⟩
      · next hj =>
        split
        · next hk =>
          split
          · exact h1
          · refine List.pairwise_cons.2 ⟨fun p hp => ?_, h1⟩
            rcases List.mem_cons.1 hp with h2 | h2
            · subst h2; exact hk
            · exact lt_trans hk (hlt h2)
        · next hk =>
          refine List.pairwise_cons.2 ⟨fun p hp => ?_, ih⟩
          rcases mem_assocPut hp with h2 | h2
          · exact hlt h2
          · obtain ⟨h2, -⟩ := h2; subst h2; simp only; omega
  · rcases mem_assocPut hp with h1 | h1
    · exact h.2 p h1
    · obtain ⟨h1, h2⟩ := h1; subst h1; exact h2

/-- A part of a canonical list is canonical. -/
theorem assocWf_filter {α : Type} (d : Nat → α) (l : List (Nat × α)) (q : Nat × α → Bool) (h : assocWf d l) : assocWf d (l.filter q) :=
  ⟨h.1.filter q, fun p hp => h.2 p (List.mem_of_mem_filter hp)⟩

/-- The canonical form of memory, list by list. -/
theorem Memory.wf_iff (m : Memory) : m.wf = true ↔ assocWf byteDefault m.bytes ∧ assocWf tagDefault m.tags ∧ assocWf (fun _ => (0 : BitVec 176)) m.errs := by
  simp [Memory.wf, assocWf]
  tauto

theorem Memory.wf_setByte (m : Memory) (k : Nat) (v : Byte) (h : m.wf = true) : (m.setByte k v).wf = true := by
  rw [Memory.wf_iff] at h ⊢
  exact ⟨assocWf_put byteDefault v _ k h.1, h.2⟩

theorem Memory.wf_setTag (m : Memory) (k : Nat) (v : Byte) (h : m.wf = true) : (m.setTag k v).wf = true := by
  rw [Memory.wf_iff] at h ⊢
  exact ⟨h.1, assocWf_put tagDefault v _ k h.2.1, h.2.2⟩

theorem Memory.wf_setErr (m : Memory) (k : Nat) (v : BitVec 176) (h : m.wf = true) : (m.setErr k v).wf = true := by
  rw [Memory.wf_iff] at h ⊢
  exact ⟨h.1, h.2.1, assocWf_put (fun _ => (0 : BitVec 176)) v _ k h.2.2⟩

theorem Memory.wf_write (m : Memory) (k : Nat) (l : List Byte) (h : m.wf = true) : (m.write k l).wf = true := by
  induction l generalizing m k with
  | nil => exact h
  | cons b l ih => exact ih _ _ (m.wf_setByte k b h)

theorem Memory.wf_setCell (m : Memory) (k : Nat) (c : MCell) (h : m.wf = true) : (m.setCell k c).wf = true :=
  Memory.wf_setErr _ _ _ (Memory.wf_setTag _ _ _ (Memory.wf_write _ _ _ h))

theorem Memory.wf_empty : Memory.empty.wf = true := by decide

/-- A byte reads as last written, and a write leaves every other byte. -/
theorem Memory.byte_setByte (m : Memory) (k i : Nat) (v : Byte) (h : m.wf = true) :
    (m.setByte k v).byte i = if i = k then v else m.byte i :=
  assocGet_put byteDefault v m.bytes k i ((Memory.wf_iff m).1 h).1.1

/-- A tag reads as last written, and a write leaves every other tag. -/
theorem Memory.tag_setTag (m : Memory) (k i : Nat) (v : Byte) (h : m.wf = true) :
    (m.setTag k v).tag i = if i = k then v else m.tag i :=
  assocGet_put tagDefault v m.tags k i ((Memory.wf_iff m).1 h).2.1.1

@[simp] theorem Memory.byte_setTag (m : Memory) (k i : Nat) (v : Byte) : (m.setTag k v).byte i = m.byte i := rfl
@[simp] theorem Memory.byte_setErr (m : Memory) (k i : Nat) (v : BitVec 176) : (m.setErr k v).byte i = m.byte i := rfl

/-- A write of bytes leaves every byte outside them. -/
theorem Memory.byte_write_out (m : Memory) (k i : Nat) (l : List Byte) (h : m.wf = true) (hi : i < k ∨ k + l.length ≤ i) :
    (m.write k l).byte i = m.byte i := by
  induction l generalizing m k with
  | nil => rfl
  | cons b l ih =>
    simp only [List.length_cons] at hi
    have := ih _ (k + 1) (m.wf_setByte k b h) (by omega)
    simp only [Memory.write, this, Memory.byte_setByte m k i b h]
    rw [if_neg (by omega)]

theorem length_toBytes (n v : Nat) : (toBytes n v).length = n := by
  induction n generalizing v with
  | zero => rfl
  | succ n ih => simp [toBytes, ih]

/-- Writing a cell leaves every byte outside it. -/
theorem Memory.byte_setCell_out (m : Memory) (k i : Nat) (c : MCell) (h : m.wf = true) (hi : i < alignDown k 16 ∨ alignDown k 16 + 16 ≤ i) :
    (m.setCell k c).byte i = m.byte i := by
  simp only [Memory.setCell, Memory.byte_setErr, Memory.byte_setTag]
  exact Memory.byte_write_out m _ i _ h (by rw [length_toBytes]; exact hi)

end Sys2Proof.Machine
end

