-- ==== Sys2Proof/WellFormed.lean ====
section
/-!
DEFINITION. WellFormed.lean: which commands the hardware can be given. Operand types rule out most of what it cannot; the rest are the
encodings that R162 calls undefined in every task class, received frames too short to be frames, and more
cells or pairs than there are.
-/

namespace Sys2Proof

/-- M format (R141, R142): SIZE up to 0b100, MODE up to 0b011, and IX[4:2] zero in the modes that use MODk. -/
def mWf (ix : Reg) (mode size : BitVec 3) : Bool :=
  decide (size.toNat ≤ 4) && decide (mode.toNat ≤ 3) && (decide (mode.toNat < 2) || decide (ix.toNat < 4))

/-- LDX (R141 to R143): SX only for 1, 2 or 4 bytes, and no write-back into rd. -/
def ldxWf (rd rs1 ix : Reg) (mode size : BitVec 3) (sx : Bool) : Bool :=
  mWf ix mode size && (!sx || decide (size.toNat ≤ 2)) && (mode == 0 || rd != rs1)

/-- The system register numbers of Table 03-14. -/
def sysRegWf (sr : BitVec 12) : Bool :=
  let n := sr.toNat
  decide (n ≤ 5) || n == 8 || decide (0x10 ≤ n ∧ n ≤ 0x12) || decide (0x14 ≤ n ∧ n ≤ 0x16) || decide (0x18 ≤ n ∧ n ≤ 0x1A) ||
  decide (0x20 ≤ n ∧ n ≤ 0x23) || decide (0x30 ≤ n ∧ n ≤ 0x33) || decide (0x100 ≤ n ∧ n ≤ 0x10D) || n == 0x180 || n == 0x181

/-- The system registers marked RO (Table 03-14). -/
def sysRegRo (sr : BitVec 12) : Bool :=
  let n := sr.toNat
  decide (1 ≤ n ∧ n ≤ 5) || decide (0x30 ≤ n ∧ n ≤ 0x33) || n == 0x107

/-- Is a command well-formed. -/
def Instr.wf : Instr → Bool
  | .shi _ _ _ _ imm => decide ((imm.toNat >>> 6) ≤ 4)
  | .sel _ _ cond _ _ _ => cond != 15
  | .cmov _ _ cond _ _ => cond != 15
  | .b _ _ cond _ => cond != 15
  | .ldx _ _ rd rs1 ix mode size sx => ldxWf rd rs1 ix mode size sx
  | .stx _ _ _ _ ix mode size => mWf ix mode size
  | .ldu _ _ rd rs1 ix mode size sx => ldxWf rd rs1 ix mode size sx
  | .stu _ _ _ _ ix mode size => mWf ix mode size
  | .gsr _ _ _ sr => sysRegWf sr
  | .ssr _ _ sr _ => sysRegWf sr && !sysRegRo sr
  | .loop _ _ lvl _ end13 => lvl != 3 && end13 != 0
  | .loopi _ _ lvl _ end13 => lvl != 3 && end13 != 0
  | .lclr _ _ lvl => lvl != 3
  | .macr _ _ w _ _ _ _ => w != 3
  | .macru _ _ w _ _ _ _ => w != 3
  | .macrq _ _ w _ _ _ _ => w != 3
  | .lins _ _ w _ _ k => decide (k.toNat * 2 ^ w.toNat < 16)
  | .lext _ _ w _ _ k => decide (k.toNat * 2 ^ w.toNat < 16)
  | .lexts _ _ w _ _ k => decide (k.toNat * 2 ^ w.toNat < 16)
  | .lpacks _ _ w _ _ _ => w != 3
  | .lpackus _ _ w _ _ _ => w != 3
  | .lwidenLo _ _ w _ _ => w != 3
  | .lwidenHi _ _ w _ _ => w != 3
  | .mac _ _ w _ _ _ => w != 3
  | .macu _ _ w _ _ _ => w != 3
  | .msu _ _ w _ _ _ => w != 3
  | .macq _ _ w _ _ _ => w != 3
  | .anarrow _ _ w _ _ _ => w != 3
  | .partnerFrameReceive _ f => decide (f.bytes.length = 124)
  | .enumReceive _ f => decide (20 ≤ f.bytes.length)
  | .syncReceive _ f => decide (20 ≤ f.bytes.length)
  | .dreqReceive _ f => decide (20 ≤ f.bytes.length)
  | .drspReceive _ f => decide (20 ≤ f.bytes.length)
  | .mbxFrameReceive _ f => decide (20 ≤ f.bytes.length)
  | .budgetFrameReceive _ f => decide (20 ≤ f.bytes.length)
  | .ethFrameReceive _ wire => decide (64 ≤ wire.length)
  | .l1dLineFill _ upset => decide (upset.length ≤ 4)
  | .channelCrossCheck failed => failed.all (fun n => decide (n < 512))
  | .add .. | .addu .. | .sub .. | .subu .. | .neg .. | .cmp .. | .and .. | .or .. | .xor .. | .andn .. | .orn .. | .tst .. | .sll ..
  | .srl .. | .sra .. | .rol .. | .ror .. | .min .. | .max .. | .minu .. | .maxu .. | .clz .. | .ctz .. | .popc .. | .sxb .. | .sxh ..
  | .sxw .. | .zxb .. | .zxh .. | .zxw .. | .mul .. | .mulu .. | .mulh .. | .mulhu .. | .div .. | .divu .. | .rem .. | .remu .. | .addi ..
  | .addui .. | .andi .. | .ori .. | .xori .. | .cmpi .. | .movi .. | .movk .. | .jal .. | .jr .. | .cmove .. | .cmoveSet .. | .cmoveAdd ..
  | .cmoveAddi .. | .cnarrow .. | .cmask .. | .cseal .. | .copen .. | .ckind .. | .ckindPerm .. | .ckindOtype .. | .ckindLin .. | .cbase ..
  | .cbaseCur .. | .clen .. | .clenR .. | .clenM .. | .ldb .. | .ldbu .. | .ldh .. | .ldhu .. | .ldw .. | .ldwu .. | .ldd .. | .ldq ..
  | .stb .. | .sth .. | .stw .. | .std .. | .stq .. | .tas .. | .lres .. | .scnd .. | .barAcq .. | .barRel .. | .barFull .. | .msync ..
  | .trap .. | .nop .. | .xret .. | .pflush .. | .pbar .. | .tinvAll .. | .tinvAsid .. | .tinvVa .. | .tinvBcast .. | .wait .. | .cpyb ..
  | .fillb .. | .fillbP .. | .sweep .. | .longChunk .. | .ladd .. | .ladds .. | .laddus .. | .lsub .. | .lsubs .. | .lsubus .. | .lmul ..
  | .lmulq .. | .lmin .. | .lmax .. | .lminu .. | .lmaxu .. | .labs .. | .lnegs .. | .land .. | .lor .. | .lxor .. | .landn .. | .lsll ..
  | .lsrl .. | .lsra .. | .lsplat .. | .lperm .. | .lrev .. | .lziplo .. | .lziphi .. | .lunzipe .. | .lunzipo .. | .pcmpEq .. | .pcmpNe ..
  | .pcmpLt .. | .pcmpLe .. | .pcmpLtu .. | .pcmpLeu .. | .pand .. | .por .. | .pxor .. | .pandn .. | .pnot .. | .pset .. | .pget ..
  | .ptail .. | .azero .. | .asetlo .. | .asethi .. | .agetlo .. | .agethi .. | .areduce .. | .asat .. | .amove ..
  | .storeBufferWrite .. | .impreciseUmeEntry .. | .wrongPathFetch .. | .lineageFilterFill .. | .tableWalk .. | .tlbEntryExpire ..
  | .bcastInvalidateAck .. | .eventDelivery .. | .eventEntry .. | .schedulingDecision .. | .taskSwitch .. | .sliceExpiry .. | .evrRaise ..
  | .evrBind .. | .bind .. | .unbind .. | .suspend .. | .resume .. | .wake .. | .spill .. | .query .. | .reload ..
  | .schedCommandComplete .. | .alloc .. | .revoke .. | .retire .. | .free .. | .mint .. | .read .. | .check .. | .filterInvalidateAck ..
  | .linBroadcastTimeout | .linCommandComplete | .mpuRattr .. | .mpuSync .. | .mpuSyncDone .. | .mpuFinfoClear .. | .ceWriteBack ..
  | .apply .. | .applyComplete .. | .dramTrainingComplete .. | .dqsRetrain .. | .scrubPassStart .. | .scrubCellRead .. | .scrbFillStart ..
  | .scrbFillComplete .. | .smHead .. | .smBurst .. | .smRestart .. | .smErrClear .. | .forcedSignaturePoint .. | .signatureCompare ..
  | .signatureTimeout .. | .leadTimeout .. | .gatedActTimeout .. | .unpairedActForward .. | .engineHang .. | .clockMonitorWindow ..
  | .supplyMonitorTrip .. | .caliperSelfTest .. | .monitorSelfTest .. | .vermilionEdge | .safeOutputMismatch .. | .kickWindowExpire
  | .modeCopyMismatch | .safeMode .. | .safeKick .. | .safeKcfg .. | .safePol .. | .cretalLockstepMismatch | .partnerFrameTransmit ..
  | .descRetry .. | .cmdRetransmit .. | .portCmd .. | .portLinken .. | .portCtlRestart .. | .portDmaBurst .. | .portDmaErrClear ..
  | .coarse .. | .fine .. | .abort .. | .tdrNoconfTimeout .. | .tdrProbe .. | .tdrResultWrite .. | .senseRun .. | .senseSingle ..
  | .senseConversion .. | .senseStatRead .. | .noiseStart .. | .noiseMeasurementComplete .. | .enumSend | .syncSend | .syncTimeout
  | .dreqSend .. | .budgetFrameSend | .budgetShareTimeout | .trunkLinkDown .. | .timeSetHi .. | .ethTxcmd .. | .ethTransmitComplete ..
  | .ethLinkChange .. | .mbxReqWrite .. | .ring .. | .ack .. | .take .. | .done .. | .mbxReset .. | .cretalEventService
  | .cretalPeriodicScan | .getInfo .. | .heartbeat .. | .getHealth .. | .readLog .. | .imgList .. | .imgWrite .. | .imgCommit ..
  | .imgErase .. | .lifecycle .. | .otpKey .. | .engineStart .. | .taskCreate .. | .taskSuspend .. | .taskResume .. | .taskUnbind ..
  | .taskQuery .. | .taskReload .. | .eventBind .. | .linAlloc .. | .grant .. | .linRevoke .. | .linRetire .. | .linSwept .. | .linQuery ..
  | .portDiscover .. | .portStatus .. | .portRestart .. | .tdrRun .. | .calWrite .. | .senseNoise .. | .decSet .. | .powerStatus ..
  | .tilePower .. | .budgetSet .. | .modeGet .. | .runCommit .. | .safeEnter .. | .recover .. | .policyRaise .. | .timeStatus ..
  | .timeSet .. | .trunkStatus .. | .remote .. | .remoteRetry .. | .dbgChallenge .. | .dbgResponse .. | .dbgClose .. | .authLockoutExpire
  | .backgroundCommandComplete .. | .engRel .. | .clkTile .. | .pwrTileReq .. | .pwrBudget .. | .tileWakeStart .. | .tileWakeComplete ..
  | .tileIdleEntry .. | .tileNapEntry .. | .pwrDevctl .. | .dormantWake .. | .umbAlarmExpire | .x32CrystalLoss | .pllLockLoss ..
  | .thermalReading .. | .thermalLimitStep | .powerOnReset .. | .warmReset | .rstDev .. | .rstTile .. | .rstEng ..
  | .engineResetComplete .. | .extest .. | .idcode | .samplePreload .. | .bypass | .busRead .. | .busWrite .. | .cellKindRead ..
  | .engineStateRead .. | .engineStateWrite .. | .dbgaccComplete | .dbgHalt .. | .step .. | .dbgResume .. | .engineHalt ..
  | .coupledHalt .. | .dbgAuth .. | .dbgPmcfgClr .. | .registerWrite .. | .illegalInstruction .. | .trunkLinkUp .. | .trunkFrameError ..
  | .pllRelock .. | .romBoot .. | .tileResetComplete .. => true

end Sys2Proof
end

