-- ==== Sys2Proof/Tests/Slice0.lean ====
section
/-!
SUPPORT. Tests/Slice0.lean: small states that meet the hypotheses of the statements, words written out from Table 03-2, ill-formed terms, and
one step of a command or two of each family.
-/

namespace Sys2Proof.Machine
open Sys2Proof

set_option maxRecDepth 20000
set_option Elab.async false
/-- A capability over all of memory with every permission and lineage 0, and its cursor. -/
def wCap (a : Nat) : Cell := { bits := capImage 0 0 0 0x3FF 0x2000 0 43 a, kind := .cap }
def wRegs : Map Word := Map.put 0x10 State.reset.regs (regKey 2 0x100)
/-- Engine 0 at level Rest about to execute the word `w` at address 0, in a chuck with the registers `rs`. -/
def wEngine (w : Word) (cur : Nat) (rs : Map Cell) : Engine :=
  { Engine.reset with
    held := false, level := .rest, cur := cur, sys := [(0x10A, 0x1D)]
    chucks := [(cur, { Chuck.empty with pcc := wCap 0, regs := rs, sys := [(0, 0x30300)] })]
    l1i := [.filled 0 [{ bits := w.setWidth 128, tag := 0 }]], l1d := [.filled 0x60 [{ bits := 0xFFEEDDCCBBAA99887766554433221180, tag := 0 }]] }
def wState (w : Word) (cur : Nat) (rs : Map Cell) : State :=
  { State.reset with eng := [(0, wEngine w cur rs)], regs := wRegs, safe := { Safe.reset with modeA := .run, modeB := .run } }

/-- The machine around the engine: tile 0 runs, the mode is RUN. -/
def wBase : State := { State.reset with regs := wRegs, safe := { Safe.reset with modeA := .run, modeB := .run } }
theorem wState_regs (w : Word) (cur : Nat) (rs : Map Cell) : (wState w cur rs).regs = wRegs := rfl
theorem wState_engine (w : Word) (cur : Nat) (rs : Map Cell) : (wState w cur rs).engine 0 = wEngine w cur rs := rfl
theorem wState_fld (w : Word) (cur : Nat) (rs : Map Cell) (b o hi lo : Nat) : (wState w cur rs).fld b o hi lo = wBase.fld b o hi lo := rfl
theorem wState_effFld (w : Word) (cur : Nat) (rs : Map Cell) (b o hi lo : Nat) : (wState w cur rs).effFld b o hi lo = wBase.effFld b o hi lo := rfl
theorem wState_region (w : Word) (cur : Nat) (rs : Map Cell) (a : Nat) : (wState w cur rs).region a = wBase.region a := rfl
theorem wState_tile (w : Word) (cur : Nat) (rs : Map Cell) : (wState w cur rs).tileCur 0 = 0 := by
  have h : wBase.tileCur 0 = 0 := by decide
  exact h
theorem wState_paired (w : Word) (cur : Nat) (rs : Map Cell) (e : Nat) : (wState w cur rs).pairedEng e = wBase.pairedEng e := rfl

theorem wState_ready (w : Word) (cur : Nat) (rs : Map Cell) : (wState w cur rs).ready 0 = true := by
  simp [State.ready, wState_engine, wEngine, Engine.reset, DbgEngine.reset, tileOf, wState_tile]
theorem wState_go (w : Word) (cur : Nat) (rs : Map Cell) : (wState w cur rs).pairGo 0 = true := by
  simp [State.pairGo, inB]
theorem wState_mpu (w : Word) (cur : Nat) (rs : Map Cell) (p : Bool) (mt : MemType) (l src : Nat) :
    (wState w cur rs).mpuCheck (.engine (BitVec.ofNat 10 0)) 0 .exec true p mt l src = (0, wState w cur rs) := by
  apply mpuCheck_open
  · apply mpuWin_none
    have h : ∀ k < 16, wBase.fld 0x20 (0x1000 + 16 * k + 12) 31 31 = 0 := by decide
    exact h
  · have h : wBase.mpuStrict (.engine (BitVec.ofNat 10 0)) = false := by decide
    exact h
  · have h : wBase.execRow 0 = true := by decide
    exact .inr h
theorem wState_line (w : Word) (cur : Nat) (rs : Map Cell) :
    (fetchLine 0 0).run (wState w cur rs) = .ok { bits := w.setWidth 128, tag := 0 } (wState w cur rs) := by
  have h : (wState w cur rs).updEngine 0 (fun x => x.putL1i (.filled 0 [{ bits := w.setWidth 128, tag := 0 }])) = wState w cur rs := rfl
  have hf : l1Find ((wState w cur rs).engine 0).l1i (keyOf 0 0 / 64) = some (.filled 0 [{ bits := w.setWidth 128, tag := 0 }]) := rfl
  have hc : (wState w cur rs).hitCell (.filled 0 [{ bits := w.setWidth 128, tag := 0 }]) (keyOf 0 0 % 64) =
      (some { bits := w.setWidth 128, tag := 0 }, wState w cur rs) := hitCell_clean _ _ _ rfl
  simp only [fetchLine, em_bind, em_get, hf, hc]
  rfl
theorem wState_bp (w : Word) (cur : Nat) (rs : Map Cell) (a : Nat) : (bpFetch 0 a).run (wState w cur rs) = .ok () (wState w cur rs) := by
  have h : ∀ k, (wState w cur rs).bpArmed 0 k = false := by
    intro k
    simp [State.bpArmed, wState_engine, wEngine, Map.get, Engine.reset, DbgEngine.reset, bit]
  simp [bpFetch, h, bpTake]
theorem wState_cap (s : State) : (capTests 0 (wCap 0) 0 4 [.ex] none 3 false).run s = .ok () s :=
  capTests_ok 0 (wCap 0) 0 4 [.ex] none 3 false s rfl rfl rfl rfl rfl (by decide) (by decide)
theorem wState_fetch (w : Word) (cur : Nat) (rs : Map Cell) : (fetch 0 false).run (wState w cur rs) = .ok w (wState w cur rs) := by
  have hp : ((wState w cur rs).chuck 0).pcc = wCap 0 := by simp [State.chuck, wState_engine, wEngine, Map.get]
  have hl : ((wState w cur rs).engine 0).level = .rest := rfl
  have h : wBase.region 0 = .cluster 0 := by decide
  have hr : (wState w cur rs).region 0 = .cluster 0 := h
  have hc : capCursor (wCap 0) = 0 := by decide
  have hx := translate_rest 0 { va := 0, acc := .exec, lvl := .rest, user := false, kgu := false, inl := false, reg := none, accCode := 3 } (wState w cur rs) rfl
  have ht : kindOfTag 0 = some .raw := rfl
  have hs : (sysTest (wCap 0) 0 0 none 3).run (wState w cur rs) = .ok () (wState w cur rs) := by simp [sysTest, hr]
  have hm : ∀ p mt, (mpuE 0 0 .exec .rest p mt none 3).run (wState w cur rs) = .ok () (wState w cur rs) := by
    intro p mt
    have hk : (Level.rest != Level.t) = true := rfl
    simp only [mpuE, EStateM.run_bind, EStateM.run_get, hk, wState_mpu]
    simp
  simp only [fetch, EStateM.run_bind, EStateM.run_get, hp, hl, hc, wState_bp, wState_cap, hx, hs, hm, hr, wState_line, ht]
  have hw : BitVec.ofNat 32 (w.toNat % 2 ^ 128) = w := by
    apply BitVec.eq_of_toNat_eq
    have := w.isLt
    simp
    omega
  simpa using hw

/-- A word that the class of the chuck executes runs. -/
theorem wState_runs (w : Word) (cur : Nat) (rs : Map Cell) (h : legalWord w (cur != 7) true = true)
    (hg : cur = 7 ∨ streamMajor w = true ∨ wG w = 0) : Runs (wState w cur rs) 0 w (wState w cur rs) := by
  have hs : (wState w cur rs).stream 0 = (cur != 7) := by
    simp [State.stream, State.chuck, wState_engine, wEngine, Map.get, Chuck.sysr, bit]
  have ht : bit ((wState w cur rs).esys 0 0x10A) 4 = true := by simp [State.esys, wState_engine, wEngine, Map.get, bit]
  have hk : ((wState w cur rs).engine 0).level = .rest := rfl
  have hp : ((wState w cur rs).chuck 0).pcc = wCap 0 := by simp [State.chuck, wState_engine, wEngine, Map.get]
  have hy : capHas (wCap 0) .sys = true := by decide
  have hr : (wState w cur rs).fld (tileBlk (tileOf 0)) 0x300 0 0 = 0 := by
    have : wBase.fld (tileBlk (tileOf 0)) 0x300 0 0 = 0 := by decide
    exact this
  have hv : (wState w cur rs).privReason 0 w = 0 := by
    simp [State.privReason, hk, hp, hy, hr]
  refine ⟨wState_ready .., rfl, wState_go .., wState_fetch .., ?_, ?_⟩
  · simp [decodeWord, hs, ht, h, hv]
  · rcases hg with rfl | hg | hg
    · simp [State.guardOn, hs]
    all_goals simp [State.guardOn, hs, hg, Chuck.pred, bit]
/-- Every word of a list runs. -/
theorem wState_runs_all (l : List Word) (cur : Nat) (rs : Map Cell) (h : l.all (fun w => legalWord w (cur != 7) true && (cur == 7 || streamMajor w || wG w == 0)) = true) :
    ∀ w ∈ l, Runs (wState w cur rs) 0 w (wState w cur rs) := by
  intro w hw
  have h1 := List.all_eq_true.1 h w hw
  simp only [Bool.and_eq_true, Bool.or_eq_true, beq_iff_eq] at h1
  exact wState_runs w cur rs h1.1 (by tauto)

/-- Two integers in registers 1 and 2. -/
def wInts (x y : Dword) : Map Cell := [(1, intCell x), (2, intCell y)]
theorem wState_reg (w : Word) (cur : Nat) (rs : Map Cell) (r : Reg) : regOf (wState w cur rs) 0 r = if r.toNat = 0 then Cell.null else Map.get Cell.null rs r.toNat := by
  simp [regOf, State.chuck, wState_engine, wEngine, Map.get, Chuck.reg]
theorem wState_int (w : Word) (cur : Nat) (x y : Dword) : IntOp (wState w cur (wInts x y)) 0 1 x ∧ IntOp (wState w cur (wInts x y)) 0 2 y := by
  have h1 : regOf (wState w cur (wInts x y)) 0 1 = intCell x := by rw [wState_reg]; rfl
  have h2 : regOf (wState w cur (wInts x y)) 0 2 = intCell y := by rw [wState_reg]; rfl
  exact ⟨⟨.inr (by rw [h1]; rfl), by rw [h1]; simp [intCell]⟩, ⟨.inr (by rw [h2]; rfl), by rw [h2]; simp [intCell]⟩⟩

/-- The state a command answers. -/
def after (o : Host.Outcome State Fault Refusal) : State :=
  match o with
  | .next t => t
  | _ => State.reset

/-! ## Cretal's MPU as after reset -/

/-- Do the regions of Cretal's MPU stand as after reset, locked or not. -/
def asReset (s : State) : Bool :=
  (List.range 16).all (fun k => let o := 0x1000 + 16 * k
    decide (s.effReg 0x100 o = State.reset.effReg 0x100 o ∧ s.effReg 0x100 (o + 4) = State.reset.effReg 0x100 (o + 4) ∧
      s.effReg 0x100 (o + 8) = State.reset.effReg 0x100 (o + 8) ∧ (s.reg 0x100 (o + 12) = State.reset.reg 0x100 (o + 12) ∨ s.reg 0x100 (o + 12) = State.reset.reg 0x100 (o + 12) ||| 0x40000000)))
/-- The regions of Table 14-3: the first and last line and the attributes; an empty range for those not enabled. -/
def cretalRegion : Nat → Nat × Nat × Word
  | 0 => (0, 0xFFFFF, 0x80000130)
  | 1 => (0x400000, 0x43FFFF, 0x80000230)
  | 2 => (0x800000, 0xBFFFFF, 0x80000110)
  | 3 => (0x1000000, 0x1001FFF, 0x80000010)
  | 4 => (0x400000000, 0x407FFFFFF, 0x80000130)
  | 5 => (0x408000000, 0x40FFFFFFF, 0x80000130)
  | _ => (1, 0, 0)
theorem asReset_regions : ∀ k < 16, let s := State.reset; let o := 0x1000 + 16 * k
    (s.reg 0x100 (o + 12) = (cretalRegion k).2.2) ∧ (k < 6 → s.effFld 0x100 (o + 8) 5 0 * 2 ^ 32 + (s.effReg 0x100 o).toNat = (cretalRegion k).1 ∧
      s.effFld 0x100 (o + 8) 21 16 * 2 ^ 32 + (s.effReg 0x100 (o + 4)).toNat = (cretalRegion k).2.1) := by decide
theorem asReset_attr : ∀ k < 16, ∀ w, w = (cretalRegion k).2.2 ∨ w = (cretalRegion k).2.2 ||| 0x40000000 →
    (bits w 31 31 = if k < 6 then 1 else 0) ∧ bits w 9 8 = bits (cretalRegion k).2.2 9 8 ∧ ∀ i ∈ [4, 5, 6], bit w i = bit (cretalRegion k).2.2 i := by
  intro k hk w hw
  have h1 : ∀ k < 16, (bits (cretalRegion k).2.2 31 31 = if k < 6 then 1 else 0) := by decide
  have h2 : ∀ k < 16, let w := (cretalRegion k).2.2 ||| 0x40000000
    (bits w 31 31 = if k < 6 then 1 else 0) ∧ bits w 9 8 = bits (cretalRegion k).2.2 9 8 ∧ ∀ i ∈ [4, 5, 6], bit w i = bit (cretalRegion k).2.2 i := by decide
  rcases hw with rfl | rfl
  · exact ⟨h1 k hk, rfl, fun _ _ => rfl⟩
  · exact h2 k hk
theorem asReset_match {s : State} (h : asReset s = true) (k : Nat) (hk : k < 16) (pa : Nat) :
    s.mpuMatch 0x100 0x1000 k pa = decide ((cretalRegion k).1 ≤ pa / 64 ∧ pa / 64 ≤ (cretalRegion k).2.1) ∧
      bits (s.reg 0x100 (0x1000 + 16 * k + 12)) 9 8 = bits (cretalRegion k).2.2 9 8 ∧
      ∀ i ∈ [4, 5, 6], bit (s.reg 0x100 (0x1000 + 16 * k + 12)) i = bit (cretalRegion k).2.2 i := by
  have h1 := List.all_eq_true.1 h k (List.mem_range.2 hk)
  simp only [decide_eq_true_eq] at h1
  obtain ⟨ha, hb, hc, hd⟩ := h1
  obtain ⟨r1, r2⟩ := asReset_regions k hk
  have hp : pa >>> 6 = pa / 64 := Nat.shiftRight_eq_div_pow pa 6
  obtain ⟨e1, e2, e3⟩ := asReset_attr k hk (s.reg 0x100 (0x1000 + 16 * k + 12)) (by rw [← r1]; exact hd)
  refine ⟨?_, e2, e3⟩
  by_cases h6 : k < 6
  · obtain ⟨r3, r4⟩ := r2 h6
    have e3 : s.effFld 0x100 (0x1000 + 16 * k + 8) 5 0 * 2 ^ 32 + (s.effReg 0x100 (0x1000 + 16 * k)).toNat = (cretalRegion k).1 := by
      rw [← r3]; simp only [State.effFld, ha, hc]
    have e4 : s.effFld 0x100 (0x1000 + 16 * k + 8) 21 16 * 2 ^ 32 + (s.effReg 0x100 (0x1000 + 16 * k + 4)).toNat = (cretalRegion k).2.1 := by
      rw [← r4]; simp only [State.effFld, hb, hc]
    simp only [State.mpuMatch, State.fld, e1, e3, e4, hp, h6, if_true]
    simp
  · have : cretalRegion k = (1, 0, 0) := by
      match k, h6 with
      | 0, h | 1, h | 2, h | 3, h | 4, h | 5, h => omega
      | n + 6, _ => rfl
    simp only [State.mpuMatch, State.fld, e1, this, h6, if_false]
    simp
    omega
theorem asReset_decide {s : State} (h : asReset s = true) (k pa : Nat) (hk : k < 6) (acc : Access) (mt : MemType)
    (h1 : (cretalRegion k).1 ≤ pa / 64 ∧ pa / 64 ≤ (cretalRegion k).2.1)
    (ha : bit (cretalRegion k).2.2 (4 + acc.idx) = true) (hm : bits (cretalRegion k).2.2 9 8 = 0 ∨ bits (cretalRegion k).2.2 9 8 = mt.code) :
    (s.mpuDecide .cretal pa acc true false mt).1 = 0 := by
  have hw : s.mpuWin 0x100 0x1000 pa 16 = some k := by
    apply mpuWin_some s 0x100 0x1000 pa k _ 16 (by omega)
    · intro j hj hj2
      rw [(asReset_match h j hj2 pa).1]
      have hd : ∀ k < 6, ∀ j < 16, k < j → (cretalRegion k).2.1 < (cretalRegion j).1 ∨ (cretalRegion j).2.1 < (cretalRegion j).1 := by decide
      have := hd k hk j hj2 hj
      simp
      omega
    · rw [(asReset_match h k (by omega) pa).1]
      simpa using h1
  obtain ⟨_, h2, h3⟩ := asReset_match h k (by omega) pa
  have hb := h3 (4 + acc.idx) (by cases acc <;> simp [Access.idx])
  have hn : bits (cretalRegion k).2.2 9 8 ≠ 0 → bits (cretalRegion k).2.2 9 8 = mt.code := by omega
  simp only [State.mpuDecide, mpuAt, hw, if_true, hb, ha, h2]
  simp
  rw [if_neg (by tauto)]
theorem asReset_lets {s : State} (h : asReset s = true) (b o : Nat) (hb : b < 0x100) (ho : o < 0x10000) (acc : Access) (ha : acc ≠ .exec) :
    s.lets .cretal b o acc = true := by
  have h1 : regAddr b o = 0x10000000 + 0x10000 * b + o := by simp [regAddr, hb]
  have h2 := asReset_decide h 1 (regAddr b o) (by omega) acc .device (by rw [h1]; simp [cretalRegion]; omega)
    (by cases acc <;> first | rfl | exact absurd rfl ha) (.inr (by decide))
  simp [State.lets, h2]
theorem asReset_reaches {s : State} (h : asReset s = true) (hr : s.ramErrs = []) : CretalReaches s := by
  refine ⟨hr, ?_, ?_⟩
  · exact fun b o acc hb ho ha => asReset_lets h b o hb ho acc ha
  · rintro pa (⟨h1, h2⟩ | ⟨h1, h2⟩)
    · have hp : plainMt pa = .normal := by simp [plainMt]; omega
      exact asReset_decide h 2 pa (by omega) .read (plainMt pa) (by simp [cretalRegion]; omega) (by decide) (.inr (by rw [hp]; decide))
    · exact asReset_decide h 3 pa (by omega) .read (plainMt pa) (by simp [cretalRegion]; omega) (by decide) (.inl (by decide))

/-! ## Engine instructions: every word of a statement runs, with operands of the kinds it asks for -/

/-- The block as a whole: a queue, a trace buffer that holds a byte. -/
theorem test_step_runs_front : step { wBase with pending := [.bypass, .idcode] } = exec .bypass { wBase with pending := [.idcode] } := rfl
/-- An empty queue sends a byte of trace. -/
theorem test_empty_queue : (after (step { wBase with trace := { wBase.trace with buf := [1, 2] } })).trace.buf = [2] := by decide
/-- The memory of reset is canonical, so MemoryCanonical's premise is met. -/
theorem test_memory_canonical : State.reset.mem.wf = true := by decide

theorem test_sums_and_flags :
    (∀ w ∈ [encR 0 1 3 1 2 0, encR 0 1 3 1 2 1, encR 0 1 3 1 2 2, encR 0 1 3 1 2 3, encR 0 1 3 1 0 4, encI 0 3 3 1 0x1FFF, encI 0 4 3 1 0x1FFF,
      encR 0 1 0 1 2 5, encR 0 1 0 1 2 0x0D, encI 0 8 0 1 0x1FFF], Runs (wState w 7 (wInts 0xFFFFFFFFFFFFFFFF 1)) 0 w (wState w 7 (wInts 0xFFFFFFFFFFFFFFFF 1))) ∧
    ∀ w, IntOp (wState w 7 (wInts 0xFFFFFFFFFFFFFFFF 1)) 0 1 0xFFFFFFFFFFFFFFFF ∧ IntOp (wState w 7 (wInts 0xFFFFFFFFFFFFFFFF 1)) 0 2 1 :=
  ⟨wState_runs_all _ _ _ (by decide), fun w => wState_int w 7 _ _⟩
/-- ADD of all ones and 1 (R125, R128): 0, with Z and C. -/
theorem test_add : let t := after (exec (.add 0 0 3 1 2) (wState (encR 0 1 3 1 2 0) 7 (wInts 0xFFFFFFFFFFFFFFFF 1)))
    (regOf t 0 3, bits ((t.chuck 0).sysr 0) 3 0) = (intCell 0, 6) := by decide

theorem test_plain_results :
    (∀ w ∈ [0x08, 0x09, 0x0A, 0x0B, 0x0C, 0x13, 0x14, 0x18, 0x19, 0x1A, 0x1B].map (encR 0 1 3 1 2) ++ [5, 6, 7].map (fun m => encI 0 m 3 1 0x1000),
      Runs (wState w 7 (wInts 5 64)) 0 w (wState w 7 (wInts 5 64))) ∧
    ∀ w, IntOp (wState w 7 (wInts 5 64)) 0 1 5 ∧ IntOp (wState w 7 (wInts 5 64)) 0 2 64 :=
  ⟨wState_runs_all _ _ _ (by decide), fun w => wState_int w 7 _ _⟩

/-- Amounts 64 and more are in range (R127); every SHI form; the conditions of SEL and CMOV of both classes. -/
theorem test_shifts_and_selects :
    (∀ w ∈ [0x10, 0x11, 0x12].map (encR 0 1 3 1 2) ++ [0x20, 0x21, 0x22, 0x28, 0x29, 0x2A, 0x2B, 0x2C, 0x2D].map (encR 0 1 3 1 0) ++
      [0x3F, 0x7F, 0xBF, 0xFF, 0x13F].map (encI 0 9 3 1) ++ (List.range 15).map (encR 0 0x0C 3 1 2) ++ (List.range 15).map (fun c => encR 0 0x0C 3 1 0 (0x80 + c)),
      Runs (wState w 7 (wInts 1 64)) 0 w (wState w 7 (wInts 1 64))) ∧
    (∀ w ∈ (List.range 8).map (encR 0 0x0C 3 1 2), Runs (wState w 1 (wInts 1 64)) 0 w (wState w 1 (wInts 1 64))) ∧
    ∀ w c, IntOp (wState w c (wInts 1 64)) 0 1 1 ∧ IntOp (wState w c (wInts 1 64)) 0 2 64 :=
  ⟨wState_runs_all _ _ _ (by decide), wState_runs_all _ _ _ (by decide), fun w c => wState_int w c _ _⟩

theorem wState_tstat (w : Word) (cur : Nat) (rs : Map Cell) : ((wState w cur rs).chuck 0).sysr 0 = 0x30300 := by
  simp [State.chuck, wState_engine, wEngine, Map.get, Chuck.sysr]

/-- OVE and DZE are set; the largest and the least number overflow. -/
theorem test_products_and_quotients :
    (∀ w ∈ (List.range 8).map (encR 0 2 3 1 2) ++ [encR 0 1 3 1 2 0, encR 0 1 3 1 2 2, encR 0 1 3 1 0 4, encI 0 3 3 1 0x1FFF],
      Runs (wState w 7 (wInts 0x8000000000000000 0xFFFFFFFFFFFFFFFF)) 0 w (wState w 7 (wInts 0x8000000000000000 0xFFFFFFFFFFFFFFFF))) ∧
    (∀ w, IntOp (wState w 7 (wInts 0x8000000000000000 0xFFFFFFFFFFFFFFFF)) 0 1 0x8000000000000000 ∧ IntOp (wState w 7 (wInts 0x8000000000000000 0xFFFFFFFFFFFFFFFF)) 0 2 0xFFFFFFFFFFFFFFFF) ∧
    (∀ w, IntOp (wState w 7 (wInts 7 0)) 0 1 7 ∧ IntOp (wState w 7 (wInts 7 0)) 0 2 0) ∧
    (∀ w rs, oveSet (wState w 7 rs) 0 = true ∧ bit (((wState w 7 rs).chuck 0).sysr 0) 8 = true) ∧
    overflows ((0x8000000000000000 : Dword).toInt + (0xFFFFFFFFFFFFFFFF : Dword).toInt) = true ∧
    overflows ((0x7FFFFFFFFFFFFFFF : Dword).toInt - (0xFFFFFFFFFFFFFFFF : Dword).toInt) = true ∧
    overflows ((0x8000000000000000 : Dword).toInt * (0xFFFFFFFFFFFFFFFF : Dword).toInt) = true ∧
    overflows ((0x7FFFFFFFFFFFFFFF : Dword).toInt + (1 : BitVec 13).toInt) = true :=
  ⟨wState_runs_all _ _ _ (by decide), fun w => wState_int w 7 _ _, fun w => wState_int w 7 _ _,
   fun w rs => ⟨congrArg (fun v => bit v 9) (wState_tstat w 7 rs), congrArg (fun v => bit v 8) (wState_tstat w 7 rs)⟩, by decide, by decide, by decide, by decide⟩
/-- DIV by zero with DZE (R129): DZ is set and the engine, at Rest, stops with cause 0x10 of its exception in ECAUSE. -/
theorem test_div_zero : let t := after (exec (.div 0 0 3 1 2) (wState (encR 0 2 3 1 2 4) 7 (wInts 7 0)))
    (bit ((t.chuck 0).sysr 0) 4, t.esys 0 0x102, t.esys 0 0x103) = (true, 0x1000003F, 7) := by decide

theorem test_immediate_moves :
    (∀ w ∈ [encJ 0 0x0A 1 0x20000, encJ 0 0x0B 1 0x3FFFF], Runs (wState w 7 (wInts 5 0)) 0 w (wState w 7 (wInts 5 0))) ∧
    ∀ w, IntOp (wState w 7 (wInts 5 0)) 0 1 5 :=
  ⟨wState_runs_all _ _ _ (by decide), fun w => (wState_int w 7 _ _).1⟩
/-- MOVK of 0xFFFF at halfword 3 (R132). -/
theorem test_movk : regOf (after (exec (.movk 0 0 1 0x3FFFF) (wState (encJ 0 0x0B 1 0x3FFFF) 7 (wInts 5 0)))) 0 1 = intCell 0xFFFF000000000005 := by
  decide
theorem test_register_frame : Runs (wState (encR 0 1 3 1 2 0) 7 []) 0 (encR 0 1 3 1 2 0) (wState (encR 0 1 3 1 2 0) 7 []) :=
  wState_runs _ _ _ (by decide) (.inl rfl)

/-! ## Capabilities, branches and loops -/

/-- A capability of lineage 0 over `len` bytes (at most 2^13) from `base`, with permissions and object type. -/
def wNarrow (base len perm otype cursor : Nat) (k : Kind) : Cell := { bits := capImage otype 0 0 perm len base 0 cursor, kind := k }

theorem linkOk_zero (e : Nat) (c : Cell) (inl : Bool) (t : State) (hl : capLin c = 0) (hg : capGen c = 0) : (linkOk e c inl).run t = .ok true t := by
  simp [linkOk, hl, hg]

theorem wState_capOp (w : Word) (cur : Nat) (rs : Map Cell) (r : Reg) (c : Cell) (hr : r.toNat ≠ 0) (hc : Map.get Cell.null rs r.toNat = c)
    (hk : c.kind = .cap) (hm : capMalformed c = false) (hl : capLin c = 0) (hg : capGen c = 0) : CapOp (wState w cur rs) (wState w cur rs) 0 r c := by
  refine ⟨?_, hk, hm, linkOk_zero _ _ _ _ hl hg⟩
  rw [wState_reg]
  simp [hr, hc]

/-- A capability in register 1 and an integer, or an authority, in register 2. -/
def wCaps : Map Cell := [(1, wNarrow 0x1000 0x1000 0x3FF 0 0x1800 .cap), (2, intCell 0x800)]
def wSeals : Map Cell := [(1, wNarrow 0x1000 0x1000 0x3FF 0 0x1800 .cap), (2, wNarrow 1 0xFF 0x3FF 0 0xFF .cap)]
def wSealed : Map Cell := [(1, wNarrow 0x1000 0x1000 0x3FF 0xFF 0x1800 .sealed), (2, wNarrow 1 0xFF 0x3FF 0 0xFF .cap)]

/-- Both sides of the representable window (R66) and the longest length at exponent 0. -/
theorem test_capability_bounds :
    (let c := wNarrow 0x1000 0x1000 0x3FF 0 0x1800 .cap
     c.kind = .cap ∧ capMalformed c = false ∧ inWindow c 0x2FFF = true ∧ inWindow c 0x5000 = false) ∧ (0x2000 : Dword).toNat ≤ 2 ^ 56 := by decide

theorem test_capability_instructions :
    (∀ w ∈ [encR 0 0x0D 3 1 0 0, encR 0 0x0D 3 1 2 1, encR 0 0x0D 3 1 2 2, encI 0 0x0E 3 1 0x1FFF, encR 0 0x0D 3 1 2 8, encR 0 0x0D 3 1 2 9] ++
      [0x10, 0x11, 0x12, 0x13, 0x14, 0x15, 0x16, 0x17, 0x18].map (encR 0 0x0D 3 1 0), Runs (wState w 7 wCaps) 0 w (wState w 7 wCaps)) ∧
    (∀ w, CapOp (wState w 7 wCaps) (wState w 7 wCaps) 0 1 (wNarrow 0x1000 0x1000 0x3FF 0 0x1800 .cap) ∧ IntOp (wState w 7 wCaps) 0 2 0x800) ∧
    (capEncode 0x1800 0x800).isSome = true ∧
    Runs (wState (encR 0 0x0D 3 1 2 0x0A) 7 wSeals) 0 (encR 0 0x0D 3 1 2 0x0A) (wState (encR 0 0x0D 3 1 2 0x0A) 7 wSeals) ∧
    Runs (wState (encR 0 0x0D 3 1 2 0x0B) 7 wSealed) 0 (encR 0 0x0D 3 1 2 0x0B) (wState (encR 0 0x0D 3 1 2 0x0B) 7 wSealed) ∧
    (∀ w, CapOp (wState w 7 wSeals) (wState w 7 wSeals) 0 2 (wNarrow 1 0xFF 0x3FF 0 0xFF .cap) ∧ CapOp (wState w 7 wSealed) (wState w 7 wSealed) 0 2 (wNarrow 1 0xFF 0x3FF 0 0xFF .cap)) ∧
    (∀ w, regOf (wState w 7 wSealed) 0 1 = wNarrow 0x1000 0x1000 0x3FF 0xFF 0x1800 .sealed) ∧
    (let a := wNarrow 1 0xFF 0x3FF 0 0xFF .cap
     capHas a .seal = true ∧ capHas a .unseal = true ∧ capHas a .sys = true ∧ capBase a ≤ capCursor a ∧ capCursor a < capTop a ∧
     capCursor a = capOtype (wNarrow 0x1000 0x1000 0x3FF 0xFF 0x1800 .sealed)) :=
  ⟨wState_runs_all _ _ _ (by decide), fun w => ⟨wState_capOp _ _ _ _ _ (by decide) rfl rfl (by decide) (by decide) (by decide), .inr rfl, by rfl⟩, by decide,
   wState_runs _ _ _ (by decide) (.inl rfl), wState_runs _ _ _ (by decide) (.inl rfl),
   fun w => ⟨wState_capOp _ _ _ _ _ (by decide) rfl rfl (by decide) (by decide) (by decide),
     wState_capOp _ _ _ _ _ (by decide) rfl rfl (by decide) (by decide) (by decide)⟩,
   fun w => by rw [wState_reg]; rfl, by decide⟩
/-- CNARROW to the last 0x800 bytes of a capability (R68). -/
theorem test_cnarrow : let c := regOf (after (exec (.cnarrow 0 0 3 1 2) (wState (encR 0 0x0D 3 1 2 8) 7 wCaps))) 0 3
    (c.kind, capBase c, capTop c) = (.cap, 0x1800, 0x2000) := by decide
/-- CSEAL with the largest object type (R79). -/
theorem test_cseal : let c := regOf (after (exec (.cseal 0 0 3 1 2) (wState (encR 0 0x0D 3 1 2 0x0A) 7 wSeals))) 0 3
    (c.kind, capOtype c) = (.sealed, 0xFF) := by decide
/-- Each test of an access on a capability it is about (Table 02-6). -/
theorem test_capability_tests :
    ((wNarrow 0 0x1000 0x3FF 0 0 .poison).kind = .poison ∧ (intCell 0).kind = .int ∧ capMalformed (wNarrow 0 0x2001 0x3FF 0 0 .cap) = true) ∧
    ((wNarrow 0 0x1000 0x3FF 1 0 .sealed).kind = .sealed ∧ capMalformed (wNarrow 0 0x1000 0x3FF 1 0 .sealed) = false) ∧
    (∃ p ∈ [Perm.ld], capHas (wNarrow 0 0x1000 0x3FE 0 0 .cap) p = false) ∧
    (capTop (wNarrow 0 0x1000 0x3FF 0 0 .cap) < 0xFFD + 4 ∧ 0xFFC + 4 ≤ capTop (wNarrow 0 0x1000 0x3FF 0 0 .cap)) := by decide

theorem test_branches_and_jumps :
    (∀ w ∈ [encB 0 14 1, encB 0 0 1, encJ 0 0x22 3 0x1FFFF, encR 0 0x23 3 1 0 0], Runs (wState w 7 wCaps) 0 w (wState w 7 wCaps)) ∧
    condHolds 14 false false false false = true ∧ condHolds 0 false false false false = false ∧
    (∀ w, ((wState w 7 wCaps).chuck 0).pcc = wCap 0 ∧ ((wState w 7 wCaps).engine 0).level = .rest) ∧ capBase (wCap 0) ≤ 4 ∧ 4 + 4 ≤ capTop (wCap 0) ∧
    capTop (wCap 0) < 2 ^ 56 - 2 + 4 ∧
    (∀ w, CapOp (wState w 7 wCaps) (wState w 7 wCaps) 0 1 (wNarrow 0x1000 0x1000 0x3FF 0 0x1800 .cap)) ∧ capCursor (wNarrow 0x1000 0x1000 0x3FF 0 0x1800 .cap) % 4 = 0 ∧
    capHas (wNarrow 0x1000 0x1000 0x3FF 0 0x1800 .cap) .ex = true :=
  ⟨wState_runs_all _ _ _ (by decide), by decide, by decide, fun w => ⟨by simp [State.chuck, wState_engine, wEngine, Map.get], rfl⟩,
   by decide, by decide, by decide, fun w => wState_capOp _ _ _ _ _ (by decide) rfl rfl (by decide) (by decide) (by decide), by decide, by decide⟩
/-- JAL back by 4 from address 0 leaves the bounds' top: a Bounds Fault at the target stops the engine at Rest (R135). -/
theorem test_jal : let t := after (exec (.jal 0 0 3 1) (wState (encJ 0 0x22 3 1) 7 wCaps))
    (capCursor (t.chuck 0).pcc, capCursor (regOf t 0 3)) = (4, 4) := by decide

/-- The least and a full count, the longest body, each level. -/
theorem test_hardware_loops :
    (∀ w ∈ [encL 0 0 0 1 1, encL 0 0 0 1 0x1FFF, encL 0 0 1 0 1, encL 0 0 1 31 1, encL 0 0 2 0 0, encL 0 2 2 0 0],
      Runs (wState w 7 (wInts 0x7FFFFFFFFFFFFFFF 0)) 0 w (wState w 7 (wInts 0x7FFFFFFFFFFFFFFF 0))) ∧
    (∀ w, IntOp (wState w 7 (wInts 0x7FFFFFFFFFFFFFFF 0)) 0 1 0x7FFFFFFFFFFFFFFF) ∧
    (∀ w, ∀ j, j ≤ 2 → bits (((wState w 7 (wInts 0x7FFFFFFFFFFFFFFF 0)).chuck 0).sysr (0x18 + j)) 62 0 = 0) ∧
    (let u := (wState 0 7 []).updEngine 0 (fun x => { x with level := .k })
     let v : Nat → State := fun n => u.updChuck 0 (fun c => (c.setSysr 0x14 0).setSysr 0x18 (BitVec.ofNat 64 (2 ^ 63 + n)))
     (u.engine 0).level ≠ .rest ∧ ∀ n, n = 1 ∨ n = 2 → bits (((v n).chuck 0).sysr 0x18) 62 0 = n ∧ (((v n).chuck 0).sysr 0x14).toNat = 0 ∧
       bit (((v n).chuck 0).sysr 0x18) 63 = true) :=
  ⟨wState_runs_all _ _ _ (by decide), fun w => (wState_int w 7 _ _).1,
   fun w j hj => by
     have h : ¬(0 = 24 + j) := by omega
     simp [State.chuck, wState_engine, wEngine, Map.get, Chuck.sysr, bits, h], by
    refine ⟨by decide, ?_⟩
    rintro n (rfl | rfl) <;> decide⟩

/-! ## Loads, stores, atomics, ordering -/

theorem wState_noBp (w : Word) (cur : Nat) (rs : Map Cell) (k : Nat) : (wState w cur rs).bpArmed 0 k = false := by
  simp [State.bpArmed, wState_engine, wEngine, Map.get, Engine.reset, DbgEngine.reset, bit]

theorem wState_busBad (w : Word) (cur : Nat) (rs : Map Cell) (a n : Nat) (mt : MemType) (wr at' : Bool) :
    (wState w cur rs).busBad a n mt wr at' = wBase.busBad a n mt wr at' := by
  simp only [State.busBad, wState_region]

/-- An aligned access to memory at level Rest, through a capability that allows it, passes every check. -/
theorem wState_access (w : Word) (cur : Nat) (rs : Map Cell) (r : DReq) (t9 : EM Unit) (hal : r.a % r.n = 0) (hk : r.cap.kind = .cap)
    (hm : capMalformed r.cap = false) (hl : capLin r.cap = 0) (hg : capGen r.cap = 0) (hn : r.need.all (capHas r.cap) = true)
    (hb : capBase r.cap ≤ r.a) (ht : r.a + r.n ≤ capTop r.cap) (h9 : t9.run (wState w cur rs) = .ok () (wState w cur rs))
    (hr : (∀ b o, wBase.region r.a ≠ .regs b o) ∨ capHas r.cap .sys = true) :
    (dataAccess 0 r t9).run (wState w cur rs) = .ok (r.a, plainMt r.a) (wState w cur rs) := by
  apply dataAccess_rest 0 r t9 _ hal hk hm hl hg hn hb ht h9 rfl
  · rcases hr with hr | hr
    · exact .inl (fun b o h => hr b o ((wState_region w cur rs r.a).symm.trans h))
    · exact .inr hr
  · apply mpuWin_none
    have h : ∀ k < 16, wBase.fld 0x20 (0x1000 + 16 * k + 12) 31 31 = 0 := by decide
    exact h
  · have h : wBase.mpuStrict (.engine (BitVec.ofNat 10 0)) = false := by decide
    exact h
  · exact wState_noBp w cur rs

def wPtr : Cell := wNarrow 0x1000 0x1000 0x3FF 0 0x1800 .cap
/-- A capability at the last 16-byte cell but one of line 0x1800, with a register of an index and one of data. -/
def wMem : Map Cell := [(1, wPtr), (2, intCell 0), (3, intCell 0xF1F2F3F4F5F6F7F8)]

theorem wState_reaches (w : Word) (wr user : Bool) : ∀ n ∈ [1, 2, 4, 8, 16], Reaches (wState w 7 wMem) (wState w 7 wMem) 0 1 wPtr 0x1800 n wr user (pure ()) 0x1800 .normal := by
  intro n hn
  refine ⟨?_, ?_, ?_⟩
  · have f : wPtr.kind = .cap ∧ capMalformed wPtr = false ∧ capLin wPtr = 0 ∧ capGen wPtr = 0 ∧ capBase wPtr ≤ 0x1800 := by decide
    have h1 : ∀ n ∈ [1, 2, 4, 8, 16], 0x1800 % n = 0 ∧ 0x1800 + n ≤ capTop wPtr := by decide
    have h2 : ∀ wr : Bool, [if wr then Perm.st else Perm.ld].all (capHas wPtr) = true := by decide
    have hr : wBase.region 0x1800 = .cluster 0 := by decide
    exact wState_access _ _ _ _ _ (h1 n hn).1 f.1 f.2.1 f.2.2.1 f.2.2.2.1 (h2 wr) f.2.2.2.2 (h1 n hn).2 rfl
      (.inl (fun b o h => by rw [hr] at h; cases h))
  · have h : ∀ n ∈ [1, 2, 4, 8, 16], ∀ wr, wBase.busBad 0x1800 n .normal wr false = false := by decide
    exact (wState_busBad w 7 wMem 0x1800 n .normal wr false).trans (h n hn wr)
  · intro b o h'
    have h : wBase.region 0x1800 = .cluster 0 := by decide
    have h2 := (wState_region w 7 wMem 0x1800).symm.trans h'
    rw [h] at h2; cases h2
theorem wState_sees (w : Word) : ∀ n ∈ [1, 2, 4, 8, 16], Sees (wState w 7 wMem) 0 0x1800 n .normal
    { bits := 0xFFEEDDCCBBAA99887766554433221180, tag := 0 } (wState w 7 wMem) := by
  intro n hn reg miss
  have hs : ((wState w 7 wMem).engine 0).sb = [] := rfl
  have hk : keyOf 0 0x1800 = 0x1800 := by decide
  have hl : l1Find ((wState w 7 wMem).engine 0).l1d (0x1800 / 64) = some (L1Line.filled 0x60 [{ bits := 0xFFEEDDCCBBAA99887766554433221180, tag := 0 }]) := rfl
  have hc : ∀ n ∈ [1, 2, 4, 8, 16], sbCovers [] (alignDown 0x1800 16) (0x1800 % 16) n = false := by decide
  have hv : (BitVec.toNat (0 : Eid)) = 0 := rfl
  simp only [loadMem, em_bind, em_get, hv, hk, hs, hl, hc n hn]
  rfl

theorem test_loads :
    (∀ w ∈ [0x10, 0x11, 0x12, 0x13, 0x14, 0x15, 0x16, 0x17].map (fun m => encI 0 m 4 1 0) ++
        (List.range 5).flatMap (fun n => [encM 0 0x1D 4 1 2 0 (BitVec.ofNat 3 n) (decide (n < 3)) false, encM 0 0x1D 4 1 8 1 (BitVec.ofNat 3 n) false true]),
      Runs (wState w 7 wMem) 0 w (wState w 7 wMem)) ∧
    (∀ w user, ∀ n ∈ [1, 2, 4, 8, 16], Reaches (wState w 7 wMem) (wState w 7 wMem) 0 1 wPtr 0x1800 n false user (pure ()) 0x1800 .normal) ∧
    (∀ w, ∀ n ∈ [1, 2, 4, 8, 16], Sees (wState w 7 wMem) 0 0x1800 n .normal { bits := 0xFFEEDDCCBBAA99887766554433221180, tag := 0 } (wState w 7 wMem)) ∧
    (∀ w, IntOp (wState w 7 wMem) 0 2 0 ∧ regOf (wState w 7 wMem) 0 1 = wPtr) ∧ kindOfTag 0 = some .raw ∧
    (capCursor wPtr + ((0 : BitVec 13).signExtend 56).toNat) % 2 ^ 56 = 0x1800 ∧
    (∀ w n, (Addr.eval (addrOf 1 8 n) 0 wPtr (2 ^ n) (some 1) 1).run (wState w 7 wMem) = .ok (0x1800, some ((capCursor wPtr + wrap 56 (signed 5 8 * (2 ^ n : Nat))) % 2 ^ 56)) (wState w 7 wMem)) ∧
    (let t := (wState 0 7 wMem).updChuck 0 (fun c => c.setSysr 0x20 0xFFFF00000040)
     let md := (t.chuck 0).sysr 0x20
     md.toNat % 2 ^ 28 = 64 ∧ bit md 47 = true ∧ ((wState 0 7 wMem).chuck 0).sysr 0x20 = 0 ∧ (wPtr.kind = .cap ∧ capMalformed wPtr = false) ∧ 64 / 4 = 2 ^ 4) :=
  ⟨wState_runs_all _ _ _ (by decide), fun w user n hn => wState_reaches w false user n hn, wState_sees,
   fun w => ⟨⟨.inr (by rw [wState_reg]; rfl), by rw [wState_reg]; decide⟩, by rw [wState_reg]; rfl⟩, rfl, by decide, fun w n => rfl, by decide⟩
/-- LDB of a byte with its top bit set (R146). -/
theorem test_ldb : regOf (after (exec (.ldb 0 0 4 1 0) (wState (encI 0 0x10 4 1 0) 7 wMem))) 0 4 = intCell 0xFFFFFFFFFFFFFF80 := by decide
/-- LDU of a word with post-increment (R142). -/
theorem test_ldu : let t := after (exec (.ldu 0 0 4 1 8 1 2 false) (wState (encM 0 0x1D 4 1 8 1 2 false true) 7 wMem))
    (regOf t 0 4, capCursor (regOf t 0 1)) = (intCell 0x33221180, 0x1820) := by decide

/-- Buffered bytes, a line of L1D, a miss, a DEVICE page. -/
def wMiss : LoadReq := { rd := 4, n := 4, sx := false, base := wPtr, rs1 := 1, wb := none, va := 0x1840, pa := 0x1840, refetch := false, sync := false }
theorem test_load_path :
    (sbCovers [{ cell := 0x1800, ofs := 4, n := 8, data := 1, kind := .raw, sync := false }] 0x1800 8 4 = true ∧ sbCovers [] 0x1800 8 4 = false) ∧
    (let x := (wState 0 7 wMem).engine 0
     l1Find x.l1d (keyOf 0 0x1800 / 64) ≠ none ∧ l1Find x.l1d (keyOf 0 0x1840 / 64) = none ∧ x.sb = []) ∧
    (let s := (wState 0 7 wMem).updEngine 0 (fun x => { x with load := some wMiss })
     (s.engine 0).load = some wMiss ∧ s.mem.errs = [] ∧ kindOfTag (s.mem.cell 0x1840).tag = some .poison ∧ wMiss.rd ≠ 0 ∧ wMiss.n ≤ 16) := by decide
/-- A line that returns completes the load: the kind of an unwritten cell is POISON (R59, R206). -/
theorem test_l1d_line_fill : let u := after (exec (.l1dLineFill 0 []) ((wState 0 7 wMem).updEngine 0 (fun x => { x with load := some wMiss })))
    (((u.chuck 0).reg 4).kind, (u.engine 0).load, (l1Find (u.engine 0).l1d (0x1840 / 64)).isSome) = (.poison, none, true) := by decide
/-- The upset of a line is there for its next read (R208). -/
theorem test_line_upset : let u := after (exec (.l1dLineFill 0 [0x101]) ((wState 0 7 wMem).updEngine 0 (fun x => { x with load := some wMiss })))
    (l1Find (u.engine 0).l1d (0x1840 / 64)).map (fun l => (l.err 0, l.err 16)) = some (0x101, 0) := by decide

theorem test_stores :
    (∀ w ∈ [0x18, 0x19, 0x1A, 0x1B, 0x1C].map (fun m => encI 0 m 3 1 0) ++
        (List.range 5).flatMap (fun n => [encM 0 0x1E 3 1 2 0 (BitVec.ofNat 3 n) false false, encM 0 0x1E 3 1 8 1 (BitVec.ofNat 3 n) false true]),
      Runs (wState w 7 wMem) 0 w (wState w 7 wMem)) ∧
    (∀ w user, ∀ n ∈ [1, 2, 4, 8, 16], Reaches (wState w 7 wMem) (wState w 7 wMem) 0 1 wPtr 0x1800 n true user (pure ()) 0x1800 .normal) ∧
    (∀ w, (regOf (wState w 7 wMem) 0 3).kind = .int ∧ ((wState w 7 wMem).engine 0).sb = [] ∧
      (test9 wPtr (intCell 0xF1F2F3F4F5F6F7F8) 0x1800 (some 1)).run (wState w 7 wMem) = .ok () (wState w 7 wMem) ∧
      (storeKind 0 (intCell 0xF1F2F3F4F5F6F7F8) false).run (wState w 7 wMem) = .ok .int (wState w 7 wMem)) ∧
    (let b : SbEntry := { cell := 0x1800, ofs := 12, n := 4, data := 5, kind := .raw, sync := false }
     let s := (wState 0 7 wMem).updEngine 0 (fun x => { x with sb := [b] })
     s.mem.wf = true ∧ (s.engine 0).sb = [b] ∧ b.cell % 16 = 0 ∧ s.mem.err b.cell = 0 ∧ b.ofs + b.n ≤ 16) :=
  ⟨wState_runs_all _ _ _ (by decide), fun w user n hn => wState_reaches w true user n hn,
   fun w => ⟨by rw [wState_reg]; rfl, rfl, rfl, rfl⟩, by decide⟩
/-- STB at the last byte of a cell, taken to memory: the cell becomes RAW, its other bytes stay (R58). -/
theorem test_store_buffer_write :
    let s := (wState 0 7 wMem).updEngine 0 (fun x => { x with sb := [{ cell := 0x1800, ofs := 15, n := 1, data := 5, kind := .raw, sync := false }] })
    let u := after (exec (.storeBufferWrite 0) s)
    (u.mem.byte 0x180F, u.mem.byte 0x180E, u.mem.byte 0x1810, u.mem.tag 0x1800, u.mem.tag 0x1810) = (5, 0, 0, 0, 4) := by decide

/-- A sound RAW cell at 0x1800, reserved by the engine. -/
def wAtom (w : Word) (resv : Option Nat) : State :=
  ({ wState w 7 wMem with mem := State.reset.mem.setCell 0x1800 { bits := 7, tag := 0 } }).updEngine 0 (fun x => { x with resv := resv })
def runsB (s : State) (w : Word) : Bool :=
  s.ready 0 && s.pairGo 0 && (s.engine 0).long.isNone && (match (fetch 0 false).run s with | .ok v t => decide (v = w ∧ t = s) | _ => false) &&
  (match (decodeWord 0 w).run s with | .ok _ t => decide (t = s) | _ => false) && s.guardOn 0 w
theorem runs_of_runsB {s : State} {w : Word} (h : runsB s w = true) : Runs s 0 w s := by
  simp only [runsB, Bool.and_eq_true] at h
  obtain ⟨⟨⟨⟨⟨h1, h2⟩, h3⟩, h4⟩, h5⟩, h6⟩ := h
  refine ⟨h1, by simpa using h3, h2, ?_, ?_, h6⟩
  · show (fetch 0 false).run s = _
    cases hf : (fetch 0 false).run s <;> simp [hf] at h4
    simp [h4]
  · show (decodeWord 0 w).run s = _
    cases hf : (decodeWord 0 w).run s <;> simp [hf] at h5
    simp [h5]
/-- Does a computation answer the value `v` and leave the state as it was. -/
def answers {α : Type} [DecidableEq α] (x : EM α) (s : State) (v : α) : Bool := match x.run s with | .ok a t => decide (a = v ∧ t = s) | _ => false
theorem run_of_answers {α : Type} [DecidableEq α] {x : EM α} {s : State} {v : α} (h : answers x s v = true) : x.run s = .ok v s := by
  cases hf : x.run s <;> simp [answers, hf] at h
  simp [h]

theorem test_atomic_accesses :
    ((let s := wAtom (encR 0 0x1F 4 1 0 1) none; Runs s 0 (encR 0 0x1F 4 1 0 1) s ∧ (atomAccess 0 wPtr 1 [.ld, .st] true true 1 (pure ())).run s = .ok 0x1800 s) ∧
     (let s := wAtom (encR 0 0x1F 4 1 0 2) none; Runs s 0 (encR 0 0x1F 4 1 0 2) s ∧ (atomAccess 0 wPtr 16 [.ld] true false 1 (pure ())).run s = .ok 0x1800 s)) ∧
    (let s := wAtom (encR 0 0x1F 4 1 3 3) (some 0x1800)
     Runs s 0 (encR 0 0x1F 4 1 3 3) s ∧ (atomAccess 0 wPtr 16 [.st] false true 1 (test9 wPtr (regOf s 0 3) 0x1800 (some 1))).run s = .ok 0x1800 s ∧
       (storeKind 0 (regOf s 0 3) false).run s = .ok .int s) ∧
    (let s := wAtom (encR 0 0x1F 4 1 3 3) none
     Runs s 0 (encR 0 0x1F 4 1 3 3) s ∧ (atomAccess 0 wPtr 16 [.st] false true 1 (test9 wPtr (regOf s 0 3) 0x1800 (some 1))).run s = .ok 0x1800 s) ∧
    (let s := wAtom 0 none; s.mem.err 0x1800 = 0 ∧ kindOfTag (s.mem.cell 0x1800).tag = some .raw ∧ regOf s 0 1 = wPtr ∧ capCursor wPtr = 0x1800) :=
  ⟨⟨⟨runs_of_runsB (by decide), run_of_answers (by decide)⟩, ⟨runs_of_runsB (by decide), run_of_answers (by decide)⟩⟩,
   ⟨runs_of_runsB (by decide), run_of_answers (by decide), run_of_answers (by decide)⟩, ⟨runs_of_runsB (by decide), run_of_answers (by decide)⟩, by decide⟩
/-- TAS gives the old byte and stores 0x01; SCND of the cell reserved gives 0 (R150, R151). -/
theorem test_tas : let t := after (exec (.tas 0 0 4 1) (wAtom (encR 0 0x1F 4 1 0 1) none)); (regOf t 0 4, t.mem.byte 0x1800) = (intCell 7, 1) := by decide
theorem test_scnd : let t := after (exec (.scnd 0 0 4 1 3) (wAtom (encR 0 0x1F 4 1 3 3) (some 0x1800)))
    (regOf t 0 4, t.mem.byte 0x1800, (t.engine 0).resv) = (intCell 0, 0xF8, none) := by decide

theorem test_barriers_and_waits :
    (∀ w ∈ [1, 2, 3, 8].map (encR 0 0x20 0 0 0) ++ [0, 2, 3, 0x10].map (encR 0 0x27 0 0 0), Runs (wState w 7 []) 0 w (wState w 7 [])) ∧
    (∀ w, ((wState w 7 []).engine 0).sb = [] ∧ ((wState w 7 []).engine 0).level = .rest) :=
  ⟨wState_runs_all _ _ _ (by decide), fun w => ⟨rfl, rfl⟩⟩
/-- A task at level T in slot 1 and chuck 0 about to execute `w`, under page 0 and an MPU region that let it do everything. -/
def wTask (w : Word) (pend emask : BitVec 16) : State :=
  { wBase with
    regs := Map.put 0x80000077 (Map.put 0x3FFFF wRegs (regKey 0x20 0x1004)) (regKey 0x20 0x100C), eff := [(regKey 0x20 0x1004, 0x3FFFF)] ++ cretalMpuReset
    eng := [(0, { wEngine w 0 wMem with
                  level := .t, slot := 1, running := true, sys := [(0x10A, 0x12)]
                  slots := [(1, { Slot.free with st := .running, pend := pend, emask := emask, cls := true, chuck := some 0 })]
                  tlb := [{ half := false, vbase := 0, shift := 14, asid := 0, g := true, u := true, xt := true, xk := false, w := true, df := true
                            mt := .normal, pbase := 0 }] })] }
/-- At K in chuck 7 with a scheduler trap taken, or without one. -/
def wAtK (w : Word) (trap : Bool) : State :=
  (wState w 7 wMem).updEngine 0 (fun x => { x with
    level := .k, trap := trap
    tlb := [{ half := false, vbase := 0, shift := 14, asid := 0, g := true, u := false, xt := false, xk := true, w := true, df := true, mt := .normal, pbase := 0 }]
    sys := [(0x10A, 0x12)] })
theorem test_waits_of_tasks :
    Runs (wTask (encR 0 0x27 0 0 0 0x10) 1 0) 0 (encR 0 0x27 0 0 0 0x10) (wTask (encR 0 0x27 0 0 0 0x10) 1 0) ∧
    Runs (wTask (encR 0 0x27 0 0 0 0x10) 0 0xFFFF) 0 (encR 0 0x27 0 0 0 0x10) (wTask (encR 0 0x27 0 0 0 0x10) 0 0xFFFF) ∧
    Runs (wAtK (encR 0 0x27 0 0 0 0x10) true) 0 (encR 0 0x27 0 0 0 0x10) (wAtK (encR 0 0x27 0 0 0 0x10) true) ∧
    Runs (wAtK (encR 0 0x27 0 0 0 0x10) false) 0 (encR 0 0x27 0 0 0 0x10) (wAtK (encR 0 0x27 0 0 0 0x10) false) ∧
    ((wTask 0 1 0).curSlot 0).pend &&& ~~~((wTask 0 1 0).curSlot 0).emask ≠ 0 ∧ ((wTask 0 0 0xFFFF).curSlot 0).pend &&& ~~~((wTask 0 0 0xFFFF).curSlot 0).emask = 0 :=
  ⟨runs_of_runsB (by decide), runs_of_runsB (by decide), runs_of_runsB (by decide), runs_of_runsB (by decide), by decide, by decide⟩
/-- BAR.REL with a buffered store waits (R155). -/
theorem test_bar_rel : let s := (wState (encR 0 0x20 0 0 0 2) 7 wMem).updEngine 0 (fun x => { x with sb := [{ cell := 0x1800, ofs := 15, n := 1, data := 5, kind := .raw, sync := false }] })
    Runs s 0 (encR 0 0x20 0 0 0 2) s ∧ (s.engine 0).sb ≠ [] ∧ after (exec (.barRel 0 0) s) = s := ⟨runs_of_runsB (by decide), by decide, by decide⟩

/-- A register of the tile's own block, and a gated one, in reach of an unpaired engine at Rest. -/
def wDev (w : Word) (b o : Nat) : State := wState w 7 [(1, wCap (0x10000000 + b * 0x10000 + o)), (2, intCell 1)]
def devReq (b o : Nat) (wr : Bool) : DReq :=
  { cap := wCap (0x10000000 + b * 0x10000 + o), a := 0x10000000 + b * 0x10000 + o, n := 4, need := [if wr then .st else .ld], rd := !wr, wr := wr, align := true
    user := false, inl := false, reg := some 1, accCode := if wr then 2 else 1 }
theorem test_device_register_access :
    (let s := wDev (encI 0 0x15 3 1 0) 0x20 0x100
     Runs s 0 (encI 0 0x15 3 1 0) s ∧ (dataAccess 0 (devReq 0x20 0x100 false) (pure ())).run s = .ok (0x10200100, .device) s) ∧
    (let s := wDev (encI 0 0x14 3 1 0) 0x20 0x100; Runs s 0 (encI 0 0x14 3 1 0) s) ∧
    (let s := wDev (encI 0 0x1A 2 1 0) 0x20 0x100
     Runs s 0 (encI 0 0x1A 2 1 0) s ∧ (dataAccess 0 (devReq 0x20 0x100 true) (pure ())).run s = .ok (0x10200100, .device) s) ∧
    (let s := wDev (encI 0 0x1A 2 1 0) 0x1A 0x20
     Runs s 0 (encI 0 0x1A 2 1 0) s ∧ (dataAccess 0 (devReq 0x1A 0x20 true) (pure ())).run s = .ok (0x101A0020, .device) s) ∧
    (let s := wDev 0 0x20 0x100
     s.region 0x10200100 = .regs 0x20 0x100 ∧ (s.engine 0).sb = [] ∧ s.pairedEng 0 = false ∧ engineMay 0x20 false = true ∧ engineMay 0x20 true = true ∧
       gatedReg 0x20 0x100 = false ∧ (s.regWrite (.engine 0) 0x20 0x100 1).pairedEng 0 = false) ∧
    (let s := wDev 0 0x1A 0x20
     s.region 0x101A0020 = .regs 0x1A 0x20 ∧ engineMay 0x1A true = true ∧ gatedReg 0x1A 0x20 = true) ∧
    (let h : Act := { addr := 0x101A0020, data := 1, va := 0x101A0020, count := 1, sig := 0, rs1 := 1, wb := none, sync := false }
     let s := (wDev 0 0x1A 0x20).updEngine 0 (fun x => { x with act := some h })
     let f := (s.regWrite (.engine 0) 0x1A 0x20 h.data).updEngine 0 (fun x => { x with act := none })
     (s.engine 0).act = some h ∧ s.region h.addr = .regs 0x1A 0x20 ∧ f.pairedEng 0 = false ∧ (f.retire 0 .seq).pairedEng 0 = false) :=
  ⟨⟨runs_of_runsB (by decide), run_of_answers (by decide)⟩, runs_of_runsB (by decide), ⟨runs_of_runsB (by decide), run_of_answers (by decide)⟩,
   ⟨runs_of_runsB (by decide), run_of_answers (by decide)⟩, by decide, by decide, by decide⟩

/-! ## Exceptions and system instructions -/

theorem test_traps_and_illegal_words :
    Runs (wState (encI 0 0x24 0 0 0xFFF) 7 []) 0 (encI 0 0x24 0 0 0xFFF) (wState (encI 0 0x24 0 0 0xFFF) 7 []) ∧
    (∀ w : Word, let s := wState w 7 []
      s.ready 0 = true ∧ (s.engine 0).long = none ∧ s.pairGo 0 = true ∧ (fetch 0 false).run s = .ok w s) ∧
    legalWord 0xFFFFFFFF ((wState 0xFFFFFFFF 7 []).stream 0) (bit ((wState 0xFFFFFFFF 7 []).esys 0 0x10A) 4) = false :=
  ⟨wState_runs _ _ _ (by decide) (.inl rfl), fun w => ⟨wState_ready .., rfl, wState_go .., wState_fetch ..⟩, by decide⟩

/-- A task whose exceptions are taken at the handlers from 0, of which that of code 0x12 is in L1I. -/
def wEnt : State :=
  (wTask 0 0 0).updEngine 0 (fun x => { x with
    tlb := [{ half := false, vbase := 0, shift := 14, asid := 0, g := true, u := false, xt := false, xk := true, w := true, df := true, mt := .normal, pbase := 0 }]
    csys := [(0x105, wCap 0)], l1i := [.filled 0x24 [{ bits := 0, tag := 0 }]] })
def wExc : Exc := { code := 0x12, val := 5, reg := none, acc := 0 }
theorem test_exception_entry :
    ((wEnt.engine 0).level = .t ∧
     (let saved := (((wEnt.setEcell 0 0x100 (wCap 0)).setEsys 0 0x101 4).setEsys 0 0x103 5).setEsys 0 0x102 0x12
      let inK := (saved.toLevel 0 .k).sigExc 0 0x12 5
      (inK.vector 0 0x12).1 = some (wCap 0x900) ∧ (((inK.vector 0 0x12).2.setPcc 0 (wCap 0x900)).firstFetch 0).1 = true)) ∧
    (((wState 0 7 []).engine 0).level = .rest ∧ ((wState 0 7 []).engine 0).stopped = false ∧ (wState 0 7 []).pairedEng 0 = false) := by decide
/-- The entry saves and vectors (R283, R284). -/
theorem test_enter_k : let v := wEnt.enterK 0 wExc (wCap 0x40) false
    ((v.engine 0).level, (v.engine 0).cur, v.esys 0 0x102, v.esys 0 0x103, v.esys 0 0x101, capCursor (v.chuck 0).pcc, capCursor (v.ecell 0 0x100)) =
      (.k, 7, 0x12, 5, 4, 0x900, 0x40) := by decide

/-- At K in chuck 7, returning to the task of slot 1 at 0x40. -/
def wRet (w : Word) (st : Dword) : State :=
  (wAtK w false).updEngine 0 (fun x => { x with
    slot := 1, sys := [(0x10A, 0x12), (0x101, st)], csys := [(0x100, wCap 0x40)]
    slots := [(1, { Slot.free with st := .running, cls := true, chuck := some 0 })] })
theorem test_exception_return :
    (let s := wRet (encR 0 0x27 0 0 0 1) 4
     Runs s 0 (encR 0 0x27 0 0 0 1) s ∧ (s.engine 0).level = .k ∧ bit (s.esys 0 0x101) 3 = false ∧ s.xretFault 0 = 0) ∧
    (let s := wState (encR 0 0x27 0 0 0 1) 7 []; Runs s 0 (encR 0 0x27 0 0 0 1) s) ∧
    (let s := wRet (encR 0 0x27 0 0 0 1) 2; Runs s 0 (encR 0 0x27 0 0 0 1) s ∧ s.xretFault 0 ≠ 0) :=
  ⟨⟨runs_of_runsB (by decide), by decide, by decide, by decide⟩, wState_runs _ _ _ (by decide) (.inl rfl), ⟨runs_of_runsB (by decide), by decide⟩⟩
/-- XRET to level T goes to the task's chuck (R291). -/
theorem test_xret : let u := after (exec (.xret 0 0) (wRet (encR 0 0x27 0 0 0 1) 4))
    ((u.engine 0).level, (u.engine 0).cur, capCursor (u.chuck 0).pcc) = (.t, 0, 0x40) := by decide

theorem test_system_registers :
    (∀ w ∈ ([0, 1, 2, 3, 4, 5, 8, 0x10, 0x18, 0x20, 0x23, 0x30, 0x31, 0x100, 0x101, 0x102, 0x103, 0x104, 0x105, 0x106, 0x108, 0x109, 0x10A, 0x10B, 0x10D, 0x180, 0x181].map
        (fun n => encI 0 0x25 3 0 (BitVec.ofNat 13 n))) ++
      [0, 0x18, 0x1A, 0x100, 0x101, 0x102, 0x103, 0x104, 0x105, 0x106, 0x108, 0x109, 0x10A, 0x10B, 0x180, 0x181].map (fun n => encI 0 0x26 0 1 (BitVec.ofNat 13 n)),
      Runs (wState w 7 (wInts 3 1)) 0 w (wState w 7 (wInts 3 1))) ∧
    (∀ w, IntOp (wState w 7 (wInts 3 1)) 0 1 3 ∧ IntOp (wState w 7 (wInts 3 1)) 0 2 1 ∧ (wState w 7 (wInts 3 1)).pairedEng 0 = false) :=
  ⟨wState_runs_all _ _ _ (by decide), fun w => ⟨(wState_int w 7 _ _).1, (wState_int w 7 _ _).2, by
    have h : wBase.pairedEng 0 = false := by decide
    exact h⟩⟩
/-- SSR of a reserved VMODE leaves it and sets CFGERR (R158). -/
theorem test_ssr_reserved : let t := after (exec (.ssr 0 0 0x106 1) (wState (encI 0 0x26 0 1 0x106) 7 (wInts 3 1)))
    (t.esys 0 0x106, bit ((t.chuck 0).sysr 0) 12) = (0, true) := by decide

theorem test_tlb_invalidation :
    (∀ w ∈ [encR 0 0x27 0 0 0 8, encR 0 0x27 0 1 0 9, encR 0 0x27 0 1 2 10, encR 0 0x27 0 1 2 11], Runs (wState w 7 (wInts 0x4000 1)) 0 w (wState w 7 (wInts 0x4000 1))) ∧
    (∀ w, IntOp (wState w 7 (wInts 0x4000 1)) 0 1 0x4000 ∧ IntOp (wState w 7 (wInts 0x4000 1)) 0 2 1 ∧ ((wState w 7 (wInts 0x4000 1)).engine 0).sb = []) :=
  ⟨wState_runs_all _ _ _ (by decide), fun w => ⟨(wState_int w 7 _ _).1, (wState_int w 7 _ _).2, rfl⟩⟩

/-! ## Long instructions -/

/-- Destination, source, length; the destination inside the source, so CPYB runs down. -/
def wLong (n : Dword) : Map Cell := [(1, wNarrow 0x1000 0x1000 0x3FF 0 0x1010 .cap), (2, wNarrow 0x1000 0x1000 0x3FF 0 0x1000 .cap), (3, intCell n), (4, intCell 7)]
def wFill (done : Nat) : LongOp := { fn := .fillb, dst := wNarrow 0x1000 0x1000 0x3FF 0 0x1020 .cap, src := intCell 7, rdN := 1, rs1N := 4, len := 0x60, down := false, done := done }
theorem test_long_instructions :
    (∀ w ∈ [encR 0 0x29 1 2 3 1, encR 0 0x29 1 4 3 2, encR 0 0x29 1 0 3 3, encR 0 0x29 1 0 3 4],
      Runs (wState w 7 (wLong 0x40)) 0 w (wState w 7 (wLong 0x40)) ∧ Runs (wState w 7 (wLong 0)) 0 w (wState w 7 (wLong 0))) ∧
    (∀ w ∈ (List.range 3).flatMap (fun k => [8, 9, 10].map (fun f => encR 0 0x29 1 2 3 (k * 64 + 3 * 16 + f))), Runs (wState w 1 (wLong 0x40)) 0 w (wState w 1 (wLong 0x40))) ∧
    (∀ w, IntOp (wState w 7 (wLong 0x40)) 0 3 0x40 ∧ IntOp (wState w 7 (wLong 0)) 0 3 0 ∧ (regOf (wState w 7 (wLong 0x40)) 0 4).kind = .int) ∧
    (∀ o ∈ [0, 0x20], let s := (wState 0 7 (wLong 0x40)).updEngine 0 (fun x => { x with long := some (wFill o) })
      let k := min ((wFill o).len - o) (64 - (capCursor (wFill o).dst + o) % 64)
      (checkRanges 0 k ((wFill o).ranges o)).run s = .ok [0x1020 + o] s ∧ (s.engine 0).dbg.stepping = false ∧ s.mem.wf = true ∧ (s.engine 0).long = some (wFill o) ∧ s.ready 0 = true ∧ (s.engine 0).sb = [] ∧ keyOf 0 (0x1020 + o) % 16 = 0 ∧
        (∀ i, i < k → keyOf 0 (0x1020 + o + i) = keyOf 0 (0x1020 + o) + i)) :=
  ⟨fun w hw => ⟨wState_runs_all _ _ _ (by decide) w hw, wState_runs_all _ _ _ (by decide) w hw⟩, wState_runs_all _ _ _ (by decide),
   fun w => ⟨⟨.inr (by rw [wState_reg]; rfl), by rw [wState_reg]; decide⟩, ⟨.inr (by rw [wState_reg]; rfl), by rw [wState_reg]; decide⟩, by rw [wState_reg]; rfl⟩,
   by
    intro o ho
    simp only [List.mem_cons, List.not_mem_nil, or_false] at ho
    rcases ho with rfl | rfl <;> exact ⟨run_of_answers (by decide), by decide⟩⟩
/-- CPYB down and a filled chunk (R187, R191). -/
theorem test_cpyb : ((after (exec (.cpyb 0 0 1 2 3) (wState (encR 0 0x29 1 2 3 1) 7 (wLong 0x40)))).engine 0).long.map (fun l => (l.down, l.len)) = some (true, 0x40) := by decide
theorem test_long_chunk : let s := (wState 0 7 (wLong 0x40)).updEngine 0 (fun x => { x with long := some (wFill 0) })
    let u := after (exec (.longChunk 0) s)
    (u.mem.byte 0x1030, u.mem.byte 0x1038, u.mem.tag 0x1030, u.mem.tag 0x1040, (u.engine 0).long.map (·.done)) = (7, 0, 1, 4, some 0x20) := by decide

/-! ## Lanes, predicates and accumulators -/

/-- Two quads in registers 1 and 2, one in the destination 3. -/
def wQuads : Map Cell := [(1, { bits := 0x80007FFF, kind := .int }), (2, { bits := 0x0001FFFF, kind := .raw }), (3, { bits := 5, kind := .int })]
theorem wState_quads (w : Word) : QuadOp (wState w 1 wQuads) 0 1 0x80007FFF ∧ QuadOp (wState w 1 wQuads) 0 2 0x0001FFFF ∧ QuadOp (wState w 1 wQuads) 0 3 5 ∧
    IntOp (wState w 1 wQuads) 0 1 0x80007FFF ∧ ((wState w 1 wQuads).chuck 0).pred 0 = 0xFFFF ∧ ((wState w 1 wQuads).chuck 0).pred 1 = 0 := by
  have h (r : Reg) : regOf (wState w 1 wQuads) 0 r = if r.toNat = 0 then Cell.null else Map.get Cell.null wQuads r.toNat := wState_reg w 1 wQuads r
  have hp : ((wState w 1 wQuads).chuck 0).pred 0 = 0xFFFF ∧ ((wState w 1 wQuads).chuck 0).pred 1 = 0 := by
    simp [State.chuck, wState_engine, wEngine, Map.get, Chuck.pred, Chuck.empty]
  refine ⟨⟨.inr ?_, ?_⟩, ⟨.inl ?_, ?_⟩, ⟨.inr ?_, ?_⟩, ⟨.inr ?_, ?_⟩, hp⟩ <;> rw [h] <;> decide

def wWidths (f : Nat → List Word) : List Word := (List.range 4).flatMap f
theorem test_lane_words :
    (∀ w ∈ wWidths (fun k => [0, 1, 2, 3, 4, 5, 6, 7, 8, 9, 0xA, 0xB, 0x10, 0x11, 0x12, 0x13, 0x14, 0x15, 0x16].map (fun f => encR 0 0x30 3 1 2 (64 * k + f)) ++
        [0xC, 0xD, 0x20].map (fun f => encR 0 0x30 3 1 0 (64 * k + f)) ++ [2, 3, 4, 5].map (fun f => encR 0 0x34 3 1 2 (64 * k + f)) ++
        [encR 0 0x34 3 1 0 (64 * k + 1), encR 0 0x34 3 1 1 (64 * k + 8), encR 0 0x34 3 1 1 (64 * k + 9), encR 0 0x34 3 1 1 (64 * k + 0xA)]) ++
      (List.range 3).flatMap (fun k => [encR 0 0x34 3 1 2 (64 * k + 0x10), encR 0 0x34 3 1 2 (64 * k + 0x11), encR 0 0x34 3 1 0 (64 * k + 0x12), encR 0 0x34 3 1 0 (64 * k + 0x13)]) ++
      [encR 0 0x34 3 1 2 0, encR 1 0x30 3 1 2 0, encR 1 0x34 3 1 0 1, encR 1 0x33 3 1 2 0, encR 1 0x33 3 1 0 0x14, encR 1 0x33 3 1 0 0x19, encR 1 0x31 3 1 2 0, encR 1 0x32 3 0 0 0],
      Runs (wState w 1 wQuads) 0 w (wState w 1 wQuads)) :=
  wState_runs_all _ _ _ (by decide)
/-- All lanes are under p0, so nothing merges; under p1, which is 0, nothing is written. -/
theorem test_lane_operands : ∀ w, Merges (wState w 1 wQuads) 0 3 (((wState w 1 wQuads).chuck 0).pred 0) 16 5 ∧
    (((wState w 1 wQuads).chuck 0).pred 0).toNat % 2 ^ 16 ≠ 0 ∧ bit (((wState w 1 wQuads).chuck 0).pred 0) 1 = true ∧ ((wState w 1 wQuads).chuck 0).pred 1 = 0 := by
  intro w
  obtain ⟨_, _, h3, _, h5, h6⟩ := wState_quads w
  have hm : ((0xFFFF : BitVec 16)).toNat % 2 ^ 16 ≠ 0 ∧ bit (0xFFFF : BitVec 16) 1 = true := by decide
  rw [h5, h6]
  exact ⟨.inr h3, hm.1, hm.2, rfl⟩
/-- LADDS.16 saturates each lane by itself (R164). -/
theorem test_ladds : regOf (after (exec (.ladds 0 0 1 3 1 2) (wState (encR 0 0x30 3 1 2 (64 + 1)) 1 wQuads))) 0 3 = { bits := 0x80017FFE, kind := .int } := by decide
/-- LREV.8 (R168). -/
theorem test_lrev : (regOf (after (exec (.lrev 0 0 0 3 1) (wState (encR 0 0x34 3 1 0 1) 1 wQuads))) 0 3).bits = 0xFF7F0080000000000000000000000000 := by decide
/-- LINS and LEXTS at a lane (R169). -/
theorem test_lins : (regOf (after (exec (.lins 0 0 1 3 1 1) (wState (encR 0 0x34 3 1 1 (64 + 8)) 1 wQuads))) 0 3).bits = 0x7FFF0005 := by decide
theorem test_lexts : regOf (after (exec (.lexts 0 0 1 3 1 1) (wState (encR 0 0x34 3 1 1 (64 + 0xA)) 1 wQuads))) 0 3 = intCell 0xFFFFFFFFFFFF8000 := by decide

theorem test_predicate_words :
    (∀ w ∈ wWidths (fun k => [0, 1, 2, 3, 4, 5].map (fun f => encR 0 0x33 3 1 2 (64 * k + f))) ++ [0x10, 0x11, 0x12, 0x13].map (encR 0 0x33 3 1 2) ++
        [0x14, 0x18, 0x19, 0x1A].map (encR 0 0x33 3 1 0), Runs (wState w 1 wQuads) 0 w (wState w 1 wQuads)) := wState_runs_all _ _ _ (by decide)
/-- PCMP.LT.16 of signed lanes and PTAIL of a count (R170, R171). -/
theorem test_pcmp_lt : ((after (exec (.pcmpLt 0 0 1 3 1 2) (wState (encR 0 0x33 3 1 2 (64 + 2)) 1 wQuads))).chuck 0).pred 3 = 2 := by decide
theorem test_ptail : ((after (exec (.ptail 0 0 3 1) (wState (encR 0 0x33 3 1 0 0x1A) 1 [(1, intCell 5)]))).chuck 0).pred 3 = 0x1F := by decide

theorem test_accumulator_words :
    (∀ w ∈ (List.range 3).flatMap (fun k => [0, 1, 2, 3].map (fun f => encR 0 0x31 3 1 2 (64 * k + f)) ++ [encR 0 0x32 3 1 2 (64 * k + 5)]) ++
        [encR 0 0x32 3 0 0 0, encR 0 0x32 3 1 0 1, encR 0 0x32 3 1 0 2, encR 0 0x32 3 1 0 3, encR 0 0x32 3 1 0 4, encR 0 0x32 3 1 0 6, encR 0 0x32 3 1 0 7, encR 0 0x32 3 1 0 8],
      Runs (wState w 1 wQuads) 0 w (wState w 1 wQuads)) := wState_runs_all _ _ _ (by decide)
/-- MAC.16: 32767 times -1 and -32768 times 1 in one quarter (R172). -/
theorem test_mac : (((after (exec (.mac 0 0 1 3 1 2) (wState (encR 0 0x31 3 1 2 64) 1 wQuads))).chuck 0).acc 3).lane 0 = BitVec.ofInt 64 (-65535) := by decide

/-! ## Lineage -/

/-- A capability of lineage 5, generation 0. -/
def wMintC : Cell := { bits := capImage 0 0 5 0x3FF 0x100 0x2000 0 0x2000, kind := .cap }
/-- Entry 5 holds `v` in both copies; the MINT image is `wMintC`, for address `a`. -/
def wLin (v a : Word) : State :=
  { wBase with
    linA := Map.put v State.reset.linA 5, linB := Map.put v State.reset.linB 5
    regs := Map.put 0x5f (Map.put 0xfc100800 (Map.put 0x0 (Map.put 0x2000 (Map.put a wRegs (regKey 8 0x30)) (regKey 8 0x40)) (regKey 8 0x44)) (regKey 8 0x48)) (regKey 8 0x4C) }
theorem test_lineage_commands :
    ([0, 0x110, 0x11F, 0x123].all (fun v => decide (
      isMgmt .cretal = true ∧ (wLin v 0x2000).fld 8 0x14 0 0 = 0 ∧ (wLin v 0x2000).linEntry false 5 = v ∧ (wLin v 0x2000).linEntry true 5 = v ∧
        (wLin v 0x2000).mem.errs = [])) = true) ∧
    entState 0 = 0 ∧ entState 0x110 = 1 ∧ entState 0x11F = 1 ∧ entState 0x123 = 2 := by decide
theorem test_mint_operands : (wLin 0x110 0x2000).mintImage = wMintC.bits ∧ (wLin 0x110 0x2000).fld 8 0x50 2 0 ≠ 3 ∧ capMalformed wMintC = false ∧ capLin wMintC = 5 ∧
    (wLin 0x110 0x2000).isMemory (wLin 0x110 0x2000).mintAddr = true ∧ (wLin 0x110 0xC000000).isMemory (wLin 0x110 0xC000000).mintAddr = false ∧
    entGen 0x110 = capGen wMintC := by decide
/-- REVOKE at the last generation goes to SWEEP (R98) and waits for the one engine that runs (R103, R511). -/
def wRevoked : State := after (exec (.revoke .cretal 5) ((wLin 0x11F 0x2000).setEngine 0 (wEngine 0 7 [])))
theorem test_revoke_last : (wRevoked.linEntry false 5, wRevoked.linEntry true 5, wRevoked.lin.phase) = (mkEntry 1 2 0, mkEntry 1 2 0, LinPhase.bcast) := by
  decide +kernel
theorem test_mint : let t := after (exec (.mint .cretal 5) (wLin 0x110 0x2000)); ((t.mem.tag 0x2000), (t.mem.cell 0x2000).bits) = (2, wMintC.bits) := by decide

def wBcast (ph : LinPhase) : State := { (wLin 0x110 0x2000).setFld 8 0x14 0 0 1 with lin := { wBase.lin with phase := ph, idx := 5, pend := [3], bidx := [5] } }
def wFilt : State := (wLin 0x110 0x2000).updEngine 0 (fun x => { x with lfill := some 5 })
theorem test_lineage_progress :
    (capLin wMintC ≠ 6 ∧ entState 0x110 ≠ 0 ∧ entState 0 ≠ 1 ∧ entState 0 ≠ 2) ∧ (∀ i, wBase.linEntry false i = wBase.linEntry true i) ∧ wBase.mem.errs = [] ∧
    (3 ∈ (wBcast .bcast).lin.pend ∧ ((wBcast .bcast).engine 3).sb = [] ∧ ((wBcast .bcast).engine 3).load = none ∧ ((wBcast .bcast).engine 3).act = none ∧ ((wBcast .bcast).engine 3).lchk = []) ∧
    ((wBcast .done).lin.found = 0 ∧ (wBcast .done).lin.result ≠ 6) ∧
    ((wFilt.engine 0).lfill = some 5 ∧ wFilt.mem.errs = [] ∧ (wFilt.engine 0).filt = [] ∧ (wFilt.engine 0).lchk = [] ∧ entState (wFilt.linEntry (inB 0) 5) = 1) :=
  ⟨by decide, fun i => rfl, by decide, by decide, by decide, by decide⟩
/-- The last acknowledgement ends the broadcast; completion raises event 1660 and reports the entry (R101, R110). -/
theorem test_filter_invalidate_ack : let t := after (exec (.filterInvalidateAck 3) ((wBcast .bcast).updEngine 3 (fun x => { x with filt := [(5, 0), (6, 0)] })))
    (t.lin.phase, (t.engine 3).filt, (after (exec .linCommandComplete t)).events.map (·.1)) = (.done, [(6, 0)], [1660]) := by decide

/-! ## Events, tasks and the scheduler -/

/-- Engine 0 with three tasks: READY in chuck 0, WAITING, RUNNING or SUSPENDED as `st` says in slot 3; its twin with a task in slot 1. -/
def wSlot (st : TaskState) (c : Option Nat) : Slot := { Slot.free with st := st, chuck := c, prio := 3, save := wCap (2 ^ 55 + 0x1000) }
def wTasks (st : TaskState) (pend : BitVec 16) : State :=
  { wBase with
    eng := [(0, { wEngine 0 0 [] with
                  level := .t, slot := 3, running := st == .running, sys := [(0x10A, 0x12)], readyCtr := 9
                  chucks := [(0, { Chuck.empty with occ := some 1, regs := [(4, intCell 9)] }), (1, { Chuck.empty with occ := some 3 })]
                  slots := [(1, wSlot .ready (some 0)), (2, wSlot .waiting none), (3, { wSlot st (some 1) with slice := 1, sliceNow := 1, pend := pend, emask := 0xFFFF })]
                  tlb := [{ half := true, vbase := 2 ^ 41, shift := 14, asid := 0, g := true, u := false, xt := false, xk := true, w := true, df := true
                            mt := .normal, pbase := 0x10000 }] }),
            (512, { Engine.reset with slots := [(1, wSlot .waiting none)] })] }
theorem test_events :
    (cretalOnly 0 = false ∧ isMgmt .cretal = true ∧ inB 512 = true ∧ wBase.pairedCtx 512 = false) ∧
    ((List.all [(5, 0), (5, 0xC0030002), (5, 0xE0030001)] (fun b =>
        decide (({ wTasks .ready 0 with events := [b] }.events.find? (fun p => p.1 == 5)) = some b))) = true) ∧
    (let slot := fun e k => (Map.get Slot.free ((wTasks .ready 0).engine e).slots k).st
     slot 0 2 = .waiting ∧ slot 0 1 ≠ .free ∧ slot (twinOf 0) 1 ≠ .free) := by decide
/-- A WAITING task becomes READY with the vector recorded (R257). -/
theorem test_event_delivery : let t := after (exec (.eventDelivery 5) { wTasks .ready 0 with events := [(5, 0xC0030002)] })
    let p := Map.get Slot.free (t.engine 0).slots 2
    (p.st, p.pend, Map.get 0 p.evids 3, t.events) = (.ready, 8, 5, []) := by decide

/-- The descriptor of slot 5 at its address in memory: an unpaired task. -/
def wDesc : State := { wTasks .suspended 0 with mem := State.reset.mem.setCell 0x500 { bits := (wCap (2 ^ 55)).bits, tag := 2 } }
theorem test_scheduler_commands :
    (wDesc.fld 0x20 0x204 0 0 = 0 ∧ (Map.get Slot.free (wDesc.engine 0).slots 1).st = .ready ∧ (Map.get Slot.free (wDesc.engine 0).slots 2).st = .waiting ∧
     (Map.get Slot.free (wDesc.engine 0).slots 3).st = .suspended ∧ (Map.get Slot.free ((wTasks .running 0).engine 0).slots 3).st = .running ∧
     (Map.get Slot.free (wDesc.engine 0).slots 5).st = .free) ∧
    (wDesc.isMemory 0x500 = true ∧ wDesc.isMemory (0x500 + 255) = true ∧ wDesc.mem.errs = [] ∧ (wDesc.engine 0).allFree = false ∧
     wDesc.effFld 0x20 0x180 29 0 = 0 ∧ wDesc.effFld 0x20 0x100 1 1 = 0 ∧
     (descSlot ((List.range 16).map (fun i => wDesc.mem.cell (0x500 + 16 * i)))).map (fun d => (d.st, d.paired)) = some (.suspended, false)) := by decide +kernel
theorem test_spill_operands :
    (Map.get Chuck.empty ((wTasks .ready 0).engine 0).chucks 0).occ = some 1 ∧
    (match (spill 0 (wSlot .ready (some 0)) (Map.get Chuck.empty ((wTasks .ready 0).engine 0).chucks 0)).run
        ((((wTasks .ready 0).schedCmd .cretal 0 0 0 0 0).setFld 0x20 0x204 0 0 1).sbDrain 0) with
      | .ok _ _ => true | _ => false) = true := by decide +kernel
/-- SPILL writes the chuck's registers to the save area and empties it; BIND takes the descriptor (R231, R234). -/
theorem test_spill : let t := after (exec (.spill .cretal 0 0) (wTasks .ready 0))
    (Map.get Chuck.empty (t.engine 0).chucks 0, (t.mem.cell 0x11030).bits, t.mem.tag 0x11030) = (Chuck.empty, 9, 1) := by decide +kernel
theorem test_bind : let t := after (exec (.bind .cretal 0 5) wDesc)
    ((Map.get Slot.free (t.engine 0).slots 5).st, (t.engine 0).cmd, t.fld 0x20 0x204 0 0) = (.suspended, some 0, 1) := by decide

theorem test_scheduling :
    ((wTasks .suspended 0).engine 0).pick = some (1, wSlot .ready (some 0)) ∧
    ((wTasks .suspended 0).atPoint 0 = true ∧ (wTasks .suspended 0).pairedEng 0 = false ∧ ((wTasks .suspended 0).engine 0).long = none ∧ ((wTasks .suspended 0).engine 0).running = false) ∧
    ((wTasks .running 0).atPoint 0 = true ∧ ((wTasks .running 0).engine 0).running = true ∧ ((wTasks .running 0).curSlot 0).sliceNow ≠ 0) ∧
    ((wTasks .running 2).atPoint 0 = true ∧ ((wTasks .running 2).curSlot 0).pend &&& ((wTasks .running 2).curSlot 0).emask ≠ 0 ∧ (wTasks .running 2).decisionDue 0 = false) ∧
    ((Map.get Slot.free (((wTasks .ready 0).updEngine 0 (fun x => { x with sw := some { slot := 1, chuck := 0, victim := none } })).engine 0).slots 1).st = .ready) ∧
    (saveItems.all (fun n => decide (({ Chuck.empty with sys := [(0, 0x30300)] }.sysr n) &&& sysMask n = { Chuck.empty with sys := [(0, 0x30300)] }.sysr n)) = true) := by decide
/-- The decision picks the READY task and TASK_SWITCH dispatches it (R241, R247). -/
theorem test_task_switch : let u := after (exec (.taskSwitch 0) (after (exec (.schedulingDecision 0) (wTasks .suspended 0))))
    ((u.engine 0).slot, (u.engine 0).cur, (u.curSlot 0).st, (u.engine 0).level, regOf u 0 4) = (1, 0, .running, .t, intCell 9) := by decide

/-! ## Translation and protection -/

/-- A walk of engine 0 under way for a read at 0x5008 by level T: three tables in pages 1 to 3, the page in page 4. -/
def wWalk (d : Dword) : State :=
  { wBase with
    mem := ((State.reset.mem.setCell 0x1000 { bits := 0x2003, tag := 0 }).setCell 0x2000 { bits := 0x3003, tag := 1 }).setCell 0x3020 { bits := d.setWidth 128 <<< 64, tag := 0 }
    eng := [(0, { wEngine 0 0 [] with
                  level := .t, sys := [(0x108, 0x1000), (0x10A, 0x10)]
                  walk := some { va := 0x5008, acc := .read, lvl := .t, user := false, reg := some 1, accCode := 1, started := true, discard := false } })] }
theorem test_table_walk :
    ((wWalk 0x4015).engine 0).walk ≠ none ∧ bits ((wWalk 0x4015).esys 0 0x108) 43 12 * 4096 = 0x1000 ∧ bits ((wWalk 0x4015).esys 0 0x10A) 1 0 = 0 ∧
    Map.get [] (wWalk 0x4015).wcache (clusterOf 0) = [] ∧ inB 0 = false ∧ (wWalk 0x4015).isMemory 0x1000 = true ∧ (wWalk 0x4015).isMemory 0x3028 = true ∧
    BitVec.ofNat 64 (((wWalk 0x4015).mem.cell 0x1000).bits.toNat >>> 0) = 0x2003 ∧ BitVec.ofNat 64 (((wWalk 0x4015).mem.cell 0x3028).bits.toNat >>> 64) = 0x4015 ∧
    kindOfTag ((wWalk 0x4015).mem.cell 0x2000).tag = some .int ∧ bits (0x4015 : Dword) 2 0 = 5 ∧ bit (0x4015 : Dword) 8 = false ∧
    bits (0x4015 : Dword) 11 10 = 0 ∧ bits (0x4015 : Dword) 63 44 = 0 ∧ ((wWalk 0x4015).engine 0).tlb = [] := by decide
/-- The walk installs the page (R323); an invalid first descriptor is a Translation Fault of subtype 3, taken at Rest where K has no handler. -/
theorem test_walk_installs : let t := after (exec (.tableWalk 0) (wWalk 0x4015))
    ((t.engine 0).walk, (t.engine 0).tlb.map (fun l => (l.vbase, l.pbase, l.u, l.w))) = (none, [(5, 0x4000, true, false)]) := by decide

/-- The other engine's turn in a broadcast; the last one. -/
def wInval (l : List Nat) : State := { wBase with bcasts := [{ issuer := 1, va := 0x4000, asid := 0, pend := l }] }
theorem test_engine_background :
    ((wInval [0]).bcasts = [{ issuer := 1, va := 0x4000, asid := 0, pend := [0] }] ∧ 0 ∈ [0, 7] ∧ [0, 7].filter (· != 0) ≠ []) ∧
    ((wState 0 7 []).ready 0 = true ∧ (wState 0 7 []).wrongPathPa 0 0x1000 = some 0x1000 ∧ l1Find ((wState 0 7 []).engine 0).l1i (0x1000 / 64) = none ∧ (wState 0 7 []).mem.errs = []) ∧
    (let s := (wState 0 7 []).updEngine 0 (fun x => { x with imp := some 0x1000 })
     (s.engine 0).imp = some 0x1000 ∧ s.atBoundary 0 = true ∧ (s.engine 0).dbg.haltReq = none ∧ (s.engine 0).long = none ∧ (s.engine 0).level = .rest) := by decide
theorem test_bcast_invalidate_ack : let t := after (exec (.bcastInvalidateAck 0) ((wInval [0]).updEngine 1 (fun x => { x with bcast := true })))
    (t.bcasts, (t.engine 1).bcast) = ([], false) := by decide

theorem test_protection_units :
    (let s := wTask 0 0 0
     bit (s.reg 0x20 0x100C) 31 = true ∧ bit (s.reg 0x20 0x100C) 29 = false ∧ bit (s.reg 0x20 0x100C) 0 = true ∧ bits (s.reg 0x20 0x100C) 9 8 = 0 ∧
       s.effFld 0x20 0x1008 5 0 * 2 ^ 32 + (s.effReg 0x20 0x1000).toNat ≤ 0x1800 / 64 ∧
       0x1800 / 64 ≤ s.effFld 0x20 0x1008 21 16 * 2 ^ 32 + (s.effReg 0x20 0x1004).toNat ∧
       (List.range 16).all (fun j => j = 0 || !bit (s.reg 0x20 (0x1000 + 16 * j + 12)) 31) = true ∧ (mpuAt (.engine 0)).2.1 = 0x1000) ∧
    ((List.range 16).all (fun j => !bit (wBase.reg 0x20 (0x1000 + 16 * j + 12)) 31) = true ∧ wBase.mpuStrict (.engine 0) = false ∧ State.reset.mpuStrict (.engine 0) = true ∧
      wBase.region 0x1800 = .cluster 0 ∧ wBase.region 0xC000000 = .none) ∧
    (isMgmt .cretal = true ∧ bit (wBase.reg 0x20 0x100C) 30 = false ∧ bit ((wBase.setReg 0x20 0x100C 0x40000000).reg 0x20 0x100C) 30 = true ∧
      wBase.mpuQuiet (.engine 0) = true ∧ bit (wBase.reg 0x20 0x340C) 31 = false ∧ bit ((wBase.mpuCapture (.engine 0) 0x1800 1 31 .read 0 5).reg 0x20 0x340C) 31 = true) := by decide
/-- A write to a locked region changes nothing and sets CFGERR (R350). -/
theorem test_mpu_locked : let t := after (exec (.mpuRattr .cretal (.engine 0) 0 0x80000077) (wBase.setReg 0x20 0x100C 0x40000000))
    (t.reg 0x20 0x100C, t.fld 0x20 8 0 0) = (0x40000000, 1) := by decide

/-! ## Memory upkeep -/

/-- One wrong symbol, two wrong symbols in the codeword of cell 0x1000. -/
def wErr (v : BitVec 176) : State := { wBase with mem := { State.reset.mem with errs := [(0x1000, v)] }, ceq := [(0x1000, { bits := 5, tag := 1 })] }
theorem test_memory_reads :
    (wErr 1).mem.err 0x1008 = 0 ∧ (wErr 1).mem.err 0x1010 = 0 ∧ errWeight ((wErr 0x100).mem.err 0x1000) = (1, 1) ∧ (errWeight ((wErr 0x101).mem.err 0x1000)).1 = 2 ∧
    (wErr 1).ceq.find? (fun p => p.1 == 0x1000) = some (0x1000, { bits := 5, tag := 1 }) := by decide
theorem test_ce_write_back : let t := after (exec (.ceWriteBack 0x1000) (wErr 0x100))
    (t.mem.err 0x1000, t.ceq, (t.mem.cell 0x1000), t.mem.tag 0x1010) = (0, [], { bits := 5, tag := 1 }, 4) := by decide
def wUnits : State :=
  { ((((wBase.setFld 0x20 0x400 9 9 1).setFld 0x20 0x400 1 0 1).setFld 0x0A 0x14 0 0 1).setFld 0x0B 0x14 1 1 1) with
    scrub := [(0, { active := true, next := 0x3FFFFF })] }
def wFillRegs : State := ((wBase.setReg 9 0x20 0x1000).setReg 9 0x28 2)
theorem test_memory_units :
    (isMgmt .debug = true ∧ wBase.fld 0x20 0x400 9 9 = 0 ∧ wUnits.fld 0x20 0x400 9 9 = 1 ∧ wUnits.fld 0x0A 0x14 0 0 = 1 ∧ wUnits.fld 0x0B 0x14 1 1 = 1 ∧ wUnits.fld 0x0B 0x14 2 2 = 0) ∧
    (Map.get { active := false, next := 0 } wUnits.scrub (scrubNo .onchip) = { active := true, next := 0x3FFFFF } ∧ wUnits.scrubStep .onchip 0x3FFFFF = .cell 0x3FFFFF0 0x3FFFFF0 ∧
      (Map.get { active := false, next := 0 } wBase.scrub (scrubNo .onchip)).active = false ∧ wBase.scrubStep .onchip 0 ≠ .done ∧ wBase.scrubStep .dramA 0 = .done) ∧
    (wFillRegs.fld 9 0x2C 1 1 = 0 ∧ wFillRegs.fld 9 0x20 31 6 * 64 + wFillRegs.fld 9 0x24 11 0 * 2 ^ 32 = 0x1000 ∧ 64 * (wFillRegs.reg 9 0x28).toNat = 128 ∧
      wFillRegs.oneRegion 0x1000 128 ≠ 0 ∧ wFillRegs.oneRegion 0xC000000 128 = 0 ∧ (wFillRegs.setFld 9 0x2C 1 1 1).fld 9 0x2C 1 1 = 1) := by decide
/-- The fill leaves its 128 bytes POISON and no other (R380). -/
theorem test_scrb_fill_start :
    let s := { wFillRegs with mem := ((State.reset.mem.setCell 0x1070 { bits := 7, tag := 1 }).setCell 0x1080 { bits := 7, tag := 1 }) }
    let t := after (exec (.scrbFillStart .cretal 0) s)
    (t.mem.tag 0x1070, t.mem.byte 0x1070, t.mem.tag 0x1080, t.fld 9 0x2C 1 1) = (4, 0, 1, 1) := by decide

/-- The mover of tile 0 with 0x50 bytes to copy from 0x1000 to 0x2008, under an MPU region that lets it. -/
def wMover (done : Nat) : State :=
  { wBase with
    regs := Map.put 0x80000077 (Map.put 0x3FFFF wRegs (regKey 0x20 0x3004)) (regKey 0x20 0x300C), eff := [(regKey 0x20 0x3004, 0x3FFFF)] ++ cretalMpuReset
    mem := State.reset.mem.setCell 0x1000 { bits := 0x0F0E0D0C0B0A09080706050403020100, tag := 2 }
    sm := [(0, { src := 0x1000, dst := 0x2008, len := 0x50, flags := 1, done := done })] }
theorem test_stream_mover :
    isMgmt .cretal = true ∧ ((0 : Eid).toNat / 32 = 0) ∧ (wBase.setFld 0x20 0x510 31 31 1).fld 0x20 0x510 31 31 = 1 ∧
    (wMover 0).fld 0x20 0x510 31 31 = 0 ∧ (wMover 0).safe.dmaStop = false ∧ (wMover 0).tileCur 0 < 2 ∧ (wMover 0).mem.errs = [] ∧
    ((wMover 0).mpuDecide (.mover 0) 0x1000 .read false false (plainMt 0x1000)).1 = 0 ∧ (wMover 0).memRegion 0x1000 = true ∧
    ((wMover 0).mpuDecide (.mover 0) 0x2008 .write false false (plainMt 0x2008)).1 = 0 ∧ (wMover 0).memRegion 0x2008 = true ∧
    ((wMover 0x40).mpuDecide (.mover 0) 0x2048 .write false false (plainMt 0x2048)).1 = 0 := by decide
/-- A burst stops at the line of the destination; its cells are RAW (R382). -/
theorem test_sm_burst : let t := after (exec (.smBurst 0) (wMover 0))
    (t.mem.byte 0x2008, t.mem.byte 0x2017, t.mem.tag 0x2000, t.mem.tag 0x2040, t.sm.map (·.2.done)) = (0, 0x0F, 0, 4, [0x38]) := by decide

/-! ## Pairing and safety -/

/-- Pair 0 runs: channel A at count 9, a held act, points and channel B signatures as given. -/
def wPair (pts sigs : List SigPoint) : State :=
  { wBase with
    eff := [(regKey 0x20 0x100, 2), (regKey (tileBlk 16) 0x100, 2)] ++ cretalMpuReset, eng := [(0, { Engine.reset with held := false, level := .rest, commits := 9, sig := 7 })]
    pairs := [(0, { Pair.reset with points := pts, bSigs := sigs, since := 3, bHeld := true
                                    held := some { addr := 0x101A0020, data := 1, va := 0, count := 9, sig := 7, rs1 := 1, wb := none, sync := false } })] }
theorem test_pair_checks :
    ((wPair [] []).pairedEng 0 = true ∧ (wPair [] []).pairStopped 0 = false ∧ (wPair [] []).pairHalted 0 = false ∧ ((wPair [] []).engine 0).stopped = false ∧
      ((wPair [] []).pair 0).since < ((wPair [] []).engine 0).commits ∧ ((wPair [] []).pair 0).bHeld = true ∧ ((wPair [] []).pair 0).held.isSome = true) ∧
    ((wPair [⟨5, 1, .commit⟩] [⟨5, 1, .commit⟩]).pair 0).points.find? (fun y => ((wPair [⟨5, 1, .commit⟩] [⟨5, 1, .commit⟩]).pair 0).bSigs.any (fun z => z.count == y.count)) = some ⟨5, 1, .commit⟩ ∧
    ((wPair [⟨5, 1, .commit⟩] [⟨5, 2, .commit⟩]).pair 0).bSigs.find? (fun z => z.count == 5) = some ⟨5, 2, .commit⟩ ∧ ((wPair [⟨5, 1, .commit⟩] []).pair 0).points = [⟨5, 1, .commit⟩] ∧
    ((wState 0 7 []).monitored 0 = true ∧ (wState 0 7 []).pairedEng 0 = false) := by decide
theorem test_signature_compare : let t := after (exec (.signatureCompare 0) (wPair [⟨5, 1, .commit⟩] [⟨5, 2, .commit⟩]))
    ((t.engine 0).stopped, (t.engine 512).stopped, t.fld 7 0x1000 31 27, t.events.map (·.1)) = (true, true, 0x11, [1664, 1668]) := by decide

theorem test_monitors_trip :
    (∀ cls ∈ [3, 4, 5, 6, 7, 8], wBase.fld 6 0x18 (2 * cls + 1) (2 * cls) = 2) ∧ wBase.mode = .run ∧ wBase.fld 6 0x14 31 31 = 0 ∧
    (2 ∈ { wBase with safe := { wBase.safe with badA := [2] } }.safe.badA ∧ 2 ∉ wBase.safe.badA) ∧
    { wBase with safe := { wBase.safe with kickOpen := true } }.safe.kickOpen = true ∧
    { wBase with safe := { wBase.safe with modeB := .safe } }.safe.modeA ≠ { wBase with safe := { wBase.safe with modeB := .safe } }.safe.modeB := by decide
/-- A supply fault in RUN takes the device to SAFE (R418, R420). -/
theorem test_supply_monitor_trip : let t := after (exec (.supplyMonitorTrip true) wBase) ; (t.mode, t.ochre, t.fld 6 0x14 23 20) = (.safe, false, 4) := by decide

def wSafe (m : Mode) : State := { (wBase.setFld 6 0x30 0 0 1) with safe := { wBase.safe with modeA := m, modeB := m, kickOpen := true } }
theorem test_safety_state :
    isMgmt .cretal = true ∧ (wSafe .start).fld 6 0x30 0 0 = 1 ∧ (wSafe .start).mode = .start ∧ (wSafe .start).fld 7 0x14 2 2 = 0 ∧ (wSafe .start).safe.kickOpen = true ∧
    (wSafe .run).ochre = true ∧ (wSafe .run).safe.kickOpen = true ∧ bits (0x5AFE0100 : Word) 31 16 = 0x5AFE ∧ bits (0x5AFE0100 : Word) 10 8 = 1 ∧ (wSafe .test).mode = .test ∧ (wSafe .safe).mode ≠ .start ∧
    1 ≤ bits (100 : Word) 7 0 ∧ bits (100 : Word) 7 0 ≤ 100 := by decide
/-- RUN from START, with OCHRE (R419); SAFE_POL cannot lower class 3 (R420). -/
theorem test_safe_mode : let t := after (exec (.safeMode .cretal 0x5AFE0100) (wSafe .start)); (t.mode, t.ochre, t.events.map (·.1)) = (.run, true, [1668]) := by decide
theorem test_safe_pol : (after (exec (.safePol .cretal 0) wBase)).fld 6 0x18 7 6 = 2 := by decide

/-! ## Ports and measurement -/

/-- A partner frame with SEQ `q`, a segment, and the right CRC. -/
def wFrame (q : Nat) (seg : List Byte) : PFrame :=
  let b := [BitVec.ofNat 8 q, 0] ++ List.replicate 80 0 ++ seg ++ List.replicate (40 - seg.length) 0
  { comma := true, codes := true, bytes := b ++ toBytes 2 (crc16 b) }
def wCmd (tries age : Nat) : PCmd := { output := 2, value := 0x1234, seq := some 9, tries := tries, age := age, due := false }
/-- Port 1 with its link up. -/
def wPort (l : LinkState) (flight cq : List PCmd) : State :=
  { ((((wBase.setFld 0x11 0x10 1 1 1).setFld 0x11 0x14 0 0 1).setFld 0x11 4 0 0 1).setReg 0x11 (0x800 + 0xF0) 0x04000000) with
    ports := [(1, { Port.reset with link := l, valid := 63, invalid := 74, rxSeq := some 4, cmdSeq := 7, flight := flight, cq := cq, retry := true })] }
theorem test_partner_link :
    ((wPort .up [] []).fld 0x11 0x14 2 2 = 0 ∧ ((wPort .up [] []).port 1).segOut = [] ∧ ((wPort .up [] [wCmd 0 0]).port 1).cq = [wCmd 0 0] ∧
      ((wPort .up [] []).port 1).cqWait = [] ∧ ((wPort .up [wCmd 3 8] []).port 1).flight.find? (fun x => decide (8 ≤ x.age) && !x.due) = some (wCmd 3 8) ∧
      ((wPort .up [wCmd 0 8] []).port 1).flight.find? (fun x => x.seq == some (ofBytes ((((wFrame 5 [7, 9, 0]).bytes).drop 83).take 2))) = some (wCmd 0 8)) ∧
    (frameValid (some 4) (wFrame 5 [7, 9, 0]) = true ∧ frameValid (some 4) (wFrame 6 []) = false ∧ ((wFrame 5 [7, 9, 0]).bytes.drop 82).head? = some 7) ∧
    ((wPort .up [] []).fld 0x11 0x14 0 0 = 1 ∧ (wPort .up [] []).blkEn 0x11 = true ∧ (wPort .up [] []).mode = .run ∧ bits (0x30005 : Word) 21 16 < (wPort .up [] []).portDesc 1 0xF3) ∧
    (wPort .up [] []).fld 0x11 0x10 1 1 = 1 ∧ wBase.fld 0x11 0x10 1 1 = 0 ∧ isMgmt .cretal = true := by decide
/-- The segment of a frame sent: a command with its sequence, output and value (R463). -/
theorem test_partner_frame_transmit : ((((after (exec (.partnerFrameTransmit 1) (wPort .up [] [wCmd 0 0]))).port 1).sent.drop 83).take 6) = [1, 7, 0, 2, 0x34, 0x12] := by decide
/-- The least descriptor that is in order (Table 13-5). -/
def wPDesc : List Byte :=
  let d := [0x50, 0x4C, 1, 0] ++ List.replicate 0xEC 0 ++ [1, 0, 0, 0] ++ List.replicate 8 0
  d ++ toBytes 4 (crc32 d)
theorem test_take_desc : wPDesc.length = 256 ∧ descOk wPDesc = true ∧ descOk (wPDesc.set 0 0) = false := by decide +kernel

/-- A line of the port DMA under an MPU region of the port. -/
def wPortDma : State :=
  { wBase with
    regs := Map.put 0x80000077 (Map.put 0xFFFFF wRegs (regKey 0x11 0x1004)) (regKey 0x11 0x100C), eff := [(regKey 0x11 0x1004, 0xFFFFF)] ++ cretalMpuReset
    ports := [(1, { Port.reset with out := [{ addr := 0x40000, data := List.replicate 63 7 ++ [9], src := 0, last := true }] })] }
theorem test_sample_path :
    wPortDma.dmaHalted 1 = false ∧ wPortDma.planeOn = true ∧ twinLoc 0x40000 = some 0x2040000 ∧ wPortDma.memRegion 0x40000 = true ∧ wPortDma.memRegion 0x2040000 = true ∧
    (wPortDma.mpuDecide (.port 1) 0x40000 .write false false .normal).1 = 0 ∧ (wPortDma.mpuDecide (.port 1) 0x2040000 .write false false .normal).1 = 0 ∧
    (wPortDma.setFld 0x11 0x20C 1 1 1).fld 0x11 0x20C 1 1 = 1 := by decide
theorem test_port_dma_burst : let t := after (exec (.portDmaBurst 1) wPortDma)
    (t.mem.byte 0x4003F, t.mem.byte 0x204003F, t.mem.byte 0x40040, t.events.map (·.1)) = (9, 9, 0, [1280 + 32 + 3]) := by decide
/-- sinc3 of all ones with R = 2 is 8 (R428). -/
theorem test_sinc : (sinc3 (List.replicate 12 1) 2, sincSample 8 2 16, sincSample (-8) 2 16) = (8, 0x7FFF, -0x8000) := by decide

/-- An acquisition of port 1 in a phase. -/
def wAcq (ph : AcqPhase) (rep next : Nat) : Acq :=
  { fine := false, phase := ph, navg := 0, klog := 0, cable := 0, twin := false, buf := 0x40000, centre := 0x400, zero := 0, ldly := 0, rep := rep, sums := [(0, 5), (1, 2 ^ 40)]
    next := next, tbase := false }
def wTdr (ph : AcqPhase) (next : Nat) : State := { (wPortDma.setFld 0x11 0x60C 0 0 1) with ports := [(1, { Port.reset with link := .up, tdr := some (wAcq ph 0 next) })] }
theorem test_measurement :
    (wBase.fld 0x11 0x60C 0 0 = 0 ∧ (wBase.setFld 0x11 4 0 0 1).blkEn 0x11 = true ∧ wBase.mode = .run ∧ ((wBase.setReg 0x11 0x604 0x200).fld 0x11 0x604 14 0 = 512)) ∧
    (((wTdr .asked 0).port 1).tdr = some (wAcq .asked 0 0) ∧ ((wTdr .running 0).port 1).tdr = some (wAcq .running 0 0) ∧ ((wTdr .writing 0).port 1).tdr = some (wAcq .writing 0 0)) ∧
    (((wAcq .writing 0 0).buf + 64 * 0) % 64 = 0 ∧ ((wTdr .writing 0).mpuDecide (.port 1) 0x40000 .write false false .normal).1 = 0 ∧ (wTdr .writing 0).memRegion 0x40000 = true ∧
      (0 + 1) * 16 < (wAcq .writing 0 0).subs * (wAcq .writing 0 0).bins) := by decide
theorem test_tdr_result_write : let t := after (exec (.tdrResultWrite 1) (wTdr .writing 0))
    (t.mem.byte 0x40000, t.mem.byte 0x40007, t.mem.byte 0x40004, t.mem.byte 0x40008) = (5, 0x7F, 0xFF, 0) := by decide
def wSense (l : List Nat) (run noise : Nat) : State :=
  { ((((wBase.setReg 0x0E 0x14 0x8001).setFld 0x0E 4 0 0 1).setFld 0x0E 0x18 0 0 run).setFld 0x0E 0x24 1 1 noise) with
    sense := { wBase.sense with scan := if l = [] then none else some l, runWait := noise == 1 } }
theorem test_sense :
    ((wSense [] 0 0).fld 0x0E 0x24 1 1 = 0 ∧ (wSense [] 0 0).sense.scan = none ∧ (wSense [] 0 0).blkEn 0x0E = true ∧
      (List.range 16).filter (fun i => bit ((wSense [] 0 0).reg 0x0E 0x14) i) = [0, 15]) ∧
    ((wSense [] 0 1).fld 0x0E 0x24 1 1 = 1 ∧ (wSense [] 0 1).sense.runWait = true) ∧ (wSense [0, 15] 0 0).sense.scan = some [0, 15] ∧ (wSense [15] 0 0).sense.scan = some [15] ∧
    (wSense [] 1 0).fld 0x0E 0x18 0 0 = 1 ∧ (-(2 ^ 31) < senseWord 5 0 ∧ senseWord 5 0 < 2 ^ 31 - 1) := by decide
theorem test_sense_conversion : let t := after (exec (.senseConversion 65536) (wSense [15] 0 0)); (Map.get 0 t.sense.results 15, t.events.map (·.1), t.fld 0x0E 0x1C 31 16) = (1, [1840], 1) := by decide

/-! ## Trunk and Ethernet -/

/-- A device of a role, its ring ports up and its block enabled; the worker has node 3. -/
def wTrunk (role node : Nat) : State :=
  (((wBase.setFld 0x0C 0x18 31 30 role).setFld 0x0C 4 0 0 1).setFld 0x0C 0x1C 20 16 node).setFld 0x0C 0x1C 0 0 (if node = 0 then 0 else 1)
def wT (src ty hops : Nat) (pl : List Byte) : TFrame := { bytes := mkFrame 0xFF src ty hops 5 0 pl }
theorem test_trunk_ring :
    ((wTrunk 1 0).role = 1 ∧ (wTrunk 1 0).blkEn 0x0C = true ∧ (wTrunk 2 3).role = 2 ∧ (wTrunk 2 3).hasNode = true ∧ (wTrunk 2 0).hasNode = false ∧ (wTrunk 2 3).blkEn 0x0C = true) ∧
    (frameGood (wT 0 1 2 [4]).bytes = true ∧ fByte (wT 0 1 2 [4]).bytes 2 = 1 ∧ fByte (wT 0 1 2 [4]).bytes 3 = 2 ∧ fByte (fPayload (wT 0 1 2 [4]).bytes) 0 = 4 ∧ fByte (wT 0 1 2 [4]).bytes 0 = 0xFF ∧
      fByte (wT 0 1 2 [4]).bytes 1 = 0 ∧ fNum (wT 0 1 2 [4]).bytes 4 2 ∉ Map.get [] (wTrunk 2 0).trunk.seen 0) ∧
    (frameGood (wT 0 2 0 (toBytes 8 77)).bytes = true ∧ frameGood (wT 5 3 0 []).bytes = true ∧ frameGood (wT 5 4 0 (toBytes 8 1 ++ toBytes 8 2)).bytes = true) ∧
    ({ wTrunk 2 3 with trunk := { wBase.trunk with dreq := [(0, 1)] } }.trunk.dreq.find? (fun v => v.1 == 0) = some (0, 1)) ∧
    (let pl := (List.range 32).flatMap (fun n => toBytes 2 (if n = 3 then 500 else 0))
     frameGood (wT 0 6 0 pl).bytes = true ∧ fNum (fPayload (wT 0 6 0 pl).bytes) 6 2 = 500 ∧ (wTrunk 2 3).pwFloor ≤ 500) ∧
    ((wTrunk 2 3).setFld 0x0C 0x1C 31 31 1).fld 0x0C 0x1C 31 31 = 1 ∧ wBase.fld 0x18 0x10 0 0 = 0 ∧ (wBase.setFld 0x18 0x10 0 0 1).fld 0x18 0x10 0 0 = 1 := by decide
/-- ENUM numbers a worker from trunk 0 by what is left of the ring, and goes on with one more hop (R477). -/
theorem test_enum_receive : let t := after (exec (.enumReceive false (wT 0 1 2 [4])) (wTrunk 2 0)); (t.node, t.hasNode, fByte (Map.get [] t.trunk.out 1) 3) = (2, true, 3) := by decide
theorem test_enum_send : fPayload (Map.get [] (after (exec .enumSend ((wTrunk 1 0).setFld 0x0C 0x1C 13 8 6))).trunk.out 0) = [6] := by decide

/-- An Ethernet MAC, enabled, with `n` frames queued; its ring empty but for `used` bytes. -/
def wEth (n : Nat) (rd : Nat) : State :=
  { (wBase.setFld 0x1A 4 0 0 1).setFld 0x1A 0x34 14 4 rd with eth := [(0, { txq := List.replicate n { tag := 5, ofs := 0x10, len := 60 }, wait := [], out := [] })] }
def wBcast6 : List Byte := List.replicate 6 0xFF ++ List.replicate 54 1
theorem test_macs :
    (wBase.mode = .run ∧ 60 ≤ bits (0x5001003C : Word) 10 0 ∧ 16 * bits (0x5001003C : Word) 24 16 + 60 ≤ 0x2000 ∧ ((wEth 3 0).mac false).txq.length < 4 ∧ bits (0x3B : Word) 10 0 < 60) ∧
    ((wEth 1 0).mac false).txq = [{ tag := 5, ofs := 0x10, len := 60 }] ∧ ((wEth 1 0).mac false).wait = [] ∧
    ((wEth 0 0).blkEn 0x1A = true ∧ isPause wBcast6 = false ∧ (wEth 0 0).ethAccept false wBcast6 = true) ∧
    ((wEth 0 0).fld 0x1A 0x30 14 4 * 16 + 80 ≤ 0x6000 ∧ 80 ≤ ((wEth 0 0).fld 0x1A 0x34 14 4 * 16 + 0x6000 - 0 - 1) % 0x6000 ∧
      ((wEth 0 1).fld 0x1A 0x34 14 4 * 16 + 0x6000 - 0 - 1) % 0x6000 < 80) ∧ wBase.fld 0x1A 0x38 0 0 ≠ true.toNat := by decide
/-- The FCS of a frame received is checked and taken off (R484); a frame with a wrong one is dropped. -/
theorem test_eth_frame_receive : let t := after (exec (.ethFrameReceive false (wBcast6 ++ toBytes 4 (crc32 wBcast6))) (wEth 0 0))
    (t.fld 0x1A 0x30 14 4, t.macByte false 0xA000, t.macByte false 0xA010) = (5, 60, 0xFF) := by decide +kernel
theorem test_eth_bad_fcs : let t := after (exec (.ethFrameReceive false (wBcast6 ++ toBytes 4 (crc32 wBcast6 + 1))) (wEth 0 0))
    (t.fld 0x1A 0x30 14 4, t.fld 0x1A 0x38 31 16) = (0, 1) := by decide +kernel

/-- Channel 9 in a state, with a request of node 3. -/
def wMbx (st : Nat) : State := { wBase.setFld 5 (0x1000 + 0x400 * 9 + 0x204) 1 0 st with trunk := { wBase.trunk with src := [(9, 3)] } }
theorem test_mailboxes :
    ((wMbx 0).mbxMay .cretal 9 = true ∧ (wMbx 0).mbxMay (.engine 4) 9 = false ∧ ([0, 1, 2, 3].all (fun st => (wMbx st).mbxState 9 == st)) = true) ∧
    (let by_ := mkFrame 0 3 5 0 5 0 ([9, 0, 0, 0] ++ List.replicate 256 7)
     frameGood by_ = true ∧ fByte by_ 2 = 5 ∧ fByte by_ 0 = 0 ∧ fByte by_ 1 = 3 ∧ fByte (fPayload by_) 0 = 9 ∧ fByte (fPayload by_) 1 = 0) ∧ (wMbx 0).role ≠ 2 := by decide +kernel
/-- DONE on a trunk channel sends the response to the node that asked and frees the channel (R503). -/
theorem test_mbx_done : let t := after (exec (.done .cretal 9) (wMbx 2)); (t.mbxState 9, fByte (Map.get [] t.trunk.out 0) 0, t.events.map (·.1)) = (0, 3, [1897]) := by decide

/-! ## Cretal's firmware -/

/-- A capability specification over resource 5 as the bytes of a request (Table 14-10). -/
def wSpecBytes (lin drop : Nat) : List Byte := toBytes 2 5 ++ toBytes 2 lin ++ toBytes 2 0x3FF ++ toBytes 2 drop ++ toBytes 8 0x1000 ++ toBytes 8 0x1000 ++ toBytes 8 0
def wSpec : CapSpec := { res := 5, lin := 0, perm := 0x3FF, drop := 0, ofs := 0x1000, size := 0x1000, cur := 0 }
/-- Domain 7 owns tile 0, port 0 and resource 5, with every flag. -/
def wRec : InstallRec :=
  { domains := [{ id := 7, engines := List.range 32, chans := [2], drop := 0x10000, quota := 9, trustk := true, heartbeat := true, safety := true, image := true
                  cal := true, sysmgr := true, soft := [2000] }]
    resources := [{ num := 5, base := 0x100000, size := 0x100000, vbase := 2 ^ 55 + 0x100000, perm := 0x3FF, domains := [7], mirror := false }]
    engines := [{ id := 3, domain := 7, chan := some 2, spillHw := true, paired := false, dtb := 0x40000, regions := [], pcc := wSpec, ksp := wSpec, vbar := wSpec
                  restpc := wSpec, restsp := wSpec, drop := wSpec, vmode := 0, ttb1 := 0, tcr := 0, tlbage := 0x10000 }]
    ports := [{ port := 0, owner := 7, model := 0, serial := 0, base := [] }]
    device := { memCfgA := 0, memCfgB := 0, dcsize := [], safePol := 0, calCfg := 0, kcfg := 0, hang := 0, scrbPeriod := 0, role := 1, refcal := 0, tdrZero := [], cretalMpu := [], binds := [] } }
/-- Firmware serves a request of channel `n` that engine 0 rang from a paired task. -/
def wFw (n code : Nat) (pay : List Byte) : State :=
  { (((wTasks .ready 0).setFld 5 (0x1000 + 0x400 * n + 0x204) 1 0 2).setReg 5 (0x1000 + 0x400 * n + 0x20C) 0xC0000000) with
    cretalReset := false, inst := some wRec, fw := { Fw.reset with req := [(n, fwMsg code 6 0 pay)] }
    linA := [(0, 0x10), (9, 0x710), (10, 0x720)], linB := [(0, 0x10), (9, 0x710), (10, 0x720)] }
/-- What Asks asks, with a fact of the request. -/
def asksB (s : State) (n : BitVec 5) (code : Nat) (f : Req → Bool) : Bool :=
  match s.serving n.toNat with
  | some q => asReset s && s.ramErrs.isEmpty && q.cmd == code && crc32 (q.head ++ q.pay) == q.crc && (s.repeated q).isNone && q.check.isNone && f q
  | none => false
theorem asks_of_asksB {s : State} {n : BitVec 5} {code : Nat} {f : Req → Bool} (h : asksB s n code f = true) : ∃ q, Asks s n code q ∧ f q = true := by
  cases hs : s.serving n.toNat with
  | none => simp [asksB, hs] at h
  | some q =>
    simp only [asksB, hs, Bool.and_eq_true, beq_iff_eq, Option.isNone_iff_eq_none, List.isEmpty_iff] at h
    obtain ⟨⟨⟨⟨⟨⟨h1, h2⟩, h3⟩, h4⟩, h5⟩, h6⟩, h7⟩ := h
    exact ⟨q, ⟨asReset_reaches h1 h2, hs, h3, h4, h5, h6⟩, h7⟩
def wZ (n : Nat) : List Byte := List.replicate n 0
/-- A request on channel 2 of the kernel, or on channel 24 of the debug port, with a fact of it. -/
def asks2 (c : Nat × List Byte × (Req → Bool)) : Bool := asksB (wFw 2 c.1 c.2.1) 2 c.1 c.2.2

theorem test_requests_answered :
    asksB (wFw 2 1 []) 2 1 (fun q => decide (crc32 (q.head ++ q.pay) = q.crc ∧ q.chan = 2)) = true ∧
    (match ({ wFw 2 1 [] with fw := { Fw.reset with req := [(2, (fwMsg 1 6 0 []).set 12 0)] } }.serving 2) with
      | some q => decide (crc32 (q.head ++ q.pay) ≠ q.crc) | none => false) = true ∧
    (match (wFw 2 1 [9]).serving 2 with | some q => q.check == some 4 | none => false) = true ∧ (wFw 2 1 []).mbxState 2 = 2 := by decide +kernel
/-- GET_INFO's answer: its status, and the device mode in the payload (Table 14-12). -/
theorem test_get_info : let m := (after (exec (.getInfo 2) (wFw 2 1 []))).mbxBytes 2 0x100
    (m.getD 8 9, m.getD 2 0, m.getD 6 0, m.getD 22 0) = (0, 1, 6, 1) := by decide +kernel

theorem test_firmware_reports :
    ([((1 : Nat), ([] : List Byte), fun (_ : Req) => true), (2, toBytes 4 5, fun q => q.paired && q.flag Domain.heartbeat), (3, [], fun _ => true), (4, wZ 2, fun _ => true),
      (0x101, [], fun q => q.flag Domain.image), (0x206, toBytes 2 1, fun q => q.ownsEngine (q.num 0 2 / 64)),
      (0x306, toBytes 2 9, fun q => (wFw 2 0x306 []).ownsLin q (q.num 0 2)), (0x601, [], fun _ => true),
      (0x402, [0], fun q => q.byte 0 < 8 && (wFw 2 0x402 []).ownsPort q 0), (0x501, [], fun _ => true), (0x701, [], fun _ => true), (0x703, [], fun _ => true)].all asks2) = true := by
  decide +kernel

theorem test_firmware_tasks :
    ([((0x301 : Nat), ([] : List Byte), fun (q : Req) => decide (q.dom.id < 256 ∧ (wFw 2 0 []).linOwned q.dom.id < q.dom.quota)),
      (0x302, wSpecBytes 9 3, fun q => (match (wFw 2 0 []).buildSpec q.all q.dom.id false (q.spec 0) with
        | .ok (c, r) => decide (r.mirror = false ∧ capLin c = 9 ∧ capGen c = 0 ∧ capMalformed c = false ∧ c.kind = .cap) | .error _ => false) &&
        decide ((q.spec 0).drop < 64 ∧ (wFw 2 0 []).domainPaired q.dom = false ∧ (wFw 2 0 []).isMemory (q.dom.drop + 48) = true)),
      (0x303, toBytes 2 9, fun q => (wFw 2 0 []).ownsLin q (q.num 0 2)), (0x304, toBytes 2 9, fun q => (wFw 2 0 []).ownsLin q (q.num 0 2)),
      (0x305, toBytes 2 10, fun q => (wFw 2 0 []).ownsLin q (q.num 0 2)), (0x203, toBytes 2 1, fun q => q.ownsEngine 0), (0x204, toBytes 2 2, fun _ => true), (0x205, toBytes 2 2, fun _ => true),
      (0x207, [1, 0, 2, 0, 0, 0, 0, 0], fun q => q.byte 2 < 16 && q.byte 3 == 0),
      (0x208, [3, 0, 1, 0, 4, 0], fun q => q.num 0 2 < 2048 && q.byte 4 < 16 && q.byte 5 < 4 && (wFw 2 0 []).mayBind q 3 && q.ownsEngine 0)].all asks2) = true ∧
    ((wFw 2 0 []).freeLin 1 65535 = some 1 ∧ entState ((wFw 2 0 []).linEntry false 9) = 1 ∧ entState ((wFw 2 0 []).linEntry true 10) = 2 ∧ (wFw 2 0 []).lin.phase = .idle ∧
      (wFw 2 0 []).linBg = false ∧ (wFw 2 0 []).fld 8 0x14 0 0 = 0 ∧ (wFw 2 0 []).fld 0x20 0x204 0 0 = 0) := by decide +kernel
/-- LIN_ALLOC gives index 1 to domain 7 (Table 14-13). -/
theorem test_fw_lin_alloc : let t := after (exec (.linAlloc 2) (wFw 2 0x301 [])); ((t.mbxBytes 2 0x100).getD 16 0, t.linEntry false 1) = (1, 0x710) := by decide +kernel

/-- TASK_CREATE of slot 5 of engine 0 with its three specifications; ENGINE_START of engine 3. -/
def wCreate : List Byte := [0, 0, 5, 0] ++ wZ 20 ++ wSpecBytes 9 0 ++ wSpecBytes 9 0 ++ wSpecBytes 9 0 ++ wZ 16
theorem test_task_create_operands :
    asksB (wFw 2 0x202 wCreate) 2 0x202 (fun q =>
      match (wFw 2 0 []).buildSpec q.all q.dom.id false (q.spec 0x18), (wFw 2 0 []).buildSpec q.all q.dom.id false (q.spec 0x38), (wFw 2 0 []).buildSpec q.all q.dom.id false (q.spec 0x58) with
      | .ok a, .ok _, .ok c => taskFieldsOk q (.ok a) (.ok c) && q.byte 3 / 64 % 2 == 0 && q.ownsEngine (q.num 0 2) && q.byte 0x12 == 0 && (wFw 2 0 []).slotFree 0 5
      | _, _, _ => false) = true := by decide +kernel
theorem test_engine_start_operands :
    asksB (wFw 2 0x201 (toBytes 2 3)) 2 0x201 (fun q =>
      let s := wFw 2 0x201 (toBytes 2 3)
      match s.engineRec 3 with
      | none => false
      | some x =>
        let caps := ([x.pcc, x.ksp, x.vbar, x.restpc, x.restsp, x.drop].map (s.buildSpec false x.domain true)).filterMap (fun r => match r with | .ok v => some v.1 | .error _ => none)
        caps.length == 6 && q.ownsEngine 3 && !x.paired && (s.engine 3).held && (match (fwEngineRegs x 3 false).run s with
          | .ok _ s1 => (match (fwStartRecord q x caps false).run s1 with
            | .ok _ s2 => !((s2.regWrite .cretal 0x20 0x308 8).engine 3).held
            | .error _ _ => false)
          | .error _ _ => false)) = true := by decide +kernel

theorem test_firmware_controls :
    ([((0x602 : Nat), ([] : List Byte), fun (q : Req) => q.paired && q.flag Domain.safety), (0x603, wZ 4, fun q => q.flag Domain.safety), (0x604, [], fun _ => true),
      (0x605, toBytes 4 0x2AAAAAAA, fun q => q.flag Domain.safety && (List.range 15).all (fun c => decide (polMin c ≤ 2 ∧ (wFw 2 0 []).fld 6 0x18 (2 * c + 1) (2 * c) ≤ 2))),
      (0x401, [0], fun q => (wFw 2 0 []).ownsPort q 0), (0x403, [0], fun q => (wFw 2 0 []).ownsPort q 0),
      (0x407, [0, 1, 16, 0, 0, 1, 5, 0], fun q => 16 ≤ q.num 2 2 && q.num 2 2 ≤ 256),
      (0x404, [0, 1, 2, 3, 4, 0, 0, 1, 5, 0, 0, 0, 0, 0, 0, 0], fun q => match (wFw 2 0 []).inst.bind (fun i => i.resources.find? (fun x => x.num == q.num 8 2)) with
        | some r => resBelongs r q.all q.dom.id && decide (q.num 12 4 + 0x20000 ≤ r.size ∧ r.base % 64 = 0 ∧ r.base + q.num 12 4 < 2 ^ 44) | none => false),
      (0x405, [0, 0, 0, 0, 0x50, 0xC3, 0, 0], fun q => q.flag Domain.cal && q.num 4 4 == 50000), (0x406, [], fun q => q.flag Domain.cal),
      (0x502, [0, 2], fun q => q.ownsTile 0), (0x503, toBytes 4 20000, fun q => q.flag Domain.sysmgr && decide ((wFw 2 0 []).pwFloor ≤ q.num 0 4 / 25)),
      (0x702, toBytes 8 77, fun q => q.flag Domain.sysmgr), (0x704, [3, 9, 1, 0], fun q => decide (q.byte 0 < 32 ∧ 8 ≤ q.byte 1 ∧ q.byte 1 ≤ 15))].all asks2) = true ∧
    ((wFw 2 0 []).mode = .run ∧ (wFw 2 0 []).pairedTile 0 = false ∧ (wFw 2 0 []).role ≠ 2 ∧ (wFw 2 0 []).knownPartner 0 = true ∧ (wFw 2 0 []).knownPartner 1 = false ∧
      ((wFw 2 0 []).setFld 0x10 0x14 0 0 1).fld 0x10 0x14 0 0 = 1 ∧ (wFw 2 0 []).fld 0x0E 0x24 1 1 = 0 ∧ (wFw 2 0 []).sense.scan = none ∧ 77 * 25 < 2000) ∧
    (match { wFw 2 0x704 [3, 9, 1, 0] with fw := { (wFw 2 0x704 [3, 9, 1, 0]).fw with bg := [(2, { cmd := 0x704, val := 1, aux := 3 })] } }.background 2 with
      | some (b, _) => b.cmd == 0x704 && b.aux == 3 | none => false) = true := by decide +kernel
/-- SAFE_ENTER (R515). -/
theorem test_safe_enter : let t := after (exec (.safeEnter 2) (wFw 2 0x603 (wZ 4))); (t.mode, (t.mbxBytes 2 0x100).getD 8 9) = (.safe, 0) := by decide +kernel

/-- The same with the debug port on channel 24, in a lifecycle, with what firmware and OTP hold. -/
def wDbg (life : Nat) (code : Nat) (pay : List Byte) (locked : Bool) : State :=
  { wFw 24 code pay with
    fw := { Fw.reset with req := [(24, fwMsg code 6 0 pay)], locked := locked, nonce := some { val := 5, scope := 3 } }
    otp := { life := life, keys := [(1, { use := 1, revoked := false, hash := List.replicate 32 7 })], minVer := 0 }
    img := { wBase.img with booted := some 1 }, regs := Map.put 0x1A000000 (wFw 24 code pay).regs (regKey 0x1C 0x10) }
def asks24 (c : Nat × Nat × List Byte × (Req → Bool)) : Bool := asksB (wDbg c.1 c.2.1 c.2.2.1 false) 24 c.2.1 c.2.2.2
theorem test_firmware_life :
    ([((0 : Nat), (0x102 : Nat), ([0, 0, 0, 0, 4, 0, 0, 0, 9, 9] : List Byte), fun (q : Req) => q.flag Domain.image && decide (q.num 4 4 + (q.len - 8) ≤ (wDbg 0 0 [] false).slotSize)),
      (0, 0x103, [1], fun _ => true), (0, 0x104, [0], fun _ => true), (0, 0x104, [1], fun q => q.byte 0 == 1), (0, 0x105, [1, 0, 0, 0] ++ wZ 64, fun q => q.num 1 3 == 0),
      (1, 0x105, [2, 0, 0, 0] ++ wZ 64, fun _ => true), (1, 0x106, [0, 1, 0, 0] ++ wZ 32, fun q => q.byte 0 < 4), (1, 0x106, [1, 1, 1, 0] ++ wZ 32, fun q => q.byte 2 == 1),
      (2, 0x801, [3], fun q => q.byte 0 < 32), (2, 0x802, wZ 65, fun q => q.byte 64 < 4), (2, 0x803, [], fun _ => true)].all asks24) = true ∧
    ((wDbg 0 0 [] false).otpKey 1 1).isSome = true ∧ (wDbg 1 0 [] false).otp.keys.find? (fun x => x.1 == 0) = none ∧ (wDbg 0 0 [] false).img.booted = some 1 ∧
    (match { wDbg 1 0x104 [0] false with fw := { (wDbg 1 0x104 [0] false).fw with bg := [(24, { cmd := 0x104, val := 0, aux := 0 })] } }.background 24 with
      | some (b, q) => b.cmd == q.cmd | none => false) = true ∧
    (wDbg 2 0x802 (wZ 65) true).fw.locked = true ∧ ((State.reset.setFld 1 0x10 3 2 3).fld 1 0x10 3 2 = 3 ∧ State.reset.fld 2 0x20 1 0 ≠ 2 ∧ State.reset.img.booted = none) ∧
    (let s := (wFw 2 0 []).setFld 4 (0x100 + 4 * 54) 6 6 1; s.cretalReset = false ∧ s.cpend 1734 = true ∧ s.mode = .run) := by decide +kernel
/-- OTP_KEY revokes a programmed key (R519). -/
theorem test_otp_key : (after (exec (.otpKey 24) (wDbg 1 0x106 ([1, 1, 1, 0] ++ wZ 32) false))).otp.keys.map (fun p => (p.1, p.2.revoked)) = [(1, true)] := by decide +kernel

/-! ## Power, clocks and resets -/

/-- Tile 2 in a power state. -/
def wPwr (cur : Nat) (f : Power → Power) : State := { ((wBase.setFld 2 0x108 9 8 cur).setFld 2 0x108 4 4 1).setFld 2 0x108 1 0 1 with pw := f wBase.pw }
theorem test_power_and_clocks :
    (isMgmt .cretal = true ∧ (wPwr 0 id).pairedTile 2 = false ∧ 50 ≤ bits (50 : Word) 9 0 ∧ bits (1001 : Word) 9 0 > 1000 ∧ bits (2 : Word) 1 0 = 2) ∧
    ((List.range 32).all (fun i => ((wPwr 0 id).engine (64 + i)).allFree && !((wPwr 0 id).engine (64 + i)).committing && !((wPwr 0 id).engine (64 + i)).busy &&
      !((wPwr 0 id).engine (64 + i)).hasReady) = true ∧ ((wTasks .ready 0).engine 0).allFree = false) ∧
    ((wPwr 0 id).pwFloor ≤ bits (1000 : Word) 9 0 ∧ bits (79 : Word) 9 0 < (wPwr 0 id).pwFloor) ∧
    (let s := wPwr 3 (fun p => { p with wakeQ := [2] })
     2 ∈ s.pw.wakeQ ∧ s.wakeTurn 2 = true ∧ s.grant + tileCost (s.freq 2) ≤ s.budget ∧ (s.setFld 2 0x10 9 0 80).budget < (s.setFld 2 0x10 9 0 80).grant + tileCost ((s.setFld 2 0x10 9 0 80).freq 2)) ∧
    (2 ∈ (wPwr 3 (fun p => { p with waking := [2] })).pw.waking ∧ (wPwr 0 id).tileCur 2 = 0 ∧ (wPwr 0 id).fld 2 0x108 4 4 = 1 ∧ (wPwr 1 id).tileCur 2 ≤ 1 ∧ (wPwr 1 id).fld 2 0x108 1 0 = 1) ∧
    ((wPwr 0 (fun p => { p with hotOn := true })).pw.hotOn = true ∧ (wPwr 0 id).pw.gradOn = []) := by decide
/-- A wake completes: RUN (R533). -/
theorem test_tile_wake_complete : let t := after (exec (.tileWakeComplete 2) (wPwr 3 (fun p => { p with waking := [2] }))); (t.tileCur 2, t.pw.waking) = (0, []) := by decide

theorem test_resets :
    (bits (0x5AFE0000 : Word) 31 16 = 0x5AFE ∧ (4 : Word) = BitVec.ofNat 32 (2 ^ 2) ∧ (wPwr 0 id).fld 3 0x18 2 2 = 0 ∧ (wPwr 0 id).tileCur 2 < 2 ∧ Map.get 0 (wPwr 0 id).pw.defer 2 = 0) ∧
    ((wBase.pairedEng 65 = false ∧ wBase.fld 3 0x108 1 1 = 0) ∧ ((wBase.updEngine 65 (fun x => { x with resetPend := true })).engine 65).resetPend = true) ∧
    ((wSafe .start).mode = .start ∧ (∀ i, ((wSafe .start).engine i).allFree = true)) ∧
    (let s := (((State.reset.setFld 2 0x20 1 0 2).setFld 2 0x34 1 0 3).setReg 2 0x30 9)
     s.fld 2 0x20 1 0 = 2 ∧ s.fld 2 0x34 0 0 = 1 ∧ s.fld 2 0x34 1 1 = 1 ∧ s.reg 2 0x30 ≠ 0) :=
  ⟨by decide, by decide, ⟨by decide, fun i => rfl⟩, by decide⟩
/-- A warm reset holds every engine and keeps the umber registers (Table 15-6). -/
theorem test_warm_reset : let t := after (exec .warmReset (((wState 0 7 []).setReg 2 0x30 9).setFld 6 0x30 0 0 1)); ((t.engine 0).held, t.reg 2 0x30, t.fld 6 0x30 0 0, t.reg 3 0x10) = (true, 9, 0, 3) := by decide

/-- A start record for engine 65 below its descriptor table. -/
def wStart (k : Kind) : State :=
  let base := 0x100000 - 256
  { (wBase.setReg 0x22 0x184 0x40).setReg 0x22 0x304 0 with
    mem := ([0, 1, 2, 3, 4, 5].foldl (fun (m : Memory) (i : Nat) => m.setCell (base + 16 * i) { bits := (wCap (16 * i)).bits, tag := kindTag k }) State.reset.mem).setCell (base + 112)
      { bits := 4096 <<< 64, tag := 0 } }
theorem test_engine_release :
    isMgmt .cretal = true ∧ ((wStart .cap).engine 65).held = true ∧ (wStart .cap).fld 0x22 0x308 1 1 = 0 ∧ (wStart .cap).startRecord 65 = 0x100000 - 256 ∧
    (match (wStart .cap).read256 ((wStart .cap).startRecord 65) 65 with | (some l, u) => startOk l && decide (u.eng = (wStart .cap).eng) | _ => false) = true ∧
    (match (wStart .int).read256 ((wStart .int).startRecord 65) 65 with | (some l, u) => !startOk l && decide (u.eng = (wStart .int).eng) | _ => false) = true := by decide +kernel
theorem test_eng_rel : let t := after (exec (.engRel .cretal 2 2) (wStart .cap)); ((t.engine 65).held, (t.engine 65).level, (t.chuck 65).reg 1) = (false, .k, wCap 80) := by decide +kernel

/-! ## Registers and the debug port -/

/-- A field of each access type, in, and out of, its limits; a reserved offset; an index with no block. -/
theorem test_register_writes :
    (wBase.region 0x10020010 = .regs 2 0x10 ∧ wBase.region 0x10FF0010 = .regs 0xFF 0x10 ∧ blkOf 0xFF = none ∧ blkOf 2 ≠ none ∧ engineMay 2 true = false) ∧
    (wBase.writeSpecial .cretal 6 0x28 5 = none ∧ (regRow 2 0xFF0 = none) ∧ ((regRow 9 0x10).map (fun r => (r.own.lets .cretal, r.own.lets (.engine 0), r.flds.length != 0))).isSome = true) := by decide
/-- A write to the fill unit's address keeps the reserved bits (R13). -/
theorem test_register_write : (after (exec (.registerWrite .cretal 0x10090020 0xFFFFFFFF) wBase)).reg 9 0x20 = 0xFFFFFFC0 := by decide

/-- The debug port with a scope, in FIELD, selecting engine 0, halted or not. -/
def wJtag (scope : Nat) (halted : Bool) : State :=
  ({ (wBase.setReg 0x1E 0x10 (BitVec.ofNat 32 (0x80000000 + scope))) with mem := State.reset.mem.setCell 0x1800 { bits := 0x99887766554433221100, tag := 1 } }).updEngine 0
    (fun x => { x with dbg := { x.dbg with halted := halted }, held := false, level := .rest, chucks := [(7, { Chuck.empty with regs := [(4, intCell 9)] })] })
theorem test_debug_port :
    ((wJtag 3 true).inScope 1 = true ∧ (wJtag 3 true).inScope 2 = true ∧ (wJtag 7 true).inScope 6 = true ∧ (wJtag 16 true).inScope 16 = true ∧ (wJtag 0 true).inScope 1 = false ∧
      (wSafe .safe).mode ≠ .run ∧ (wJtag 3 true).inDebugScope 0x1E 0x18 true = false ∧ (wJtag 4 true).inDebugScope 0x1E 0x18 true = true ∧ (wJtag 8 true).inDebugScope 0x1E 0x30 true = true ∧
      (wJtag 4 true).inDebugScope 2 0x10 true = false ∧ (wJtag 0 true).inDebugScope 0x1E 0x10 true = true ∧ (wJtag 0 true).inDebugScope 5 0x7000 true = true ∧ (wJtag 3 true).guarded 0x1804 = false ∧ (wJtag 3 true).jtag.busy = none) ∧
    ((wJtag 3 true).region 0x1804 = .cluster 0 ∧ (wJtag 3 true).mem.err 0x1800 = 0 ∧ kindOfTag ((wJtag 3 true).mem.cell 0x1804).tag = some .int) ∧
    (dbgRegOf 0x70040000 = some (.cell 7 4, 0) ∧ dbgRegOf 0x70040004 = some (.cell 7 4, 4) ∧ dbgRegOf 0x70FF0000 = none ∧ (wJtag 7 true).dbgReady = true ∧ (wJtag 7 false).dbgReady = false) := ⟨by decide, by decide, rfl, rfl, rfl, by decide, by decide⟩
theorem test_guarded_region : ((wJtag 3 true).setReg 0x20 0x100C 0xC0000007).guarded 0x4 = true := by decide +kernel
/-- A bus write of 4 bytes makes its cell RAW; a word of a register written makes it RAW (R556, R563). -/
theorem test_dbg_write : (wJtag 3 true).busWrite 0x1804 7 = (wJtag 3 true).dbgStore 0x1804 0x1804 7 ∧ (let t := ((wJtag 3 true).dbgStore 0x1804 0x1804 7).2
    (((wJtag 3 true).dbgStore 0x1804 0x1804 7).1, t.mem.tag 0x1800, t.mem.byte 0x1804, t.mem.byte 0x1803) = (0, 0, 7, 0x33)) := by
  have h : (wJtag 3 true).region 0x1804 = .cluster 0 := by decide
  have hg : (wJtag 3 true).guarded 0x1804 = false := by decide +kernel
  exact ⟨by simp [State.busWrite, hg, h], by decide +kernel⟩
theorem test_dbg_state_write : (((wJtag 7 true).dbgPerform (.stateWrite 0x70040001 7)).chuckAt 0 7).reg 4 = { bits := 0x700000009, kind := .raw } := by decide +kernel

/-- Engine 0 running, with or without a request to halt; halted; stopped. -/
def wHalt (f : Engine → Engine) : State := (wState 0 7 []).updEngine 0 f
theorem test_halt_step_resume :
    ((wHalt id).dbgSel = 0 ∧ (wHalt id).coupled 0 = false ∧ ((wHalt id).engine 0).stopped = false ∧ ((wHalt id).engine 0).dbg.halted = false ∧ (wPair [] []).coupled 0 = true ∧
      ((wPair [] []).engine 0).stopped = false) ∧
    (let y := (wHalt (fun x => { x with dbg := { x.dbg with haltReq := some 1 } })).engine 0
     y.dbg.haltReq = some 1 ∧ y.held = false ∧ y.boundary = true ∧ y.long = none ∧ (wHalt id).tileCur 0 < 2) ∧
    (let s := { (wState 0 7 []).updEngine 512 (fun x => { x with held := false, commits := 9 }) with pairs := [(0, { Pair.reset with haltAt := some 9 })] }
     (s.pair 0).haltAt = some 9 ∧ (s.engine 512).commits = 9 ∧ (s.engine 512).held = false ∧ (s.engine 512).boundary = true) ∧
    ((wHalt (fun x => { x with dbg := { x.dbg with halted := true } })).engine 0).dbg.halted = true ∧ ((wHalt (fun x => { x with stopped := true })).engine 0).stopped = true ∧
    (wBase.fld 0x1E 0x10 31 31 = 1 ∧ (wBase.setReg 0x1E 0x10 0).fld 0x1E 0x10 31 31 = 0) := by decide
theorem test_engine_halt : let t := after (exec (.engineHalt 0) (wHalt (fun x => { x with dbg := { x.dbg with haltReq := some 1 } })))
    ((t.engine 0).dbg.halted, (t.engine 0).dbg.reason, t.events.map (·.1)) = (true, 1, [1920]) := by decide

/-! ## Well-formedness: each check refuses a term -/

theorem test_ill_formed :
    ([.shi 0 0 1 1 0x140, .sel 0 0 15 1 1 2, .cmov 0 0 15 1 1, .b 0 0 15 0, .ldx 0 0 1 2 0 0 5 false, .ldx 0 0 1 2 0 4 0 false, .ldx 0 0 1 2 4 2 0 false,
      .ldx 0 0 1 2 0 0 3 true, .ldu 0 0 1 1 0 1 0 false, .stx 0 0 1 2 0 0 5, .stu 0 0 1 2 4 3 0, .gsr 0 0 1 6, .ssr 0 0 0x110 1, .ssr 0 0 0x107 1].all (fun i => !Instr.wf i)) = true ∧
    ([.loop 0 0 3 1 1, .loop 0 0 0 1 0, .loopi 0 0 3 1 1, .loopi 0 0 0 1 0, .lclr 0 0 3, .macr 0 0 3 0 1 2 3, .macru 0 0 3 0 1 2 3, .macrq 0 0 3 0 1 2 3,
      .lins 0 0 3 1 2 2, .lext 0 0 0 1 2 16, .lexts 0 0 1 1 2 8, .lpacks 0 0 3 1 2 3, .lpackus 0 0 3 1 2 3, .lwidenLo 0 0 3 1 2, .lwidenHi 0 0 3 1 2,
      .mac 0 0 3 0 1 2, .macu 0 0 3 0 1 2, .msu 0 0 3 0 1 2, .macq 0 0 3 0 1 2, .anarrow 0 0 3 1 0 2].all (fun i => !Instr.wf i)) = true ∧
    ([.partnerFrameReceive 0 ⟨true, true, []⟩, .enumReceive false ⟨[]⟩, .syncReceive false ⟨[]⟩, .dreqReceive false ⟨[]⟩, .drspReceive false ⟨[]⟩, .mbxFrameReceive false ⟨[]⟩,
      .budgetFrameReceive false ⟨[]⟩, .ethFrameReceive false (List.replicate 59 0), .l1dLineFill 0 (List.replicate 5 0), .channelCrossCheck [512]].all (fun i => !Instr.wf i)) = true := by decide

/-! ## Words written out from the formats of Table 03-2 -/

/-- R, I, J, B, L and M formats by hand: ADD c3,c1,c2; ADDI c3,c1,-1; MOVI c1,0x20000; B.AL +1; LOOP 0,c1,1; LDX of 4 bytes, sign-extended. -/
theorem test_words : (encR 0 1 3 1 2 0, encI 0 3 3 1 0x1FFF, encJ 0 0x0A 1 0x20000, encB 0 14 1, encL 0 0 0 1 1, encM 0 0x1D 4 1 2 0 2 true false) =
    ((0b00000000100011000010001000000000 : Word), (0b00000001100011000011111111111111 : Word), (0b00000101000001100000000000000000 : Word),
      (0b00010000111100000000000000000001 : Word), (0b00010100000000000010000000000001 : Word), (0b00001110100100000010001000001010 : Word)) := by decide
/-- A word no instruction has: a function code beyond the table's, LOOP's level 3, MACR in a control task (R162). -/
theorem test_illegal_words : [encR 0 1 3 1 2 0x3F, encL 0 3 0 1 1, encR 0 0x29 1 2 3 8].all (fun w => !legalWord w false true) = true := by decide

/-! ## Hypotheses of the clauses beside the main one -/

/-- Errors of one stored symbol, of two, and of an address symbol, in a line of L1D and in memory (R208, R371). -/
theorem test_error_weights : errWeight 0x100 = (1, 1) ∧ (errWeight 0x101).1 = 2 ∧ errWeight (1 <<< 168) = (1, 21) ∧
    (let l : L1Line := { line := 0x60, cells := [{ bits := 5, tag := 1 }], errs := [0x101, 0] }
     l.err (0x1800 % 64) = 0x101 ∧ l.err (0x1810 % 64) = 0) := by decide +kernel
theorem test_line_refetched :
    let s := (wState (encI 0 0x14 4 1 0) 7 wMem).updEngine 0 (fun x => { x with l1d := [{ line := 0x60, cells := [{ bits := 5, tag := 1 }], errs := [0x101] }] })
    let t := after (exec (.ldw 0 0 4 1 0) s)
    ((t.engine 0).l1d, (t.engine 0).load.map (·.refetch)) = ([], some true) := by decide +kernel

/-- A task with its page DEVICE, or NORMAL with a full store buffer. -/
def wStore (w : Word) (mt : MemType) (sb : List SbEntry) : State :=
  (wTask w 0 0).updEngine 0 (fun x => { x with
    sb := sb, tlb := [{ half := false, vbase := 0, shift := 14, asid := 0, g := true, u := true, xt := true, xk := false, w := true, df := true, mt := mt, pbase := 0 }]
    chucks := [(0, { Chuck.empty with pcc := wCap 0, regs := wMem, sys := [(0, 0x30300)] })] })
def sbOne (i : Nat) : SbEntry := { cell := 0x1900 + 16 * i, ofs := 0, n := 4, data := 5, kind := .raw, sync := false }
theorem test_store_clauses :
    ([(MemType.device, ([] : List SbEntry)), (.normal, (List.range 4).map sbOne), (.device, [sbOne 0])].all (fun p =>
      runsB (wStore (encI 0 0x1A 3 1 0) p.1 p.2) (encI 0 0x1A 3 1 0) &&
      answers (dataAccess 0 { cap := wPtr, a := 0x1800, n := 4, need := [.st], rd := false, wr := true, align := true, user := false, inl := false
                              reg := some 1, accCode := 2 } (pure ())) (wStore (encI 0 0x1A 3 1 0) p.1 p.2) (0x1800, p.1) &&
      !(wStore 0 p.1 p.2).busBad 0x1800 4 p.1 true false && (wStore 0 p.1 p.2).mem.wf && (wStore 0 p.1 p.2).mem.err 0x1800 == 0)) = true := by decide +kernel
/-- A DEVICE store is in memory as it retires; with the buffer full a store stays (Table 05-2, R206). -/
theorem test_device_store : (after (exec (.stw 0 0 3 1 0) (wStore (encI 0 0x1A 3 1 0) .device []))).mem.byte 0x1800 = 0xF8 := by decide +kernel
theorem test_full_buffer : let s := wStore (encI 0 0x1A 3 1 0) .normal ((List.range 4).map sbOne)
    (after (exec (.stw 0 0 3 1 0) s)).engine 0 = s.engine 0 := by decide +kernel

/-! ## System instructions -/

/-- At Rest with a sound frame at 0x2000 and RESTSP there. -/
def wPop : State :=
  { (wState (encR 0 0x27 0 0 0 1) 7 []).updEngine 0 (fun x => { x with sys := [(0x10A, 0x1D), (0x101, 1)], csys := [(0x100, wCap 0x40), (0x181, wCap 0x2000)] }) with
    mem := (((State.reset.mem.setCell 0x2000 { bits := (wCap 0x80).bits, tag := 2 }).setCell 0x2010 { bits := 1, tag := 1 }).setCell 0x2020 { bits := 7, tag := 1 }).setCell 0x2030
      { bits := 0, tag := 1 } }
theorem test_frame_pop :
    runsB wPop (encR 0 0x27 0 0 0 1) = true ∧ wPop.xretFault 0 = 0 ∧
    (match (popFrame 0 .rest).run wPop with | .ok _ v => decide (v.ecell 0 0x100 = wCap 0x80 ∧ v.esys 0 0x103 = 7 ∧ capCursor (v.ecell 0 0x181) = 0x2040) | _ => false) = true := by
  decide +kernel
/-- XRET from Rest returns to EPCC and pops the frame (R291). -/
theorem test_xret_pops : let u := after (exec (.xret 0 0) wPop)
    ((u.engine 0).level, capCursor (u.chuck 0).pcc, u.ecell 0 0x100, u.esys 0 0x103) = (.k, 0x40, wCap 0x80, 7) := by decide +kernel

/-- A task in slot 1 whose descriptor lies at 0x4100. -/
def wPbar : State := { wTask (encR 0 0x27 0 0 0 3) 0 0 with eff := (regKey 0x20 0x180, 1) :: (wTask 0 0 0).eff, mem := State.reset.mem.setCell 0x4110 { bits := 0x10, tag := 0 } }
theorem test_pbar_operands :
    runsB wPbar (encR 0 0x27 0 0 0 3) = true ∧ wPbar.mem.wf = true ∧ wPbar.descAddr 0 1 + 0x10 = 0x4110 ∧ wPbar.isMemory 0x4110 = true ∧ wPbar.mem.err 0x4110 = 0 ∧
    (let s := { wPbar with eff := (regKey 0x20 0x180, 0x3000) :: (wTask 0 0 0).eff }
     s.isMemory (s.descAddr 0 1 + 0x10) = false ∧ runsB s (encR 0 0x27 0 0 0 3) = true) ∧
    (wTask (encR 0 0x27 0 0 0 0x10) 1 0).twinWaits 0 = false ∧ (wAtK 0 true).twinWaits 0 = false ∧ (wState 0 7 []).twinWaits 0 = false := by decide +kernel
/-- PBAR leaves DET in the descriptor (R218, R233). -/
theorem test_pbar : let t := after (exec (.pbar 0 0) wPbar); ((t.mem.cell 0x4110).bits, t.detMode 0) = (0x30, true) := by decide +kernel

/-- TINV.BCAST with every other engine held, and with engine 3 running. -/
theorem test_tinv_bcast_operands :
    (let s := wState 0 7 (wInts 0x4000 1)
     (List.range 1024).filter (fun i => i != 0 && !s.acksAtOnce i) = [] ∧ s.bcasts = [] ∧
     (List.range 1024).filter (fun i => i != 0 && !(s.setEngine 3 (wEngine 0 7 [])).acksAtOnce i) = [3]) := by decide +kernel

/-- The guards of a stream task: p1 is 0, p0 all ones. -/
theorem test_guards :
    (wState (encR 1 1 3 1 2 0) 1 wQuads).guardOn 0 (encR 1 1 3 1 2 0) = false ∧ wMajor (encR 1 1 3 1 2 0) ≠ 0x21 ∧ wMajor (encB 1 14 1) = 0x21 ∧
    (wState (encB 1 14 1) 1 wQuads).guardOn 0 (encB 1 14 1) = false ∧ legalWord (encR 1 1 3 1 2 0) true true = true ∧ legalWord (encB 1 14 1) true true = true := by decide +kernel
/-- A guarded ADD retires without effect (R122). -/
theorem test_guarded_add : let t := after (exec (.add 0 1 3 1 2) (wState (encR 1 1 3 1 2 0) 1 wQuads))
    ((t.chuck 0).regs, capCursor (t.chuck 0).pcc) = (wQuads, 4) := by decide +kernel

/-! ## Who may write what, and states other clauses ask for -/

/-- Cretal may read and write every register in each state of these tests, so every premise `lets` holds of it (R337, R492). -/
theorem test_cretal_reaches :
    ([wBase, wState 0 7 [], wLin 0x110 0x2000, wBcast .bcast, wFilt, wDesc, wTasks .ready 0, wTask 0 0 0, wUnits, wFillRegs, wMover 0, wErr 0, wPair [] [], wSafe .start, wSafe .test,
      wPort .up [] [], wPortDma, wTdr .asked 0, wSense [] 0 0, wTrunk 1 0, wEth 0 0, wMbx 0, wFw 2 1 [], wDbg 0 1 [] false, wPwr 0 id, wStart .cap, wJtag 7 true, wHalt id,
      State.reset.lockCretal wRec, State.reset].all (fun s => asReset s && s.ramErrs.isEmpty)) = true := by decide +kernel
/-- The debug port without its scope may write nothing but what needs none; with it, the registers; an engine, its own tile's. -/
theorem test_lets_others :
    ((wJtag 0 true).lets .debug 6 0x10 .write = false ∧ (wJtag 0 true).lets .debug 0x1E 0x18 .write = false ∧ (wJtag 3 true).lets .debug 6 0x10 .write = true ∧
      (wJtag 4 true).lets .debug 0x1E 0x18 .write = true ∧ (wJtag 4 true).lets .debug 0x1E 0x200 .write = true ∧ (wJtag 3 true).lets .debug 0x10 0x100 .write = true ∧
      (wJtag 0 true).lets .debug 0x10 0x100 .write = false ∧ wBase.lets (.engine 0) 0x20 0x200 .write = true ∧ wBase.lets (.engine 0) 4 0x10 .write = true) ∧
    (wBase.lets .debug 0x100 0x1000 .write = true ∧ regAddr 0x100 0x1000 = 0x100020001000) := by decide +kernel
/-- Without WRITE the debug port changes no MPU region (R34, R553). -/
theorem test_debug_mpu_scope : let s := wJtag 4 true; after (exec (.mpuRattr .debug (.engine 0) 0 0x80000077) s) = s.turned .debug 0x20 0x100C .write := by decide +kernel

/-- A fill from an uncorrectable entry fails the check (R92). -/
def wFiltBad : State := { wFilt with mem := { State.reset.mem with errs := [(alignDown (linKey false 5) 16, 0x101)] } }
theorem test_lineage_clauses :
    ((errWeight (wFiltBad.mem.err (alignDown (linKey (inB 0) 5) 16))).1 = 2 ∧ (wFiltBad.engine 0).lfill = some 5 ∧ (wFiltBad.engine 0).lchk.find? (fun p => p.1 == 5) = none ∧
      capLin wMintC = 5) ∧
    ((wBcast .bcast).lin.pend.filter (fun n => !(wBcast .bcast).acksIdle n) = [] ∧ (wBcast .bcast).lin.pend ≠ []) ∧
    (let s := (wBcast .bcast).setEngine 3 (wEngine 0 7 [])
     s.lin.pend.filter (fun n => !s.acksIdle n) = [3] ∧ (s.engine 3).held = false) ∧
    (let s := (wLin 0x110 0x2000).setEngine 0 (wEngine 0 7 []); (List.range 1024).filter (fun e => !s.acksAtOnce e) = [0]) ∧
    (List.range 1024).filter (fun e => !(wLin 0x110 0x2000).acksAtOnce e) = [] := by decide +kernel

/-- Whom a scheduler command is denied (R262, R264); a save area a READY task can be filled from. -/
def wFillTask : State :=
  { (wTasks .ready 0).updEngine 0 (fun x => { x with running := false, slots := [(1, { wSlot .ready none with cls := false })], sw := some { slot := 1, chuck := 2, victim := none } }) with
    mem := (List.range 32).foldl (fun (m : Memory) (i : Nat) => m.setCell (0x11000 + 16 * i) { bits := BitVec.ofNat 128 i, tag := 1 }) State.reset.mem }
theorem test_scheduler_clauses :
    ((wTasks .ready 0).schedDenied .cretal 0 3 1 0 = false ∧ (wTasks .ready 0).schedDenied (.engine 0) 0 3 1 0 = true ∧
      (let s := (wTasks .ready 0).updSlot 0 1 (fun t => { t with paired := true }); s.schedDenied .debug 0 3 1 0 = true)) ∧
    (Map.get Slot.free (wFillTask.engine 0).slots 1).chuck = none ∧ (wFillTask.engine 0).sb = [] ∧
    (match (fillCellsOf 0 (Map.get Slot.free (wFillTask.engine 0).slots 1)).run wFillTask with | .ok l _ => l.length == 4 * saveLines false | _ => false) = true := by decide +kernel
/-- A non-resident task is filled from its save area: register 3 stands behind PCC and the registers before it (R235). -/
theorem test_switch_fills : let t := after (exec (.taskSwitch 0) wFillTask)
    ((t.engine 0).running, (t.curSlot 0).chuck, (t.engine 0).sw) = (true, some 2, none) := by decide +kernel

theorem test_walk_clauses :
    (let l : TlbEntry := { half := false, vbase := 5, shift := 12, asid := 0, g := false, u := true, xt := false, xk := false, w := false, df := false, mt := .normal, pbase := 0x4000 }
     pageCheck l true .read .t false (bit (((wWalk 0x4015).chuck 0).sysr 0) 17) = none) ∧
    ((wWalk 0x4015).walkServe (clusterOf 0)).engine 0 = (wWalk 0x4015).engine 0 ∧ ((wWalk 0x4015).engine 0).tlb.length < 32 ∧
    (let s := (wWalk 0x4015).updEngine 0 (fun x => { x with walk := x.walk.map (fun r => { r with discard := true }) })
     ((s.walkServe (clusterOf 0)).engine 0).walk.map (fun r => (r.started, r.discard)) = some (true, true)) ∧
    (let s := (wWalk 0x4014); BitVec.ofNat 64 (((s.mem.setCell 0x1000 { bits := 0x2002, tag := 0 }).cell 0x1000).bits.toNat) = 0x2002 ∧ bit (0x2002 : Dword) 0 = false ∧
      (s.engine 0).long = none) := by decide +kernel

/-- Memory: an address-symbol error, a cache size written while BUSY. -/
theorem test_memory_clauses :
    errWeight ((wErr (1 <<< 168)).mem.err 0x1000) = (1, 21) ∧ bits (2 : Word) 1 0 ≠ 3 ∧
    (let t := after (exec (.apply .cretal 0 1) wUnits)
     (t.fld 0x20 0x400 1 0, t.fld 0x20 0x400 9 9, t.applying) = (1, 1, wUnits.applying)) := by decide +kernel

/-- Pairs that have diverged, are halted; the clocks a monitor compares (R533). -/
theorem test_pair_clauses :
    ((wPair [] []).setFld 7 0x1000 31 31 1).pairStopped 0 = true ∧
    (((wPair [] []).updEngine 0 (fun x => { x with dbg := { x.dbg with halted := true } })).updEngine 512 (fun x => { x with dbg := { x.dbg with halted := true } })).pairHalted 0 = true ∧
    (wBase.fld 2 0x100 9 8 = 0 ∧ wBase.fld 1 0x100 31 31 = 0 ∧ (wBase.setFld 1 0x100 31 31 1).fld 1 0x100 31 31 = 1) := by decide +kernel
/-- A ramping tile clock is not compared; any other clock found bad twice fails (R410, R533). -/
theorem test_clock_monitor_window : let s := (wBase.setFld 1 0x100 31 31 1).updSafe (fun f => { f with badA := [2, 32] })
    ((after (exec (.clockMonitorWindow false [32]) s)).fld 6 0x2C 0 0, (after (exec (.clockMonitorWindow false [2]) s)).fld 6 0x2C 0 0) = (0, 1) := by decide +kernel
/-- A device in TEST whose tables agree and whose memories are trained. -/
def wTest : State := { ((wSafe .test).setFld 0x0A 0x14 1 1 1).setFld 0x0B 0x14 1 1 1 with cretalReset := false, inst := some wRec }
theorem test_cross_check_operands :
    (wTest.mode = .test ∧ wTest.lin.phase = .idle ∧ wTest.fld 8 0x14 0 0 = 0 ∧ wTest.fld 0x0A 0x14 1 1 = 1 ∧ wTest.fld 0x0B 0x14 1 1 = 1 ∧ wTest.fw.bg = [] ∧ asReset wTest = true) ∧
    (∀ i, wTest.linEntry false i = wTest.linEntry true i) ∧ (∀ a, wTest.mem.err a = 0) ∧ (∃ r, wTest.inst = some r ∧ ∃ x ∈ r.engines, x.id = 3) :=
  ⟨by decide +kernel, fun _ => rfl, fun _ => rfl, wRec, rfl, by decide⟩

/-! ## Turns, ends of ranges, first grants -/

/-- Firmware runs, with requests in service on the channels `l`, those of `bg` in the background; channel 9 asks and is next in turn. -/
def wTurn (l bg : List Nat) : State :=
  { wMbx 1 with
    cretalReset := false, inst := some wRec
    fw := { Fw.reset with req := l.map (fun n => (n, [])), bg := bg.map (fun n => (n, { cmd := 0x303, val := 9, aux := 2 })), rr := 7 } }
theorem test_mailbox_turn :
    ((wTurn [2] [2]).cretalReset = false ∧ (wTurn [2] [2]).inst ≠ none ∧ ((7 + 1 + 1) % 32 = 9 ∧ (wTurn [2] [2]).mbxState 8 ≠ 1 ∧ (wTurn [2] [2]).mbxState 9 = 1) ∧
      asReset (wTurn [2] [2]) = true) ∧
    ((wTurn [2] []).fw.req.any (fun p => (wTurn [2] []).fw.bg.all (fun q => q.1 != p.1))) = true := by decide +kernel
/-- Cretal takes the channel whose turn it is, and none while it serves another (R507). -/
theorem test_cretal_takes : let t := after (exec (.take .cretal 9) (wTurn [2] [2])); let u := after (exec (.take .cretal 9) (wTurn [2] []))
    (t.mbxState 9, t.fw.rr, u.mbxState 9) = (2, 9, 1) := by decide +kernel

/-- An ENUM that has made 32 hops; a frame where the ring wraps; damaged frames (R477, R484, R486). -/
theorem test_trunk_and_mac_ends :
    (frameGood (wT 0 1 32 [4]).bytes = true ∧ fByte (wT 0 1 32 [4]).bytes 3 = 32 ∧ (wTrunk 2 0).trunk.far = false) ∧
    (let s := (wEth 0 0x100).setFld 0x1A 0x30 14 4 0x5FF
     let head := s.fld 0x1A 0x30 14 4 * 16
     0x6000 < head + 80 ∧ 0x6000 - head + 80 ≤ (s.fld 0x1A 0x34 14 4 * 16 + 0x6000 - head - 1) % 0x6000 ∧ s.blkEn 0x1A = true) ∧
    wBase.blkEn 0x1A = false ∧ ethGood (wBcast6 ++ toBytes 4 (crc32 wBcast6 + 1)) = false := by decide +kernel
theorem test_enum_too_far : let t := after (exec (.enumReceive false (wT 0 1 32 [4])) (wTrunk 2 0)); (t.hasNode, t.trunk.far, t.events.map (·.1)) = (false, true, [1541]) := by decide +kernel

/-- The first grant over a resource of one line, its drop cell elsewhere. -/
def wRec2 : InstallRec := { wRec with resources := [{ num := 5, base := 0x100000, size := 0x40, vbase := 2 ^ 55 + 0x100000, perm := 0x3FF, domains := [7], mirror := false }] }
def wFirst (n code : Nat) (pay : List Byte) : State := { wFw n code pay with inst := some wRec2 }
def wSpecLine : List Byte := toBytes 2 5 ++ toBytes 2 9 ++ toBytes 2 0x3FF ++ toBytes 2 3 ++ toBytes 8 0 ++ toBytes 8 0x40 ++ toBytes 8 0
theorem test_first_grant_operands :
    asksB (wFirst 2 0x302 wSpecLine) 2 0x302 (fun q =>
      match (wFirst 2 0x302 wSpecLine).buildSpec q.all q.dom.id false (q.spec 0) with
      | .ok (c, r) => decide (r.mirror = false ∧ capLin c = 9 ∧ capGen c = 0 ∧ capMalformed c = false ∧ c.kind = .cap ∧ r.base = 0x100000 ∧ r.size = 0x40 ∧ r.num = 5 ∧
          (wFirst 2 0 []).oneRegion r.base r.size ≠ 0 ∧ r.num ∉ (wFirst 2 0 []).lin.fills)
      | .error _ => false) = true ∧
    ((wFirst 2 0 []).lin.filled = false ∧ (wFirst 2 0 []).mem.wf = true ∧ { wFirst 2 0 [] with lin := { wBase.lin with filled := true } }.lin.filled = true) := by decide +kernel
/-- ENGINE_START of engine 3, its resources filled before. -/
theorem test_engine_start_fills :
    asksB (wFirst 2 0x201 (toBytes 2 3)) 2 0x201 (fun q =>
      let s := { wFw 2 0x201 (toBytes 2 3) with lin := { wBase.lin with filled := true } }
      match s.engineRec 3 with
      | none => false
      | some x =>
        let specs := [x.pcc, x.ksp, x.vbar, x.restpc, x.restsp, x.drop].map (s.buildSpec false x.domain true)
        let caps := specs.filterMap (fun r => match r with | .ok v => some v.1 | .error _ => none)
        (match (specs.forM (fun r => match r with | .ok v => fwFill v.2 | .error _ => pure ()) : FM Unit).run s with
        | .ok _ s0 => (match (fwEngineRegs x 3 false).run s0 with
          | .ok _ s1 => (match (fwStartRecord q x caps false).run s1 with
            | .ok _ s2 => !((s2.regWrite .cretal 0x20 0x308 8).engine 3).held
            | .error _ _ => false)
          | .error _ _ => false)
        | .error _ _ => false)) = true := by decide +kernel

/-- TASK_RELOAD: the descriptor of the task in slot 1 of engine 0, in Cretal's cluster memory. -/
theorem test_task_reload_operands :
    let s := { wFw 2 0x207 [1, 0, 2, 0, 0, 0, 0, 0] with mem := State.reset.mem.setCell 0x100 { bits := (wCap (2 ^ 55)).bits, tag := 2 } }
    let a := s.descAddr 0 1 + 16
    (s.mpuDecide .cretal a .read true false (plainMt a)).1 = 0 ∧ (s.mpuDecide .cretal a .write true false (plainMt a)).1 = 0 ∧ s.isMemory (a - 16) = true ∧ s.isMemory a = true ∧
      s.isMemory (a + 239) = true ∧ s.mem.errs = [] ∧
      (descSlot ((List.range 16).map (fun j => (s.mem.setCell a { bits := setBits (setBits (setBits (s.mem.cell a).bits 3 0 2) 31 16 0) 79 64 0, tag := 0 }).cell (a - 16 + 16 * j)))).isSome = true := by
  decide +kernel

/-! ## Power, registers, the debug port -/

/-- Both parts of a resource request: a tile that is quiet but not idle, one that waits its turn, a hot and a very hot reading. -/
theorem test_power_clauses :
    ((wPwr 3 (fun p => { p with wakeQ := [2] })).wakeTurn 2 = true ∧ (List.range 32).all (fun k => decide ((wPwr 0 id).temp k < (wPwr 0 id).hot16 ∧ (wPwr 0 id).temp k < 2000)) = true ∧
      (wPwr 0 id).hot16 ≤ 1900 ∧ (wPwr 0 (fun p => { p with hotOn := true })).hot16 - 80 ≤ ((wPwr 0 id).setReg 0x0D 0x100 2000).temp 0) ∧
    ((List.range 32).all (fun i => let x := (wPwr 0 id).engine (64 + i); !x.busy && x.held && x.slots.all (fun q => q.2.st != .ready && q.2.st != .running)) = true) ∧
    (wPair [] []).pairedTile 0 = true ∧ wBase.fld 1 0x10 0 0 ≠ 1 ∧ (wBase.setFld 1 0x10 0 0 1).fld 1 0x10 0 0 = 1 := by decide +kernel
/-- A PLL's loss is a clock failure (R410, R527). -/
theorem test_pll_lock_loss : let t := after (exec (.pllLockLoss .plla) (wBase.setFld 1 0x10 0 0 1)); (t.fld 1 0x10 0 0, t.fld 6 0x2C 0 0) = (0, 1) := by decide +kernel

/-- Cretal's private registers have an address of their own; a debug port without WRITE reaches no register. -/
theorem test_register_clauses :
    (0x100020000000 ≤ (0x100020001000 : Dword).toNat ∧ (0x100020001000 : Dword).toNat < 0x100020010000 ∧ State.lets wBase .cretal 0x100 0x1000 .write = true) ∧
    ((wJtag 1 true).lets .debug 2 0x10 .write = false) ∧ (wJtag 3 true).region 0x8000010 = .priv 0x10 ∧ (wJtag 3 true).guarded 0x8000010 = false ∧
    (wJtag 3 true).region 0x10020010 = .regs 2 0x10 ∧ (wJtag 3 true).guarded 0x10020010 = false := by decide +kernel
/-- A first boot that finds an image, one that finds none. -/
theorem test_rom_boot_operands :
    let i : BootInput := { rec0 := wRec, rec1 := wRec, size := 0x1000000, adv8D := true, hdr8D := true, adv4S := true }
    ({ State.reset with cretalReset := false }.setXspi i).bootSlot = none := by decide +kernel

end Sys2Proof.Machine
end

section
/-!
# No command touches the queue

The frame of `State.pending`: each function that a command's effect is made of leaves the queue of waiting commands as it was. A function
on states has a lemma `…_pending`; a part of an engine's or of the firmware's run, which may also end early, has a lemma `…_keeps`.

`simp -implicitDefEqProofs` stands where a rule that holds by `rfl` serves in a side goal. The kernel unfolds `State.pending` before it
compares two states, so a state that it could evaluate (a fold over `List.range 64`) is rewritten by named lemmas instead.
-/

namespace Sys2Proof.Machine

open Sys2Proof

/-! ## Runs that keep the queue -/

/-- The state that a run ends in, whether it ends well or not. -/
def endState {ε α : Type} : EStateM.Result ε State α → State
  | .ok _ t | .error _ t => t

/-- Run from a state whose queue is `cmds`, the steps of an instruction or of firmware leave it at `cmds`. -/
structure Keeps (cmds : List Instr) {ε α : Type} (x : EStateM ε State α) : Prop where
  pending_endState : ∀ s : State, s.pending = cmds → (endState (x.run s)).pending = cmds

section
variable {cmds : List Instr} {ε α β : Type}

theorem Keeps.bind {x : EStateM ε State α} {f : α → EStateM ε State β} (hx : Keeps cmds x) (hf : ∀ a, Keeps cmds (f a)) :
    Keeps cmds (x >>= f) where
  pending_endState s h := by
    have h1 := hx.pending_endState s h
    rw [EStateM.run_bind]
    cases hr : x.run s with
    | ok a t => rw [hr] at h1; exact (hf a).pending_endState t h1
    | error b t => rw [hr] at h1; exact h1

/-- The steps after a reading of the state may rest on its queue. -/
theorem Keeps.get_bind {f : State → EStateM ε State β} (hf : ∀ s, s.pending = cmds → Keeps cmds (f s)) : Keeps cmds (get >>= f) :=
  ⟨fun s h => (hf s h).pending_endState s h⟩

@[simp] theorem Keeps.get : Keeps cmds (get : EStateM ε State State) := ⟨fun _ h => h⟩

theorem Keeps.set {t : State} (h : t.pending = cmds) : Keeps cmds (set t : EStateM ε State PUnit) := ⟨fun _ _ => h⟩

@[simp] theorem Keeps.modify {f : State → State} (h : ∀ s, (f s).pending = s.pending) : Keeps cmds (modify f : EStateM ε State PUnit) :=
  ⟨fun s hs => (h s).trans hs⟩

@[simp] theorem Keeps.pure (a : α) : Keeps cmds (pure a : EStateM ε State α) := ⟨fun _ h => h⟩

@[simp] theorem Keeps.throw (b : ε) : Keeps cmds (throw b : EStateM ε State α) := ⟨fun _ h => h⟩

@[simp] theorem Keeps.map {x : EStateM ε State α} {f : α → β} (h : Keeps cmds x) : Keeps cmds (f <$> x) := by
  rw [← bind_pure_comp]; exact h.bind fun _ => .pure _

@[simp] theorem Keeps.ite {c : Prop} [Decidable c] {x y : EStateM ε State α} (hx : Keeps cmds x) (hy : Keeps cmds y) :
    Keeps cmds (if c then x else y) := by
  split <;> assumption

/-- A test that aborts, or does something more, before the steps that follow it either way. -/
theorem Keeps.guard {c : Prop} [Decidable c] {x : EStateM ε State Unit} {f : Unit → EStateM ε State β} (hx : Keeps cmds x)
    (hf : Keeps cmds (f ())) : Keeps cmds (if c then x >>= f else f ()) :=
  .ite (hx.bind fun _ => hf) hf

theorem Keeps.forM {l : List β} {f : β → EStateM ε State PUnit} (h : ∀ b, Keeps cmds (f b)) : Keeps cmds (l.forM f) := by
  induction l with
  | nil => exact .pure _
  | cons b l ih => exact (h b).bind fun _ => ih

theorem Keeps.foldlM {l : List β} {f : α → β → EStateM ε State α} (h : ∀ a b, Keeps cmds (f a b)) (a : α) : Keeps cmds (l.foldlM f a) := by
  induction l generalizing a with
  | nil => exact .pure _
  | cons b l ih => rw [List.foldlM_cons]; exact (h a b).bind ih

theorem Keeps.mapM {l : List β} {f : β → EStateM ε State α} (h : ∀ b, Keeps cmds (f b)) : Keeps cmds (l.mapM f) := by
  induction l with
  | nil => exact .pure _
  | cons b l ih => rw [List.mapM_cons]; exact (h b).bind fun _ => ih.bind fun _ => .pure _

end

/-- A run of steps that keep the queue ends in a state with the same queue. -/
theorem Keeps.run_ok {ε α : Type} {x : EStateM ε State α} {s t : State} {a : α} (hr : x.run s = .ok a t) (h : Keeps s.pending x) :
    t.pending = s.pending := by
  simpa [hr, endState] using h.pending_endState s rfl

theorem Keeps.run_error {ε α : Type} {x : EStateM ε State α} {s t : State} {b : ε} (hr : x.run s = .error b t) (h : Keeps s.pending x) :
    t.pending = s.pending := by
  simpa [hr, endState] using h.pending_endState s rfl

@[simp] theorem foldl_pending {α : Type} (f : State → α → State) (hf : ∀ s a, (f s a).pending = s.pending) (l : List α) (s : State) :
    (l.foldl f s).pending = s.pending := by
  induction l generalizing s with
  | nil => rfl
  | cons a l ih => rw [List.foldl_cons, ih, hf]

@[simp] theorem foldl_snd_pending {α β : Type} (f : β × State → α → β × State) (hf : ∀ s a, (f s a).2.pending = s.2.pending) (l : List α)
    (s : β × State) : (l.foldl f s).2.pending = s.2.pending := by
  induction l generalizing s with
  | nil => rfl
  | cons a l ih => rw [List.foldl_cons, ih, hf]

@[simp] theorem ite_pending (c : Prop) [Decidable c] (s t : State) : (if c then s else t).pending = if c then s.pending else t.pending :=
  apply_ite _ _ _ _

@[simp] theorem ite_snd_pending {α : Type} (c : Prop) [Decidable c] (s t : α × State) :
    (if c then s else t).2.pending = if c then s.2.pending else t.2.pending := by split <;> rfl

/-! ## The operations on the state that every unit uses (`Machine/Ops.lean`) -/

@[simp] theorem State.now_pending (s : State) : s.now.2.pending = s.pending := by simp [State.now]

@[simp] theorem State.count16_pending (s : State) (b o lo : Nat) : (s.count16 b o lo).pending = s.pending := by simp [State.count16]

@[simp] theorem State.cfgerr_pending (s : State) (b o : Nat) : (s.cfgerr b o).pending = s.pending := by simp [State.cfgerr]

@[simp] theorem State.setLock_pending (s : State) (v : Bool) : (s.setLock v).pending = s.pending := by simp [State.setLock]

@[simp] theorem State.setMode_pending (s : State) (m : Mode) : (s.setMode m).pending = s.pending := by simp [State.setMode]

@[simp] theorem State.react_pending (s : State) (cls unit : Nat) : (s.react cls unit).pending = s.pending := by simp [State.react]

@[simp] theorem State.decode_pending (s : State) (k : Nat) : (s.decode k).2.pending = s.pending := by simp [State.decode]

@[simp] theorem State.logError_pending (s : State) (key pa ty pos src master : Nat) : (s.logError key pa ty pos src master).pending = s.pending := by
  simp [State.logError]

@[simp] theorem State.readCell_pending (s : State) (key pa src master : Nat) : (s.readCell key pa src master).2.pending = s.pending := by
  grind [State.readCell, State.decode_pending, State.logError_pending]

@[simp] theorem State.writeCell_pending (s : State) (key : Nat) (c : MCell) : (s.writeCell key c).pending = s.pending := by simp [State.writeCell]

@[simp] theorem State.mergeCell_pending (s : State) (key pa n v src master : Nat) : (s.mergeCell key pa n v src master).2.pending = s.pending := by
  grind [State.mergeCell, State.writeCell_pending, State.readCell_pending]

@[simp] theorem State.mpuCapture_pending (s : State) (u : MpuUnit) (pa reason region : Nat) (acc : Access) (lvl src : Nat) :
    (s.mpuCapture u pa reason region acc lvl src).pending = s.pending := by
  unfold State.mpuCapture
  dsimp only
  (repeat' split) <;> simp [*]

@[simp] theorem State.mpuCheck_pending (s : State) (u : MpuUnit) (pa : Nat) (acc : Access) (atK paired : Bool) (mt : MemType) (lvl src : Nat) :
    (s.mpuCheck u pa acc atK paired mt lvl src).2.pending = s.pending := by
  grind [State.mpuCheck, State.mpuCapture_pending]

@[simp] theorem State.stopEngine_pending (s : State) (e orig : Nat) (val : Dword) : (s.stopEngine e orig val).pending = s.pending := by
  simp [State.stopEngine]

/-! ## Safety lines, error capture, signatures (`Machine/Safety.lean`) -/

@[simp] theorem State.dropActs_pending (s : State) (p : Nat) : (s.dropActs p).pending = s.pending := by simp [State.dropActs]

@[simp] theorem State.captureDiv_pending (s : State) (p reason cnt : Nat) (sigA sigB : Word) :
    (s.captureDiv p reason cnt sigA sigB).pending = s.pending := by simp [State.captureDiv]

@[simp] theorem State.diverge_pending (s : State) (p reason cnt : Nat) (sigA sigB : Word) :
    (s.diverge p reason cnt sigA sigB).pending = s.pending := by simp [State.diverge]

@[simp] theorem State.divergeAt_pending (s : State) (p reason cnt : Nat) : (s.divergeAt p reason cnt).pending = s.pending := by
  simp [State.divergeAt]

@[simp] theorem State.divergeNow_pending (s : State) (p reason : Nat) : (s.divergeNow p reason).pending = s.pending := by simp [State.divergeNow]

@[simp] theorem State.stopWith_pending (s : State) (e orig : Nat) (val : Dword) (event cls : Nat) :
    (s.stopWith e orig val event cls).pending = s.pending := by simp [State.stopWith]

@[simp] theorem State.isolatePairs_pending (s : State) : s.isolatePairs.pending = s.pending := by simp [State.isolatePairs]

@[simp] theorem State.addPoint_pending (s : State) (p : Nat) (kind : PointKind) : (s.addPoint p kind).pending = s.pending := by simp [State.addPoint]

@[simp] theorem State.deliverSig_pending (s : State) (p : Nat) (kind : PointKind) : (s.deliverSig p kind).pending = s.pending := by
  simp [State.deliverSig]

@[simp] theorem State.restPoint_pending (s : State) (e : Nat) : (s.restPoint e).pending = s.pending := by simp [State.restPoint]

@[simp] theorem State.compareSigs_pending (s : State) (p : Nat) (a b : SigPoint) : (s.compareSigs p a b).pending = s.pending := by
  simp [State.compareSigs]

@[simp] theorem State.restartWindow_pending (s : State) (c : Nat) : (s.restartWindow c).pending = s.pending := by simp [State.restartWindow]

@[simp] theorem State.caliperFailed_pending (s : State) : s.caliperFailed.pending = s.pending := by simp -implicitDefEqProofs [State.caliperFailed]

@[simp] theorem State.clockFailed_pending (s : State) : s.clockFailed.pending = s.pending := by simp [State.clockFailed]

@[simp] theorem State.supplyFailed_pending (s : State) : s.supplyFailed.pending = s.pending := by simp [State.supplyFailed]

@[simp] theorem State.outputFailed_pending (s : State) : s.outputFailed.pending = s.pending := by simp [State.outputFailed]

@[simp] theorem State.closeKick_pending (s : State) : s.closeKick.pending = s.pending := by simp [State.closeKick]

@[simp] theorem State.splitMode_pending (s : State) : s.splitMode.pending = s.pending := by simp [State.splitMode]

@[simp] theorem State.writeSafeMode_pending (s : State) (m : Master) (data : Word) : (s.writeSafeMode m data).pending = s.pending := by
  grind [State.writeSafeMode, State.cfgerr_pending, State.setMode_pending]

@[simp] theorem State.fwLog_pending (s : State) (id unit : Nat) (data : Word) : (s.fwLog id unit data).pending = s.pending := by simp [State.fwLog]

@[simp] theorem State.cretalRefused_pending (s : State) : s.cretalRefused.pending = s.pending := by simp [State.cretalRefused]

@[simp] theorem State.turned_pending (s : State) (m : Master) (b o : Nat) (acc : Access) : (s.turned m b o acc).pending = s.pending := by
  cases m <;> simp [State.turned]

@[simp] theorem State.admits_pending (s : State) (m : Master) (b o : Nat) (f : State → State) (h : ∀ t, (f t).pending = t.pending) :
    (s.admits m b o f).pending = s.pending := by simp [State.admits, h]

@[simp] theorem State.writeSafeKick_pending (s : State) (m : Master) (data : Word) : (s.writeSafeKick m data).pending = s.pending := by
  simp [State.writeSafeKick]

@[simp] theorem State.writeSafeKcfg_pending (s : State) (m : Master) (data : Word) : (s.writeSafeKcfg m data).pending = s.pending := by
  simp [State.writeSafeKcfg]

@[simp] theorem State.writeSafePol_pending (s : State) (m : Master) (data : Word) : (s.writeSafePol m data).pending = s.pending := by
  simp [State.writeSafePol]

@[simp] theorem State.resetRegs_pending (s : State) (b : Nat) (f : Nat → Bool) : (s.resetRegs b f).pending = s.pending := by simp [State.resetRegs]

@[simp] theorem State.resetCretal_pending (s : State) : s.resetCretal.pending = s.pending := by simp [State.resetCretal]

@[simp] theorem State.lockstep_pending (s : State) : s.lockstep.pending = s.pending := by simp [State.lockstep]

@[simp] theorem State.cretalRun_pending (s : State) (f : State → State) (h : ∀ t, (f t).pending = t.pending) :
    (s.cretalRun f).pending = s.pending := by
  grind [State.cretalRun, State.readCell_pending, State.lockstep_pending]

/-! ## Power, clocks, temperature (`Machine/Power.lean`) -/

@[simp] theorem State.refreshClk_pending (s : State) : s.refreshClk.pending = s.pending := by simp -implicitDefEqProofs [State.refreshClk]

@[simp] theorem State.throttle_pending (s : State) (x0 : Nat) : (s.throttle x0).pending = s.pending := by
  induction x0 generalizing s with
  | zero => rfl
  | succ n ih => grind [State.throttle, State.updPw_pending]

@[simp] theorem State.unthrottle_pending (s : State) (t : Nat) (x0 : Nat) : (s.unthrottle t x0).pending = s.pending := by
  induction x0 generalizing s with
  | zero => rfl
  | succ n ih => grind [State.unthrottle, State.updPw_pending]

@[simp] theorem State.arbitrate_pending (s : State) : s.arbitrate.pending = s.pending := by simp [State.arbitrate]

@[simp] theorem State.writeClkTile_pending (s : State) (m : Master) (t : Nat) (data : Word) : (s.writeClkTile m t data).pending = s.pending := by
  simp [State.writeClkTile]

@[simp] theorem State.writeBudget_pending (s : State) (m : Master) (data : Word) : (s.writeBudget m data).pending = s.pending := by
  simp [State.writeBudget]

@[simp] theorem State.loadShare_pending (s : State) (v : Nat) : (s.loadShare v).pending = s.pending := by simp [State.loadShare]

@[simp] theorem State.resetEngine_pending (s : State) (e : Nat) : (s.resetEngine e).pending = s.pending := by simp [State.resetEngine]

@[simp] theorem State.dropTlbs_pending (s : State) (t : Nat) : (s.dropTlbs t).pending = s.pending := by simp -implicitDefEqProofs [State.dropTlbs]

@[simp] theorem State.dropCells_pending (s : State) (lo n : Nat) : (s.dropCells lo n).pending = s.pending := by simp [State.dropCells]

@[simp] theorem State.tileOff_pending (s : State) (t : Nat) : (s.tileOff t).pending = s.pending := by simp -implicitDefEqProofs [State.tileOff]

@[simp] theorem State.wakeTile_pending (s : State) (t : Nat) : (s.wakeTile t).pending = s.pending := by simp [State.wakeTile]

@[simp] theorem State.leaveIdle_pending (s : State) (t : Nat) : (s.leaveIdle t).pending = s.pending := by simp [State.leaveIdle]

@[simp] theorem State.dropResv_pending (s : State) (t : Nat) : (s.dropResv t).pending = s.pending := by simp -implicitDefEqProofs [State.dropResv]

@[simp] theorem State.touchTile_pending (s : State) (t : Nat) : (s.touchTile t).pending = s.pending := by simp [State.touchTile]

@[simp] theorem State.wakeForDelivery_pending (s : State) (t : Nat) : (s.wakeForDelivery t).pending = s.pending := by simp [State.wakeForDelivery]

@[simp] theorem State.writePwrTile_pending (s : State) (m : Master) (t : Nat) (data : Word) : (s.writePwrTile m t data).pending = s.pending := by
  unfold State.writePwrTile
  split
  · rfl
  · dsimp only
    split <;> simp -implicitDefEqProofs

@[simp] theorem State.resetTile_pending (s : State) (t : Nat) : (s.resetTile t).pending = s.pending := by simp [State.resetTile]

@[simp] theorem State.deferredResets_pending (s : State) (t : Nat) : (s.deferredResets t).pending = s.pending := by simp [State.deferredResets]

@[simp] theorem State.followLock_pending (s : State) : s.followLock.pending = s.pending := by simp [State.followLock]

@[simp] theorem State.coolTile_pending (s : State) (t : Nat) : (s.coolTile t).pending = s.pending := by simp [State.coolTile]

@[simp] theorem State.warmTile_pending (s : State) (t : Nat) : (s.warmTile t).pending = s.pending := by simp [State.warmTile]

@[simp] theorem State.gradient_pending (s : State) (t u : Nat) : (s.gradient t u).pending = s.pending := by simp [State.gradient]

@[simp] theorem State.coldReset_pending (s : State) (cause : Nat) (straps : List Nat) : (s.coldReset cause straps).pending = s.pending := by
  simp [State.coldReset]

@[simp] theorem State.warmRst_pending (s : State) (cause : Nat) : (s.warmRst cause).pending = s.pending := by simp [State.warmRst]

@[simp] theorem State.writeRstDev_pending (s : State) (m : Master) (data : Word) : (s.writeRstDev m data).pending = s.pending := by
  simp [State.writeRstDev]

@[simp] theorem State.deferReset_pending (s : State) (t : Nat) (w : Word) : (s.deferReset t w).pending = s.pending := by simp [State.deferReset]

@[simp] theorem State.startTileReset_pending (s : State) (t : Nat) : (s.startTileReset t).pending = s.pending := by simp [State.startTileReset]

@[simp] theorem State.writeRstTile_pending (s : State) (m : Master) (data : Word) : (s.writeRstTile m data).pending = s.pending := by
  simp [State.writeRstTile]

@[simp] theorem State.startEngReset_pending (s : State) (e : Nat) : (s.startEngReset e).pending = s.pending := by simp [State.startEngReset]

@[simp] theorem State.writeRstEng_pending (s : State) (m : Master) (t : Nat) (data : Word) : (s.writeRstEng m t data).pending = s.pending := by
  simp [State.writeRstEng]

@[simp] theorem State.writeDevctl_pending (s : State) (m : Master) (data : Word) : (s.writeDevctl m data).pending = s.pending := by
  unfold State.writeDevctl
  dsimp only
  (repeat' split) <;> simp [*]

@[simp] theorem State.dormantWake_pending (s : State) (src : Nat) : (s.dormantWake src).pending = s.pending := by simp [State.dormantWake]

@[simp] theorem State.testFailed_pending (s : State) (x0 : Nat) : (s.testFailed x0).pending = s.pending := by
  unfold State.testFailed
  split <;> simp

/-! ## Lineage commands (`Machine/Lineage.lean`) -/

@[simp] theorem State.setLin_pending (s : State) (chB : Bool) (i : Nat) (w : Word) : (s.setLin chB i w).pending = s.pending := by simp [State.setLin]

@[simp] theorem State.linRead_pending (s : State) (chB : Bool) (i src master : Nat) : (s.linRead chB i src master).2.pending = s.pending := by
  grind [State.linRead, State.decode_pending, State.logError_pending]

@[simp] theorem State.setLinBoth_pending (s : State) (i : Nat) (w : Word) : (s.setLinBoth i w).pending = s.pending := by simp [State.setLinBoth]

@[simp] theorem State.ackLin_pending (s : State) (e : Nat) : (s.ackLin e).pending = s.pending := by simp [State.ackLin]

@[simp] theorem State.linEvent_pending (s : State) (x0 : Nat) : (s.linEvent x0).pending = s.pending := by
  induction x0 generalizing s with
  | zero => rfl
  | succ n ih => simp [State.linEvent, ih]

@[simp] theorem State.linBroadcastEnd_pending (s : State) : s.linBroadcastEnd.pending = s.pending := by simp [State.linBroadcastEnd]

@[simp] theorem State.ackAll_pending (s : State) (l : List Nat) : (s.ackAll l).pending = s.pending := by simp [State.ackAll]

@[simp] theorem State.linBroadcast_pending (s : State) (i : Nat) : (s.linBroadcast i).pending = s.pending := by simp [State.linBroadcast]

@[simp] theorem State.linMismatch_pending (s : State) (i : Nat) : (s.linMismatch i).pending = s.pending := by simp [State.linMismatch]

@[simp] theorem State.linMismatchSolo_pending (s : State) (i : Nat) : (s.linMismatchSolo i).pending = s.pending := by simp [State.linMismatchSolo]

@[simp] theorem State.linCompare_pending (s : State) (i src : Nat) : (s.linCompare i src).2.pending = s.pending := by
  unfold State.linCompare
  dsimp only
  (repeat' split) <;> simp [*]

@[simp] theorem State.linCompareCell_pending (s : State) (c src : Nat) : (s.linCompareCell c src).2.2.pending = s.pending := by
  unfold State.linCompareCell
  dsimp only
  (repeat' split) <;> simp [*]

@[simp] theorem State.linEnd_pending (s : State) (result : Nat) : (s.linEnd result).pending = s.pending := by simp [State.linEnd]

@[simp] theorem State.linFail_pending (s : State) (i : Nat) : (s.linFail i).pending = s.pending := by simp [State.linFail]

@[simp] theorem State.linWrite_pending (s : State) (i : Nat) (w : Word) (next : State → State) (h : ∀ t, (next t).pending = t.pending) :
    (s.linWrite i w next).pending = s.pending := by
  grind [State.linWrite, State.linFail_pending, State.linCompare_pending, State.setLinBoth_pending]

@[simp] theorem State.linPerform_pending (s : State) (op i owner : Nat) (v : Word) : (s.linPerform op i owner v).pending = s.pending := by
  unfold State.linPerform
  dsimp only
  (repeat' split) <;> simp [*]

@[simp] theorem State.linCheckAll_pending (s : State) : s.linCheckAll.pending = s.pending := by simp [State.linCheckAll]

@[simp] theorem State.linCmd_pending (s : State) (m : Master) (op i owner : Nat) : (s.linCmd m op i owner).pending = s.pending := by
  grind [State.linCmd, State.cfgerr_pending, State.setFld_pending, State.linCheckAll_pending, State.linEnd_pending, State.linFail_pending,
      State.linCompare_pending, State.linPerform_pending]

@[simp] theorem State.linComplete_pending (s : State) : s.linComplete.pending = s.pending := by simp [State.linComplete]

@[simp] theorem State.filtInstall_pending (s : State) (e i g : Nat) : (s.filtInstall e i g).pending = s.pending := by simp [State.filtInstall]

@[simp] theorem State.filtFill_pending (s : State) (e i : Nat) : (s.filtFill e i).2.pending = s.pending := by
  grind [State.filtFill, State.linMismatchSolo_pending, State.linRead_pending, State.filtInstall_pending]

/-! ## The engine: registers, faults, translation (`Machine/Engine.lean`) -/

@[simp] theorem fault_keeps (cmds : List Instr) {α : Type} (code val : Nat) (reg : Option Nat) (acc : Nat) :
    Keeps cmds (fault code val reg acc : EM α) := by simp [fault]

@[simp] theorem State.sigTake_pending (s : State) (e : Nat) (l : List Byte) : (s.sigTake e l).pending = s.pending := by simp [State.sigTake]

@[simp] theorem State.sigWrite_pending (s : State) (e a n data : Nat) (k : Kind) : (s.sigWrite e a n data k).pending = s.pending := by
  simp [State.sigWrite]

@[simp] theorem State.perf_pending (s : State) (e code : Nat) : (s.perf e code).pending = s.pending := by simp [State.perf]

@[simp] theorem State.tracePut_pending (s : State) (k ty : Nat) (body : List Byte) : (s.tracePut k ty body).pending = s.pending := by
  simp [State.tracePut]

@[simp] theorem State.traceEv_pending (s : State) (e ty : Nat) (body : List Byte) : (s.traceEv e ty body).pending = s.pending := by
  simp [State.traceEv]

@[simp] theorem ival128_keeps (cmds : List Instr) (e r : Nat) : Keeps cmds (ival128 e r) := by
  grind [ival128, Keeps.get_bind, Keeps.pure, fault_keeps]

@[simp] theorem ivalA_keeps (cmds : List Instr) (e r acc : Nat) : Keeps cmds (ivalA e r acc) := by
  grind [ivalA, Keeps.get_bind, Keeps.pure, fault_keeps]

@[simp] theorem ival_keeps (cmds : List Instr) (e r : Nat) : Keeps cmds (ival e r) := by simp [ival]

@[simp] theorem putReg_keeps (cmds : List Instr) (e r : Nat) (c : Cell) : Keeps cmds (putReg e r c) := by simp -implicitDefEqProofs [putReg]

@[simp] theorem wint_keeps (cmds : List Instr) (e r : Nat) (v : Dword) : Keeps cmds (wint e r v) := by simp [wint]

@[simp] theorem linkOk_keeps (cmds : List Instr) (e : Nat) (c : Cell) (inl : Bool) : Keeps cmds (linkOk e c inl) := by
  unfold linkOk
  grind [Keeps.bind, Keeps.get_bind, Keeps.set, Keeps.modify, Keeps.pure, Keeps.throw, State.updEngine_pending, State.perf_pending, State.filtFill_pending]

@[simp] theorem capSource_keeps (cmds : List Instr) (e : Nat) (c : Cell) (val : Nat) (reg : Option Nat) (acc : Nat) (inl : Bool) :
    Keeps cmds (capSource e c val reg acc inl) := by
  grind [capSource, fault_keeps, linkOk_keeps, Keeps.bind, Keeps.pure]

@[simp] theorem capTests_keeps (cmds : List Instr) (e : Nat) (c : Cell) (a n : Nat) (need : List Perm) (reg : Option Nat) (acc : Nat) (inl : Bool) :
    Keeps cmds (capTests e c a n need reg acc inl) := by
  grind [capTests, fault_keeps, Keeps.pure, capSource_keeps, Keeps.bind]

@[simp] theorem State.wcPut_pending (s : State) (e : Nat) (w : WalkEntry) : (s.wcPut e w).pending = s.pending := by simp [State.wcPut]

@[simp] theorem State.walkFrom_pending (s : State) (e va ttb : Nat) (reloc : Bool) (tb : Nat) (x0 : Nat) :
    (s.walkFrom e va ttb reloc tb x0).2.pending = s.pending := by
  induction x0 generalizing s tb with
  | zero => rfl
  | succ n ih => grind [State.walkFrom, State.readCell_pending, State.wcPut_pending]

@[simp] theorem State.walkVa_pending (s : State) (e va : Nat) : (s.walkVa e va).2.pending = s.pending := by
  unfold State.walkVa
  dsimp only
  (repeat' split) <;> simp [*]

@[simp] theorem State.tlbPut_pending (s : State) (e : Nat) (t : TlbEntry) : (s.tlbPut e t).pending = s.pending := by simp [State.tlbPut]

@[simp] theorem State.walked_pending (s : State) (e va : Nat) (acc : Access) (lvl : Level) (user kgu : Bool) :
    (s.walked e va acc lvl user kgu).2.pending = s.pending := by
  grind [State.walked, State.walkVa_pending, State.tlbPut_pending]

@[simp] theorem State.walkStart1_pending (s : State) (c : Nat) : (s.walkStart1 c).pending = s.pending := by
  unfold State.walkStart1
  dsimp only
  (repeat' split) <;> simp [*]

@[simp] theorem State.walkServe_pending (s : State) (c : Nat) : (s.walkServe c).pending = s.pending := by simp [State.walkServe]

@[simp] theorem tlbMiss_keeps (cmds : List Instr) (e : Nat) (r : XReq) : Keeps cmds (tlbMiss e r) := by
  grind [tlbMiss, Keeps.get_bind, fault_keeps, State.walked_pending, Keeps.set, Keeps.bind, Keeps.pure, Keeps.modify, State.walkServe_pending,
      State.updEngine_pending, Keeps.throw]

@[simp] theorem translate_keeps (cmds : List Instr) (e : Nat) (r : XReq) : Keeps cmds (translate e r) := by
  unfold translate
  grind [Keeps.bind, Keeps.get_bind, Keeps.set, Keeps.pure, State.updEngine_pending, fault_keeps, tlbMiss_keeps]

@[simp] theorem mpuE_keeps (cmds : List Instr) (e pa : Nat) (acc : Access) (lvl : Level) (paired : Bool) (mt : MemType) (reg : Option Nat) (accCode : Nat) :
    Keeps cmds (mpuE e pa acc lvl paired mt reg accCode) := by
  grind [mpuE, Keeps.get_bind, fault_keeps, Keeps.pure, State.mpuCheck_pending, Keeps.set, Keeps.bind]

@[simp] theorem sysTest_keeps (cmds : List Instr) (c : Cell) (a pa : Nat) (reg : Option Nat) (accCode : Nat) :
    Keeps cmds (sysTest c a pa reg accCode) := by
  grind [sysTest, Keeps.get_bind, fault_keeps, Keeps.pure]

@[simp] theorem bpTake_keeps (cmds : List Instr) (e : Nat) (hits : List Nat) (val reason acc : Nat) : Keeps cmds (bpTake e hits val reason acc) := by
  cases hits <;> grind [bpTake, Keeps.bind, Keeps.get_bind, Keeps.pure, Keeps.throw, fault_keeps]

@[simp] theorem bpFetch_keeps (cmds : List Instr) (e a : Nat) : Keeps cmds (bpFetch e a) := by
  grind [bpFetch, Keeps.get_bind, bpTake_keeps]

@[simp] theorem bpData_keeps (cmds : List Instr) (e a n : Nat) (rd wr : Bool) (acc : Nat) : Keeps cmds (bpData e a n rd wr acc) := by
  grind [bpData, Keeps.get_bind, bpTake_keeps]

@[simp] theorem dataAccess_keeps (cmds : List Instr) (e : Nat) (r : DReq) (test9 : EM Unit) (h : Keeps cmds test9) :
    Keeps cmds (dataAccess e r test9) :=
  .ite (fault_keeps ..) <| (capTests_keeps ..).bind fun _ => h.bind fun _ => .get_bind fun _ _ => (translate_keeps ..).bind fun _ =>
    (sysTest_keeps ..).bind fun _ => .guard (mpuE_keeps ..) <| .guard (mpuE_keeps ..) <| (bpData_keeps ..).bind fun _ => .pure _

/-! ## Memory accesses of an engine (`Machine/Access.lean`) -/

@[simp] theorem State.sbWrite_pending (s : State) (e : Nat) (b : SbEntry) : (s.sbWrite e b).pending = s.pending := by simp [State.sbWrite]

@[simp] theorem State.sbDrain_pending (s : State) (e : Nat) : (s.sbDrain e).pending = s.pending := by simp [State.sbDrain]

@[simp] theorem State.hitCell_pending (s : State) (l : L1Line) (ofs : Nat) : (s.hitCell l ofs).2.pending = s.pending := by
  unfold State.hitCell
  dsimp only
  (repeat' split) <;> simp [*]

@[simp] theorem State.readCells_pending (s : State) (key pa src e : Nat) : (s.readCells key pa src e).2.pending = s.pending := by
  simp [State.readCells]

@[simp] theorem State.putL1d_pending (s : State) (e : Nat) (l : L1Line) : (s.putL1d e l).pending = s.pending := by simp [State.putL1d]

@[simp] theorem ume_keeps (cmds : List Instr) {α : Type} (pa : Nat) (reg : Option Nat) (acc : Nat) : Keeps cmds (ume pa reg acc : EM α) := by
  simp [ume]

@[simp] theorem readMemVal_keeps (cmds : List Instr) (e pa src val : Nat) (reg : Option Nat) (acc : Nat) :
    Keeps cmds (readMemVal e pa src val reg acc) := by
  grind [readMemVal, Keeps.get_bind, Keeps.pure, fault_keeps, State.readCell_pending, Keeps.set, Keeps.bind]

@[simp] theorem readMem_keeps (cmds : List Instr) (e pa src : Nat) (reg : Option Nat) (acc : Nat) : Keeps cmds (readMem e pa src reg acc) := by
  simp [readMem]

@[simp] theorem loadValue_keeps (cmds : List Instr) (base : Cell) (a n : Nat) (sx : Bool) (m : MCell) (reg : Option Nat) :
    Keeps cmds (loadValue base a n sx m reg) := by
  grind [loadValue, fault_keeps, Keeps.pure]

@[simp] theorem storeKind_keeps (cmds : List Instr) (e : Nat) (c : Cell) (inl : Bool) : Keeps cmds (storeKind e c inl) := by
  grind [storeKind, Keeps.pure, linkOk_keeps, Keeps.bind]

@[simp] theorem test9_keeps (cmds : List Instr) (base v : Cell) (a : Nat) (reg : Option Nat) : Keeps cmds (test9 base v a reg) := by
  grind [test9, fault_keeps, Keeps.pure]

@[simp] theorem storeMem_keeps (cmds : List Instr) (e a pa n data : Nat) (k : Kind) (mt : MemType) : Keeps cmds (storeMem e a pa n data k mt) := by
  grind [storeMem, Keeps.get_bind, Keeps.modify, State.sigWrite_pending, Keeps.bind, State.updEngine_pending, State.sbWrite_pending, Keeps.throw]

@[simp] theorem fetchFill_keeps (cmds : List Instr) (e pa code : Nat) : Keeps cmds (fetchFill e pa code) := by
  grind [fetchFill, Keeps.get_bind, Keeps.pure, ume_keeps, State.readCells_pending, Keeps.set, Keeps.bind, State.updEngine_pending, State.perf_pending]

@[simp] theorem fetchLine_keeps (cmds : List Instr) (e pa : Nat) : Keeps cmds (fetchLine e pa) := by
  grind [fetchLine, Keeps.get_bind, fetchFill_keeps, Keeps.pure, State.updEngine_pending, State.hitCell_pending, Keeps.set, Keeps.bind]

@[simp] theorem fetch_keeps (cmds : List Instr) (e : Nat) (inl : Bool) : Keeps cmds (fetch e inl) := by
  refine .get_bind fun _ _ => (bpFetch_keeps ..).bind fun _ => (capTests_keeps ..).bind fun _ => (translate_keeps ..).bind fun _ =>
    (sysTest_keeps ..).bind fun _ => (mpuE_keeps ..).bind fun _ => .get_bind fun _ _ => ?_
  grind [Keeps.bind, Keeps.pure, fault_keeps, fetchLine_keeps]

@[simp] theorem decodeWord_keeps (cmds : List Instr) (e : Nat) (w : Word) : Keeps cmds (decodeWord e w) := by
  grind [decodeWord, Keeps.get_bind, fault_keeps, Keeps.pure]

/-! ## Exceptions, and the way from a command to its instruction (`Machine/Except.lean`) -/

@[simp] theorem State.btbPut_pending (s : State) (e : Nat) (b : BtbEntry) : (s.btbPut e b).pending = s.pending := by simp [State.btbPut]

@[simp] theorem State.predict_pending (s : State) (e pc : Nat) (cond taken : Bool) (target kind : Nat) :
    (s.predict e pc cond taken target kind).pending = s.pending := by simp [State.predict]

@[simp] theorem State.haltEngine_pending (s : State) (e reason : Nat) (bp : Option Nat) : (s.haltEngine e reason bp).pending = s.pending := by
  simp [State.haltEngine]

@[simp] theorem State.stopAt_pending (s : State) (e orig : Nat) (val : Dword) (epc : Cell) : (s.stopAt e orig val epc).pending = s.pending := by
  simp [State.stopAt]

@[simp] theorem State.flow_pending (s : State) (e target : Nat) : (s.flow e target).pending = s.pending := by simp [State.flow]

@[simp] theorem State.commitPair_pending (s : State) (e : Nat) : (s.commitPair e).pending = s.pending := by
  unfold State.commitPair
  dsimp only
  (repeat' split) <;> simp [*]

@[simp] theorem State.commit_pending (s : State) (e : Nat) : (s.commit e).pending = s.pending := by simp [State.commit]

@[simp] theorem State.setPcc_pending (s : State) (e : Nat) (c : Cell) : (s.setPcc e c).pending = s.pending := by simp [State.setPcc]

@[simp] theorem State.advance_pending (s : State) (e : Nat) : (s.advance e).pending = s.pending := by
  unfold State.advance
  dsimp only
  (repeat' split) <;> simp [*]

@[simp] theorem State.retire_pending (s : State) (e : Nat) (x0 : Next) : (s.retire e x0).pending = s.pending := by
  cases x0 <;> simp [State.retire]

@[simp] theorem State.writeNow_pending (s : State) (e va pa : Nat) (c : Cell) : (s.writeNow e va pa c).pending = s.pending := by
  simp [State.writeNow]

@[simp] theorem State.pushFrame_pending (s : State) (e sr : Nat) (rest : Bool) : (s.pushFrame e sr rest).2.pending = s.pending := by
  simp only [State.pushFrame]
  split
  · rfl
  split
  · next hr => exact Keeps.run_error hr (linkOk_keeps ..)
  · next hr => exact Keeps.run_ok hr (linkOk_keeps ..)
  · next t hr =>
    have ht := Keeps.run_ok hr (linkOk_keeps ..)
    split
    · exact ht
    split
    · exact ht
    split
    · exact ht
    split
    · next hu => exact (Keeps.run_error hu (translate_keeps ..)).trans ht
    · next p u hu =>
      have hu := (Keeps.run_ok hu (translate_keeps ..)).trans ht
      grind [Keeps.run_ok, Keeps.run_error, storeKind_keeps, State.mpuCheck_pending, State.sbDrain_pending, foldl_pending,
        State.writeNow_pending, State.setEcell_pending]

@[simp] theorem State.sigExc_pending (s : State) (e code val : Nat) : (s.sigExc e code val).pending = s.pending := by simp [State.sigExc]

@[simp] theorem State.toLevel_pending (s : State) (e : Nat) (l : Level) : (s.toLevel e l).pending = s.pending := by simp [State.toLevel]

@[simp] theorem State.firstFetch_pending (s : State) (e : Nat) : (s.firstFetch e).2.pending = s.pending := by
  grind [State.firstFetch, fetch_keeps, Keeps.run_error, Keeps.run_ok]

@[simp] theorem State.enterRest_pending (s : State) (e orig : Nat) (val : Nat) (epc : Cell) : (s.enterRest e orig val epc).pending = s.pending := by
  grind [State.enterRest, State.stopAt_pending, State.pushFrame_pending, State.restPoint_pending, State.sigExc_pending, State.toLevel_pending,
      State.setEsys_pending, State.setEcell_pending, linkOk_keeps, Keeps.run_error, Keeps.run_ok, State.firstFetch_pending, State.setPcc_pending]

@[simp] theorem loadAtK_keeps (cmds : List Instr) (e : Nat) (c : Cell) (a : Nat) (lvl : Level) (need : List Perm) (kgu : Bool) :
    Keeps cmds (loadAtK e c a lvl need kgu) := by
  unfold loadAtK
  exact .guard (fault_keeps ..) <| (capTests_keeps ..).bind fun _ => (translate_keeps ..).bind fun _ => (sysTest_keeps ..).bind fun _ =>
    .get_bind fun _ _ => (mpuE_keeps ..).bind fun _ => .get_bind fun _ _ => .guard (fault_keeps ..) <|
    (readMem_keeps ..).bind fun _ => loadValue_keeps ..

@[simp] theorem State.vector_pending (s : State) (e v : Nat) : (s.vector e v).2.pending = s.pending := by
  simp only [State.vector]
  split
  · grind [Keeps.run_ok, Keeps.run_error, linkOk_keeps]
  · split
    · next hr => exact Keeps.run_error hr (loadAtK_keeps ..)
    · next t hr =>
      have ht := Keeps.run_ok hr (loadAtK_keeps ..)
      split
      · exact ht
      · split
        · next hu => split <;> exact (Keeps.run_ok hu (linkOk_keeps ..)).trans ht
        · next hu => exact (Keeps.run_ok hu (linkOk_keeps ..)).trans ht
        · next hu => exact (Keeps.run_error hu (linkOk_keeps ..)).trans ht

@[simp] theorem State.enterK_pending (s : State) (e : Nat) (x : Exc) (epc : Cell) (imp : Bool) : (s.enterK e x epc imp).pending = s.pending := by
  unfold State.enterK
  dsimp only
  (repeat' split) <;> simp [*]

@[simp] theorem State.takeAbort_pending (s : State) (e : Nat) (x0 : Abort) : (s.takeAbort e x0).pending = s.pending := by
  unfold State.takeAbort
  dsimp only
  (repeat' split) <;> simp [*]

@[simp] theorem guardedOff_keeps (cmds : List Instr) (e : Nat) (w : Word) : Keeps cmds (guardedOff e w) := by
  grind [guardedOff, Keeps.modify, State.sigTake_pending, State.predict_pending, Keeps.pure, Keeps.bind]

@[simp] theorem execute_keeps (cmds : List Instr) (e : Nat) (w : Word) (body : EM Next) (h : Keeps cmds body) : Keeps cmds (execute e w body) :=
  (decodeWord_keeps ..).bind fun _ => .get_bind fun _ _ => .ite h (guardedOff_keeps ..)

@[simp] theorem State.issue_pending (s : State) (e : Nat) (w : Word) (body : EM Next) (h : ∀ cmds, Keeps cmds body) :
    (s.issue e w body).pending = s.pending := by
  unfold State.issue
  split
  · rfl
  split
  · simp
  split
  · next hf => rw [State.takeAbort_pending, Keeps.run_error hf (fetch_keeps ..)]
  · next v t hf =>
    have ht := Keeps.run_ok hf (fetch_keeps ..)
    split
    · rfl
    split
    · next hx => rw [State.takeAbort_pending, Keeps.run_error hx (execute_keeps _ _ _ _ (h _)), ht]
    · next hx => rw [State.retire_pending, Keeps.run_ok hx (execute_keeps _ _ _ _ (h _)), ht]

/-! ## Operands and results of instructions (`Machine/Operands.lean`) -/

@[simp] theorem getReg_keeps (cmds : List Instr) (e : Nat) (r : Reg) : Keeps cmds (getReg e r) := by simp [getReg]

@[simp] theorem Addr.eval_keeps (cmds : List Instr) (f : Addr) (e : Nat) (base : Cell) (n : Nat) (reg : Option Nat) (acc : Nat) :
    Keeps cmds (Addr.eval f e base n reg acc) := by
  cases f <;> grind [Addr.eval, Keeps.bind, Keeps.get_bind, Keeps.pure, fault_keeps, ivalA_keeps]

/-! ## Capability instructions (`Machine/CapInstr.lean`) -/

@[simp] theorem capReg_keeps (cmds : List Instr) (e : Nat) (r : Reg) : Keeps cmds (capReg e r) := by
  grind [capReg, getReg_keeps, Keeps.bind, Keeps.pure, capSource_keeps]

@[simp] theorem sealedReg_keeps (cmds : List Instr) (e : Nat) (r : Reg) : Keeps cmds (sealedReg e r) := by
  grind [sealedReg, getReg_keeps, Keeps.bind, Keeps.pure, fault_keeps, linkOk_keeps]

@[simp] theorem rule79_keeps (cmds : List Instr) (e : Nat) (c : Cell) (r : Reg) : Keeps cmds (rule79 e c r) := by
  grind [rule79, Keeps.get_bind, fault_keeps, Keeps.pure]

@[simp] theorem cmoveBody_keeps (cmds : List Instr) (rd rs1 : Reg) (e : Nat) : Keeps cmds (cmoveBody rd rs1 e) := by
  grind [cmoveBody, getReg_keeps, Keeps.bind, Keeps.pure, putReg_keeps]

@[simp] theorem moveEnd_keeps (cmds : List Instr) (e : Nat) (rd rs1 : Reg) (f : Nat → Nat → Nat) (y : Dword) : Keeps cmds (moveEnd e rd rs1 f y) := by
  grind [moveEnd, capReg_keeps, Keeps.bind, Keeps.pure, putReg_keeps]

@[simp] theorem moveBody_keeps (cmds : List Instr) (f : Nat → Nat → Nat) (rd rs1 rs2 : Reg) (e : Nat) : Keeps cmds (moveBody f rd rs1 rs2 e) := by
  grind [moveBody, ival_keeps, Keeps.bind, moveEnd_keeps]

@[simp] theorem cnarrowBody_keeps (cmds : List Instr) (rd rs1 rs2 : Reg) (e : Nat) : Keeps cmds (cnarrowBody rd rs1 rs2 e) := by
  grind [cnarrowBody, ival_keeps, Keeps.bind, capReg_keeps, fault_keeps, Keeps.pure, putReg_keeps, rule79_keeps]

@[simp] theorem cmaskBody_keeps (cmds : List Instr) (rd rs1 rs2 : Reg) (e : Nat) : Keeps cmds (cmaskBody rd rs1 rs2 e) := by
  grind [cmaskBody, ival_keeps, Keeps.bind, capReg_keeps, Keeps.pure, putReg_keeps, rule79_keeps]

@[simp] theorem csealBody_keeps (cmds : List Instr) (rd rs1 rs2 : Reg) (e : Nat) : Keeps cmds (csealBody rd rs1 rs2 e) := by
  grind [csealBody, capReg_keeps, Keeps.bind, fault_keeps, Keeps.pure, putReg_keeps, rule79_keeps]

@[simp] theorem copenBody_keeps (cmds : List Instr) (rd rs1 rs2 : Reg) (e : Nat) : Keeps cmds (copenBody rd rs1 rs2 e) := by
  grind [copenBody, sealedReg_keeps, Keeps.bind, capReg_keeps, fault_keeps, Keeps.pure, putReg_keeps, rule79_keeps]

@[simp] theorem ckindBody_keeps (cmds : List Instr) (rd rs1 : Reg) (e : Nat) : Keeps cmds (ckindBody rd rs1 e) := by
  grind [ckindBody, getReg_keeps, Keeps.bind, Keeps.pure, wint_keeps]

@[simp] theorem extract_keeps (cmds : List Instr) (f d : Cell → Nat) (rd rs1 : Reg) (e : Nat) : Keeps cmds (extract f d rd rs1 e) := by
  grind [extract, getReg_keeps, Keeps.bind, fault_keeps, Keeps.pure, wint_keeps]

@[simp] theorem lenBody_keeps (cmds : List Instr) (f : Dword → Dword) (rd rs1 : Reg) (e : Nat) : Keeps cmds (lenBody f rd rs1 e) := by
  grind [lenBody, ival_keeps, Keeps.bind, Keeps.pure, wint_keeps]

/-! ## Integer and vector instructions (`Machine/Integer.lean`) -/

@[simp] theorem setFlags_keeps (cmds : List Instr) (e : Nat) (f : Flagged) : Keeps cmds (setFlags e f) := by simp [setFlags]

@[simp] theorem aluEnd_keeps (cmds : List Instr) (e : Nat) (rd : Reg) (traps wr : Bool) (f : Flagged) : Keeps cmds (aluEnd e rd traps wr f) := by
  grind [aluEnd, Keeps.get_bind, fault_keeps, Keeps.pure, wint_keeps, Keeps.bind, setFlags_keeps]

@[simp] theorem alu2_keeps (cmds : List Instr) (f : Dword → Dword → Flagged) (traps wr : Bool) (rd rs1 rs2 : Reg) (e : Nat) :
    Keeps cmds (alu2 f traps wr rd rs1 rs2 e) := by
  grind [alu2, ival_keeps, Keeps.bind, aluEnd_keeps]

@[simp] theorem alu1_keeps (cmds : List Instr) (f : Dword → Flagged) (traps : Bool) (rd rs1 : Reg) (e : Nat) :
    Keeps cmds (alu1 f traps rd rs1 e) := by
  grind [alu1, ival_keeps, Keeps.bind, aluEnd_keeps]

@[simp] theorem aluI_keeps (cmds : List Instr) (f : Dword → Dword → Flagged) (traps wr : Bool) (rd rs1 : Reg) (imm : Imm13) (e : Nat) :
    Keeps cmds (aluI f traps wr rd rs1 imm e) := by
  grind [aluI, ival_keeps, Keeps.bind, aluEnd_keeps]

@[simp] theorem aluDiv_keeps (cmds : List Instr) (f : Dword → Dword → Flagged) (isDiv : Bool) (rd rs1 rs2 : Reg) (e : Nat) :
    Keeps cmds (aluDiv f isDiv rd rs1 rs2 e) := by
  grind [aluDiv, ival_keeps, Keeps.bind, Keeps.modify, State.updChuck_pending, Keeps.get_bind, fault_keeps, aluEnd_keeps]

@[simp] theorem shiBody_keeps (cmds : List Instr) (rd rs1 : Reg) (imm : Imm13) (e : Nat) : Keeps cmds (shiBody rd rs1 imm e) := by
  grind [shiBody, ival_keeps, Keeps.bind, aluEnd_keeps]

@[simp] theorem selBody_keeps (cmds : List Instr) (cond : Cnd) (rd rs1 rs2 : Reg) (e : Nat) : Keeps cmds (selBody cond rd rs1 rs2 e) := by
  grind [selBody, ival_keeps, Keeps.bind, Keeps.get_bind, Keeps.pure, wint_keeps]

@[simp] theorem cmovBody_keeps (cmds : List Instr) (cond : Cnd) (rd rs1 : Reg) (e : Nat) : Keeps cmds (cmovBody cond rd rs1 e) := by
  grind [cmovBody, ival_keeps, Keeps.bind, Keeps.get_bind, Keeps.pure, wint_keeps]

@[simp] theorem moviBody_keeps (cmds : List Instr) (rd : Reg) (imm : Imm18) (e : Nat) : Keeps cmds (moviBody rd imm e) := by simp [moviBody]

@[simp] theorem movkBody_keeps (cmds : List Instr) (rd : Reg) (imm : Imm18) (e : Nat) : Keeps cmds (movkBody rd imm e) := by
  grind [movkBody, ival_keeps, Keeps.bind, Keeps.pure, wint_keeps]

/-! ## Branches and loops (`Machine/Branch.lean`) -/

@[simp] theorem branchTo_keeps (cmds : List Instr) (e t : Nat) : Keeps cmds (branchTo e t) := by
  grind [branchTo, Keeps.get_bind, fault_keeps, Keeps.pure]

@[simp] theorem bBody_keeps (cmds : List Instr) (g : Grd) (cond : Cnd) (off : Imm18) (e : Nat) : Keeps cmds (bBody g cond off e) := by
  grind [bBody, Keeps.get_bind, branchTo_keeps, Keeps.bind, Keeps.modify, State.sigTake_pending, State.predict_pending, Keeps.pure]

@[simp] theorem jalBody_keeps (cmds : List Instr) (rd : Reg) (off : Imm18) (e : Nat) : Keeps cmds (jalBody rd off e) := by
  grind [jalBody, Keeps.get_bind, branchTo_keeps, Keeps.bind, Keeps.modify, State.predict_pending, Keeps.pure, putReg_keeps]

@[simp] theorem jrBody_keeps (cmds : List Instr) (rd rs1 : Reg) (e : Nat) : Keeps cmds (jrBody rd rs1 e) := by
  refine (getReg_keeps ..).bind fun _ => .get_bind fun _ _ => .ite (fault_keeps ..) <| .ite (fault_keeps ..) <| .ite (fault_keeps ..) <|
    .ite (fault_keeps ..) <| (linkOk_keeps ..).bind fun _ => .ite (fault_keeps ..) <| .ite (fault_keeps ..) <|
    (Keeps.modify fun _ => by simp).bind fun _ => (putReg_keeps ..).bind fun _ => .pure _

@[simp] theorem loopRun_keeps (cmds : List Instr) (lvl : BitVec 2) (count : Nat → EM Nat) (end13 : Imm13) (w : Word) (e : Nat) (h : ∀ n, Keeps cmds (count n)) :
    Keeps cmds (loopRun lvl count end13 w e) :=
  .get_bind fun _ _ => .ite (fault_keeps ..) <| (h _).bind fun _ => .ite (.ite (fault_keeps ..) (.pure _)) <| .ite (fault_keeps ..) <|
    (Keeps.modify fun _ => by simp).bind fun _ => .pure _

@[simp] theorem loopCount_keeps (cmds : List Instr) (rs1 : Reg) (e : Nat) : Keeps cmds (loopCount rs1 e) := by simp [loopCount]

@[simp] theorem lclrBody_keeps (cmds : List Instr) (lvl : BitVec 2) (e : Nat) : Keeps cmds (lclrBody lvl e) := by
  simp -implicitDefEqProofs [lclrBody]

/-! ## Calipers, monitors and the time-domain reflectometer (`Machine/Measure.lean`) -/

@[simp] theorem State.portEvent_pending (s : State) (p k : Nat) : (s.portEvent p k).pending = s.pending := by simp [State.portEvent]

@[simp] theorem State.loseBlocks_pending (s : State) (p : Nat) (x0 : Nat) : (s.loseBlocks p x0).pending = s.pending := by
  induction x0 generalizing s with
  | zero => rfl
  | succ n ih => simp [State.loseBlocks, ih]

@[simp] theorem State.abandonBlock_pending (s : State) (p : Nat) : (s.abandonBlock p).pending = s.pending := by
  grind [State.abandonBlock, State.loseBlocks_pending, State.updPort_pending]

@[simp] theorem State.collect_pending (s : State) (p : Nat) (vals : List (Nat × Int)) (bad ovr : Bool) (time : Dword) :
    (s.collect p vals bad ovr time).pending = s.pending := by simp [State.collect]

@[simp] theorem State.decimate_pending (s : State) (p : Nat) (x : Nat → Int) (bad : Bool) (time : Dword) :
    (s.decimate p x bad time).pending = s.pending := by simp [State.decimate]

@[simp] theorem State.decimateFrame_pending (s : State) (p : Nat) (valid : Bool) (stream : List Byte) :
    (s.decimateFrame p valid stream).pending = s.pending := by simp [State.decimateFrame]

@[simp] theorem State.writeLine_pending (s : State) (pa : Nat) (data : List Byte) : (s.writeLine pa data).pending = s.pending := by
  simp [State.writeLine]

@[simp] theorem State.portWrite_pending (s : State) (p pa : Nat) (data : List Byte) (src : Nat) :
    (s.portWrite p pa data src).2.pending = s.pending := by
  grind [State.portWrite, State.writeLine_pending, State.mpuCheck_pending]

@[simp] theorem State.stopDma_pending (s : State) (p code : Nat) : (s.stopDma p code).pending = s.pending := by simp [State.stopDma]

@[simp] theorem State.clearDmaErr_pending (s : State) (m : Master) (p : Nat) : (s.clearDmaErr m p).pending = s.pending := by simp [State.clearDmaErr]

@[simp] theorem State.tdrError_pending (s : State) (p code : Nat) : (s.tdrError p code).pending = s.pending := by simp [State.tdrError]

@[simp] theorem State.tdrStart_pending (s : State) (p : Nat) (fine : Bool) : (s.tdrStart p fine).pending = s.pending := by simp [State.tdrStart]

@[simp] theorem State.tdrCmd_pending (s : State) (p : Nat) (data : Word) : (s.tdrCmd p data).pending = s.pending := by
  grind [State.tdrCmd, State.tdrStart_pending, State.tdrError_pending, State.cfgerr_pending]

@[simp] theorem State.tdrFit_pending (s : State) (p : Nat) (a : Acq) : (s.tdrFit p a).pending = s.pending := by simp [State.tdrFit]

@[simp] theorem State.tdrDone_pending (s : State) (p : Nat) (a : Acq) : (s.tdrDone p a).pending = s.pending := by simp [State.tdrDone]

@[simp] theorem State.startScan_pending (s : State) : s.startScan.pending = s.pending := by simp [State.startScan]

@[simp] theorem State.senseNext_pending (s : State) : s.senseNext.pending = s.pending := by simp [State.senseNext]

@[simp] theorem State.senseRun_pending (s : State) (run : Bool) : (s.senseRun run).pending = s.pending := by simp [State.senseRun]

@[simp] theorem State.senseSingle_pending (s : State) : s.senseSingle.pending = s.pending := by simp [State.senseSingle]

@[simp] theorem State.senseSnap_pending (s : State) (m : Nat) : (s.senseSnap m).pending = s.pending := by simp [State.senseSnap]

@[simp] theorem State.noiseStart_pending (s : State) (m : Master) : (s.noiseStart m).pending = s.pending := by simp [State.noiseStart]

/-! ## Instrument ports (`Machine/Ports.lean`) -/

@[simp] theorem State.dropCmds_pending (s : State) (p : Nat) (x0 : Nat) : (s.dropCmds p x0).pending = s.pending := by
  induction x0 generalizing s with
  | zero => rfl
  | succ n ih => simp [State.dropCmds, ih]

@[simp] theorem State.flushCmds_pending (s : State) (p : Nat) : (s.flushCmds p).pending = s.pending := by simp [State.flushCmds]

@[simp] theorem State.retrain_pending (s : State) (p : Nat) : (s.retrain p).pending = s.pending := by simp [State.retrain]

@[simp] theorem State.isolatePort_pending (s : State) (p cls cause : Nat) : (s.isolatePort p cls cause).pending = s.pending := by
  simp [State.isolatePort]

@[simp] theorem State.linkLoss_pending (s : State) (p : Nat) : (s.linkLoss p).pending = s.pending := by simp [State.linkLoss]

@[simp] theorem State.takeDesc_pending (s : State) (p : Nat) (d : List Byte) : (s.takeDesc p d).pending = s.pending := by
  simp -implicitDefEqProofs [State.takeDesc]

@[simp] theorem State.descSeg_pending (s : State) (p : Nat) (sg : List Byte) : (s.descSeg p sg).pending = s.pending := by simp [State.descSeg]

@[simp] theorem State.linkUp_pending (s : State) (p : Nat) : (s.linkUp p).pending = s.pending := by simp [State.linkUp]

@[simp] theorem State.echoSeg_pending (s : State) (p : Nat) (sg : List Byte) : (s.echoSeg p sg).pending = s.pending := by
  unfold State.echoSeg
  dsimp only
  (repeat' split) <;> simp [*]

@[simp] theorem State.ackSeg_pending (s : State) (p : Nat) (sg : List Byte) : (s.ackSeg p sg).pending = s.pending := by
  unfold State.ackSeg
  dsimp only
  (repeat' split) <;> simp [*]

@[simp] theorem State.stateOutput_pending (s : State) (p o rep : Nat) : (s.stateOutput p o rep).pending = s.pending := by simp [State.stateOutput]

@[simp] theorem State.stateSeg_pending (s : State) (p : Nat) (sg : List Byte) : (s.stateSeg p sg).pending = s.pending := by simp [State.stateSeg]

@[simp] theorem State.tdrSeg_pending (s : State) (p : Nat) (sg : List Byte) : (s.tdrSeg p sg).pending = s.pending := by
  unfold State.tdrSeg
  dsimp only
  (repeat' split) <;> simp [*]

@[simp] theorem State.takeSeg_pending (s : State) (p : Nat) (sg : List Byte) : (s.takeSeg p sg).pending = s.pending := by
  grind [State.takeSeg, State.stateSeg_pending, State.descSeg_pending, State.tdrSeg_pending, State.echoSeg_pending, State.portEvent_pending,
      State.ackSeg_pending, State.setFld_pending]

@[simp] theorem State.portCmd_pending (s : State) (p : Nat) (data : Word) : (s.portCmd p data).pending = s.pending := by simp [State.portCmd]

@[simp] theorem State.nextSeg_pending (s : State) (p : Nat) : (s.nextSeg p).2.pending = s.pending := by
  unfold State.nextSeg
  dsimp only
  (repeat' split) <;> simp [*]

@[simp] theorem State.portLinken_pending (s : State) (m : Master) (p : Nat) (en : Bool) : (s.portLinken m p en).pending = s.pending := by
  simp [State.portLinken]

@[simp] theorem State.portRestart_pending (s : State) (m : Master) (p : Nat) : (s.portRestart m p).pending = s.pending := by simp [State.portRestart]

@[simp] theorem State.pastGate_pending (s : State) (m : Master) (f : State → State) (h : ∀ t, (f t).pending = t.pending) :
    (s.pastGate m f).pending = s.pending := by
  cases m <;> simp [State.pastGate, h]

@[simp] theorem State.tdrWrite_pending (s : State) (m : Master) (p : Nat) (data : Word) : (s.tdrWrite m p data).pending = s.pending := by
  simp [State.tdrWrite]

/-! ## The trunk (`Machine/Trunk.lean`) -/

@[simp] theorem State.sendOn_pending (s : State) (trk1 : Bool) (f : List Byte) : (s.sendOn trk1 f).pending = s.pending := by simp [State.sendOn]

@[simp] theorem State.originate_pending (s : State) (dst type hops corr : Nat) (payload : List Byte) :
    (s.originate dst type hops corr payload).pending = s.pending := by simp [State.originate]

@[simp] theorem State.note_pending (s : State) (f : List Byte) : (s.note f).pending = s.pending := by simp [State.note]

@[simp] theorem State.forward_pending (s : State) (trk1 : Bool) (f : List Byte) (corr : Nat) : (s.forward trk1 f corr).pending = s.pending := by
  simp [State.forward]

@[simp] theorem State.frameError_pending (s : State) (trk1 : Bool) : (s.frameError trk1).pending = s.pending := by simp [State.frameError]

@[simp] theorem State.receive_pending (s : State) (trk1 : Bool) (fr : TFrame) (type : Nat) (corr : Nat) (f : State → State) (h : ∀ t, (f t).pending = t.pending) :
    (s.receive trk1 fr type corr f).pending = s.pending := by simp [State.receive, h]

@[simp] theorem State.takeEnum_pending (s : State) (trk1 : Bool) (f : List Byte) : (s.takeEnum trk1 f).pending = s.pending := by
  simp [State.takeEnum]

@[simp] theorem State.servo_pending (s : State) (trk1 : Bool) (f : List Byte) : (s.servo trk1 f).pending = s.pending := by simp [State.servo]

@[simp] theorem State.loseLock_pending (s : State) : s.loseLock.pending = s.pending := by simp [State.loseLock]

@[simp] theorem State.loadTime_pending (s : State) (v : Nat) : (s.loadTime v).pending = s.pending := by simp [State.loadTime]

@[simp] theorem State.timeSetHi_pending (s : State) (m : Master) (data : Word) : (s.timeSetHi m data).pending = s.pending := by
  simp [State.timeSetHi]

@[simp] theorem State.updMac_pending (s : State) (eth1 : Bool) (f : Eth → Eth) : (s.updMac eth1 f).pending = s.pending := by simp [State.updMac]

@[simp] theorem State.macWrite_pending (s : State) (eth1 : Bool) (o : Nat) (x0 : List Byte) : (s.macWrite eth1 o x0).pending = s.pending := by
  induction x0 generalizing s o with
  | nil => rfl
  | cons b l ih => simp [State.macWrite, ih]

@[simp] theorem State.ethTxcmd_pending (s : State) (eth1 : Bool) (data : Word) : (s.ethTxcmd eth1 data).pending = s.pending := by
  simp [State.ethTxcmd]

@[simp] theorem State.ethDrop_pending (s : State) (eth1 : Bool) : (s.ethDrop eth1).pending = s.pending := by simp [State.ethDrop]

/-! ## Mailboxes (`Machine/Mailbox.lean`) -/

@[simp] theorem State.mbxSet_pending (s : State) (n st : Nat) : (s.mbxSet n st).pending = s.pending := by simp [State.mbxSet]

@[simp] theorem State.mbxColl_pending (s : State) (n : Nat) : (s.mbxColl n).pending = s.pending := by simp [State.mbxColl]

@[simp] theorem State.mbxDeny_pending (s : State) (n : Nat) : (s.mbxDeny n).pending = s.pending := by simp [State.mbxDeny]

@[simp] theorem State.mbxRing_pending (s : State) (m : Master) (n : Nat) : (s.mbxRing m n).pending = s.pending := by simp [State.mbxRing]

@[simp] theorem State.mbxAck_pending (s : State) (n : Nat) : (s.mbxAck n).pending = s.pending := by simp [State.mbxAck]

@[simp] theorem State.mbxDoorbell_pending (s : State) (m : Master) (n : Nat) (data : Word) : (s.mbxDoorbell m n data).pending = s.pending := by
  grind [State.mbxDoorbell, State.mbxDeny_pending, State.mbxRing_pending, State.mbxAck_pending, State.cfgerr_pending]

@[simp] theorem State.mbxReqWrite_pending (s : State) (m : Master) (n ofs : Nat) (data : Word) :
    (s.mbxReqWrite m n ofs data).pending = s.pending := by simp [State.mbxReqWrite]

@[simp] theorem State.mbxFill_pending (s : State) (n ofs : Nat) (l : List Byte) : (s.mbxFill n ofs l).pending = s.pending := by
  simp -implicitDefEqProofs [State.mbxFill]

@[simp] theorem State.mbxTake_pending (s : State) (m : Master) (n : Nat) : (s.mbxTake m n).pending = s.pending := by simp [State.mbxTake]

@[simp] theorem State.mbxDone_pending (s : State) (n : Nat) : (s.mbxDone n).pending = s.pending := by simp [State.mbxDone]

@[simp] theorem State.mbxReset_pending (s : State) (n : Nat) : (s.mbxReset n).pending = s.pending := by
  unfold State.mbxReset
  rw [State.updFw_pending, State.mbxSet_pending, State.setReg_pending, State.mbxFill_pending, State.mbxFill_pending]

@[simp] theorem State.mbxControl_pending (s : State) (m : Master) (n : Nat) (data : Word) : (s.mbxControl m n data).pending = s.pending := by
  unfold State.mbxControl
  dsimp only
  (repeat' split) <;> simp [*]

@[simp] theorem State.mbxWrite_pending (s : State) (m : Master) (n r : Nat) (data : Word) : (s.mbxWrite m n r data).pending = s.pending := by
  simp [State.mbxWrite]

@[simp] theorem State.mbxRead_pending (s : State) (m : Master) (n r : Nat) : (s.mbxRead m n r).2.pending = s.pending := by simp [State.mbxRead]

@[simp] theorem State.takeMbx_pending (s : State) (trk1 : Bool) (f : List Byte) : (s.takeMbx trk1 f).pending = s.pending := by
  unfold State.takeMbx
  dsimp only
  split
  · exact State.count16_pending ..
  split
  · rw [State.raise_pending, State.mbxSet_pending, State.mbxFill_pending]
  · rw [State.mbxRing_pending, State.mbxFill_pending]

/-! ## Scheduler (`Machine/Sched.lean`) -/

@[simp] theorem saveCheck_keeps (cmds : List Instr) (e : Nat) (c : Cell) : Keeps cmds (saveCheck e c) := by
  grind [saveCheck, fault_keeps, Keeps.pure, Keeps.bind, capSource_keeps]

@[simp] theorem saveLine_keeps (cmds : List Instr) (e : Nat) (c : Cell) (i : Nat) (acc : Access) (paired : Bool) :
    Keeps cmds (saveLine e c i acc paired) := by
  grind [saveLine, translate_keeps, Keeps.bind, Keeps.get_bind, Keeps.pure, fault_keeps, mpuE_keeps]

@[simp] theorem spill_keeps (cmds : List Instr) (e : Nat) (t : Slot) (ch : Chuck) : Keeps cmds (spill e t ch) :=
  (saveCheck_keeps ..).bind fun _ => .forM fun _ => (saveLine_keeps ..).bind fun _ => .forM fun _ =>
    (storeKind_keeps ..).bind fun _ => .modify fun _ => by simp

@[simp] theorem fillCellsOf_keeps (cmds : List Instr) (e : Nat) (t : Slot) : Keeps cmds (fillCellsOf e t) := by
  refine (saveCheck_keeps ..).bind fun _ => .foldlM (fun _ _ => (saveLine_keeps ..).bind fun _ => .foldlM (fun _ _ =>
    (readMem_keeps ..).bind fun _ => ?_) _) _
  split
  · exact fault_keeps ..
  · exact .pure _

@[simp] theorem State.stopLong_pending (s : State) (e : Nat) : (s.stopLong e).pending = s.pending := by
  unfold State.stopLong
  dsimp only
  (repeat' split) <;> simp [*]

@[simp] theorem State.makeReady_pending (s : State) (e n : Nat) : (s.makeReady e n).pending = s.pending := by simp [State.makeReady]

@[simp] theorem State.idle_pending (s : State) (e : Nat) : (s.idle e).pending = s.pending := by simp [State.idle]

@[simp] theorem State.emptyChuck_pending (s : State) (e c : Nat) : (s.emptyChuck e c).pending = s.pending := by simp [State.emptyChuck]

@[simp] theorem State.freeSlot_pending (s : State) (e n : Nat) : (s.freeSlot e n).pending = s.pending := by
  unfold State.freeSlot
  dsimp only
  (repeat' split) <;> simp [*]

@[simp] theorem State.dispatch_pending (s : State) (e n c : Nat) : (s.dispatch e n c).pending = s.pending := by simp [State.dispatch]

@[simp] theorem State.sendDecision_pending (s : State) (e : Nat) (c : Choice) : (s.sendDecision e c).pending = s.pending := by
  unfold State.sendDecision
  dsimp only
  (repeat' split) <;> simp [*]

@[simp] theorem State.takeDecision_pending (s : State) (e : Nat) : (s.takeDecision e).pending = s.pending := by simp [State.takeDecision]

@[simp] theorem State.presentDecision_pending (s : State) (e : Nat) (c : Choice) : (s.presentDecision e c).pending = s.pending := by
  simp [State.presentDecision]

@[simp] theorem State.schedTrap_pending (s : State) (e n : Nat) : (s.schedTrap e n).pending = s.pending := by simp [State.schedTrap]

@[simp] theorem State.startSwitch_pending (s : State) (e n : Nat) (t : Slot) : (s.startSwitch e n t).pending = s.pending := by
  unfold State.startSwitch
  dsimp only
  (repeat' split) <;> simp [*]

@[simp] theorem State.decideNow_pending (s : State) (e : Nat) : (s.decideNow e).2.pending = s.pending := by
  unfold State.decideNow
  dsimp only
  (repeat' split) <;> simp [*]

@[simp] theorem State.runDecision_pending (s : State) (e : Nat) (mine : Choice → Bool) (f : Choice → State → State) (h : ∀ c t, (f c t).pending = t.pending) :
    (s.runDecision e mine f).pending = s.pending := by
  unfold State.runDecision
  dsimp only
  (repeat' split) <;> simp [*]

@[simp] theorem State.switchNow_pending (s : State) (e : Nat) : (s.switchNow e).pending = s.pending := by
  unfold State.switchNow
  dsimp only
  (repeat' split) <;> simp [*]

@[simp] theorem State.endSlice_pending (s : State) (e : Nat) : (s.endSlice e).pending = s.pending := by simp [State.endSlice]

@[simp] theorem State.enterEvent_pending (s : State) (e n : Nat) : (s.enterEvent e n).pending = s.pending := by simp [State.enterEvent]

@[simp] theorem State.deliver_pending (s : State) (e n vec id : Nat) : (s.deliver e n vec id).pending = s.pending := by simp [State.deliver]

@[simp] theorem State.toCretal_pending (s : State) (id : Nat) : (s.toCretal id).pending = s.pending := by simp [State.toCretal]

@[simp] theorem State.misroute_pending (s : State) (id e : Nat) : (s.misroute id e).pending = s.pending := by simp [State.misroute]

@[simp] theorem State.writeEvrRaise_pending (s : State) (m : Master) (data : Word) : (s.writeEvrRaise m data).pending = s.pending := by
  unfold State.writeEvrRaise
  dsimp only
  (repeat' split) <;> simp [*]

@[simp] theorem State.writeEvrBind_pending (s : State) (m : Master) (n : Nat) (data : Word) : (s.writeEvrBind m n data).pending = s.pending := by
  simp [State.writeEvrBind]

@[simp] theorem State.detWrite_pending (s : State) (e slot : Nat) : (s.detWrite e slot).pending = s.pending := by
  grind [State.detWrite, State.writeCell_pending, State.readCell_pending]

@[simp] theorem State.read256_pending (s : State) (pa e : Nat) : (s.read256 pa e).2.pending = s.pending := by
  unfold State.read256
  split
  · rfl
  · rw [foldl_snd_pending]
    grind [State.readCell_pending]

@[simp] theorem State.bindTask_pending (s : State) (e n : Nat) : (s.bindTask e n).2.pending = s.pending := by
  grind [State.bindTask, State.read256_pending, State.arbitrate_pending, State.boundary_pending, State.touchTile_pending, State.updEngine_pending,
      State.updSlot_pending]

@[simp] theorem State.reloadTask_pending (s : State) (e n : Nat) : (s.reloadTask e n).2.pending = s.pending := by
  grind [State.reloadTask, State.read256_pending, State.updSlot_pending]

@[simp] theorem State.suspendTask_pending (s : State) (e n : Nat) : (s.suspendTask e n).2.pending = s.pending := by
  unfold State.suspendTask
  dsimp only
  (repeat' split) <;> simp [*]

@[simp] theorem State.resumeTask_pending (s : State) (e n : Nat) : (s.resumeTask e n).2.pending = s.pending := by simp [State.resumeTask]

@[simp] theorem State.unbindTask_pending (s : State) (e n : Nat) : (s.unbindTask e n).2.pending = s.pending := by simp [State.unbindTask]

@[simp] theorem State.spillChuck_pending (s : State) (e c : Nat) : (s.spillChuck e c).2.pending = s.pending := by
  grind [State.spillChuck, spill_keeps, Keeps.run_error, State.sbDrain_pending, Keeps.run_ok, State.updSlot_pending, State.emptyChuck_pending]

@[simp] theorem State.querySlot_pending (s : State) (e n : Nat) : (s.querySlot e n).pending = s.pending := by simp [State.querySlot]

@[simp] theorem State.schedPerform_pending (s : State) (e op n c vec : Nat) : (s.schedPerform e op n c vec).2.pending = s.pending := by
  unfold State.schedPerform
  split <;> simp

@[simp] theorem State.schedCmd_pending (s : State) (m : Master) (e op n c vec : Nat) : (s.schedCmd m e op n c vec).pending = s.pending := by
  simp [State.schedCmd]

@[simp] theorem State.schedDone_pending (s : State) (e c : Nat) : (s.schedDone e c).pending = s.pending := by simp [State.schedDone]

/-! ## The release of a held engine (`Machine/Release.lean`) -/

@[simp] theorem State.release_pending (s : State) (e : Nat) : (s.release e).2.pending = s.pending := by
  have h := State.read256_pending s (s.startRecord e) e
  simp only [State.release]
  generalize s.read256 (s.startRecord e) e = r at h ⊢
  obtain ⟨a, u⟩ := r
  have hu : u.pending = s.pending := h
  split
  · rfl
  · cases a with
    | none => exact hu
    | some l =>
      dsimp only
      split
      · simp -implicitDefEqProofs [hu]
      · exact hu

@[simp] theorem State.writeEngRel_pending (s : State) (m : Master) (t : Nat) (data : Word) : (s.writeEngRel m t data).pending = s.pending := by
  simp -implicitDefEqProofs [State.writeEngRel]

/-! ## Debug registers (`Machine/DbgRegs.lean`) -/

@[simp] theorem State.updDbg_pending (s : State) (e : Nat) (f : DbgEngine → DbgEngine) : (s.updDbg e f).pending = s.pending := by simp [State.updDbg]

@[simp] theorem State.requestHalt_pending (s : State) (e : Nat) : (s.requestHalt e).pending = s.pending := by simp [State.requestHalt]

@[simp] theorem State.wakeHeld_pending (s : State) (e : Nat) : (s.wakeHeld e).pending = s.pending := by simp [State.wakeHeld]

@[simp] theorem State.resumeOne_pending (s : State) (e : Nat) : (s.resumeOne e).pending = s.pending := by simp [State.resumeOne]

@[simp] theorem State.resumeEngine_pending (s : State) (e : Nat) : (s.resumeEngine e).pending = s.pending := by simp [State.resumeEngine]

@[simp] theorem State.stepOne_pending (s : State) (e : Nat) : (s.stepOne e).pending = s.pending := by simp [State.stepOne]

@[simp] theorem State.stepEngine_pending (s : State) (e : Nat) : (s.stepEngine e).pending = s.pending := by simp [State.stepEngine]

@[simp] theorem State.writeDbgCtl_pending (s : State) (data : Word) : (s.writeDbgCtl data).pending = s.pending := by
  unfold State.writeDbgCtl
  dsimp only
  (repeat' split) <;> simp [*]

@[simp] theorem State.putDbgReg_pending (s : State) (e o : Nat) (w : Word) : (s.putDbgReg e o w).pending = s.pending := by simp [State.putDbgReg]

@[simp] theorem State.writeBp_pending (s : State) (o : Nat) (data : Word) : (s.writeBp o data).pending = s.pending := by
  unfold State.writeBp
  dsimp only
  (repeat' split) <;> simp [*]

@[simp] theorem State.writePmcfg_pending (s : State) (data : Word) : (s.writePmcfg data).pending = s.pending := by simp [State.writePmcfg]

@[simp] theorem State.pmCount_pending (s : State) (k : Nat) : (s.pmCount k).2.pending = s.pending := by simp [State.pmCount]

@[simp] theorem State.setAuth_pending (s : State) (data : Word) : (s.setAuth data).pending = s.pending := by simp [State.setAuth]

@[simp] theorem State.writeAuth_pending (s : State) (m : Master) (data : Word) : (s.writeAuth m data).pending = s.pending := by
  cases m <;> simp [State.writeAuth]

@[simp] theorem State.writeDbg_pending (s : State) (m : Master) (o : Nat) (data : Word) : (s.writeDbg m o data).pending = s.pending := by
  simp [State.writeDbg]

@[simp] theorem State.readDbg_pending (s : State) (o : Nat) : (s.readDbg o).2.pending = s.pending := by simp [State.readDbg]

/-! ## Scrubber, apply unit, memory channels, stream mover (`Machine/MemUnits.lean`) -/

@[simp] theorem State.poisonRange_pending (s : State) (lo n : Nat) : (s.poisonRange lo n).pending = s.pending := by simp [State.poisonRange]

@[simp] theorem State.writeCmem_pending (s : State) (m : Master) (c : Nat) (data : Word) : (s.writeCmem m c data).pending = s.pending := by
  simp [State.writeCmem]

@[simp] theorem State.dramFail_pending (s : State) (chB : Bool) : (s.dramFail chB).pending = s.pending := by simp [State.dramFail]

@[simp] theorem State.scrubLin_pending (s : State) (cell : Nat) : (s.scrubLin cell).pending = s.pending := by
  have h := State.linCompareCell_pending s cell 7
  unfold State.scrubLin
  grind [foldl_pending, State.linMismatchSolo_pending]

@[simp] theorem State.fillStart_pending (s : State) (m : Master) (k : Nat) : (s.fillStart m k).pending = s.pending := by simp [State.fillStart]

@[simp] theorem State.smError_pending (s : State) (t code : Nat) : (s.smError t code).pending = s.pending := by simp [State.smError]

@[simp] theorem State.smDone_pending (s : State) (t flags : Nat) : (s.smDone t flags).pending = s.pending := by simp [State.smDone]

@[simp] theorem State.readBytes_pending (s : State) (pa n src master : Nat) : (s.readBytes pa n src master).2.pending = s.pending := by
  unfold State.readBytes
  rw [foldl_snd_pending]
  grind [State.readCell_pending]

@[simp] theorem State.mergeLine_pending (s : State) (pa : Nat) (data : List Byte) (src master : Nat) :
    (s.mergeLine pa data src master).2.pending = s.pending := by
  unfold State.mergeLine
  dsimp only
  (repeat' split) <;> simp [*]

@[simp] theorem State.storeLine_pending (s : State) (pa : Nat) (all : List Byte) : (s.storeLine pa all).pending = s.pending := by
  simp [State.storeLine]

@[simp] theorem State.smCheck_pending (s : State) (t pa : Nat) (acc : Access) (tail : Nat) : (s.smCheck t pa acc tail).2.pending = s.pending := by
  grind [State.smCheck, State.mpuCheck_pending]

@[simp] theorem State.smFetch_pending (s : State) (t : Nat) : (s.smFetch t).pending = s.pending := by
  grind [State.smFetch, State.smError_pending, State.readBytes_pending, State.smCheck_pending, State.smDone_pending, State.setFld_pending]

@[simp] theorem State.smCopy_pending (s : State) (t : Nat) (r : SmRun) : (s.smCopy t r).pending = s.pending := by
  simp only [State.smCopy]
  split
  · split
    · grind [State.smCheck_pending, State.readBytes_pending, State.smError_pending]
    · split
      · grind [State.smCheck_pending, State.readBytes_pending, State.smError_pending, State.mergeLine_pending, State.storeLine_pending, State.smDone_pending]
      · grind [State.smCheck_pending, State.readBytes_pending, State.smError_pending]
  · grind [State.smCheck_pending, State.smError_pending]

@[simp] theorem State.writeSmHead_pending (s : State) (m : Master) (t : Nat) (data : Word) : (s.writeSmHead m t data).pending = s.pending := by
  simp [State.writeSmHead]

@[simp] theorem State.smRestart_pending (s : State) (m : Master) (t : Nat) : (s.smRestart m t).pending = s.pending := by simp [State.smRestart]

@[simp] theorem State.smErrClear_pending (s : State) (t : Nat) : (s.smErrClear t).pending = s.pending := by simp [State.smErrClear]

@[simp] theorem State.writeRattr_pending (s : State) (m : Master) (u : MpuUnit) (k : Nat) (data : Word) :
    (s.writeRattr m u k data).pending = s.pending := by simp [State.writeRattr]

@[simp] theorem State.mpuSync_pending (s : State) (u : MpuUnit) : (s.mpuSync u).pending = s.pending := by
  unfold State.mpuSync
  dsimp only
  (repeat' split) <;> simp [*]

@[simp] theorem State.mpuFinfoClear_pending (s : State) (m : Master) (u : MpuUnit) : (s.mpuFinfoClear m u).pending = s.pending := by
  simp [State.mpuFinfoClear]

/-! ## Register reads and writes (`Machine/RegIO.lean`) -/

@[simp] theorem State.writeWith_pending (s : State) (m : Master) (b o : Nat) (data : Word) (bad : Bool) :
    (s.writeWith m b o data bad).pending = s.pending := by
  unfold State.writeWith
  dsimp only
  (repeat' split) <;> simp [*]

@[simp] theorem State.writeTable_pending (s : State) (m : Master) (b o : Nat) (data : Word) : (s.writeTable m b o data).pending = s.pending := by
  simp [State.writeTable]

@[simp] theorem State.writeBlkstat_pending (s : State) (b : Nat) (data : Word) : (s.writeBlkstat b data).pending = s.pending := by
  simp [State.writeBlkstat]

@[simp] theorem State.enChanged_pending (s : State) (b : Nat) (en : Bool) : (s.enChanged b en).pending = s.pending := by
  unfold State.enChanged
  dsimp only
  (repeat' split) <;> simp [*]

@[simp] theorem State.writeBlkctrl_pending (s : State) (m : Master) (b : Nat) (data : Word) : (s.writeBlkctrl m b data).pending = s.pending := by
  simp [State.writeBlkctrl]

theorem State.writeTile_pending (s : State) (m : Master) (b o : Nat) (data : Word) (t : State) (h : s.writeTile m b o data = some t) :
    t.pending = s.pending := by
  revert h
  grind [State.writeTile, State.schedCmd_pending, State.writeEngRel_pending, State.writeCmem_pending, State.smRestart_pending, State.cfgerr_pending,
      State.writeSmHead_pending, State.smErrClear_pending]

theorem State.writeMpu_pending (s : State) (m : Master) (b o : Nat) (data : Word) (t : State) (h : s.writeMpu m b o data = some t) :
    t.pending = s.pending := by
  revert h
  grind [State.writeMpu, State.writeRattr_pending, State.cfgerr_pending, State.mpuFinfoClear_pending, State.mpuSync_pending]

theorem State.writePort_pending (s : State) (m : Master) (b o : Nat) (data : Word) (t : State) (h : s.writePort m b o data = some t) :
    t.pending = s.pending := by
  revert h
  grind [State.writePort, State.cfgerr_pending, State.portRestart_pending, State.portLinken_pending, State.pastGate_pending, State.portCmd_pending,
      State.tdrWrite_pending, State.clearDmaErr_pending, State.writeTable_pending]

theorem State.writeSense_pending (s : State) (m : Master) (o : Nat) (data : Word) (t : State) (h : s.writeSense m o data = some t) :
    t.pending = s.pending := by
  revert h
  grind [State.writeSense, State.senseSingle_pending, State.senseRun_pending, State.senseNext_pending, State.writeTable_pending, State.noiseStart_pending,
      State.setFld_pending]

theorem State.writeEth_pending (s : State) (m : Master) (b o : Nat) (data : Word) (t : State) (h : s.writeEth m b o data = some t) :
    t.pending = s.pending := by
  revert h
  grind [State.writeEth, State.pastGate_pending, State.ethTxcmd_pending, State.setReg_pending]

@[simp] theorem State.writeFill_pending (s : State) (m : Master) (o : Nat) (data : Word) : (s.writeFill m o data).pending = s.pending := by
  simp [State.writeFill]

theorem State.writeTime_pending (s : State) (m : Master) (o : Nat) (data : Word) (t : State) (h : s.writeTime m o data = some t) :
    t.pending = s.pending := by
  revert h
  grind [State.writeTime, State.setReg_pending, State.timeSetHi_pending, State.followLock_pending, State.writeWith_pending, State.writeTable_pending]

theorem State.writeSpecial_pending (s : State) (m : Master) (b o : Nat) (data : Word) (t : State) (h : s.writeSpecial m b o data = some t) :
    t.pending = s.pending := by
  revert h
  grind [State.writeSpecial, State.writeMpu_pending, State.writeTile_pending, State.writePort_pending, State.writeEvrRaise_pending,
      State.writeEvrBind_pending, State.mbxWrite_pending, State.writeSafeMode_pending, State.writeSafePol_pending, State.writeSafeKick_pending,
      State.writeSafeKcfg_pending, State.linCmd_pending, State.writeClkTile_pending, State.writeBudget_pending, State.writeDevctl_pending,
      State.writePwrTile_pending, State.writeRstDev_pending, State.writeRstTile_pending, State.writeRstEng_pending, State.writeFill_pending,
      State.writeTime_pending, State.writeSense_pending, State.writeEth_pending, State.writeDbg_pending]

@[simp] theorem State.regWrite_pending (s : State) (m : Master) (b o : Nat) (data : Word) : (s.regWrite m b o data).pending = s.pending := by
  have h1 := State.writeMpu_pending s m b o data
  have h2 := State.writeSpecial_pending s m b o data
  unfold State.regWrite
  cases hm : s.writeMpu m b o data <;> cases hs : s.writeSpecial m b o data <;> simp_all

@[simp] theorem State.readLive_pending (s : State) (m : Master) (b o : Nat) : (s.readLive m b o).2.pending = s.pending := by
  unfold State.readLive
  dsimp only
  (repeat' split) <;> simp [*]

@[simp] theorem State.readSpan_pending (s : State) (m : Master) (b o : Nat) : (s.readSpan m b o).2.2.pending = s.pending := by
  unfold State.readSpan
  dsimp only
  (repeat' split) <;> simp [*]

@[simp] theorem State.regRead_pending (s : State) (m : Master) (b o : Nat) : (s.regRead m b o).2.pending = s.pending := by
  unfold State.regRead
  dsimp only
  (repeat' split) <;> simp [*]

@[simp] theorem State.cretalWrite_pending (s : State) (b o : Nat) (data : Word) : (s.cretalWrite b o data).pending = s.pending := by
  simp [State.cretalWrite]

/-! ## Loads and stores (`Machine/LoadStore.lean`) -/

@[simp] theorem sbEmpty_keeps (cmds : List Instr) (e : Nat) : Keeps cmds (sbEmpty e) := by
  grind [sbEmpty, Keeps.get_bind, Keeps.throw, Keeps.pure]

@[simp] theorem State.sigRead_pending (s : State) (e blk ofs : Nat) : (s.sigRead e blk ofs).pending = s.pending := by simp [State.sigRead]

@[simp] theorem pairRead_keeps (cmds : List Instr) (e blk ofs : Nat) (perform : State → Option Dword × State) (h : ∀ s, (perform s).2.pending = s.pending) :
    Keeps cmds (pairRead e blk ofs perform) := by
  grind [pairRead, Keeps.get_bind, Keeps.pure, Keeps.set, Keeps.bind, State.sigRead_pending, State.updPair_pending, Keeps.throw, State.divergeAt_pending]

@[simp] theorem State.engRegRead_pending (s : State) (e b o : Nat) : (s.engRegRead e b o).2.pending = s.pending := by simp [State.engRegRead]

@[simp] theorem regLoad_keeps (cmds : List Instr) (e pa b o : Nat) (reg : Option Nat) : Keeps cmds (regLoad e pa b o reg) := by
  refine (sbEmpty_keeps ..).bind fun _ => .ite (.bind ⟨fun s hs => ?_⟩ fun r => ?_) ((pairRead_keeps _ _ _ _ _ fun s => ?_).bind fun r => ?_)
  · exact (State.engRegRead_pending ..).trans hs
  · cases r <;> grind [Keeps.pure, fault_keeps]
  · exact State.engRegRead_pending ..
  · cases r <;> grind [Keeps.pure, fault_keeps]

@[simp] theorem State.actDone_pending (s : State) (e : Nat) (h : Act) : (s.actDone e h).pending = s.pending := by
  unfold State.actDone
  dsimp only
  (repeat' split) <;> simp [*]

@[simp] theorem State.actForward_pending (s : State) (e : Nat) (h : Act) : (s.actForward e h).pending = s.pending := by
  grind [State.actForward, State.regWrite_pending]

@[simp] theorem gatedStore_keeps (cmds : List Instr) (e : Nat) (h : Act) : Keeps cmds (gatedStore e h) := by
  grind [gatedStore, Keeps.get_bind, State.actDone_pending, State.actForward_pending, State.updPair_pending, Keeps.set, Keeps.throw, State.divergeAt_pending,
      Keeps.bind, State.updEngine_pending]

@[simp] theorem regStore_keeps (cmds : List Instr) (e a pa b o : Nat) (data : Word) (rs1 : Reg) (wb : Option Cell) :
    Keeps cmds (regStore e a pa b o data rs1 wb) := by
  grind [regStore, fault_keeps, Keeps.modify, State.sigTake_pending, Keeps.get_bind, gatedStore_keeps, Keeps.bind, State.regWrite_pending,
      State.sigWrite_pending, sbEmpty_keeps]

@[simp] theorem writeBack_keeps (cmds : List Instr) (e : Nat) (rs1 : Reg) (wb : Option Cell) : Keeps cmds (writeBack e rs1 wb) := by
  cases wb
  · exact .pure _
  · exact putReg_keeps ..

@[simp] theorem loadMem_keeps (cmds : List Instr) (e pa n : Nat) (mt : MemType) (reg : Option Nat) (miss : LoadReq) :
    Keeps cmds (loadMem e pa n mt reg miss) := by
  unfold loadMem
  grind [Keeps.bind, Keeps.get_bind, Keeps.set, Keeps.modify, Keeps.pure, Keeps.throw, State.updEngine_pending, State.hitCell_pending, sbEmpty_keeps, readMem_keeps]

@[simp] theorem loadBody_keeps (cmds : List Instr) (n : Nat) (sx user : Bool) (f : Addr) (rd rs1 : Reg) (e : Nat) :
    Keeps cmds (loadBody n sx user f rd rs1 e) := by
  refine (getReg_keeps ..).bind fun _ => (Addr.eval_keeps ..).bind fun _ => (dataAccess_keeps _ _ _ _ (.pure _)).bind fun _ =>
    .get_bind fun _ _ => .ite (fault_keeps ..) <| .get_bind fun _ _ => ?_
  split
  · exact (regLoad_keeps ..).bind fun _ => (writeBack_keeps ..).bind fun _ => (putReg_keeps ..).bind fun _ => .pure _
  · exact (loadMem_keeps ..).bind fun _ => (loadValue_keeps ..).bind fun _ => (writeBack_keeps ..).bind fun _ =>
      (putReg_keeps ..).bind fun _ => .pure _

@[simp] theorem storeBody_keeps (cmds : List Instr) (n : Nat) (user : Bool) (f : Addr) (rv rs1 : Reg) (e : Nat) :
    Keeps cmds (storeBody n user f rv rs1 e) := by
  refine (getReg_keeps ..).bind fun _ => (getReg_keeps ..).bind fun _ => .ite (fault_keeps ..) <| (Addr.eval_keeps ..).bind fun _ =>
    (dataAccess_keeps _ _ _ _ (.ite (test9_keeps ..) (.pure _))).bind fun _ => .get_bind fun _ _ => .ite (fault_keeps ..) <| .get_bind fun _ _ => ?_
  grind [Keeps.bind, Keeps.pure, writeBack_keeps, regStore_keeps, storeKind_keeps, storeMem_keeps]

@[simp] theorem atomAccess_keeps (cmds : List Instr) (e : Nat) (base : Cell) (n : Nat) (need : List Perm) (rd wr : Bool) (rs1 : Reg) (t9 : EM Unit) (h : Keeps cmds t9) :
    Keeps cmds (atomAccess e base n need rd wr rs1 t9) := by
  grind [atomAccess, dataAccess_keeps, Keeps.bind, Keeps.get_bind, fault_keeps, Keeps.pure, sbEmpty_keeps]

@[simp] theorem tasBody_keeps (cmds : List Instr) (rd rs1 : Reg) (e : Nat) : Keeps cmds (tasBody rd rs1 e) :=
  (getReg_keeps ..).bind fun _ => (atomAccess_keeps _ _ _ _ _ _ _ _ _ (.pure _)).bind fun _ => (readMem_keeps ..).bind fun _ =>
    (loadValue_keeps ..).bind fun _ => (Keeps.modify fun _ => by simp).bind fun _ => (putReg_keeps ..).bind fun _ => .pure _

@[simp] theorem lresBody_keeps (cmds : List Instr) (rd rs1 : Reg) (e : Nat) : Keeps cmds (lresBody rd rs1 e) :=
  (getReg_keeps ..).bind fun _ => (atomAccess_keeps _ _ _ _ _ _ _ _ _ (.pure _)).bind fun _ => (readMem_keeps ..).bind fun _ =>
    (loadValue_keeps ..).bind fun _ => (Keeps.modify fun _ => by simp).bind fun _ => (putReg_keeps ..).bind fun _ => .pure _

@[simp] theorem scndBody_keeps (cmds : List Instr) (rd rs1 rs2 : Reg) (e : Nat) : Keeps cmds (scndBody rd rs1 rs2 e) :=
  (getReg_keeps ..).bind fun _ => (getReg_keeps ..).bind fun _ => (atomAccess_keeps _ _ _ _ _ _ _ _ _ (test9_keeps ..)).bind fun _ =>
    .get_bind fun _ _ => .ite
      ((storeKind_keeps ..).bind fun _ => (Keeps.modify fun _ => by simp).bind fun _ => (wint_keeps ..).bind fun _ => .pure _)
      ((Keeps.modify fun _ => by simp).bind fun _ => (wint_keeps ..).bind fun _ => .pure _)

@[simp] theorem State.acquire_pending (s : State) (e : Nat) : (s.acquire e).pending = s.pending := by simp [State.acquire]

@[simp] theorem barAcqBody_keeps (cmds : List Instr) (e : Nat) : Keeps cmds (barAcqBody e) := by simp [barAcqBody]

@[simp] theorem barRelBody_keeps (cmds : List Instr) (e : Nat) : Keeps cmds (barRelBody e) := by simp [barRelBody]

@[simp] theorem barFullBody_keeps (cmds : List Instr) (e : Nat) : Keeps cmds (barFullBody e) := by
  grind [barFullBody, Keeps.modify, State.acquire_pending, Keeps.pure, Keeps.bind, sbEmpty_keeps]

/-! ## System instructions (`Machine/System.lean`) -/

@[simp] theorem trapBody_keeps (cmds : List Instr) (num : BitVec 12) (_e : Nat) : Keeps cmds (trapBody num _e) := by simp [trapBody]

@[simp] theorem readTime_keeps (cmds : List Instr) (e : Nat) : Keeps cmds (readTime e) := by
  grind [readTime, pairRead_keeps, State.now_pending, Keeps.bind, Keeps.pure]

@[simp] theorem sysVal_keeps (cmds : List Instr) (e n : Nat) : Keeps cmds (sysVal e n) := by
  grind [sysVal, Keeps.get_bind, Keeps.pure, Keeps.set, Keeps.bind, readTime_keeps]

@[simp] theorem gsrBody_keeps (cmds : List Instr) (rd : Reg) (sr : BitVec 12) (e : Nat) : Keeps cmds (gsrBody rd sr e) := by
  grind [gsrBody, Keeps.get_bind, Keeps.pure, putReg_keeps, Keeps.bind, sysVal_keeps, wint_keeps]

@[simp] theorem State.ssrWrite_pending (s : State) (e n : Nat) (v : Dword) : (s.ssrWrite e n v).pending = s.pending := by simp [State.ssrWrite]

@[simp] theorem ssrBody_keeps (cmds : List Instr) (sr : BitVec 12) (rs1 : Reg) (e : Nat) : Keeps cmds (ssrBody sr rs1 e) := by
  grind [ssrBody, getReg_keeps, Keeps.bind, Keeps.modify, State.setEcell_pending, Keeps.pure, ival_keeps, State.ssrWrite_pending]

@[simp] theorem popFrame_keeps (cmds : List Instr) (e : Nat) (lvl : Level) : Keeps cmds (popFrame e lvl) := by
  grind [popFrame, Keeps.get_bind, Keeps.mapM, loadAtK_keeps, Keeps.bind, Keeps.modify, State.setEcell_pending, State.setEsys_pending]

@[simp] theorem State.returnTo_pending (s : State) (e : Nat) (st : Dword) (tgt : Cell) : (s.returnTo e st tgt).pending = s.pending := by
  simp [State.returnTo]

@[simp] theorem State.afterEntry_pending (s : State) (e : Nat) : (s.afterEntry e).pending = s.pending := by simp [State.afterEntry]

@[simp] theorem xretBody_keeps (cmds : List Instr) (e : Nat) : Keeps cmds (xretBody e) := by
  refine .get_bind fun s hs => .ite (fault_keeps ..) <| .ite ?_ <| (Keeps.set (by simp [hs])).bind fun _ => .pure _
  split
  · next t hr =>
    have ht := (Keeps.run_error hr (popFrame_keeps ..)).trans hs
    exact (Keeps.set ht).bind fun _ => .ite (fault_keeps ..) <| (Keeps.set (by simp [ht])).bind fun _ => .pure _
  · next t hr =>
    have ht := (Keeps.run_ok hr (popFrame_keeps ..)).trans hs
    exact (Keeps.set (by simp [ht])).bind fun _ => .pure _

@[simp] theorem waitBody_keeps (cmds : List Instr) (e : Nat) : Keeps cmds (waitBody e) := by
  grind [waitBody, Keeps.get_bind, Keeps.pure, State.updSlot_pending, Keeps.set, Keeps.bind, State.makeReady_pending, State.idle_pending,
      State.updEngine_pending, State.retire_pending]

@[simp] theorem pflushBody_keeps (cmds : List Instr) (e : Nat) : Keeps cmds (pflushBody e) := by simp -implicitDefEqProofs [pflushBody]

@[simp] theorem pbarBody_keeps (cmds : List Instr) (e : Nat) : Keeps cmds (pbarBody e) := by simp [pbarBody]

@[simp] theorem State.tlbInv_pending (s : State) (e : Nat) (f : TlbEntry → Bool) : (s.tlbInv e f).pending = s.pending := by simp [State.tlbInv]

@[simp] theorem tinvL1i_keeps (cmds : List Instr) (f : TlbEntry → Bool) (e : Nat) : Keeps cmds (tinvL1i f e) := by
  grind [tinvL1i, Keeps.modify, State.updEngine_pending, State.tlbInv_pending, Keeps.pure, Keeps.bind, sbEmpty_keeps]

@[simp] theorem tinvAllBody_keeps (cmds : List Instr) (e : Nat) : Keeps cmds (tinvAllBody e) := by simp [tinvAllBody]

@[simp] theorem tinvAsidBody_keeps (cmds : List Instr) (rs1 : Reg) (e : Nat) : Keeps cmds (tinvAsidBody rs1 e) := by
  grind [tinvAsidBody, ival_keeps, Keeps.bind, tinvL1i_keeps]

@[simp] theorem tinvVaBody_keeps (cmds : List Instr) (rs1 rs2 : Reg) (e : Nat) : Keeps cmds (tinvVaBody rs1 rs2 e) := by
  grind [tinvVaBody, ival_keeps, Keeps.bind, Keeps.modify, State.tlbInv_pending, Keeps.pure, sbEmpty_keeps]

@[simp] theorem State.bcastInv_pending (s : State) (n va asid : Nat) : (s.bcastInv n va asid).pending = s.pending := by simp [State.bcastInv]

@[simp] theorem State.bcastEnd_pending (s : State) : s.bcastEnd.pending = s.pending := by
  grind [State.bcastEnd, State.retire_pending, State.updEngine_pending]

@[simp] theorem State.bcastSettle_pending (s : State) : s.bcastSettle.pending = s.pending := by simp [State.bcastSettle]

@[simp] theorem tinvBcastBody_keeps (cmds : List Instr) (rs1 rs2 : Reg) (e : Nat) : Keeps cmds (tinvBcastBody rs1 rs2 e) :=
  (ival_keeps ..).bind fun _ => (ival_keeps ..).bind fun _ => (sbEmpty_keeps ..).bind fun _ =>
    (Keeps.modify fun _ => by simp -implicitDefEqProofs).bind fun _ => .pure _

@[simp] theorem State.endWalk_pending (s : State) (n : Nat) (r : WalkReq) : (s.endWalk n r).pending = s.pending := by
  grind [State.endWalk, State.updEngine_pending, State.walked_pending, State.takeAbort_pending, State.stopLong_pending]

/-! ## The debug port (`Machine/DebugPort.lean`) -/

@[simp] theorem State.updJtag_pending (s : State) (f : Jtag → Jtag) : (s.updJtag f).pending = s.pending := by simp [State.updJtag]

@[simp] theorem State.dbgLoad_pending (s : State) (key pa : Nat) : (s.dbgLoad key pa).2.2.pending = s.pending := by
  grind [State.dbgLoad, State.readCell_pending]

@[simp] theorem State.busRead_pending (s : State) (pa : Nat) : (s.busRead pa).2.2.pending = s.pending := by
  grind [State.busRead, State.regRead_pending, State.linRead_pending, State.dbgLoad_pending]

@[simp] theorem State.dbgStore_pending (s : State) (key pa : Nat) (w : Word) : (s.dbgStore key pa w).2.pending = s.pending := by
  grind [State.dbgStore, State.mergeCell_pending]

@[simp] theorem State.busWrite_pending (s : State) (pa : Nat) (w : Word) : (s.busWrite pa w).2.pending = s.pending := by
  grind [State.busWrite, State.raise_pending, State.regWrite_pending, State.dbgStore_pending]

@[simp] theorem State.kindRead_pending (s : State) (pa : Nat) : (s.kindRead pa).2.2.pending = s.pending := by
  grind [State.kindRead, State.readCell_pending]

@[simp] theorem State.updChuckAt_pending (s : State) (e c : Nat) (f : Chuck → Chuck) : (s.updChuckAt e c f).pending = s.pending := by
  simp [State.updChuckAt]

@[simp] theorem State.dbgSys_pending (s : State) (e n : Nat) : (s.dbgSys e n).2.pending = s.pending := by simp [State.dbgSys]

@[simp] theorem State.dbgGet_pending (s : State) (e : Nat) (r : DbgReg) (w : Nat) : (s.dbgGet e r w).2.pending = s.pending := by
  unfold State.dbgGet
  dsimp only
  (repeat' split) <;> simp [*]

@[simp] theorem State.dbgPutSys_pending (s : State) (e n w : Nat) (v : Word) : (s.dbgPutSys e n w v).pending = s.pending := by simp [State.dbgPutSys]

theorem State.dbgPut_pending (s : State) (e : Nat) (r : DbgReg) (w : Nat) (v : Word) (t : State) (h : s.dbgPut e r w v = some t) :
    t.pending = s.pending := by
  cases r <;> simp only [State.dbgPut] at h <;>
    grind [State.updChuckAt_pending, State.setEcell_pending, State.dbgPutSys_pending, Option.map_eq_some_iff]

@[simp] theorem State.stateRead_pending (s : State) (a : BitVec 44) : (s.stateRead a).2.2.pending = s.pending := by
  unfold State.stateRead
  dsimp only
  (repeat' split) <;> simp [*]

@[simp] theorem State.stateWrite_pending (s : State) (a : BitVec 44) (v : Word) : (s.stateWrite a v).2.pending = s.pending := by
  unfold State.stateWrite
  split
  · rfl
  · split
    · rfl
    · dsimp only
      split
      · rfl
      · next t ht =>
        have ht := State.dbgPut_pending _ _ _ _ _ _ ht
        grind [State.dbgPut_pending, State.raise_pending]

@[simp] theorem State.dbgResult_pending (s : State) (st : Status) (a : BitVec 44) (d : Option Word) : (s.dbgResult st a d).pending = s.pending := by
  simp [State.dbgResult]

@[simp] theorem State.dbgPerform_pending (s : State) (c : DbgCmd) : (s.dbgPerform c).pending = s.pending := by
  unfold State.dbgPerform
  dsimp only
  (repeat' split) <;> simp [*]

@[simp] theorem State.dbgacc_pending (s : State) (c : DbgCmd) (a : BitVec 44) : (s.dbgacc c a).pending = s.pending := by simp [State.dbgacc]

/-! ## Cretal's firmware: requests and answers (`Machine/Firmware.lean`) -/

@[simp] theorem State.respond_pending (s : State) (n : Nat) (m : List Byte) : (s.respond n m).pending = s.pending := by simp [State.respond]

@[simp] theorem State.answer_pending (s : State) (q : Req) (st : Nat) (pay : List Byte) : (s.answer q st pay).pending = s.pending := by
  simp [State.answer]

@[simp] theorem State.serveReq_pending (s : State) (n : Nat) (q : Req) (body : Req → FM (List Byte)) (h : ∀ cmds r, Keeps cmds (body r)) :
    (s.serveReq n q body).pending = s.pending := by
  grind [State.serveReq, State.answer_pending, State.respond_pending, State.updFw_pending, Keeps.run_ok, Keeps.run_error]

@[simp] theorem State.serve_pending (s : State) (n code : Nat) (body : Req → FM (List Byte)) (h : ∀ cmds r, Keeps cmds (body r)) :
    (s.serve n code body).pending = s.pending := by
  grind [State.serve, State.cretalRun_pending, State.serveReq_pending]

@[simp] theorem fail_keeps (cmds : List Instr) {α : Type} (st : Nat) : Keeps cmds (fail st : FM α) := by simp [fail]

@[simp] theorem need_keeps (cmds : List Instr) (c : Bool) (st : Nat) : Keeps cmds (need c st) := by simp [need]

@[simp] theorem freeWord_keeps (cmds : List Instr)  : Keeps cmds (freeWord ) := by
  grind [freeWord, Keeps.get_bind, Keeps.pure, Keeps.set, Keeps.bind]

@[simp] theorem failFree_keeps (cmds : List Instr) {α : Type} : Keeps cmds (failFree  : FM α) := by
  grind [failFree, freeWord_keeps, Keeps.bind, Keeps.throw]

@[simp] theorem fwReach_keeps (cmds : List Instr) (b o : Nat) (acc : Access) : Keeps cmds (fwReach b o acc) := by
  grind [fwReach, Keeps.get_bind, failFree_keeps, State.turned_pending, Keeps.set, Keeps.bind, Keeps.pure]

@[simp] theorem fwWrite_keeps (cmds : List Instr) (b o : Nat) (w : Word) : Keeps cmds (fwWrite b o w) := by
  grind [fwWrite, Keeps.modify, State.regWrite_pending, fwReach_keeps, Keeps.bind]

@[simp] theorem fwRead_keeps (cmds : List Instr) (b o : Nat) : Keeps cmds (fwRead b o) := by
  grind [fwRead, Keeps.get_bind, Keeps.pure, State.regRead_pending, Keeps.set, Keeps.bind, fwReach_keeps]

@[simp] theorem fwReads_keeps (cmds : List Instr) (l : List (Nat × Nat)) : Keeps cmds (fwReads l) := by
  grind [fwReads, Keeps.foldlM, fwRead_keeps, Keeps.bind, Keeps.pure]

@[simp] theorem goBg_keeps (cmds : List Instr) {α : Type} (q : Req) (val aux : Nat) : Keeps cmds (goBg q val aux : FM α) := by
  grind [goBg, Keeps.modify, State.updFw_pending, Keeps.throw, Keeps.bind]

@[simp] theorem draw128_keeps (cmds : List Instr)  : Keeps cmds (draw128 ) := by
  grind [draw128, Keeps.get_bind, Keeps.pure, fail_keeps, Keeps.bind, Keeps.set]

@[simp] theorem fwAccess_keeps (cmds : List Instr) (pa : Nat) (acc : Access) : Keeps cmds (fwAccess pa acc) := by
  grind [fwAccess, Keeps.get_bind, failFree_keeps, State.cretalRefused_pending, State.mpuCheck_pending, Keeps.set, Keeps.bind, Keeps.pure]

@[simp] theorem fwLook_keeps (cmds : List Instr) (pa n : Nat) : Keeps cmds (fwLook pa n) :=
  .forM fun _ => .get_bind fun _ hs => .ite ((Keeps.set (by simp [hs])).bind fun _ => failFree_keeps ..) (.pure _)

@[simp] theorem fwEntry_keeps (cmds : List Instr) (i : Nat) : Keeps cmds (fwEntry i) := by simp [fwEntry]

@[simp] theorem fwEntries_keeps (cmds : List Instr) (l : List CapSpec) : Keeps cmds (fwEntries l) := by
  grind [fwEntries, Keeps.forM, Keeps.pure, fwEntry_keeps]

@[simp] theorem fwCell_keeps (cmds : List Instr) (pa : Nat) (v : Quad) : Keeps cmds (fwCell pa v) := by
  grind [fwCell, Keeps.modify, State.writeCell_pending, fwAccess_keeps, Keeps.bind]

@[simp] theorem fwLoad_keeps (cmds : List Instr) (pa : Nat) : Keeps cmds (fwLoad pa) := by
  grind [fwLoad, Keeps.get_bind, Keeps.pure, Keeps.throw, State.readCell_pending, Keeps.set, Keeps.bind, fwAccess_keeps]

@[simp] theorem fwLin_keeps (cmds : List Instr) (q : Req) (op i owner : Nat) : Keeps cmds (fwLin q op i owner) := by
  grind [fwLin, Keeps.get_bind, Keeps.pure, State.linComplete_pending, State.linCmd_pending, Keeps.set, Keeps.bind, goBg_keeps, fwReach_keeps, Keeps.throw]

@[simp] theorem fwMint_keeps (cmds : List Instr) (q : Req) (c : Cell) (pa : Nat) : Keeps cmds (fwMint q c pa) :=
  (fwWrite_keeps ..).bind fun _ => (fwWrite_keeps ..).bind fun _ => (Keeps.forM fun _ => fwWrite_keeps ..).bind fun _ =>
    (fwWrite_keeps ..).bind fun _ => (fwLin_keeps ..).bind fun _ => .ite (.throw _) (.pure _)

@[simp] theorem fwSched_keeps (cmds : List Instr) (e op n : Nat) : Keeps cmds (fwSched e op n) := by
  grind [fwSched, Keeps.get_bind, Keeps.throw, Keeps.pure, State.schedDone_pending, State.schedCmd_pending, Keeps.set, Keeps.bind, fwReach_keeps]

@[simp] theorem State.cretalFill_pending (s : State) (k lo n : Nat) : (s.cretalFill k lo n).pending = s.pending := by simp [State.cretalFill]

@[simp] theorem State.poisonAll_pending (s : State) : s.poisonAll.pending = s.pending := by simp [State.poisonAll]

@[simp] theorem fwFill_keeps (cmds : List Instr) (r : Resource) : Keeps cmds (fwFill r) := by
  grind [fwFill, Keeps.modify, State.cretalFill_pending]

@[simp] theorem fwMode_keeps (cmds : List Instr) (m : Mode) : Keeps cmds (fwMode m) := by
  grind [fwMode, Keeps.get_bind, Keeps.pure, fwWrite_keeps, Keeps.bind]

@[simp] theorem fwSpec_keeps (cmds : List Instr) (r : Except Nat (Cell × Resource)) : Keeps cmds (fwSpec r) := by
  cases r
  · exact fail_keeps ..
  · exact .pure _

@[simp] theorem fwGetInfo_keeps (cmds : List Instr) (_q : Req) : Keeps cmds (fwGetInfo _q) := by
  grind [fwGetInfo, fwRead_keeps, Keeps.bind, Keeps.get_bind, Keeps.pure]

@[simp] theorem fwHeartbeat_keeps (cmds : List Instr) (q : Req) : Keeps cmds (fwHeartbeat q) := by
  grind [fwHeartbeat, Keeps.get_bind, Keeps.modify, State.updFw_pending, Keeps.pure, fwWrite_keeps, Keeps.bind, need_keeps]

@[simp] theorem fwReadLog_keeps (cmds : List Instr) (q : Req) : Keeps cmds (fwReadLog q) := by simp [fwReadLog]

@[simp] theorem fwLinAlloc_keeps (cmds : List Instr) (q : Req) : Keeps cmds (fwLinAlloc q) := by
  refine .get_bind fun _ _ => (need_keeps ..).bind fun _ => (need_keeps ..).bind fun _ => ?_
  split
  · exact (fwLook_keeps ..).bind fun _ => fail_keeps ..
  · exact (fwLook_keeps ..).bind fun _ => (fwLin_keeps ..).bind fun _ => .guard (.throw _) <| .pure _

@[simp] theorem fwGrant_keeps (cmds : List Instr) (q : Req) : Keeps cmds (fwGrant q) := by
  refine .get_bind fun _ _ => (need_keeps ..).bind fun _ => (fwEntries_keeps ..).bind fun _ => (fwSpec_keeps ..).bind fun _ =>
    (fwFill_keeps ..).bind fun _ => (fwMint_keeps ..).bind fun _ => ?_
  grind [Keeps.bind, Keeps.pure, fwMint_keeps]

@[simp] theorem fwLinOp_keeps (cmds : List Instr) (op st : Nat) (q : Req) : Keeps cmds (fwLinOp op st q) :=
  .get_bind fun _ _ => (fwEntry_keeps ..).bind fun _ => (need_keeps ..).bind fun _ => (need_keeps ..).bind fun _ => .guard (.throw _) <|
    (fwReach_keeps ..).bind fun _ => (Keeps.modify fun _ => by simp).bind fun _ => goBg_keeps ..

@[simp] theorem fwLinQuery_keeps (cmds : List Instr) (q : Req) : Keeps cmds (fwLinQuery q) := by
  grind [fwLinQuery, Keeps.get_bind, Keeps.pure, need_keeps, Keeps.bind, fwEntry_keeps]

@[simp] theorem fwModeGet_keeps (cmds : List Instr) (_q : Req) : Keeps cmds (fwModeGet _q) := by
  grind [fwModeGet, Keeps.get_bind, fwRead_keeps, Keeps.bind, Keeps.pure]

@[simp] theorem fwRunCommit_keeps (cmds : List Instr) (q : Req) : Keeps cmds (fwRunCommit q) := by
  grind [fwRunCommit, Keeps.get_bind, fwMode_keeps, Keeps.bind, Keeps.pure, need_keeps]

@[simp] theorem fwSafeEnter_keeps (cmds : List Instr) (q : Req) : Keeps cmds (fwSafeEnter q) := by
  grind [fwSafeEnter, Keeps.get_bind, Keeps.modify, State.fwLog_pending, fwMode_keeps, Keeps.bind, Keeps.pure, need_keeps]

@[simp] theorem fwRecover_keeps (cmds : List Instr) (q : Req) : Keeps cmds (fwRecover q) :=
  .get_bind fun _ _ => (need_keeps ..).bind fun _ => (fwMode_keeps ..).map.bind fun _ => (fwMode_keeps ..).map.bind fun _ => goBg_keeps ..

@[simp] theorem fwPolicyRaise_keeps (cmds : List Instr) (q : Req) : Keeps cmds (fwPolicyRaise q) := by
  grind [fwPolicyRaise, Keeps.get_bind, Keeps.pure, fwWrite_keeps, Keeps.bind, need_keeps]

/-! ## Firmware: engines and tasks (`Machine/FwTasks.lean`) -/

@[simp] theorem fwEngineRegs_keeps (cmds : List Instr) (x : EngineRec) (e : Nat) (tw : Bool) : Keeps cmds (fwEngineRegs x e tw) :=
  (Keeps.forM fun _ => (fwWrite_keeps ..).bind fun _ => (fwWrite_keeps ..).bind fun _ => (fwWrite_keeps ..).bind fun _ =>
    fwWrite_keeps ..).bind fun _ => (fwWrite_keeps ..).bind fun _ => fwWrite_keeps ..

@[simp] theorem fwStartRecord_keeps (cmds : List Instr) (q : Req) (x : EngineRec) (caps : List Cell) (tw : Bool) :
    Keeps cmds (fwStartRecord q x caps tw) :=
  (fwCell_keeps ..).bind fun _ => (fwCell_keeps ..).bind fun _ => (Keeps.forM fun _ => fwCell_keeps ..).bind fun _ =>
    .forM fun _ => fwMint_keeps ..

@[simp] theorem fwRelease_keeps (cmds : List Instr) (e : Nat) : Keeps cmds (fwRelease e) := by
  grind [fwRelease, Keeps.get_bind, Keeps.pure, fwWrite_keeps, Keeps.bind]

@[simp] theorem fwReleaseFailed_keeps (cmds : List Instr) (e : Nat) (released : Option Nat) : Keeps cmds (fwReleaseFailed e released) := by
  cases released <;> grind [fwReleaseFailed, Keeps.bind, Keeps.pure, Keeps.throw, fwWrite_keeps]

@[simp] theorem fwEngineStart_keeps (cmds : List Instr) (q : Req) : Keeps cmds (fwEngineStart q) := by
  refine .get_bind fun _ _ => (need_keeps ..).bind fun _ => (need_keeps ..).bind fun _ => ?_
  split
  · exact fail_keeps ..
  refine (need_keeps ..).bind fun _ => (fwEntries_keeps ..).bind fun _ => (need_keeps ..).bind fun _ =>
    (Keeps.forM fun r => ?_).bind fun _ => (Keeps.forM fun _ => (fwEngineRegs_keeps ..).bind fun _ => ?_).bind fun _ => ?_
  · grind [Keeps.pure, fwFill_keeps]
  · grind [fail_keeps, fwStartRecord_keeps]
  · split <;> grind [Keeps.bind, Keeps.pure, Keeps.forM, fwRelease_keeps, fwReleaseFailed_keeps, fwWrite_keeps]

@[simp] theorem fwTaskMemory_keeps (cmds : List Instr) (q : Req) (e n salt save : Nat) (entry stack area : Cell) :
    Keeps cmds (fwTaskMemory q e n salt save entry stack area) :=
  .get_bind fun _ _ => (Keeps.forM fun _ => fwCell_keeps ..).bind fun _ => (Keeps.forM fun _ => fwCell_keeps ..).bind fun _ =>
    (fwMint_keeps ..).bind fun _ => (fwMint_keeps ..).bind fun _ => fwMint_keeps ..

@[simp] theorem fwTaskCreate_keeps (cmds : List Instr) (q : Req) : Keeps cmds (fwTaskCreate q) :=
  .get_bind fun _ _ => (need_keeps ..).bind fun _ => (fwEntries_keeps ..).bind fun _ => (need_keeps ..).bind fun _ =>
    (need_keeps ..).bind fun _ => (fwSpec_keeps ..).bind fun _ => (fwSpec_keeps ..).bind fun _ => (fwSpec_keeps ..).bind fun _ =>
    (draw128_keeps ..).bind fun _ => (fwFill_keeps ..).bind fun _ => (fwFill_keeps ..).bind fun _ => (fwFill_keeps ..).bind fun _ =>
    (Keeps.forM fun _ => fwTaskMemory_keeps ..).bind fun _ => (Keeps.forM fun _ => fwSched_keeps ..).bind fun _ => .pure _

@[simp] theorem fwTaskOp_keeps (cmds : List Instr) (op : Nat) (q : Req) : Keeps cmds (fwTaskOp op q) :=
  (need_keeps ..).bind fun _ => .get_bind fun _ _ => (Keeps.forM fun _ => fwSched_keeps ..).bind fun _ => .pure _

@[simp] theorem fwTaskQuery_keeps (cmds : List Instr) (q : Req) : Keeps cmds (fwTaskQuery q) :=
  (need_keeps ..).bind fun _ => .get_bind fun _ _ => (Keeps.forM fun _ => fwSched_keeps ..).bind fun _ => (fwRead_keeps ..).bind fun _ => .pure _

@[simp] theorem fwTaskReload_keeps (cmds : List Instr) (q : Req) : Keeps cmds (fwTaskReload q) :=
  (need_keeps ..).bind fun _ => (need_keeps ..).bind fun _ => .get_bind fun _ _ => .get_bind fun _ _ => (need_keeps ..).bind fun _ =>
    (Keeps.forM fun _ => .get_bind fun _ _ => (fwLoad_keeps ..).bind fun _ => fwCell_keeps ..).bind fun _ =>
    (Keeps.forM fun _ => fwSched_keeps ..).bind fun _ => .pure _

@[simp] theorem fwEventBind_keeps (cmds : List Instr) (q : Req) : Keeps cmds (fwEventBind q) := by
  grind [fwEventBind, Keeps.get_bind, Keeps.pure, fwWrite_keeps, Keeps.bind, need_keeps]

/-! ## Firmware: ports, power, trunk (`Machine/FwPorts.lean`) -/

@[simp] theorem fwDiscoverSet_keeps (cmds : List Instr) (p : Nat) (chan : Option Nat) : Keeps cmds (fwDiscoverSet p chan) :=
  .get_bind fun _ _ => (fwWrite_keeps ..).bind fun _ =>
    (Keeps.forM fun _ => (freeWord_keeps ..).bind fun _ => (freeWord_keeps ..).bind fun _ => fwWrite_keeps ..).bind fun _ =>
    (freeWord_keeps ..).bind fun _ => (freeWord_keeps ..).bind fun _ => (fwWrite_keeps ..).bind fun _ => (fwWrite_keeps ..).bind fun _ =>
    (fwWrite_keeps ..).bind fun _ => (fwWrite_keeps ..).bind fun _ => .modify fun _ => by simp

@[simp] theorem State.discoverMeans_pending (s : State) (p : Nat) (d : Disc) : (s.discoverMeans p d).pending = s.pending := by
  simp [State.discoverMeans]

@[simp] theorem fwDiscoverCable_keeps (cmds : List Instr) (p c : Nat) (d : Disc) : Keeps cmds (fwDiscoverCable p c d) :=
  (freeWord_keeps ..).bind fun _ => (freeWord_keeps ..).bind fun _ => (fwWrite_keeps ..).bind fun _ => (fwWrite_keeps ..).bind fun _ =>
    (fwWrite_keeps ..).bind fun _ => (fwWrite_keeps ..).bind fun _ => .modify fun _ => by simp

@[simp] theorem fwPeak_keeps (cmds : List Instr) (buf : Nat) : Keeps cmds (fwPeak buf) := by
  grind [fwPeak, Keeps.foldlM, fwLoad_keeps, Keeps.bind, Keeps.pure]

@[simp] theorem fwCableBad_keeps (cmds : List Instr) (p c : Nat) (d : Disc) : Keeps cmds (fwCableBad p c d) := by
  grind [fwCableBad, Keeps.get_bind, freeWord_keeps, Keeps.bind, Keeps.pure, fwPeak_keeps]

@[simp] theorem fwDiscoverGo_keeps (cmds : List Instr) (p : Nat) (d : Disc) : Keeps cmds (fwDiscoverGo p d) := by
  refine .get_bind fun _ _ => .ite (.pure _) <| .bind ?_ fun _ => .get_bind fun _ _ => ?_
  · grind [Keeps.bind, Keeps.pure, Keeps.modify, State.discoverMeans_pending, State.updFw_pending, fwCableBad_keeps]
  · grind [Keeps.bind, Keeps.pure, Keeps.set, State.updFw_pending, fwDiscoverCable_keeps]

@[simp] theorem State.discoverRun_pending (s : State) (p : Nat) : (s.discoverRun p).pending = s.pending := by
  unfold State.discoverRun
  grind [Keeps.run_ok, Keeps.run_error, fwDiscoverGo_keeps, foldl_pending, State.fwLog_pending, State.updFw_pending]

@[simp] theorem fwPortDiscover_keeps (cmds : List Instr) (q : Req) : Keeps cmds (fwPortDiscover q) :=
  (need_keeps ..).bind fun _ => .get_bind fun _ _ => (need_keeps ..).bind fun _ => .get_bind fun _ _ => (need_keeps ..).bind fun _ =>
    .get_bind fun _ _ => .ite ((fwWrite_keeps ..).bind fun _ => .pure _) <| .get_bind fun _ _ => .guard (.throw _) <|
    (fwDiscoverSet_keeps ..).bind fun _ => goBg_keeps ..

@[simp] theorem fwPort_keeps (cmds : List Instr) (q : Req) (p : Nat) : Keeps cmds (fwPort q p) := by
  grind [fwPort, Keeps.get_bind, need_keeps, Keeps.bind]

@[simp] theorem fwTdrRun_keeps (cmds : List Instr) (q : Req) : Keeps cmds (fwTdrRun q) := by
  refine (need_keeps ..).bind fun _ => (need_keeps ..).bind fun _ => .get_bind fun _ _ => ?_
  split
  · exact fail_keeps ..
  · exact (need_keeps ..).bind fun _ => (need_keeps ..).bind fun _ => (need_keeps ..).bind fun _ => (fwWrite_keeps ..).bind fun _ =>
      (fwWrite_keeps ..).bind fun _ => (fwWrite_keeps ..).bind fun _ => (fwWrite_keeps ..).bind fun _ => (fwWrite_keeps ..).bind fun _ =>
      goBg_keeps ..

@[simp] theorem fwCalWrite_keeps (cmds : List Instr) (q : Req) : Keeps cmds (fwCalWrite q) := by
  grind [fwCalWrite, Keeps.get_bind, Keeps.pure, fwWrite_keeps, Keeps.bind, need_keeps]

@[simp] theorem fwSenseNoise_keeps (cmds : List Instr) (q : Req) : Keeps cmds (fwSenseNoise q) := by
  grind [fwSenseNoise, Keeps.get_bind, goBg_keeps, fwWrite_keeps, Keeps.bind, need_keeps]

@[simp] theorem fwDecSet_keeps (cmds : List Instr) (q : Req) : Keeps cmds (fwDecSet q) := by
  grind [fwDecSet, Keeps.get_bind, Keeps.pure, fwWrite_keeps, Keeps.bind, fwPort_keeps, need_keeps]

@[simp] theorem fwTilePower_keeps (cmds : List Instr) (q : Req) : Keeps cmds (fwTilePower q) := by
  refine (need_keeps ..).bind fun _ => .get_bind fun _ _ => (need_keeps ..).bind fun _ => ?_
  grind [Keeps.bind, Keeps.pure, Keeps.set, foldl_pending, State.setFld_pending, fwWrite_keeps, need_keeps]

@[simp] theorem fwBudgetSet_keeps (cmds : List Instr) (q : Req) : Keeps cmds (fwBudgetSet q) := by
  grind [fwBudgetSet, Keeps.get_bind, Keeps.pure, need_keeps, Keeps.bind, fwWrite_keeps]

@[simp] theorem fwTimeSet_keeps (cmds : List Instr) (q : Req) : Keeps cmds (fwTimeSet q) := by
  grind [fwTimeSet, Keeps.get_bind, Keeps.pure, fwWrite_keeps, Keeps.bind, need_keeps]

@[simp] theorem State.sendRemote_pending (s : State) (q : Req) (seq : Nat) : (s.sendRemote q seq).pending = s.pending := by simp [State.sendRemote]

@[simp] theorem fwRemote_keeps (cmds : List Instr) (q : Req) : Keeps cmds (fwRemote q) := by
  grind [fwRemote, freeWord_keeps, Keeps.bind, Keeps.modify, State.sendRemote_pending, goBg_keeps, need_keeps]

/-! ## Firmware: images, lifecycle, boot (`Machine/FwBoot.lean`) -/

@[simp] theorem fwImgList_keeps (cmds : List Instr) (q : Req) : Keeps cmds (fwImgList q) :=
  (need_keeps ..).bind fun _ => .get_bind fun _ _ => (Keeps.forM fun _ => .ite (.pure _) (fwLook_keeps ..)).bind fun _ => .pure _

@[simp] theorem fwSlot_keeps (cmds : List Instr) (q : Req) (change : Bool) : Keeps cmds (fwSlot q change) := by
  grind [fwSlot, Keeps.get_bind, need_keeps, Keeps.bind]

@[simp] theorem fwImgWrite_keeps (cmds : List Instr) (q : Req) : Keeps cmds (fwImgWrite q) := by
  grind [fwImgWrite, Keeps.get_bind, goBg_keeps, fwSlot_keeps, Keeps.bind, need_keeps]

@[simp] theorem State.setImg_pending (s : State) (k st : Nat) : (s.setImg k st).pending = s.pending := by simp [State.setImg]

@[simp] theorem fwImgDo_keeps (cmds : List Instr) (q : Req) : Keeps cmds (fwImgDo q) := by
  refine .get_bind fun _ hs => ?_
  grind [Keeps.bind, Keeps.pure, Keeps.set, State.setImg_pending, fwLook_keeps, need_keeps]

@[simp] theorem State.answerBy_pending (s : State) (q : Req) (f : FM (List Byte)) (h : ∀ cmds, Keeps cmds f) :
    (s.answerBy q f).pending = s.pending := by
  unfold State.answerBy
  grind [Keeps.run_ok, Keeps.run_error, State.answer_pending]

@[simp] theorem State.authFailed_pending (s : State) : s.authFailed.pending = s.pending := by simp [State.authFailed]

@[simp] theorem takeNonce_keeps (cmds : List Instr)  : Keeps cmds (takeNonce ) := by
  grind [takeNonce, Keeps.get_bind, Keeps.pure, State.updFw_pending, Keeps.set, Keeps.bind]

@[simp] theorem State.setLife_pending (s : State) (l : Nat) : (s.setLife l).pending = s.pending := by simp [State.setLife]

@[simp] theorem fwLifecycle_keeps (cmds : List Instr) (q : Req) : Keeps cmds (fwLifecycle q) := by
  have hend : Keeps cmds (do modify (fun t => State.setLife t (q.byte 0)); pure [] : FM (List Byte)) :=
    (Keeps.modify fun _ => by simp).bind fun _ => .pure _
  refine .get_bind fun _ _ => (need_keeps ..).bind fun _ => .guard (fail_keeps ..) ?_
  dsimp only
  split
  · exact (need_keeps ..).bind fun _ => hend
  · exact hend
  · refine (takeNonce_keeps ..).bind fun v => ?_
    cases v with
    | none => exact (fail_keeps ..).bind fun _ => hend
    | some v =>
      refine .get_bind fun t ht => .ite ((Keeps.set (by simp [ht])).bind fun _ => hend) ?_
      exact (Keeps.set (by simp [ht])).bind fun _ => (fail_keeps ..).bind fun _ => hend

@[simp] theorem fwOtpKey_keeps (cmds : List Instr) (q : Req) : Keeps cmds (fwOtpKey q) := by
  grind [fwOtpKey, Keeps.get_bind, Keeps.pure, fail_keeps, Keeps.bind, Keeps.set, need_keeps]

@[simp] theorem fwDbgChallenge_keeps (cmds : List Instr) (q : Req) : Keeps cmds (fwDbgChallenge q) :=
  (need_keeps ..).bind fun _ => .get_bind fun _ _ => (need_keeps ..).bind fun _ => (draw128_keeps ..).bind fun _ =>
    (Keeps.modify fun _ => by simp).bind fun _ => .pure _

@[simp] theorem fwDbgResponse_keeps (cmds : List Instr) (q : Req) : Keeps cmds (fwDbgResponse q) := by
  refine .get_bind fun _ _ => (need_keeps ..).bind fun _ => (need_keeps ..).bind fun _ => .guard (fail_keeps ..) <|
    (takeNonce_keeps ..).bind fun _ => ?_
  grind [Keeps.bind, Keeps.get_bind, Keeps.pure, Keeps.set, fail_keeps, State.updFw_pending, State.setAuth_pending, State.authFailed_pending]

@[simp] theorem State.setEngch_pending (s : State) (r : InstallRec) : (s.setEngch r).pending = s.pending := by simp [State.setEngch]

@[simp] theorem State.lockCretal_pending (s : State) (r : InstallRec) : (s.lockCretal r).pending = s.pending := by
  simp only [State.lockCretal]
  rw [foldl_pending]
  grind [State.regWrite_pending]

@[simp] theorem State.setDevice_pending (s : State) (d : DeviceRec) : (s.setDevice d).pending = s.pending := by simp [State.setDevice]

@[simp] theorem State.setXspi_pending (s : State) (b : BootInput) : (s.setXspi b).pending = s.pending := by simp [State.setXspi]

@[simp] theorem State.markSlots_pending (s : State) (boot : Option Nat) : (s.markSlots boot).pending = s.pending := by simp [State.markSlots]

@[simp] theorem State.crossTiles_pending (s : State) (bad : Nat → Bool) : (s.crossTiles bad).pending = s.pending := by simp [State.crossTiles]

@[simp] theorem State.onEvent_pending (s : State) (id : Nat) : (s.onEvent id).pending = s.pending := by
  grind [State.onEvent, State.cretalWrite_pending, fwDiscoverSet_keeps, Keeps.run_ok, State.fwLog_pending]

@[simp] theorem State.serveEvent_pending (s : State) (id : Nat) : (s.serveEvent id).pending = s.pending := by simp [State.serveEvent]

@[simp] theorem State.scanEvents_pending (s : State) : s.scanEvents.pending = s.pending := by simp [State.scanEvents]

@[simp] theorem State.linAnswer_pending (s : State) (b : Bg) (q : Req) : (s.linAnswer b q).pending = s.pending := by
  unfold State.linAnswer
  grind [State.linResult, State.linComplete_pending, State.answer_pending]

@[simp] theorem State.discoverAnswer_pending (s : State) (q : Req) : (s.discoverAnswer q).pending = s.pending := by
  grind [State.discoverAnswer, fwDiscoverGo_keeps, Keeps.run_ok, State.answer_pending, Keeps.run_error, State.updFw_pending]

@[simp] theorem State.recoverAnswer_pending (s : State) (b : Bg) (q : Req) : (s.recoverAnswer b q).pending = s.pending := by
  simp [State.recoverAnswer]

@[simp] theorem State.remoteAnswer_pending (s : State) (b : Bg) (q : Req) : (s.remoteAnswer b q).pending = s.pending := by simp [State.remoteAnswer]

/-! ## Long instructions (`Machine/Long.lean`) -/

@[simp] theorem longBody_keeps (cmds : List Instr) (fn : LongFn) (rd rs1 rs2 : Reg) (e : Nat) : Keeps cmds (longBody fn rd rs1 rs2 e) :=
  (ival_keeps ..).bind fun _ => (getReg_keeps ..).bind fun _ => .ite (fault_keeps ..) <| (getReg_keeps ..).bind fun _ =>
    .ite (fault_keeps ..) <| .ite ((Keeps.modify fun _ => by simp).bind fun _ => .pure _) <| .ite (fault_keeps ..) <|
    .ite (fault_keeps ..) <| (Keeps.modify fun _ => by simp).bind fun _ => .pure _

@[simp] theorem checkRanges_keeps (cmds : List Instr) (e k : Nat) (l : List Range) : Keeps cmds (checkRanges e k l) := by
  refine (Keeps.forM fun _ => capTests_keeps ..).bind fun _ => .get_bind fun _ _ => .get_bind fun _ _ =>
    (Keeps.mapM fun _ => translate_keeps ..).bind fun _ => (Keeps.forM fun _ => sysTest_keeps ..).bind fun _ => .get_bind fun _ _ =>
    (Keeps.forM fun _ => .guard (mpuE_keeps ..) <| .ite (mpuE_keeps ..) (.pure _)).bind fun _ =>
    (Keeps.forM fun _ => bpData_keeps ..).bind fun _ => (Keeps.forM fun _ => .get_bind fun _ _ => ?_).bind fun _ => .pure _
  grind [Keeps.get_bind, Keeps.pure, fault_keeps]

@[simp] theorem chunkRead_keeps (cmds : List Instr) (e pa k reg acc : Nat) : Keeps cmds (chunkRead e pa k reg acc) := by
  grind [chunkRead, Keeps.mapM, readMemVal_keeps]

@[simp] theorem chunkCell_keeps (cmds : List Instr) (m : MCell) (a reg acc : Nat) : Keeps cmds (chunkCell m a reg acc) := by
  grind [chunkCell, Keeps.pure, fault_keeps]

@[simp] theorem chunkBytes_keeps (cmds : List Instr) (ms : List MCell) (pa a k reg : Nat) : Keeps cmds (chunkBytes ms pa a k reg) := by
  grind [chunkBytes, Keeps.mapM, chunkCell_keeps, Keeps.bind, Keeps.pure, fault_keeps]

@[simp] theorem State.chunkWrite_pending (s : State) (e : Nat) (w : ChunkWrite) : (s.chunkWrite e w).pending = s.pending := by
  simp [State.chunkWrite]

@[simp] theorem copyCells_keeps (cmds : List Instr) (e : Nat) (l : LongOp) (s d : Nat) (sa da k : Nat) : Keeps cmds (copyCells e l s d sa da k) := by
  grind [copyCells, chunkRead_keeps, Keeps.bind, Keeps.mapM, Keeps.pure, chunkCell_keeps, fault_keeps, storeKind_keeps, test9_keeps]

@[simp] theorem copyBytes_keeps (cmds : List Instr) (e : Nat) (l : LongOp) (s d : Nat) (sa da k : Nat) : Keeps cmds (copyBytes e l s d sa da k) := by
  grind [copyBytes, chunkRead_keeps, Keeps.bind, Keeps.pure, chunkBytes_keeps, Keeps.mapM, readMemVal_keeps]

@[simp] theorem sweepCells_keeps (cmds : List Instr) (e : Nat) (l : LongOp) (d da k : Nat) : Keeps cmds (sweepCells e l d da k) := by
  grind [sweepCells, chunkRead_keeps, Keeps.bind, Keeps.pure, Keeps.mapM, chunkCell_keeps, linkOk_keeps]

@[simp] theorem macChunk_keeps (cmds : List Instr) (e : Nat) (f : MacFn) (w a : BitVec 2) (o : Nat) (xs ys : List Byte) :
    Keeps cmds (macChunk e f w a o xs ys) := by simp -implicitDefEqProofs [macChunk]

@[simp] theorem chunkRun_keeps (cmds : List Instr) (e : Nat) (l : LongOp) : Keeps cmds (chunkRun e l) := by
  unfold chunkRun
  dsimp only
  refine (checkRanges_keeps ..).bind fun _ => ?_
  cases l.fn <;> grind [Keeps.bind, Keeps.pure, Keeps.modify, foldl_pending, State.chunkWrite_pending, copyCells_keeps, copyBytes_keeps,
    sweepCells_keeps, chunkRead_keeps, chunkBytes_keeps, macChunk_keeps]

/-! ## The arithmetic stream (`Machine/Stream.lean`) -/

@[simp] theorem guardMask_keeps (cmds : List Instr) (e : Nat) (g : Grd) : Keeps cmds (guardMask e g) := by simp [guardMask]

@[simp] theorem lwrite_keeps (cmds : List Instr) (e : Nat) (g : Grd) (rd : Reg) (w n : Nat) (res : EM (List Nat)) (h : Keeps cmds res) :
    Keeps cmds (lwrite e g rd w n res) := by
  grind [lwrite, guardMask_keeps, Keeps.bind, Keeps.pure, putReg_keeps, ival128_keeps]

@[simp] theorem underGuard_keeps (cmds : List Instr) (e : Nat) (g : Grd) (n : Nat) (f : BitVec 16 → EM Unit) (h : ∀ b, Keeps cmds (f b)) :
    Keeps cmds (underGuard e g n f) := by
  grind [underGuard, guardMask_keeps, Keeps.bind, Keeps.pure]

@[simp] theorem lane2_keeps (cmds : List Instr) (f : BitVec 2 → Quad → Quad → List Nat) (g : Grd) (w : BitVec 2) (rd rs1 rs2 : Reg) (e : Nat) :
    Keeps cmds (lane2 f g w rd rs1 rs2 e) := by
  grind [lane2, lwrite_keeps, ival128_keeps, Keeps.bind, Keeps.pure]

@[simp] theorem lane1_keeps (cmds : List Instr) (f : BitVec 2 → Quad → List Nat) (g : Grd) (w : BitVec 2) (rd rs1 : Reg) (e : Nat) :
    Keeps cmds (lane1 f g w rd rs1 e) := by simp [lane1]

@[simp] theorem lpermBody_keeps (cmds : List Instr) (g : Grd) (rd rs1 rs2 : Reg) (e : Nat) : Keeps cmds (lpermBody g rd rs1 rs2 e) := by
  grind [lpermBody, lwrite_keeps, ival128_keeps, Keeps.bind, Keeps.pure]

@[simp] theorem lwidenBody_keeps (cmds : List Instr) (hi : Bool) (g : Grd) (w : BitVec 2) (rd rs1 : Reg) (e : Nat) :
    Keeps cmds (lwidenBody hi g w rd rs1 e) := by simp [lwidenBody]

@[simp] theorem linsBody_keeps (cmds : List Instr) (g : Grd) (w : BitVec 2) (rd rs1 k : Reg) (e : Nat) : Keeps cmds (linsBody g w rd rs1 k e) := by
  grind [linsBody, guardMask_keeps, Keeps.bind, Keeps.pure, ival_keeps, ival128_keeps, putReg_keeps]

@[simp] theorem scalarResult_keeps (cmds : List Instr) (g : Grd) (rd : Reg) (res : Nat → EM Dword) (e : Nat) (h : ∀ n, Keeps cmds (res n)) :
    Keeps cmds (scalarResult g rd res e) := by
  grind [scalarResult, guardMask_keeps, Keeps.bind, Keeps.pure, wint_keeps]

@[simp] theorem lextVal_keeps (cmds : List Instr) (sx : Bool) (w : BitVec 2) (rs1 k : Reg) (e : Nat) : Keeps cmds (lextVal sx w rs1 k e) := by
  simp [lextVal]

@[simp] theorem writePred_keeps (cmds : List Instr) (e : Nat) (pd : Grd) (n : Nat) (f : Nat → Bool) (m : BitVec 16) :
    Keeps cmds (writePred e pd n f m) := by simp -implicitDefEqProofs [writePred]

@[simp] theorem pcmpBody_keeps (cmds : List Instr) (f : PcmpFn) (g : Grd) (w : BitVec 2) (pd : Grd) (rs1 rs2 : Reg) (e : Nat) :
    Keeps cmds (pcmpBody f g w pd rs1 rs2 e) := by
  grind [pcmpBody, underGuard_keeps, ival128_keeps, Keeps.bind, writePred_keeps]

@[simp] theorem predBody_keeps (cmds : List Instr) (f : Bool → Bool → Bool) (g pd ps1 ps2 : Grd) (e : Nat) :
    Keeps cmds (predBody f g pd ps1 ps2 e) := by
  grind [predBody, underGuard_keeps, Keeps.get_bind, writePred_keeps]

@[simp] theorem predFrom_keeps (cmds : List Instr) (f : Dword → Nat → Bool) (g pd : Grd) (rs1 : Reg) (e : Nat) :
    Keeps cmds (predFrom f g pd rs1 e) := by
  grind [predFrom, underGuard_keeps, ival_keeps, Keeps.bind, writePred_keeps]

@[simp] theorem pgetVal_keeps (cmds : List Instr) (ps1 : Grd) (e : Nat) : Keeps cmds (pgetVal ps1 e) := by simp [pgetVal]

@[simp] theorem updAcc_keeps (cmds : List Instr) (e : Nat) (a : BitVec 2) (f : Accum → Accum) : Keeps cmds (updAcc e a f) := by
  simp -implicitDefEqProofs [updAcc]

@[simp] theorem lmacBody_keeps (cmds : List Instr) (f : MacFn) (g : Grd) (w ad : BitVec 2) (rs1 rs2 : Reg) (e : Nat) :
    Keeps cmds (lmacBody f g w ad rs1 rs2 e) := by
  grind [lmacBody, underGuard_keeps, ival128_keeps, Keeps.bind, updAcc_keeps]

@[simp] theorem azeroBody_keeps (cmds : List Instr) (g : Grd) (ad : BitVec 2) (e : Nat) : Keeps cmds (azeroBody g ad e) := by simp [azeroBody]

@[simp] theorem asetBody_keeps (cmds : List Instr) (lo : Nat) (g : Grd) (ad : BitVec 2) (rs1 : Reg) (e : Nat) :
    Keeps cmds (asetBody lo g ad rs1 e) := by
  grind [asetBody, guardMask_keeps, Keeps.bind, Keeps.pure, ival128_keeps, updAcc_keeps]

@[simp] theorem agetBody_keeps (cmds : List Instr) (lo : Nat) (g : Grd) (rd : Reg) (src : BitVec 2) (e : Nat) :
    Keeps cmds (agetBody lo g rd src e) := by simp [agetBody]

@[simp] theorem anarrowBody_keeps (cmds : List Instr) (g : Grd) (w : BitVec 2) (rd : Reg) (src : BitVec 2) (rs2 : Reg) (e : Nat) :
    Keeps cmds (anarrowBody g w rd src rs2 e) := by
  grind [anarrowBody, lwrite_keeps, ival_keeps, Keeps.bind, Keeps.get_bind, Keeps.pure]

@[simp] theorem areduceBody_keeps (cmds : List Instr) (g : Grd) (rd : Reg) (src : BitVec 2) (e : Nat) : Keeps cmds (areduceBody g rd src e) := by
  grind [areduceBody, underGuard_keeps, Keeps.get_bind, wint_keeps, updAcc_keeps, Keeps.bind]

@[simp] theorem asatVal_keeps (cmds : List Instr) (src : BitVec 2) (e : Nat) : Keeps cmds (asatVal src e) := by
  grind [asatVal, Keeps.get_bind, Keeps.pure, updAcc_keeps, Keeps.bind]

@[simp] theorem amoveBody_keeps (cmds : List Instr) (g : Grd) (ad src : BitVec 2) (e : Nat) : Keeps cmds (amoveBody g ad src e) := by
  grind [amoveBody, underGuard_keeps, Keeps.get_bind, updAcc_keeps]

end Sys2Proof.Machine
end

section
/-!
# Every command answers a next state, with the queue as it was

The commands whose effect is a plain next state follow from the frame of the queue by `simp`; those whose effect is a choice have a lemma each.
-/

namespace Sys2Proof.Machine

open Sys2Proof

/-- A command's effect is a next state with the queue as it was. -/
def NextKeeping (s : State) (o : Host.Outcome State Fault Refusal) : Prop := ∃ t, o = .next t ∧ t.pending = s.pending

theorem NextKeeping.next {s t : State} (h : t.pending = s.pending) : NextKeeping s (.next t) := ⟨t, rfl, h⟩

@[simp] theorem nextKeeping_next (s t : State) : NextKeeping s (.next t) ↔ t.pending = s.pending := by simp [NextKeeping]

theorem State.portWrite_eq_pending {s t : State} {p pa src c : Nat} {data : List Byte} (h : s.portWrite p pa data src = (c, t)) :
    t.pending = s.pending := by
  rw [← State.portWrite_pending s p pa data src, h]

/-- A run of Cretal's scan keeps the queue. (The scan is named by `h`: the kernel would evaluate it to compare its queue.) -/
theorem State.cretalRun_scan_pending (s : State) {f : State → State} (h : ∀ t, f t = (List.range 8).foldl State.discoverRun t.scanEvents) :
    (s.cretalRun f).pending = s.pending :=
  State.cretalRun_pending _ _ fun t => by rw [h, foldl_pending _ fun _ _ => State.discoverRun_pending .., State.scanEvents_pending]

theorem execSignatureCompare_nextKeeping (p : BitVec 9) (s : State) : NextKeeping s (execSignatureCompare p s) := by
  unfold execSignatureCompare
  grind [nextKeeping_next, State.compareSigs_pending]

theorem execSignatureTimeout_nextKeeping (p : BitVec 9) (s : State) : NextKeeping s (execSignatureTimeout p s) := by
  unfold execSignatureTimeout
  grind [nextKeeping_next, State.diverge_pending]

theorem execGatedActTimeout_nextKeeping (p : BitVec 9) (s : State) : NextKeeping s (execGatedActTimeout p s) := by
  unfold execGatedActTimeout
  (repeat' split) <;> simp

theorem execCaliperSelfTest_nextKeeping (pass : Bool) (s : State) : NextKeeping s (execCaliperSelfTest pass s) := by
  unfold execCaliperSelfTest
  (repeat' split) <;> simp

theorem execMonitorSelfTest_nextKeeping (clockPass supplyPass : Bool) (s : State) : NextKeeping s (execMonitorSelfTest clockPass supplyPass s) := by
  unfold execMonitorSelfTest
  (repeat' split) <;> simp

theorem execTileWakeStart_nextKeeping (t : BitVec 5) (s : State) : NextKeeping s (execTileWakeStart t s) := by
  unfold execTileWakeStart
  grind [nextKeeping_next, State.raise_pending, State.updPw_pending, State.refreshClk_pending, State.setFld_pending]

theorem execTileWakeComplete_nextKeeping (t : BitVec 5) (s : State) : NextKeeping s (execTileWakeComplete t s) := by
  unfold execTileWakeComplete
  grind [nextKeeping_next, State.deferredResets_pending, State.restartWindow_pending, State.setFld_pending, State.updPw_pending]

theorem execThermalReading_nextKeeping (temps : List Int) (s : State) : NextKeeping s (execThermalReading temps s) := by
  simp -implicitDefEqProofs [execThermalReading]

theorem execThermalLimitStep_nextKeeping (s : State) : NextKeeping s (execThermalLimitStep s) := by
  unfold execThermalLimitStep
  simp only
  split <;> refine .next ?_ <;> simp -implicitDefEqProofs

theorem execLinBroadcastTimeout_nextKeeping (s : State) : NextKeeping s (execLinBroadcastTimeout s) := by
  unfold execLinBroadcastTimeout
  simp only
  split <;> refine .next ?_ <;> simp -implicitDefEqProofs

theorem execLineageFilterFill_nextKeeping (e : Eid) (s : State) : NextKeeping s (execLineageFilterFill e s) := by
  unfold execLineageFilterFill
  (repeat' split) <;> simp

theorem execPortDmaBurst_nextKeeping (p : BitVec 3) (s : State) : NextKeeping s (execPortDmaBurst p s) := by
  unfold execPortDmaBurst
  simp only
  split
  · simp
  split
  · simp
  split
  case h_1 h =>
    have ht := State.portWrite_eq_pending h
    split
    · simp [ht]
    split
    case h_1 h2 => split <;> simp [ht, State.portWrite_eq_pending h2]
    case h_2 h2 => simp [ht, State.portWrite_eq_pending h2]
  case h_2 h => simp [State.portWrite_eq_pending h]

theorem execTdrNoconfTimeout_nextKeeping (p : BitVec 3) (s : State) : NextKeeping s (execTdrNoconfTimeout p s) := by
  unfold execTdrNoconfTimeout
  (repeat' split) <;> simp

theorem execTdrProbe_nextKeeping (p : BitVec 3) (samples : List Int) (s : State) : NextKeeping s (execTdrProbe p samples s) := by
  unfold execTdrProbe
  (repeat' split) <;> simp

theorem execTdrResultWrite_nextKeeping (p : BitVec 3) (s : State) : NextKeeping s (execTdrResultWrite p s) := by
  unfold execTdrResultWrite
  extract_lets n
  split
  · simp
  split
  · simp
  extract_lets vals s0 data pa a1 fin
  have h0 : s0.pending = s.pending := by simp [s0]
  have hfin : ∀ t, (fin t).pending = t.pending := fun t => by simp [fin]
  split
  case h_1 h =>
    have ht := (State.portWrite_eq_pending h).trans h0
    split
    · split
      · simp [ht]
      split
      case h_1 h2 => simp [hfin, ht, State.portWrite_eq_pending h2]
      case h_2 h2 => simp [ht, State.portWrite_eq_pending h2]
    · simp [hfin, ht]
  case h_2 h => simp [h0, State.portWrite_eq_pending h]

theorem execSenseConversion_nextKeeping (code : Int) (s : State) : NextKeeping s (execSenseConversion code s) := by
  unfold execSenseConversion
  (repeat' split) <;> simp

theorem execNoiseMeasurementComplete_nextKeeping (r : NoiseReading) (s : State) : NextKeeping s (execNoiseMeasurementComplete r s) := by
  unfold execNoiseMeasurementComplete
  grind [nextKeeping_next, State.senseRun_pending, State.raise_pending, State.setFld_pending, State.setReg_pending]

theorem execPartnerFrameReceive_nextKeeping (p : BitVec 3) (f : PFrame) (s : State) : NextKeeping s (execPartnerFrameReceive p f s) := by
  unfold execPartnerFrameReceive
  grind [nextKeeping_next, State.linkLoss_pending, State.decimateFrame_pending, State.updPort_pending, State.takeSeg_pending, State.setFld_pending]

theorem execCmdRetransmit_nextKeeping (p : BitVec 3) (s : State) : NextKeeping s (execCmdRetransmit p s) := by
  unfold execCmdRetransmit
  grind [nextKeeping_next, State.portEvent_pending, State.updPort_pending]

theorem execPartnerFrameTransmit_nextKeeping (p : BitVec 3) (s : State) : NextKeeping s (execPartnerFrameTransmit p s) := by
  unfold execPartnerFrameTransmit
  grind [nextKeeping_next, State.updPort_pending, State.nextSeg_pending]

theorem execTrunkLinkUp_nextKeeping (trk1 : Bool) (s : State) : NextKeeping s (execTrunkLinkUp trk1 s) := by
  unfold execTrunkLinkUp
  (repeat' split) <;> simp

theorem execTrunkLinkDown_nextKeeping (trk1 : Bool) (s : State) : NextKeeping s (execTrunkLinkDown trk1 s) := by
  unfold execTrunkLinkDown
  (repeat' split) <;> simp

theorem execEnumReceive_nextKeeping (trk1 : Bool) (f : TFrame) (s : State) : NextKeeping s (execEnumReceive trk1 f s) := by
  unfold execEnumReceive
  grind [nextKeeping_next, State.setFld_pending, State.raise_pending, State.receive_pending, State.takeEnum_pending]

theorem execSyncSend_nextKeeping (s : State) : NextKeeping s (execSyncSend s) := by
  unfold execSyncSend
  (repeat' split) <;> simp

theorem execDreqReceive_nextKeeping (trk1 : Bool) (f : TFrame) (s : State) : NextKeeping s (execDreqReceive trk1 f s) := by
  unfold execDreqReceive
  (repeat' split) <;> simp

theorem execDrspReceive_nextKeeping (trk1 : Bool) (f : TFrame) (s : State) : NextKeeping s (execDrspReceive trk1 f s) := by
  unfold execDrspReceive
  (repeat' split) <;> simp

theorem execBudgetShareTimeout_nextKeeping (s : State) : NextKeeping s (execBudgetShareTimeout s) := by
  unfold execBudgetShareTimeout
  (repeat' split) <;> simp

theorem execEthTransmitComplete_nextKeeping (eth1 : Bool) (s : State) : NextKeeping s (execEthTransmitComplete eth1 s) := by
  unfold execEthTransmitComplete
  (repeat' split) <;> simp

theorem execEthFrameReceive_nextKeeping (eth1 : Bool) (wire : List Byte) (s : State) : NextKeeping s (execEthFrameReceive eth1 wire s) := by
  unfold execEthFrameReceive
  grind [nextKeeping_next, State.ethDrop_pending, State.raise_pending, State.now_pending, State.setFld_pending, State.macWrite_pending]

theorem execEthLinkChange_nextKeeping (eth1 : Bool) (up : Bool) (speed : BitVec 2) (s : State) : NextKeeping s (execEthLinkChange eth1 up speed s) := by
  unfold execEthLinkChange
  grind [nextKeeping_next, State.setFld_pending, State.raise_pending]

theorem execTaskSwitch_nextKeeping (e : Eid) (s : State) : NextKeeping s (execTaskSwitch e s) := by
  unfold execTaskSwitch
  extract_lets n s0 epc slotOf fail
  split
  · simp
  split
  · simp
  extract_lets ch victim spilled
  have h0 : s0.pending = s.pending := by simp [s0]
  have hspill : spilled.2.pending = s.pending ∧ ∀ t, spilled.1 = some t → t.pending = s.pending := by
    unfold spilled
    clear_value victim
    split
    · simp [h0]
    split
    case h_1 h => simp [Keeps.run_error h (spill_keeps ..), h0]
    case h_2 h => simp [Keeps.run_ok h (spill_keeps ..), h0]
  have hfail : ∀ u a b, (fail u a b).pending = u.pending := fun u a b => by simp [fail]
  clear_value spilled
  obtain ⟨_ | t, u⟩ := spilled
  · have hu : u.pending = s.pending := hspill.1
    simp [hfail, hu]
  · have ht : t.pending = s.pending := hspill.2 t rfl
    dsimp only
    split
    · simp [ht]
    split
    case h_1 h => simp [hfail, Keeps.run_error h (fillCellsOf_keeps ..), ht]
    case h_2 h => simp [Keeps.run_ok h (fillCellsOf_keeps ..), ht]

theorem execEventEntry_nextKeeping (e : Eid) (s : State) : NextKeeping s (execEventEntry e s) := by
  unfold execEventEntry
  grind [nextKeeping_next, State.runDecision_pending, State.enterEvent_pending]

theorem execEventDelivery_nextKeeping (id : BitVec 11) (s : State) : NextKeeping s (execEventDelivery id s) := by
  unfold execEventDelivery
  grind [nextKeeping_next, State.toCretal_pending, State.misroute_pending, State.deliver_pending]

theorem execSchedCommandComplete_nextKeeping (e : Eid) (s : State) : NextKeeping s (execSchedCommandComplete e s) := by
  unfold execSchedCommandComplete
  (repeat' split) <;> simp

theorem execEngineHalt_nextKeeping (e : Eid) (s : State) : NextKeeping s (execEngineHalt e s) := by
  unfold execEngineHalt
  grind [nextKeeping_next, State.haltEngine_pending, State.stopLong_pending]

theorem execCoupledHalt_nextKeeping (p : BitVec 9) (s : State) : NextKeeping s (execCoupledHalt p s) := by
  unfold execCoupledHalt
  grind [nextKeeping_next, State.haltEngine_pending, State.stopLong_pending]

theorem execCeWriteBack_nextKeeping (a : PKey) (s : State) : NextKeeping s (execCeWriteBack a s) := by
  unfold execCeWriteBack
  (repeat' split) <;> simp

theorem execApplyComplete_nextKeeping (c : BitVec 7) (s : State) : NextKeeping s (execApplyComplete c s) := by
  unfold execApplyComplete
  grind [nextKeeping_next, State.raise_pending, State.poisonRange_pending, State.setFld_pending]

theorem execDramTrainingComplete_nextKeeping (chB : Bool) (ok : Bool) (s : State) : NextKeeping s (execDramTrainingComplete chB ok s) := by
  unfold execDramTrainingComplete
  (repeat' split) <;> simp

theorem execDqsRetrain_nextKeeping (chB : Bool) (ok : Bool) (s : State) : NextKeeping s (execDqsRetrain chB ok s) := by
  unfold execDqsRetrain
  (repeat' split) <;> simp

theorem execScrubPassStart_nextKeeping (u : ScrubUnit) (s : State) : NextKeeping s (execScrubPassStart u s) := by
  unfold execScrubPassStart
  grind [nextKeeping_next, State.react_pending, State.raise_pending, State.setFld_pending]

theorem execScrubCellRead_nextKeeping (u : ScrubUnit) (s : State) : NextKeeping s (execScrubCellRead u s) := by
  unfold execScrubCellRead
  grind [nextKeeping_next, State.readCell_pending, State.scrubLin_pending, State.raise_pending, State.setFld_pending]

theorem execScrbFillComplete_nextKeeping (k : BitVec 1) (s : State) : NextKeeping s (execScrbFillComplete k s) := by
  unfold execScrbFillComplete
  grind [nextKeeping_next, State.raise_pending, State.setFld_pending]

theorem execSmBurst_nextKeeping (t : BitVec 5) (s : State) : NextKeeping s (execSmBurst t s) := by
  unfold execSmBurst
  grind [nextKeeping_next, State.smCopy_pending, State.smFetch_pending]

theorem execRegisterWrite_nextKeeping (m : Master) (a : Dword) (data : Word) (s : State) : NextKeeping s (execRegisterWrite m a data s) := by
  unfold execRegisterWrite
  (repeat' split) <;> simp

theorem execL1dLineFill_nextKeeping (e : Eid) (u : List (BitVec 176)) (s : State) : NextKeeping s (execL1dLineFill e u s) := by
  unfold execL1dLineFill
  extract_lets n
  split
  · simp
  · extract_lets key line s0 t sb cells u jp body
    have h0 : s0.pending = s.pending := by simp [s0]
    have ht : t.2.pending = s.pending := by simp [t, h0]
    have hu : u.pending = s.pending := by
      unfold u
      split
      · simp [ht]
      · exact ht
    have hbody : Keeps u.pending body := by
      unfold body
      have hjp : ∀ m, Keeps u.pending (jp m) := fun m =>
        (loadValue_keeps ..).bind fun v => by
          dsimp only
          split
          · exact (putReg_keeps ..).bind fun _ => (putReg_keeps ..).bind fun _ => .pure _
          · exact (putReg_keeps ..).bind fun _ => .pure _
      split
      · exact (Keeps.pure _).bind hjp
      · exact (ume_keeps ..).bind hjp
    split
    case h_1 h => exact .next (by simp [Keeps.run_error h hbody, hu])
    case h_2 h => exact .next (by simp [Keeps.run_ok h hbody, hu])

theorem execStoreBufferWrite_nextKeeping (e : Eid) (s : State) : NextKeeping s (execStoreBufferWrite e s) := by
  unfold execStoreBufferWrite
  (repeat' split) <;> simp

theorem execImpreciseUmeEntry_nextKeeping (e : Eid) (s : State) : NextKeeping s (execImpreciseUmeEntry e s) := by
  unfold execImpreciseUmeEntry
  grind [nextKeeping_next, State.enterK_pending, State.updEngine_pending, State.stopLong_pending]

theorem execUnpairedActForward_nextKeeping (e : Eid) (s : State) : NextKeeping s (execUnpairedActForward e s) := by
  unfold execUnpairedActForward
  (repeat' split) <;> simp

theorem execBcastInvalidateAck_nextKeeping (e : Eid) (s : State) : NextKeeping s (execBcastInvalidateAck e s) := by
  unfold execBcastInvalidateAck
  grind [nextKeeping_next, State.bcastSettle_pending, State.bcastInv_pending]

theorem execTableWalk_nextKeeping (e : Eid) (s : State) : NextKeeping s (execTableWalk e s) := by
  unfold execTableWalk
  grind [nextKeeping_next, State.walkServe_pending, State.endWalk_pending]

theorem execTlbEntryExpire_nextKeeping (e : Eid) (walkCache : Bool) (idx : BitVec 6) (s : State) : NextKeeping s (execTlbEntryExpire e walkCache idx s) := by
  unfold execTlbEntryExpire
  (repeat' split) <;> simp

theorem execWrongPathFetch_nextKeeping (e : Eid) (a : VAddr) (s : State) : NextKeeping s (execWrongPathFetch e a s) := by
  unfold execWrongPathFetch
  grind [nextKeeping_next, State.updEngine_pending, State.perf_pending]

theorem execIllegalInstruction_nextKeeping (e : Eid) (w : Word) (s : State) : NextKeeping s (execIllegalInstruction e w s) := by
  unfold execIllegalInstruction
  split
  · simp
  · exact .next (by simp)

theorem execDbgaccComplete_nextKeeping (s : State) : NextKeeping s (execDbgaccComplete s) := by
  unfold execDbgaccComplete
  (repeat' split) <;> simp

theorem execPortStatus_nextKeeping (n : BitVec 5) (s : State) : NextKeeping s (execPortStatus n s) :=
  .next (State.serve_pending _ _ _ _ fun _ _ => (fwPort_keeps ..).bind fun _ => fwReads_keeps ..)

theorem execPortRestart_nextKeeping (n : BitVec 5) (s : State) : NextKeeping s (execPortRestart n s) :=
  .next (State.serve_pending _ _ _ _ fun _ _ => (fwPort_keeps ..).bind fun _ => (fwRead_keeps ..).bind fun _ =>
    (fwWrite_keeps ..).bind fun _ => .pure _)

theorem execPowerStatus_nextKeeping (n : BitVec 5) (s : State) : NextKeeping s (execPowerStatus n s) :=
  .next (State.serve_pending _ _ _ _ fun _ _ => (fwRead_keeps ..).bind fun _ => (fwRead_keeps ..).bind fun _ =>
    Keeps.get.bind fun _ => .pure _)

theorem execTrunkStatus_nextKeeping (n : BitVec 5) (s : State) : NextKeeping s (execTrunkStatus n s) :=
  .next (State.serve_pending _ _ _ _ fun _ _ => (fwReads_keeps ..).bind fun _ => (fwRead_keeps ..).bind fun _ => .pure _)

theorem execRemoteRetry_nextKeeping (n : BitVec 5) (s : State) : NextKeeping s (execRemoteRetry n s) := by
  unfold execRemoteRetry
  (repeat' split) <;> simp

theorem execImgCommit_nextKeeping (n : BitVec 5) (s : State) : NextKeeping s (execImgCommit n s) :=
  .next (State.serve_pending _ _ _ _ fun _ _ => (fwSlot_keeps ..).bind fun _ => goBg_keeps ..)

theorem execImgErase_nextKeeping (n : BitVec 5) (s : State) : NextKeeping s (execImgErase n s) :=
  .next (State.serve_pending _ _ _ _ fun _ _ => (fwSlot_keeps ..).bind fun _ => goBg_keeps ..)

theorem execDbgClose_nextKeeping (n : BitVec 5) (s : State) : NextKeeping s (execDbgClose n s) :=
  .next (State.serve_pending _ _ _ _ fun _ _ => Keeps.get.bind fun _ => (need_keeps ..).bind fun _ =>
    (Keeps.modify fun _ => by simp).bind fun _ => .pure _)

theorem execRomBoot_nextKeeping (b : BootInput) (s : State) : NextKeeping s (execRomBoot b s) := by
  unfold execRomBoot
  simp only
  (repeat' split) <;> simp -implicitDefEqProofs

theorem execChannelCrossCheck_nextKeeping (failed : List Nat) (s : State) : NextKeeping s (execChannelCrossCheck failed s) := by
  unfold execChannelCrossCheck
  split
  · simp
  · extract_lets tests s0 bad assigned trained c ok s2 f1 f2 filled s1
    have hc : c.pending = s.pending := by simp [c, s0]
    have h2 : s2.pending = s.pending := by simp [s2, hc]
    have hfilled : filled.pending = s.pending := by simp [filled, f1, h2]
    have h1 : s1.pending = s.pending := by simp [s1, hfilled]
    refine .next ?_
    rw [ite_pending, State.cretalWrite_pending, ite_self, h1]

theorem execCretalPeriodicScan_nextKeeping (s : State) : NextKeeping s (execCretalPeriodicScan s) := by
  unfold execCretalPeriodicScan
  split
  · simp
  · exact .next (State.cretalRun_scan_pending s fun _ => rfl)

theorem execBackgroundCommandComplete_nextKeeping (n : BitVec 5) (s : State) : NextKeeping s (execBackgroundCommandComplete n s) := by
  unfold execBackgroundCommandComplete
  (repeat' split) <;> simp

theorem execLongChunk_nextKeeping (e : Eid) (s : State) : NextKeeping s (execLongChunk e s) := by
  unfold execLongChunk
  simp only
  grind [nextKeeping_next, Keeps.run_ok, Keeps.run_error, chunkRun_keeps, State.takeAbort_pending, State.stopLong_pending, State.updEngine_pending, State.haltEngine_pending, State.updChuck_pending, State.retire_pending]

/-- The effect of a command: a next state, the queue untouched. -/
theorem exec_nextKeeping (i : Instr) (s : State) : NextKeeping s (exec i s) := by
  cases i
  case longChunk => exact execLongChunk_nextKeeping ..
  case l1dLineFill => exact execL1dLineFill_nextKeeping ..
  case storeBufferWrite => exact execStoreBufferWrite_nextKeeping ..
  case impreciseUmeEntry => exact execImpreciseUmeEntry_nextKeeping ..
  case wrongPathFetch => exact execWrongPathFetch_nextKeeping ..
  case lineageFilterFill => exact execLineageFilterFill_nextKeeping ..
  case tableWalk => exact execTableWalk_nextKeeping ..
  case tlbEntryExpire => exact execTlbEntryExpire_nextKeeping ..
  case bcastInvalidateAck => exact execBcastInvalidateAck_nextKeeping ..
  case eventDelivery => exact execEventDelivery_nextKeeping ..
  case eventEntry => exact execEventEntry_nextKeeping ..
  case taskSwitch => exact execTaskSwitch_nextKeeping ..
  case schedCommandComplete => exact execSchedCommandComplete_nextKeeping ..
  case linBroadcastTimeout => exact execLinBroadcastTimeout_nextKeeping ..
  case ceWriteBack => exact execCeWriteBack_nextKeeping ..
  case applyComplete => exact execApplyComplete_nextKeeping ..
  case dramTrainingComplete => exact execDramTrainingComplete_nextKeeping ..
  case dqsRetrain => exact execDqsRetrain_nextKeeping ..
  case scrubPassStart => exact execScrubPassStart_nextKeeping ..
  case scrubCellRead => exact execScrubCellRead_nextKeeping ..
  case scrbFillComplete => exact execScrbFillComplete_nextKeeping ..
  case smBurst => exact execSmBurst_nextKeeping ..
  case signatureCompare => exact execSignatureCompare_nextKeeping ..
  case signatureTimeout => exact execSignatureTimeout_nextKeeping ..
  case gatedActTimeout => exact execGatedActTimeout_nextKeeping ..
  case unpairedActForward => exact execUnpairedActForward_nextKeeping ..
  case caliperSelfTest => exact execCaliperSelfTest_nextKeeping ..
  case monitorSelfTest => exact execMonitorSelfTest_nextKeeping ..
  case partnerFrameTransmit => exact execPartnerFrameTransmit_nextKeeping ..
  case partnerFrameReceive => exact execPartnerFrameReceive_nextKeeping ..
  case cmdRetransmit => exact execCmdRetransmit_nextKeeping ..
  case portDmaBurst => exact execPortDmaBurst_nextKeeping ..
  case tdrNoconfTimeout => exact execTdrNoconfTimeout_nextKeeping ..
  case tdrProbe => exact execTdrProbe_nextKeeping ..
  case tdrResultWrite => exact execTdrResultWrite_nextKeeping ..
  case senseConversion => exact execSenseConversion_nextKeeping ..
  case noiseMeasurementComplete => exact execNoiseMeasurementComplete_nextKeeping ..
  case enumReceive => exact execEnumReceive_nextKeeping ..
  case syncSend => exact execSyncSend_nextKeeping ..
  case dreqReceive => exact execDreqReceive_nextKeeping ..
  case drspReceive => exact execDrspReceive_nextKeeping ..
  case budgetShareTimeout => exact execBudgetShareTimeout_nextKeeping ..
  case trunkLinkDown => exact execTrunkLinkDown_nextKeeping ..
  case ethTransmitComplete => exact execEthTransmitComplete_nextKeeping ..
  case ethFrameReceive => exact execEthFrameReceive_nextKeeping ..
  case ethLinkChange => exact execEthLinkChange_nextKeeping ..
  case cretalPeriodicScan => exact execCretalPeriodicScan_nextKeeping ..
  case imgCommit => exact execImgCommit_nextKeeping ..
  case imgErase => exact execImgErase_nextKeeping ..
  case portStatus => exact execPortStatus_nextKeeping ..
  case portRestart => exact execPortRestart_nextKeeping ..
  case powerStatus => exact execPowerStatus_nextKeeping ..
  case trunkStatus => exact execTrunkStatus_nextKeeping ..
  case remoteRetry => exact execRemoteRetry_nextKeeping ..
  case dbgClose => exact execDbgClose_nextKeeping ..
  case backgroundCommandComplete => exact execBackgroundCommandComplete_nextKeeping ..
  case tileWakeStart => exact execTileWakeStart_nextKeeping ..
  case tileWakeComplete => exact execTileWakeComplete_nextKeeping ..
  case thermalReading => exact execThermalReading_nextKeeping ..
  case thermalLimitStep => exact execThermalLimitStep_nextKeeping ..
  case channelCrossCheck => exact execChannelCrossCheck_nextKeeping ..
  case dbgaccComplete => exact execDbgaccComplete_nextKeeping ..
  case engineHalt => exact execEngineHalt_nextKeeping ..
  case coupledHalt => exact execCoupledHalt_nextKeeping ..
  case registerWrite => exact execRegisterWrite_nextKeeping ..
  case illegalInstruction => exact execIllegalInstruction_nextKeeping ..
  case trunkLinkUp => exact execTrunkLinkUp_nextKeeping ..
  case romBoot => exact execRomBoot_nextKeeping ..
  all_goals exact .next (by simp)

/-- Settles O2: `exec_nextKeeping`, command by command. -/
theorem everyCommandAnswers : Obligations.EveryCommandAnswers := by
  unfold Obligations.EveryCommandAnswers
  refine ⟨fun i s => ?_, fun i s t h => ?_⟩
  · obtain ⟨t, ht, -⟩ := exec_nextKeeping i s
    exact ⟨t, ht⟩
  · obtain ⟨u, hu, hp⟩ := exec_nextKeeping i s
    obtain rfl : u = t := by simpa [hu] using h
    exact hp

end Sys2Proof.Machine
end

section
/-!
# Writes to device registers, field by field (00_scope, R13 to R19)

A field's bits after a write depend on its own bits alone, as the fields of a register lie apart: `Fld.after` gives them and `Fld.offends`
says whether the write is an offence.
-/

namespace Sys2Proof.Machine

open Sys2Proof

/-! ## Bits of a word -/

theorem testBit_bits {n : Nat} (x : BitVec n) (hi lo i : Nat) : (bits x hi lo).testBit i = (decide (i < hi + 1 - lo) && x.getLsbD (lo + i)) := by
  simp [bits, Nat.testBit_mod_two_pow, Nat.testBit_shiftRight, BitVec.testBit_toNat]

theorem bits_lt {n : Nat} (x : BitVec n) (hi lo : Nat) : bits x hi lo < 2 ^ (hi + 1 - lo) := Nat.mod_lt _ (Nat.two_pow_pos _)

/-- Above and below the bits it replaces, `setBits` leaves the quotient and the remainder. -/
theorem toNat_sub_bits_add {n : Nat} (x : BitVec n) (hi lo v : Nat) :
    x.toNat - bits x hi lo * 2 ^ lo + v * 2 ^ lo =
      2 ^ lo * (2 ^ (hi + 1 - lo) * (x.toNat >>> lo >>> (hi + 1 - lo)) + v) + x.toNat % 2 ^ lo := by
  have h1 := Nat.div_add_mod x.toNat (2 ^ lo)
  have h2 := Nat.div_add_mod (x.toNat / 2 ^ lo) (2 ^ (hi + 1 - lo))
  simp only [bits, Nat.shiftRight_eq_div_pow]
  generalize x.toNat / 2 ^ lo % 2 ^ (hi + 1 - lo) = m at h2 ⊢
  generalize 2 ^ (hi + 1 - lo) * (x.toNat / 2 ^ lo / 2 ^ (hi + 1 - lo)) = q at h2 ⊢
  have h3 : 2 ^ lo * (q + m) = 2 ^ lo * q + m * 2 ^ lo := by ring
  have h4 : 2 ^ lo * (q + v) = 2 ^ lo * q + v * 2 ^ lo := by ring
  rw [← h2, h3] at h1
  omega

theorem getLsbD_setBits {n : Nat} (x : BitVec n) {hi lo : Nat} (hl : lo ≤ hi) (hn : hi < n) (v i : Nat) :
    (setBits x hi lo v).getLsbD i = if lo ≤ i ∧ i ≤ hi then v.testBit (i - lo) else x.getLsbD i := by
  unfold setBits
  rw [toNat_sub_bits_add, BitVec.getLsbD_ofNat, Nat.testBit_two_pow_mul_add _ (Nat.mod_lt _ (Nat.two_pow_pos _)),
    Nat.testBit_two_pow_mul_add _ (Nat.mod_lt _ (Nat.two_pow_pos _))]
  rcases Nat.lt_or_ge i lo with hi' | hi'
  · have : i < n := by omega
    simp [hi', this, Nat.not_le.mpr hi', Nat.testBit_mod_two_pow, BitVec.testBit_toNat]
  · rcases Nat.lt_or_ge hi i with h | h
    · have h1 : ¬ i - lo < hi + 1 - lo := by omega
      have h2 : lo + (hi + 1 - lo + (i - lo - (hi + 1 - lo))) = i := by omega
      rcases Nat.lt_or_ge i n with h3 | h3
      · simp [Nat.not_lt.mpr hi', h1, Nat.not_le.mpr h, Nat.testBit_shiftRight, h2, BitVec.testBit_toNat, h3]
      · simp [Nat.not_lt.mpr h3, Nat.not_le.mpr h, BitVec.getLsbD_of_ge x i h3]
    · have h1 : i - lo < hi + 1 - lo := by omega
      have h2 : i < n := by omega
      simp [Nat.not_lt.mpr hi', h1, hi', h, h2, Nat.testBit_mod_two_pow]

theorem bits_setBits_self {n : Nat} (x : BitVec n) {hi lo v : Nat} (hl : lo ≤ hi) (hn : hi < n) (hv : v < 2 ^ (hi + 1 - lo)) :
    bits (setBits x hi lo v) hi lo = v := by
  apply Nat.eq_of_testBit_eq
  intro i
  rw [testBit_bits, getLsbD_setBits x hl hn]
  by_cases h : i < hi + 1 - lo
  · have h1 : lo + i ≤ hi := by omega
    simp [h, h1]
  · have h1 : v < 2 ^ i := hv.trans_le (Nat.pow_le_pow_right (by decide) (by omega))
    simp [h, Nat.testBit_lt_two_pow h1]

theorem bits_setBits_apart {n : Nat} (x : BitVec n) {hi lo hi' lo' : Nat} (hl : lo ≤ hi) (hn : hi < n) (h : hi < lo' ∨ hi' < lo) (v : Nat) :
    bits (setBits x hi lo v) hi' lo' = bits x hi' lo' := by
  apply Nat.eq_of_testBit_eq
  intro i
  rw [testBit_bits, testBit_bits, getLsbD_setBits x hl hn]
  by_cases hi : i < hi' + 1 - lo'
  · rw [if_neg (by omega)]
  · simp [hi]

/-! ## One field -/

/-- A field's bits lie in a 32-bit word. -/
def Fld.InWord (f : Fld) : Prop := f.lo ≤ f.hi ∧ f.hi < 32
/-- Two fields share no bit. -/
def Fld.Apart (f g : Fld) : Prop := f.hi < g.lo ∨ g.hi < f.lo

/-- The bits of a field that holds `cur` after a write of `v` to it (R13, R15, R17). -/
def Fld.after (f : Fld) (en : Bool) (v cur : Nat) : Nat :=
  match f.acc with
  | .rw => if f.cls = .s ∧ en = true ∨ f.ok.ok v = false then cur else v
  | .w1c => Nat.land cur (2 ^ (f.hi + 1 - f.lo) - 1 - v)
  | .w1s => Nat.lor cur v
  | .ro | .rc | .wo => cur

/-- Is a write of `v` to a field that holds `cur` an offence (R13, R15, R17). -/
def Fld.offends (f : Fld) (en : Bool) (v cur : Nat) : Bool :=
  match f.acc with
  | .rw => if f.cls = .s ∧ en = true then v != cur else !f.ok.ok v
  | .wo => !f.ok.ok v
  | .w1c | .w1s | .ro | .rc => false

theorem Fld.bits_write {f : Fld} (hf : f.InWord) (en : Bool) (data w : Word) :
    bits (f.write en data w).1 f.hi f.lo = f.after en (bits data f.hi f.lo) (bits w f.hi f.lo) := by
  obtain ⟨hl, hn⟩ := hf
  have hv := bits_lt data f.hi f.lo
  have hw := bits_lt w f.hi f.lo
  unfold Fld.write Fld.after
  cases f.acc with
  | rw => by_cases h1 : f.cls = .s <;> cases en <;> cases h2 : f.ok.ok (bits data f.hi f.lo) <;> simp [h1, h2, bits_setBits_self w hl hn hv]
  | w1c => exact bits_setBits_self w hl hn (Nat.and_lt_two_pow _ (by omega))
  | w1s => exact bits_setBits_self w hl hn (Nat.or_lt_two_pow hw hv)
  | ro | rc | wo => rfl

theorem Fld.write_offends (f : Fld) (en : Bool) (data w : Word) :
    (f.write en data w).2 = f.offends en (bits data f.hi f.lo) (bits w f.hi f.lo) := by
  unfold Fld.write Fld.offends
  cases f.acc with
  | rw => by_cases h1 : f.cls = .s <;> cases en <;> cases h2 : f.ok.ok (bits data f.hi f.lo) <;> simp [h1, h2]
  | w1c | w1s | ro | rc | wo => rfl

theorem Fld.bits_write_apart {f g : Fld} (hf : f.InWord) (h : f.Apart g) (en : Bool) (data w : Word) :
    bits (f.write en data w).1 g.hi g.lo = bits w g.hi g.lo := by
  have hs := fun v => bits_setBits_apart w hf.1 hf.2 h v
  unfold Fld.write
  cases f.acc with
  | rw => dsimp only; split_ifs <;> simp [hs]
  | w1c | w1s => exact hs _
  | ro | rc | wo => rfl

/-! ## The fields of a register -/

/-- The fields of a register lie in its word and apart from each other. -/
def FldsApart (l : List Fld) : Prop := (∀ f ∈ l, f.InWord) ∧ l.Pairwise Fld.Apart

theorem bits_fldsWrite_apart {g : Fld} {l : List Fld} (hl : ∀ f ∈ l, f.InWord ∧ f.Apart g) (en : Bool) (data w : Word) :
    bits (fldsWrite en data l w).1 g.hi g.lo = bits w g.hi g.lo := by
  induction l generalizing w with
  | nil => rfl
  | cons f fs ih =>
    obtain ⟨hf, hg⟩ := hl f List.mem_cons_self
    exact (ih (fun x hx => hl x (List.mem_cons_of_mem _ hx)) _).trans (Fld.bits_write_apart hf hg en data w)

/-- R14: of a write, each field takes its own value and makes its own offence. -/
theorem fldsWrite_field {l : List Fld} (hl : FldsApart l) (en : Bool) (data w : Word) {f : Fld} (hf : f ∈ l) :
    bits (fldsWrite en data l w).1 f.hi f.lo = f.after en (bits data f.hi f.lo) (bits w f.hi f.lo) ∧
      (f.offends en (bits data f.hi f.lo) (bits w f.hi f.lo) = true → (fldsWrite en data l w).2 = true) := by
  induction l generalizing w with
  | nil => simp at hf
  | cons g fs ih =>
    obtain ⟨hin, hap⟩ := hl
    obtain ⟨hg, hfs⟩ := List.pairwise_cons.mp hap
    have hgin := hin g List.mem_cons_self
    have hin' := fun x hx => hin x (List.mem_cons_of_mem g hx)
    rcases List.mem_cons.mp hf with rfl | hf'
    · refine ⟨?_, fun h => ?_⟩
      · exact (bits_fldsWrite_apart (fun x hx => ⟨hin' x hx, (hg x hx).symm⟩) en data _).trans (Fld.bits_write hgin en data w)
      · simp [fldsWrite, Fld.write_offends, h]
    · have hw : bits (g.write en data w).1 f.hi f.lo = bits w f.hi f.lo := Fld.bits_write_apart hgin (hg f hf') en data w
      obtain ⟨hbits, hoff⟩ := ih ⟨hin', hfs⟩ (g.write en data w).1 hf'
      rw [hw] at hbits hoff
      exact ⟨hbits, fun h => by simp [fldsWrite, hoff h]⟩

theorem findRow_mem {l : List RegRow} {o : Nat} {r : RegRow} (h : findRow l o = some r) : r ∈ l := by
  induction l with
  | nil => simp [findRow] at h
  | cons x xs ih =>
    unfold findRow at h
    split at h
    · simp_all
    · exact List.mem_cons_of_mem _ (ih h)


theorem blkRows_fldsApart (k : Blk) : ∀ r ∈ blkRows k, FldsApart r.flds := by
  unfold FldsApart Fld.InWord Fld.Apart
  cases k <;> decide +kernel

theorem regRow_fldsApart {b o : Nat} {r : RegRow} (hb : b < 0x100) (ho : 0x10 ≤ o) (h : regRow b o = some r) : FldsApart r.flds := by
  unfold regRow at h
  split at h
  · rw [if_neg (by omega)] at h
    cases h
  · next k _ =>
    rw [if_neg (by omega)] at h
    exact blkRows_fldsApart k r (findRow_mem h)

/-! ## Registers and CFGERR -/

theorem State.fld_setFld_self (s : State) (b o : Nat) {hi lo v : Nat} (hl : lo ≤ hi) (hn : hi < 32) (hv : v < 2 ^ (hi + 1 - lo)) :
    (s.setFld b o hi lo v).fld b o hi lo = v := by
  simp [State.fld, State.setFld, bits_setBits_self _ hl hn hv]

theorem State.reg_setFld_ne (s : State) {b o c p : Nat} (hi lo v : Nat) (h : regKey c p ≠ regKey b o) : (s.setFld b o hi lo v).reg c p = s.reg c p :=
  State.reg_setReg_ne s _ h

theorem State.reg_cfgerr_ne (s : State) {b p : Nat} (o : Nat) (h : p ≠ 8) : (s.cfgerr b o).reg b p = s.reg b p := by
  have hk : regKey b p ≠ regKey b 8 := by simp [regKey, h]
  unfold State.cfgerr
  split_ifs <;> simp [State.reg_setFld_ne _ _ _ _ hk]

/-- An offence in a block below Cretal's private space leaves CFGERR at 1. -/
theorem State.fld_cfgerr (s : State) {b : Nat} (o : Nat) (hb : b < 0x100) : (s.cfgerr b o).fld b 8 0 0 = 1 := by
  unfold State.cfgerr
  rw [if_neg (by omega)]
  split_ifs with h
  · rw [State.fld, State.setFld, State.reg_setReg_self, bits_setBits_apart _ (by decide) (by decide) (by decide)]
    exact h
  · exact State.fld_setFld_self _ _ _ (by decide) (by decide) (by decide)

theorem State.cfgerr_frame (s : State) (b o : Nat) : (s.cfgerr b o).mem = s.mem ∧ (s.cfgerr b o).eng = s.eng ∧ (s.cfgerr b o).mode = s.mode := by
  unfold State.cfgerr
  split_ifs <;> exact ⟨rfl, rfl, rfl⟩

/-! ## The write as a command -/

theorem State.region_regs {s : State} {a b o : Nat} (h : s.region a = .regs b o) :
    0x10000000 ≤ a ∧ a < 0x11000000 ∧ b < 0x100 ∧ o = a % 0x10000 := by
  unfold State.region at h
  split_ifs at h with h1 h2 h3 h4
  obtain ⟨rfl, rfl⟩ := Region.regs.inj h
  omega

theorem State.regAt_regs {s : State} {a b o : Nat} (m : Master) (h : s.region a = .regs b o) (ho : o % 4 = 0) :
    s.regAt m a = if (blkOf b).isSome then some (b, o) else none := by
  obtain ⟨hlo, hhi, -, rfl⟩ := State.region_regs h
  unfold State.regAt
  rw [if_neg (by omega), if_neg (by omega), h]

theorem State.regAt_own (s : State) {a : Nat} (m : Master) (h : 0x100020000000 ≤ a ∧ a < 0x100020010000) (ha : a % 4 = 0) :
    s.regAt m a = if isMgmt m then some (0x100, a % 0x10000) else none := by
  unfold State.regAt
  rw [if_neg (by omega), if_pos h]

theorem State.regAt_none {s : State} {a : Nat} (m : Master)
    (h : a % 4 ≠ 0 ∨ (¬(0x100020000000 ≤ a ∧ a < 0x100020010000) ∧ ∀ b o, s.region a ≠ .regs b o)) : s.regAt m a = none := by
  unfold State.regAt
  rcases h with h | ⟨hown, hreg⟩
  · rw [if_pos h]
  · rw [if_neg hown]
    split_ifs
    · rfl
    · split
      · next b o hr => exact absurd hr (hreg b o)
      · rfl

theorem exec_registerWrite_none {s : State} {m : Master} {a : Dword} (data : Word) (h : s.regAt m a.toNat = none) :
    exec (.registerWrite m a data) s = .next s := by
  change execRegisterWrite m a data s = _
  rw [execRegisterWrite, h]

theorem exec_registerWrite_some {s : State} {m : Master} {a : Dword} {b o : Nat} (data : Word) (h : s.regAt m a.toNat = some (b, o)) :
    exec (.registerWrite m a data) s = .next (s.admits m b o (fun t => t.regWrite m b o data)) := by
  change execRegisterWrite m a data s = _
  rw [execRegisterWrite, h]

theorem exec_registerWrite_regs {s : State} {m : Master} {a : Dword} {b o : Nat} (data : Word) (h : s.region a.toNat = .regs b o)
    (ho : o % 4 = 0) (hb : blkOf b ≠ none) :
    exec (.registerWrite m a data) s = .next (s.admits m b o (fun t => t.regWrite m b o data)) :=
  exec_registerWrite_some data (by rw [State.regAt_regs m h ho, if_pos (Option.isSome_iff_ne_none.mpr hb)])

/-- R48: an engine that Table 01-7 shuts out of a block changes nothing. -/
theorem exec_registerWrite_engine {s : State} {e : Eid} {a : Dword} {b o : Nat} (data : Word) (h : s.region a.toNat = .regs b o)
    (ho : o % 4 = 0) (hmay : engineMay b true = false) : exec (.registerWrite (.engine e) a data) s = .next s := by
  by_cases hb : blkOf b = none
  · exact exec_registerWrite_none data (by rw [State.regAt_regs _ h ho, hb]; rfl)
  · rw [exec_registerWrite_regs data h ho hb, admits_not _ _ _ _ _ (show s.lets (.engine e) b o .write = false from hmay), turned_engine]

/-- What a written field then holds and whether CFGERR is set, one access code at a time. -/
theorem Fld.clauses {f : Fld} {en : Bool} {v was now flag : Nat} (hnow : now = f.after en v was) (hoff : f.offends en v was = true → flag = 1) :
    let shut := f.ok.ok v = false ∨ (f.cls = .s ∧ en = true)
    (f.acc = .rw → ¬(f.cls = .s ∧ en = true) → f.ok.ok v = false → now = was ∧ flag = 1) ∧
    (f.acc = .rw → ¬shut → now = v) ∧ (f.acc = .rw → shut → v ≠ was → now = was ∧ flag = 1) ∧
    (f.acc = .ro ∨ f.acc = .rc ∨ f.acc = .wo → now = was) ∧ (f.acc = .wo → f.ok.ok v = false → flag = 1) ∧
    (f.acc = .w1s → now = Nat.lor was v) ∧ (f.acc = .w1c → now = Nat.land was (2 ^ (f.hi + 1 - f.lo) - 1 - v)) := by
  unfold Fld.after at hnow
  unfold Fld.offends at hoff
  cases hacc : f.acc with
  | rw =>
    simp only [hacc] at hnow hoff
    by_cases hs : f.cls = .s ∧ en = true
    · simp_all
    · cases hok : f.ok.ok v <;> simp_all
  | ro | rc | wo | w1s | w1c => simp_all

theorem State.regWrite_table {s : State} {m : Master} {b o : Nat} {data : Word} (hb : b < 0x100) (ho : 0x10 ≤ o)
    (h : s.writeSpecial m b o data = none) : s.regWrite m b o data = s.writeTable m b o data := by
  unfold State.regWrite
  rw [if_neg (by omega), if_neg (by omega), if_neg (by omega), if_neg (by omega), h]

/-- A write that a register's table describes whole: what it leaves alone, each field's bits, and CFGERR at an offence. -/
theorem State.writeTable_fields {s : State} {m : Master} {b o : Nat} {r : RegRow} (data : Word) (hb : b < 0x100) (ho : 0x10 ≤ o)
    (hr : regRow b o = some r) (hm : r.own.lets m = true) :
    let u := s.writeTable m b o data
    u.mem = s.mem ∧ u.eng = s.eng ∧ u.mode = s.mode ∧
      ∀ f ∈ r.flds,
        u.fld b o f.hi f.lo = f.after (s.blkEn b) (bits data f.hi f.lo) (s.fld b o f.hi f.lo) ∧
          (f.offends (s.blkEn b) (bits data f.hi f.lo) (s.fld b o f.hi f.lo) = true → u.fld b 8 0 0 = 1) := by
  have ho8 : o ≠ 8 := by omega
  have hfield := fun f hf => fldsWrite_field (regRow_fldsApart hb ho hr) (s.blkEn b) data (s.reg b o) (f := f) hf
  simp only [State.writeTable, State.writeWith, hr, hm, Bool.not_true, Bool.false_eq_true, if_false, Bool.or_false]
  generalize fldsWrite (s.blkEn b) data r.flds (s.reg b o) = t at hfield ⊢
  split_ifs with h
  · obtain ⟨h1, h2, h3⟩ := (s.setReg b o t.1).cfgerr_frame b o
    refine ⟨h1, h2, h3, fun f hf => ⟨?_, fun _ => State.fld_cfgerr _ o hb⟩⟩
    rw [State.fld, State.reg_cfgerr_ne _ o ho8, State.reg_setReg_self]
    exact (hfield f hf).1
  · refine ⟨rfl, rfl, rfl, fun f hf => ⟨?_, fun hoff => absurd ((hfield f hf).2 hoff) h⟩⟩
    rw [State.fld, State.reg_setReg_self]
    exact (hfield f hf).1

theorem State.writeTable_none {s : State} {m : Master} {b o : Nat} {data : Word} (hr : regRow b o = none) :
    s.writeTable m b o data = s.cfgerr b o := by
  simp [State.writeTable, State.writeWith, hr]

theorem State.writeTable_other {s : State} {m : Master} {b o : Nat} {data : Word} {r : RegRow} (hr : regRow b o = some r)
    (hm : r.own.lets m = false) : s.writeTable m b o data = s.cfgerr b o := by
  simp [State.writeTable, State.writeWith, hr, hm]

/-- Settles O58: the first clauses by where the address lies (`State.regAt`), the field clauses by `State.writeTable_fields`. -/
theorem registerWrites : Obligations.RegisterWrites := by
  unfold Obligations.RegisterWrites
  refine ⟨fun s m a data => ⟨fun h => ?_, fun own ha hm => ?_, fun own ha hm hl => ?_⟩,
    fun s m a data b o r hreg ho => ⟨fun hb => ?_, ?_, ?_, ?_⟩⟩
  · exact exec_registerWrite_none data (State.regAt_none m h)
  · exact exec_registerWrite_none data (by rw [s.regAt_own m own ha, hm]; rfl)
  · rw [exec_registerWrite_some data (by rw [s.regAt_own m own ha, hm]; rfl), admits_of _ _ _ _ _ hl]
  · exact exec_registerWrite_none data (by rw [State.regAt_regs m hreg ho, hb]; rfl)
  · rintro ⟨e, rfl⟩ hmay
    exact exec_registerWrite_engine data hreg ho hmay
  · intro hb hl
    rw [exec_registerWrite_regs data hreg ho hb, admits_not _ _ _ _ _ hl]
  · intro hb hl h10 hsp
    obtain ⟨-, -, hlt, -⟩ := State.region_regs hreg
    have hexec : exec (.registerWrite m a data) s = .next (s.writeTable m b o data) := by
      rw [exec_registerWrite_regs data hreg ho hb, admits_of _ _ _ _ _ hl, State.regWrite_table hlt h10 hsp]
    refine ⟨fun hr => ?_, fun hr hm => ?_, fun hr hm => ?_⟩
    · rw [hexec, State.writeTable_none hr]
    · rw [hexec, State.writeTable_other hr hm]
    · obtain ⟨hmem, heng, hmode, hfld⟩ := State.writeTable_fields data hlt h10 hr hm
      refine ⟨_, hexec, hmem, heng, hmode, fun f hf => ?_⟩
      obtain ⟨hnow, hoff⟩ := hfld f hf
      exact Fld.clauses hnow hoff

end Sys2Proof.Machine
end

section
/-!
# Events: raising, binding and delivering (06_tasks_scheduler, R252 to R260)

A delivery puts one slot as R252 says and starts the wake of a tile that does not run, which touches registers and the power state alone.
-/

namespace Sys2Proof.Machine

open Sys2Proof

/-! ## The wake of a tile leaves the engines and the raised events -/

theorem State.wakeTile_frame (s : State) (t : Nat) : (s.wakeTile t).eng = s.eng ∧ (s.wakeTile t).events = s.events := by
  unfold State.wakeTile
  split <;> exact ⟨rfl, rfl⟩

/-- What REQ = RUN and a wake leave, tile after tile. -/
theorem State.wakeTiles_frame (s : State) (ts : List Nat) :
    let u := ts.foldl (fun u x => (u.setFld 2 (0x100 + 4 * x) 1 0 0).wakeTile x) s
    u.eng = s.eng ∧ u.events = s.events := by
  induction ts generalizing s with
  | nil => exact ⟨rfl, rfl⟩
  | cons x xs ih =>
    obtain ⟨heng, hev⟩ := (s.setFld 2 (0x100 + 4 * x) 1 0 0).wakeTile_frame x
    obtain ⟨heng', hev'⟩ := ih ((s.setFld 2 (0x100 + 4 * x) 1 0 0).wakeTile x)
    exact ⟨heng'.trans heng, hev'.trans hev⟩

theorem State.wakeForDelivery_frame (s : State) (t : Nat) :
    (s.wakeForDelivery t).eng = s.eng ∧ (s.wakeForDelivery t).events = s.events := by
  unfold State.wakeForDelivery State.touchTile
  split_ifs
  · exact s.wakeTiles_frame _
  · exact s.wakeTile_frame t
  · exact s.wakeTiles_frame _
  · exact ⟨rfl, rfl⟩

theorem State.engine_wakeForDelivery (s : State) (t e : Nat) : (s.wakeForDelivery t).engine e = s.engine e := by
  rw [State.engine, (s.wakeForDelivery_frame t).1, State.engine]

/-! ## Slots -/

/-- The slot `n` of engine `e`. -/
def State.slotAt (s : State) (e n : Nat) : Slot := Map.get Slot.free (s.engine e).slots n

theorem State.slotFree_iff (s : State) (e n : Nat) : s.slotFree e n = true ↔ (s.slotAt e n).st = .free := beq_iff_eq

@[simp] theorem State.slotAt_updSlot (s : State) (e n : Nat) (f : Slot → Slot) : (s.updSlot e n f).slotAt e n = f (s.slotAt e n) := by
  simp [State.slotAt, State.updSlot, Map.upd]

@[simp] theorem State.slotAt_wakeForDelivery (s : State) (t e n : Nat) : (s.wakeForDelivery t).slotAt e n = s.slotAt e n := by
  simp [State.slotAt, State.engine_wakeForDelivery]

@[simp] theorem State.slotAt_makeReady (s : State) (e n : Nat) :
    (s.makeReady e n).slotAt e n = { s.slotAt e n with st := .ready, readyAt := (s.engine e).readyCtr, used := 0 } := by
  simp [State.slotAt, State.makeReady, Engine.tick, State.updSlot, Map.upd]

theorem State.makeReady_events (s : State) (e n : Nat) : (s.makeReady e n).events = s.events := rfl

theorem State.engine_makeReady_ne (s : State) {e i : Nat} (n : Nat) (h : i ≠ e) : (s.makeReady e n).engine i = s.engine i := by
  simp [State.makeReady, State.updSlot, State.engine_updEngine_ne _ _ h]

/-! ## A delivery -/

theorem bit_setBit_self {n : Nat} (x : BitVec n) {i : Nat} (hi : i < n) : bit (setBit x i true) i = true := by
  simp [bit, setBit, getLsbD_setBits x (le_refl i) hi]

theorem State.deliver_events (s : State) (e n vec id : Nat) : (s.deliver e n vec id).events = s.events := by
  unfold State.deliver
  rw [(State.wakeForDelivery_frame _ _).2]
  split_ifs <;> rfl

theorem State.engine_deliver_ne (s : State) {e i : Nat} (n vec id : Nat) (h : i ≠ e) : (s.deliver e n vec id).engine i = s.engine i := by
  unfold State.deliver
  rw [State.engine_wakeForDelivery]
  split_ifs
  · rw [State.engine_makeReady_ne _ _ h, State.updSlot, State.engine_updEngine_ne _ _ h]
  · rw [State.updSlot, State.engine_updEngine_ne _ _ h]

/-- R252, R254, R255: the slot a delivery reaches. -/
theorem State.slotAt_deliver (s : State) (e n id : Nat) {vec : Nat} (hv : vec < 16) :
    let t := (s.deliver e n vec id).slotAt e n
    bit t.pend vec = true ∧ Map.get 0 t.evids vec = BitVec.ofNat 12 id ∧
      t.st = if (s.slotAt e n).st = .waiting ∧ (s.engine e).dbg.halted = false then .ready else (s.slotAt e n).st := by
  have hst : Map.get Slot.free (s.engine e).slots n = s.slotAt e n := rfl
  simp only [State.deliver, hst, Bool.not_eq_true]
  split_ifs with h <;> simp [bit_setBit_self _ hv]

theorem State.slotAt_deliver_ne (s : State) {e i : Nat} (n vec id k : Nat) (h : i ≠ e) : (s.deliver e n vec id).slotAt i k = s.slotAt i k := by
  rw [State.slotAt, State.engine_deliver_ne s n vec id h, State.slotAt]

/-- R252, R256: what the delivery of the oldest raise of an event comes to. -/
theorem exec_eventDelivery_some {s : State} {id : BitVec 11} {b : Word}
    (h : s.events.find? (fun p => p.1 == id.toNat) = some (id.toNat, b)) :
    let s1 := { s with events := s.events.erase (id.toNat, b) }
    let e := bits b 15 6
    let n := bits b 5 0
    let v := bits b 19 16
    exec (.eventDelivery id) s = .next (
      if bit b 31 = false ∨ bit b 30 = false then s1.toCretal id.toNat
      else if bit b 29 = true then
        if inB e = true ∨ (s.slotAt e n).st = .free ∨ (s.slotAt (twinOf e) n).st = .free then s1.misroute id.toNat e
        else (s1.deliver e n v id.toNat).deliver (twinOf e) n v id.toNat
      else if (s.slotAt e n).st = .free then s1.misroute id.toNat e
      else s1.deliver e n v id.toNat) := by
  change execEventDelivery id s = _
  simp only [execEventDelivery, h, Bool.or_eq_true, Bool.not_eq_true', State.slotFree_iff, or_assoc]
  split_ifs <;> rfl

/-- The twin of a channel A engine is another engine. -/
theorem twinOf_ne (e : Nat) : e ≠ twinOf e := fun h => by
  have := congrArg (Nat.testBit · 9) h
  simp [twinOf, show Nat.testBit 512 9 = true by decide] at this

/-! ## Raising and binding -/

theorem bits_eq_div {n : Nat} (x : BitVec n) (hi lo : Nat) : bits x hi lo = x.toNat / 2 ^ lo % 2 ^ (hi + 1 - lo) := by
  rw [bits, Nat.shiftRight_eq_div_pow]

theorem exec_evrRaise_admitted {s : State} {m : Master} {data : Word} (hid : bits data 10 0 < 1024 ∨ 1984 ≤ bits data 10 0)
    (hm : m = .cretal ∨ m = .debug ∨ ∃ x, m = .engine x ∧ (inB x.toNat && s.pairedCtx x.toNat) = false)
    (hl : s.lets m 4 0x10 .write = true) : exec (.evrRaise m data) s = .next (s.raise (bits data 10 0)) := by
  change Host.Outcome.next (s.admits m 4 0x10 fun t => t.writeEvrRaise m data) = _
  rw [admits_of _ _ _ _ _ hl]
  unfold State.writeEvrRaise
  dsimp only
  rw [if_pos hid]
  rcases hm with rfl | rfl | ⟨x, rfl, hx⟩
  · rfl
  · rfl
  · dsimp only
    rw [if_neg (Bool.eq_false_iff.mp hx)]

/-- A field written in two parts, the upper after the lower. -/
theorem bits_setBits_join {n : Nat} (x data : BitVec n) {hi mid lo : Nat} (hl : lo ≤ mid) (hm : mid < hi) (hn : hi < n)
    (h : bits x mid lo = bits data mid lo) : bits (setBits x hi (mid + 1) (bits data hi (mid + 1))) hi lo = bits data hi lo := by
  apply Nat.eq_of_testBit_eq
  intro i
  have hlow := congrArg (Nat.testBit · i) h
  simp only [testBit_bits] at hlow
  simp only [testBit_bits, getLsbD_setBits x hm hn]
  rcases Nat.lt_or_ge mid (lo + i) with hi' | hi'
  · by_cases hw : i < hi + 1 - lo
    · have hin : lo + i - (mid + 1) < hi + 1 - (mid + 1) := by omega
      rw [if_pos (by omega), show mid + 1 + (lo + i - (mid + 1)) = lo + i by omega, decide_eq_true hin, Bool.true_and]
    · simp [hw]
  · simp only [show i < mid + 1 - lo by omega, decide_true, Bool.true_and] at hlow
    rw [if_neg (by omega), hlow]

/-- R259, R260: a binding that management writes holds what it wrote. -/
theorem State.writeEvrBind_fields {s : State} {m : Master} {n : Nat} (data : Word) (hm : isMgmt m = true) (hc : cretalOnly n = false) :
    let t := s.writeEvrBind m n data
    let o := 0x2000 + 4 * n
    t.fld 4 o 15 0 = bits data 15 0 ∧ t.fld 4 o 19 16 = bits data 19 16 ∧ t.fld 4 o 31 29 = bits data 31 29 := by
  simp only [State.writeEvrBind, hm, hc, Bool.not_true, Bool.false_and, Bool.false_eq_true, if_false, State.fld, State.reg_setReg_self]
  have hlt := fun hi lo => bits_lt data hi lo
  refine ⟨?_, ?_, ?_⟩
  · rw [bits_setBits_apart _ (by decide) (by decide) (by decide), bits_setBits_self _ (by decide) (by decide) (hlt 15 0)]
  · rw [bits_setBits_apart _ (by decide) (by decide) (by decide), bits_setBits_apart _ (by decide) (by decide) (by decide),
      bits_setBits_self _ (by decide) (by decide) (hlt 19 16)]
  · refine bits_setBits_join _ data (mid := 29) (by decide) (by decide) (by decide) ?_
    rw [bits_setBits_apart _ (by decide) (by decide) (by decide), bits_setBits_apart _ (by decide) (by decide) (by decide),
      bits_setBits_self _ (by decide) (by decide) (hlt 29 29)]

/-- Settles O35: raising and binding as written, and each delivery by `exec_eventDelivery_some` and what it does to the slots it reaches. -/
theorem events : Obligations.Events := by
  unfold Obligations.Events
  intro s m data n id b
  have hvec : bits b 19 16 < 16 := bits_lt b 19 16
  have hslot : bits b 5 0 = b.toNat % 64 := rfl
  have heng : bits b 15 6 = b.toNat / 64 % 1024 := bits_eq_div ..
  have hv : bits b 19 16 = b.toNat / 2 ^ 16 % 16 := bits_eq_div ..
  refine ⟨fun hid hm hl => exec_evrRaise_admitted hid hm hl, fun hm hl hc => ?_, fun hfind => ?_⟩
  · obtain ⟨hlo, hmid, hhi⟩ := State.writeEvrBind_fields (s := s) data hm hc
    refine ⟨_, congrArg Host.Outcome.next (admits_of _ _ _ _ _ hl), hlo, hmid.trans (bits_eq_div ..), hhi.trans (bits_eq_div ..)⟩
  · have hexec := exec_eventDelivery_some hfind
    dsimp only at hexec ⊢
    rw [← hslot, ← heng, ← hv]
    generalize bits b 5 0 = n, bits b 15 6 = e, bits b 19 16 = vec at hexec hvec ⊢
    refine ⟨fun hbits => ?_, fun h31 h30 h29 hfree => ?_, fun h31 h30 h29 he hfree htwin => ?_⟩
    · rw [if_pos hbits] at hexec
      exact ⟨_, hexec, rfl, State.fld_setFld_self _ _ _ (le_refl _) (Nat.mod_lt _ (by decide)) (by simp)⟩
    · change (s.slotAt e n).st ≠ .free at hfree
      rw [if_neg (by simp [h31, h30]), if_neg (by simp [h29]), if_neg hfree] at hexec
      obtain ⟨hpend, hid, hst⟩ := State.slotAt_deliver { s with events := s.events.erase (id.toNat, b) } e n id.toNat hvec
      exact ⟨_, hexec, State.deliver_events .., hpend, hid, hst⟩
    · change (s.slotAt e n).st ≠ .free at hfree
      change (s.slotAt (twinOf e) n).st ≠ .free at htwin
      rw [if_neg (by simp [h31, h30]), if_pos h29, if_neg (by simp [inB, he, hfree, htwin])] at hexec
      refine ⟨_, hexec, ?_, (State.slotAt_deliver _ (twinOf e) n id.toNat hvec).1⟩
      change bit (State.slotAt _ e n).pend vec = true
      rw [State.slotAt_deliver_ne _ _ _ _ _ (twinOf_ne e)]
      exact (State.slotAt_deliver _ e n id.toNat hvec).1

end Sys2Proof.Machine
end

section
/-!
# The SAFE block (11_pairing_safety, R413 to R423)

What a mode change does, what management's writes of SAFE_MODE and SAFE_KICK with and without the key come to, and each class's action after
a write of SAFE_POL.
-/

namespace Sys2Proof.Machine

open Sys2Proof

/-! ## Modes -/

theorem Mode.ofCode_code (q : Mode) : Mode.ofCode q.code = some q := by cases q <;> rfl

/-- Table 11-9 as a proposition. -/
theorem State.modeAllowed_iff (s : State) (m : Master) (q : Mode) :
    s.modeAllowed m q = true ↔
      (s.mode = .start ∧ q = .test) ∨ (s.mode = .test ∧ q = .start ∧ s.fld 6 0x30 0 0 = 1) ∨
      (s.mode = .start ∧ q = .run ∧ m = .cretal ∧ s.fld 6 0x30 0 0 = 1 ∧ s.fld 7 0x14 2 2 = 0 ∧ s.safe.kickOpen = true) ∨
      (s.mode = .safe ∧ q = .recovery) ∨ (s.mode = .recovery ∧ q = .test) ∨ (s.mode ≠ .safe ∧ q = .safe) := by
  unfold State.modeAllowed
  generalize s.mode = p
  cases p <;> cases q <;> simp [and_assoc]

theorem State.mode_of_safe {s t : State} (h : t.safe = s.safe) : t.mode = s.mode := by rw [State.mode, h, State.mode]

theorem State.setMode_safe (s : State) (q : Mode) :
    (s.setMode q).safe = { s.safe with modeA := q, modeB := q, vermilion := s.safe.vermilion && q == .run } := by
  unfold State.setMode
  dsimp only
  split_ifs <;> rfl

@[simp] theorem State.setMode_mode (s : State) (q : Mode) : (s.setMode q).mode = q := by simp [State.mode, State.setMode_safe]

theorem State.setMode_events (s : State) (q : Mode) : (s.setMode q).events.map (·.1) = s.events.map (·.1) ++ [1668] := by
  unfold State.setMode State.raise
  dsimp only
  split_ifs <;> simp

theorem State.setMode_startOk (s : State) (q : Mode) :
    (s.setMode q).fld 6 0x30 0 0 = if q = .safe ∨ q = .recovery then 0 else s.fld 6 0x30 0 0 := by
  unfold State.setMode
  dsimp only
  split_ifs
  · exact State.fld_setFld_self _ _ _ (le_refl _) (by decide) (by decide)
  · rfl

theorem State.setMode_ochre (s : State) (q : Mode) : (s.setMode q).ochre = true ↔ q = .run := by
  simp [State.ochre, State.setMode_safe]

/-- R419: a request with the key. -/
theorem State.writeSafeMode_key {s : State} {m : Master} {data : Word} {q : Mode} (hm : isMgmt m = true) (hk : bits data 31 16 = 0x5AFE)
    (hq : bits data 10 8 = q.code) : s.writeSafeMode m data = if s.modeAllowed m q then s.setMode q else s.cfgerr 6 0x10 := by
  simp [State.writeSafeMode, hm, hk, hq, Mode.ofCode_code]

theorem exec_safeMode_key {s : State} {m : Master} {data : Word} {q : Mode} (hm : isMgmt m = true) (hl : s.lets m 6 0x10 .write = true)
    (hk : bits data 31 16 = 0x5AFE) (hq : bits data 10 8 = q.code) :
    exec (.safeMode m data) s = .next (if s.modeAllowed m q then s.setMode q else s.cfgerr 6 0x10) := by
  rw [← State.writeSafeMode_key hm hk hq]
  exact congrArg Host.Outcome.next (admits_of _ _ _ _ _ hl)

/-- R416, R419: a write of SAFE_MODE or SAFE_KICK without the key is an offence. -/
theorem exec_safe_noKey {s : State} {m : Master} {data : Word} (hm : isMgmt m = true) (hk : bits data 31 16 ≠ 0x5AFE) :
    (s.lets m 6 0x10 .write = true → exec (.safeMode m data) s = .next (s.cfgerr 6 0x10)) ∧
      (s.lets m 6 0x20 .write = true → exec (.safeKick m data) s = .next (s.cfgerr 6 0x20)) := by
  refine ⟨fun hl => congrArg Host.Outcome.next ((admits_of _ _ _ _ _ hl).trans ?_),
    fun hl => congrArg Host.Outcome.next ((admits_of _ _ _ _ _ hl).trans ?_)⟩
  · simp [State.writeSafeMode, hm, hk]
  · simp [State.writeSafeKick, hm, hk]

/-- A write that only management makes leaves an engine's request without effect, whether Table 01-7 lets it pass or not (R48). -/
theorem admits_engine_eq {s : State} (e : Eid) (b o : Nat) {f : State → State} (hf : f s = s) : s.admits (.engine e) b o f = s := by
  unfold State.admits
  split_ifs
  · exact hf
  · exact turned_engine s e b o .write

/-! ## SAFE_POL -/

theorem polMin_eq (c : Nat) : polMin c = if c ∈ [0, 1, 9, 10, 14] then 1 else if c ∈ [2, 3, 4, 5, 6, 7, 8] then 2 else 0 := by
  simp only [polMin, List.mem_cons, List.not_mem_nil, or_false]
  grind

theorem State.polBad_iff (s : State) (data : Word) (c : Nat) :
    s.polBad data c = true ↔ bits data (2 * c + 1) (2 * c) = 3 ∨ bits data (2 * c + 1) (2 * c) < polMin c ∨
      (s.mode = .run ∧ bits data (2 * c + 1) (2 * c) < s.fld 6 0x18 (2 * c + 1) (2 * c)) := by
  simp [State.polBad, or_assoc]

/-- The actions of the classes of a list taken over from `data`, but for those that `keep` names. -/
theorem bits_foldl_setBits (keep : Nat → Bool) (data w : Word) {c : Nat} (hc : c < 15) {l : List Nat} (hl : ∀ i ∈ l, i < 15) :
    bits (l.foldl (fun (w : Word) i => if keep i then w else setBits w (2 * i + 1) (2 * i) (bits data (2 * i + 1) (2 * i))) w) (2 * c + 1) (2 * c) =
      if c ∈ l ∧ keep c = false then bits data (2 * c + 1) (2 * c) else bits w (2 * c + 1) (2 * c) := by
  induction l generalizing w with
  | nil => simp
  | cons i l ih =>
    have hi : i < 15 := hl i List.mem_cons_self
    rw [List.foldl_cons, ih _ fun j hj => hl j (List.mem_cons_of_mem i hj)]
    by_cases hki : keep i
    · by_cases hci : c = i <;> simp_all
    · by_cases hci : c = i
      · subst hci
        simp [hki, bits_setBits_self w (hi := 2 * c + 1) (lo := 2 * c) (by omega) (by omega) (bits_lt data _ _)]
      · simp [hki, hci, bits_setBits_apart w (hi := 2 * i + 1) (lo := 2 * i) (hi' := 2 * c + 1) (lo' := 2 * c) (by omega) (by omega) (by omega)]

/-- R421, R423: what management's write of SAFE_POL leaves of one class's action, and the mode. -/
theorem State.writeSafePol_class (s : State) {m : Master} (data : Word) (hm : isMgmt m = true) {c : Nat} (hc : c < 15) :
    (s.writeSafePol m data).mode = s.mode ∧
      (s.writeSafePol m data).fld 6 0x18 (2 * c + 1) (2 * c) =
        if s.polBad data c then s.fld 6 0x18 (2 * c + 1) (2 * c) else bits data (2 * c + 1) (2 * c) := by
  have hfold := bits_foldl_setBits (s.polBad data) data (s.reg 6 0x18) hc (l := List.range 15) fun i hi => List.mem_range.mp hi
  simp only [State.writeSafePol, hm, Bool.not_true, Bool.false_eq_true, if_false]
  generalize (List.range 15).foldl _ (s.reg 6 0x18) = w at hfold ⊢
  have hreg : bits w (2 * c + 1) (2 * c) = if s.polBad data c then s.fld 6 0x18 (2 * c + 1) (2 * c) else bits data (2 * c + 1) (2 * c) := by
    rw [hfold]
    cases h : s.polBad data c <;> simp [hc, State.fld]
  have hmode : (s.setReg 6 0x18 w).mode = s.mode := rfl
  rw [← hreg]
  split_ifs
  · obtain ⟨-, -, hcfg⟩ := (s.setReg 6 0x18 w).cfgerr_frame 6 0x18
    exact ⟨hcfg.trans hmode, by rw [State.fld, State.reg_cfgerr_ne _ _ (by decide), State.reg_setReg_self]⟩
  · exact ⟨hmode, by rw [State.fld, State.reg_setReg_self]⟩

end Sys2Proof.Machine
end

section
/-!
# The channel cross-check (15_power_clock_reset, R549)

The cross-check clause of `Obligations.SafetyState` does not ask that Cretal's MPU admits the request for START; where it does not, R493 takes
the device to SAFE and START_OK clears. The clause speaks of passed start-up tests, whose outcome is the free value `Config.testOutcome`:
`safetyState_iff` says what that leaves of the statement.
-/

namespace Sys2Proof.Machine

open Sys2Proof

/-! ## The command, in parts -/

/-- The LIN block once the start-up tests have had their outcome and firmware has issued CHECK. -/
def State.crossLin (s : State) : State :=
  (({ s with freeCtr := s.freeCtr + 1 }).testFailed (Config.testOutcome s.freeCtr)).linCmd .cretal 7 0 0

/-- R549: is START_OK set. -/
def State.crossOk (s : State) (failed : List Nat) : Bool :=
  let c := s.crossLin
  let trained := s.fld 0x0A 0x14 1 1 == 1 && s.fld 0x0B 0x14 1 1 == 1
  let assigned := failed.any (fun p => match s.inst with
    | none => false
    | some r => r.engines.any (fun x => x.id == p || x.id == twinOf p))
  c.lin.phase == .done && c.lin.result == 0 && trained && !assigned && Config.testOutcome s.freeCtr == 0

/-- The device with the tests done and memory filled, before its tiles are put off and woken. -/
def State.crossFilled (s : State) : State :=
  let t := if s.crossLin.lin.phase = .done then s.crossLin.linComplete else s.crossLin
  if t.lin.filled then t else { t.poisonAll with lin := { t.lin with filled := true } }

/-- The device as the cross-check leaves it, before it requests START. -/
def State.crossDone (s : State) (failed : List Nat) : State :=
  let bad := fun (t : Nat) => badLogic (Config.testOutcome s.freeCtr) t || failed.any (fun p => tileOf p == t || tileOf (twinOf p) == t)
  ((s.crossFilled.crossTiles bad).setFld 6 0x30 0 0 (s.crossOk failed).toNat).updFw (fun f =>
    { f with bg := Map.mapVal (fun b => if b.cmd = 0x0604 then { b with aux := if s.crossOk failed then 1 else 2 } else b) f.bg })

theorem exec_channelCrossCheck {s : State} (failed : List Nat) (hmode : s.mode = .test) (hreset : s.cretalReset = false)
    (hidle : s.lin.phase = .idle) :
    exec (.channelCrossCheck failed) s = .next (
      if s.crossOk failed && !s.fw.bg.any (fun p => p.2.cmd == 0x0604) then (s.crossDone failed).cretalWrite 6 0x10 0x5AFE0000
      else s.crossDone failed) := by
  change execChannelCrossCheck failed s = _
  unfold execChannelCrossCheck
  rw [if_neg (by simp [hmode, hreset, hidle])]
  rfl

theorem State.updFw_fld (s : State) (f : Fw → Fw) (b o hi lo : Nat) : (s.updFw f).fld b o hi lo = s.fld b o hi lo := rfl

theorem State.crossDone_startOk (s : State) (failed : List Nat) : (s.crossDone failed).fld 6 0x30 0 0 = (s.crossOk failed).toNat := by
  unfold State.crossDone
  rw [State.updFw_fld, State.fld_setFld_self _ _ _ (le_refl _) (by decide) (Bool.toNat_lt _)]

/-- R549: a failed start-up test leaves START_OK at 0. -/
theorem exec_channelCrossCheck_failed {s : State} (failed : List Nat) (hmode : s.mode = .test) (hreset : s.cretalReset = false)
    (hidle : s.lin.phase = .idle) (htests : Config.testOutcome s.freeCtr ≠ 0) :
    ∃ t, exec (.channelCrossCheck failed) s = .next t ∧ t.fld 6 0x30 0 0 = 0 := by
  have hok : s.crossOk failed = false := by simp [State.crossOk, htests]
  refine ⟨_, exec_channelCrossCheck failed hmode hreset hidle, ?_⟩
  rw [hok, Bool.false_and, if_neg (by decide), State.crossDone_startOk, hok]
  rfl

/-! ## Cretal's writes while its MPU stands -/

/-- What the checks of Cretal's writes and of a request for OFF read is as in `s`: the modes, Cretal's MPU and the engines. -/
def State.Stands (s u : State) : Prop :=
  u.safe = s.safe ∧ u.eff = s.eff ∧ u.eng = s.eng ∧ ∀ o, o < 0x10000 → u.reg 0x100 o = s.reg 0x100 o

theorem State.Stands.refl (s : State) : s.Stands s := ⟨rfl, rfl, rfl, fun _ _ => rfl⟩

theorem State.Stands.trans {s t u : State} (h : s.Stands t) (h' : t.Stands u) : s.Stands u := by
  obtain ⟨h1, h2, h3, h4⟩ := h
  obtain ⟨h1', h2', h3', h4'⟩ := h'
  exact ⟨h1'.trans h1, h2'.trans h2, h3'.trans h3, fun o ho => (h4' o ho).trans (h4 o ho)⟩

theorem State.Stands.foldl {α : Type} {s u : State} {f : State → α → State} {l : List α} (h : s.Stands u)
    (hf : ∀ t, s.Stands t → ∀ a ∈ l, s.Stands (f t a)) : s.Stands (l.foldl f u) := by
  induction l generalizing u with
  | nil => exact h
  | cons a l ih => exact ih (hf u h a List.mem_cons_self) fun t ht b hb => hf t ht b (List.mem_cons_of_mem a hb)

theorem State.stands_setReg (s : State) {b o : Nat} (w : Word) (hb : b < 0x100) (ho : o < 0x10000) : s.Stands (s.setReg b o w) :=
  ⟨rfl, rfl, rfl, fun p _ => State.reg_setReg_ne s w (by unfold regKey; omega)⟩

theorem State.stands_setFld (s : State) {b o : Nat} (hi lo v : Nat) (hb : b < 0x100) (ho : o < 0x10000) : s.Stands (s.setFld b o hi lo v) :=
  s.stands_setReg _ hb ho

theorem State.stands_cfgerr (s : State) {b : Nat} (o : Nat) (hb : b < 0x100) : s.Stands (s.cfgerr b o) := by
  unfold State.cfgerr
  split_ifs
  · exact .refl s
  · exact s.stands_setFld _ _ _ hb (by decide)
  · exact (s.stands_setFld _ _ _ hb (by decide)).trans (State.stands_setFld _ _ _ _ hb (by decide))

theorem State.stands_raise (s : State) (id : Nat) : s.Stands (s.raise id) := ⟨rfl, rfl, rfl, fun _ _ => rfl⟩

theorem State.stands_lin (s : State) (l : Lin) : s.Stands { s with lin := l } := ⟨rfl, rfl, rfl, fun _ _ => rfl⟩

theorem State.stands_updFw (s : State) (f : Fw → Fw) : s.Stands (s.updFw f) := ⟨rfl, rfl, rfl, fun _ _ => rfl⟩

theorem State.mpuWin_lt {s : State} {b base pa n w : Nat} (h : s.mpuWin b base pa n = some w) : w < n := by
  induction n with
  | zero => cases h
  | succ n ih =>
    rw [State.mpuWin] at h
    split_ifs at h
    · cases h
      exact Nat.lt_succ_self _
    · exact (ih h).trans (Nat.lt_succ_self n)

theorem State.Stands.mpuWin {s u : State} (h : s.Stands u) (pa : Nat) {n : Nat} (hn : n ≤ 16) :
    u.mpuWin 0x100 0x1000 pa n = s.mpuWin 0x100 0x1000 pa n := by
  obtain ⟨-, heff, -, hreg⟩ := h
  induction n with
  | zero => rfl
  | succ n ih =>
    have hmatch : u.mpuMatch 0x100 0x1000 n pa = s.mpuMatch 0x100 0x1000 n pa := by
      unfold State.mpuMatch State.effFld State.effReg State.fld
      rw [heff]
      dsimp only
      rw [hreg _ (by omega)]
    rw [State.mpuWin, State.mpuWin, hmatch, ih (by omega)]

theorem State.Stands.lets {s u : State} (h : s.Stands u) (b o : Nat) : u.lets .cretal b o .write = s.lets .cretal b o .write := by
  obtain ⟨hsafe, -, -, hreg⟩ := id h
  have hstrict : u.mpuStrict .cretal = s.mpuStrict .cretal := by
    have hctl : u.fld (mpuAt .cretal).1 (mpuAt .cretal).2.2 0 0 = s.fld (mpuAt .cretal).1 (mpuAt .cretal).2.2 0 0 :=
      congrArg (bits · 0 0) (hreg 0x1100 (by omega))
    rw [State.mpuStrict, State.mpuStrict, State.mode_of_safe hsafe, hctl]
  have hdecide : u.mpuDecide .cretal (regAddr b o) .write true false .device = s.mpuDecide .cretal (regAddr b o) .write true false .device := by
    unfold State.mpuDecide
    dsimp only [mpuAt]
    rw [h.mpuWin _ (le_refl _)]
    cases hw : s.mpuWin 0x100 0x1000 (regAddr b o) 16 with
    | none =>
      have hexec : (Access.write == Access.exec) = false := rfl
      simp only [hstrict, hexec, Bool.false_and]
    | some w =>
      have := State.mpuWin_lt hw
      dsimp only
      rw [hreg _ (by omega)]
  simp only [State.lets, hdecide]

/-- A write of PWR_TILEt by Cretal. -/
theorem State.regWrite_pwrTile (s : State) (m : Master) {t : Nat} (data : Word) (ht : t < 32) :
    s.regWrite m 2 (0x100 + 4 * t) data = s.writePwrTile m t data := by
  have hsp : s.writeSpecial m 2 (0x100 + 4 * t) data = some (s.writePwrTile m t data) := by
    simp only [State.writeSpecial, blkOf]
    rw [if_neg (by omega), if_neg (by omega), if_pos (by omega), show (0x100 + 4 * t - 0x100) / 4 = t by omega]
  simp only [State.regWrite, hsp]
  rw [if_neg (by omega), if_neg (by omega), if_neg (by omega), if_neg (by omega)]

theorem State.stands_wakeTile (s : State) {t : Nat} (ht : t < 32) : s.Stands (s.wakeTile t) := by
  unfold State.wakeTile
  split_ifs
  · exact .refl s
  · exact State.stands_setFld (s.updPw _) _ _ _ (by decide) (by omega)

theorem State.withTwin_lt (s : State) {t x : Nat} (ht : t < 32) (hx : x ∈ s.withTwin t) : x < 32 := by
  have htwin : twinTile t < 2 ^ 5 := Nat.xor_lt_two_pow (by omega) (by decide)
  unfold State.withTwin at hx
  split_ifs at hx <;> simp at hx <;> omega

theorem State.mem_withTwin (s : State) (t : Nat) : t ∈ s.withTwin t := by
  unfold State.withTwin
  split_ifs <;> simp

/-- R531: a request for RUN, and one for OFF that a bound task refuses, change what the tile's own registers hold. -/
theorem State.stands_writePwrTile (s : State) (m : Master) {t : Nat} {data : Word} (ht : t < 32)
    (hdata : bits data 1 0 = 0 ∨ bits data 1 0 = 2 ∧ (s.tileEngines t).all Engine.allFree = false) : s.Stands (s.writePwrTile m t data) := by
  unfold State.writePwrTile
  split_ifs
  · exact .refl s
  · rcases hdata with h0 | ⟨h2, hbound⟩
    · simp only [h0]
      refine .foldl (s.stands_setFld _ _ _ (by decide) (by omega)) fun u hu x hx => ?_
      have hx32 := s.withTwin_lt ht hx
      exact hu.trans ((u.stands_setFld _ _ _ (by decide) (by omega)).trans (State.stands_wakeTile _ hx32))
    · have hnot : ¬(s.withTwin t).all (fun x => (s.tileEngines x).all Engine.allFree) = true := fun h =>
        absurd (List.all_eq_true.mp h t (s.mem_withTwin t)) (by simp [hbound])
      simp only [h2, if_neg hnot]
      exact (s.stands_setFld _ _ _ (by decide) (by omega)).trans (State.stands_cfgerr _ _ (by decide))

theorem State.stands_fwLog (s : State) (id unit : Nat) (data : Word) : s.Stands (s.fwLog id unit data) := ⟨rfl, rfl, rfl, fun _ _ => rfl⟩

/-- R549: where Cretal may write the power registers and every tile has a bound task, the tiles stay as they are. -/
theorem State.Stands.crossTiles {s u : State} (h : s.Stands u) (bad : Nat → Bool) (hlets : ∀ t, t < 32 → s.lets .cretal 2 (0x100 + 4 * t) .write = true)
    (hbound : ∀ t, t < 32 → (s.tileEngines t).all Engine.allFree = false) : s.Stands (u.crossTiles bad) := by
  have hwrite : ∀ u, s.Stands u → ∀ t, t < 32 → ∀ data : Word, bits data 1 0 = 0 ∨ bits data 1 0 = 2 →
      s.Stands (u.cretalWrite 2 (0x100 + 4 * t) data) := fun u hu t ht data hdata => by
    obtain ⟨-, -, heng, -⟩ := id hu
    have hb : (u.tileEngines t).all Engine.allFree = false := by
      simpa only [State.tileEngines, State.engine, heng] using hbound t ht
    rw [State.cretalWrite, admits_of _ _ _ _ _ ((hu.lets _ _).trans (hlets t ht)), State.regWrite_pwrTile _ _ _ ht]
    exact hu.trans (u.stands_writePwrTile _ ht (hdata.imp_right fun h => ⟨h, hb⟩))
  have hbits : ∀ a, bits (BitVec.ofNat 32 (a * 16)) 1 0 = 0 ∧ bits (BitVec.ofNat 32 (a * 16 + 2)) 1 0 = 2 := fun a => by
    simp only [bits, BitVec.toNat_ofNat, Nat.shiftRight_zero]
    omega
  refine .foldl (.foldl h fun u hu t ht => ?_) fun u hu t ht => ?_
  · exact hwrite u hu t (List.mem_range.mp ht) _ (.inr (hbits _).2)
  · dsimp only
    split_ifs
    · exact hu.trans (u.stands_fwLog _ _ _)
    · exact hwrite u hu t (List.mem_range.mp ht) _ (.inl (hbits _).1)

/-! ## CHECK of equal copies without errors -/

theorem State.linRead_clean (s : State) {chB : Bool} {i : Nat} (src master : Nat) (h : s.mem.err (alignDown (linKey chB i) 16) = 0) :
    s.linRead chB i src master = (some (s.linEntry chB i), s) := by
  simp [State.linRead, h]

/-- CHECK goes over the cells one by one, and finds nothing where the copies agree and hold no error (R99). -/
theorem State.linCheckAll_same {s : State} (hsame : ∀ i, s.linEntry false i = s.linEntry true i) (hclean : ∀ k, s.mem.err k = 0) :
    s.linCheckAll = s.linEnd 0 := by
  have hcell : ∀ c, s.linCompareCell c 0xA = ([], true, s) := fun c => by
    simp [State.linCompareCell, State.linRead_clean, hsame, hclean]
  have hfold : ∀ l : List Nat, l.foldl (fun (r : List Nat × State) c =>
      let t := r.2.linCompareCell c 0xA
      (r.1 ++ t.1, t.2.2)) ([], s) = ([], s) := fun l => by
    induction l with
    | nil => rfl
    | cons c l ih => simpa [hcell] using ih
  simp only [State.linCheckAll, hfold, List.isEmpty_nil, if_true]

/-- The LIN block as it takes a CHECK. -/
def State.linStart (s : State) : State :=
  { (((s.setFld 8 0x10 31 16 0).setFld 8 0x10 15 8 0).setFld 8 0x14 0 0 1) with
    lin := { s.lin with op := 7, idx := 0, found := 0, result := 0 } }

theorem State.stands_linStart (s : State) : s.Stands s.linStart := by
  have h1 := s.stands_setFld (b := 8) (o := 0x10) 31 16 0 (by decide) (by decide)
  have h2 := (s.setFld 8 0x10 31 16 0).stands_setFld (b := 8) (o := 0x10) 15 8 0 (by decide) (by decide)
  have h3 := ((s.setFld 8 0x10 31 16 0).setFld 8 0x10 15 8 0).stands_setFld (b := 8) (o := 0x14) 0 0 1 (by decide) (by decide)
  exact ((h1.trans h2).trans h3).trans (State.stands_lin _ _)

theorem State.linCmd_check {s : State} {m : Master} (hm : isMgmt m = true) (hbusy : s.fld 8 0x14 0 0 = 0) :
    s.linCmd m 7 0 0 = s.linStart.linCheckAll := by
  simp [State.linCmd, State.linStart, hm, hbusy]

/-- CHECK of equal copies without errors is done with OK. -/
theorem State.linCmd_check_same {s : State} {m : Master} (hm : isMgmt m = true) (hbusy : s.fld 8 0x14 0 0 = 0)
    (hsame : ∀ i, s.linEntry false i = s.linEntry true i) (hclean : ∀ k, s.mem.err k = 0) :
    let t := s.linCmd m 7 0 0
    t.lin.phase = .done ∧ t.lin.result = 0 ∧ t.lin.found = 0 ∧ t.lin.filled = s.lin.filled ∧ s.Stands t := by
  rw [State.linCmd_check hm hbusy, State.linCheckAll_same (s := s.linStart) hsame hclean]
  exact ⟨rfl, rfl, rfl, rfl, s.stands_linStart.trans (State.stands_lin _ _)⟩

theorem State.linComplete_ok {s : State} (hresult : s.lin.result = 0) (hfound : s.lin.found = 0) :
    s.linComplete.lin.filled = s.lin.filled ∧ s.Stands s.linComplete := by
  have h1 := s.stands_setFld (b := 8) (o := 0x14) 0 0 0 (by decide) (by decide)
  have h2 := (s.setFld 8 0x14 0 0 0).stands_setFld (b := 8) (o := 0x14) 11 8 0 (by decide) (by decide)
  have h3 := ((s.setFld 8 0x14 0 0 0).setFld 8 0x14 11 8 0).stands_setReg (b := 8) (o := 0x18) (s.linEntry false s.lin.idx) (by decide) (by decide)
  have h4 := ((h1.trans h2).trans h3).trans (State.stands_raise _ 1660)
  unfold State.linComplete
  rw [hresult, hfound]
  exact ⟨rfl, h4.trans (State.stands_lin _ _)⟩

/-! ## A refused request for START -/

theorem State.mpuCheck_cretal_safe (s : State) (pa : Nat) (acc : Access) (atK paired : Bool) (mt : MemType) (lvl src : Nat) :
    (s.mpuCheck .cretal pa acc atK paired mt lvl src).2.safe = s.safe := by
  unfold State.mpuCheck
  split
  · rfl
  · unfold State.mpuCapture
    dsimp only
    split_ifs <;> rfl

/-- R493: a write that Cretal's MPU refuses takes the device to SAFE, which clears START_OK. -/
theorem State.turned_cretal_startOk {s : State} (b o : Nat) (acc : Access) (hmode : s.mode ≠ .safe) :
    (s.turned .cretal b o acc).fld 6 0x30 0 0 = 0 := by
  unfold State.turned State.cretalRefused
  dsimp only
  generalize hu : (s.mpuCheck .cretal (regAddr b o) acc true false .device 3 0).2 = u
  have hsafe : (u.fwLog 0 0 (u.reg 0x100 0x110C)).mode ≠ .safe := by
    rw [State.mode_of_safe (s := s) (by rw [← hu]; exact s.mpuCheck_cretal_safe ..)]
    exact hmode
  rw [State.writeSafeMode_key (q := .safe) rfl (by decide) (by decide), if_pos ((State.modeAllowed_iff _ _ _).mpr (by simp [hsafe])),
    State.setMode_startOk, if_pos (.inl rfl)]

/-! ## A cross-check that loses START_OK -/

/-- TEST with everything START_OK asks for, but for the outcome of the tests, which is the free value of `n`: the LIN copies agree,
DRAM is trained and memory filled. Every tile has a bound task. Cretal's MPU has one region, the power registers: SAFE_MODE is outside. -/
def wShut (n : Nat) : State :=
  { State.reset with
    freeCtr := n, cretalReset := false, safe := { Safe.reset with modeA := .test, modeB := .test }, lin := { Lin.idle with filled := true }
    regs := [(regKey 0x0A 0x14, 2), (regKey 0x0B 0x14, 2)] ++ regionWords 0x100 0x1000 0x10020000 0x1002FFFF 0x80000230
    eff := regionWords 0x100 0x1000 0x10020000 0x1002FFFF 0x80000230
    eng := (List.range 32).map (fun t => (32 * t, { Engine.reset with slots := [(0, { Slot.free with st := .ready })] })) }

theorem wShut_stands (n k : Nat) : (wShut n).Stands (wShut k) := ⟨rfl, rfl, rfl, fun _ _ => rfl⟩

theorem wShut_lets (n : Nat) : (∀ t, t < 32 → (wShut n).lets .cretal 2 (0x100 + 4 * t) .write = true) ∧ (wShut n).lets .cretal 6 0x10 .write = false := by
  have h : (∀ t, t < 32 → (wShut 0).lets .cretal 2 (0x100 + 4 * t) .write = true) ∧ (wShut 0).lets .cretal 6 0x10 .write = false := by decide
  simpa only [(wShut_stands 0 n).lets] using h

theorem wShut_bound (n : Nat) : ∀ t, t < 32 → ((wShut n).tileEngines t).all Engine.allFree = false := by
  have h : ∀ t, t < 32 → ((wShut 0).tileEngines t).all Engine.allFree = false := by decide
  exact h

theorem wShut_trained (n : Nat) : (wShut n).fld 0x0A 0x14 1 1 = 1 ∧ (wShut n).fld 0x0B 0x14 1 1 = 1 := by
  have h : (wShut 0).fld 0x0A 0x14 1 1 = 1 ∧ (wShut 0).fld 0x0B 0x14 1 1 = 1 := by decide
  exact h

theorem wShut_linIdle (n : Nat) : (wShut n).fld 8 0x14 0 0 = 0 := by
  have h : (wShut 0).fld 8 0x14 0 0 = 0 := by decide
  exact h

/-- The cross-check of `wShut` with its tests passed: START_OK is due, and Cretal's MPU and the engines stand. -/
theorem wShut_cross {n : Nat} (htests : Config.testOutcome n = 0) :
    (wShut n).crossOk [] = true ∧ (wShut n).Stands ((wShut n).crossDone []) := by
  have hlin : (wShut n).crossLin = (wShut (n + 1)).linCmd .cretal 7 0 0 := by
    change (State.testFailed (wShut (n + 1)) (Config.testOutcome n)).linCmd .cretal 7 0 0 = _
    rw [htests]
    rfl
  obtain ⟨hphase, hresult, hfound, hfilled, hstands⟩ :=
    State.linCmd_check_same (m := .cretal) rfl (wShut_linIdle (n + 1)) (fun _ => rfl) (fun _ => rfl)
  rw [← hlin] at hphase hresult hfound hfilled hstands
  obtain ⟨hfilled', hstands'⟩ := State.linComplete_ok hresult hfound
  have hfill : (wShut n).crossFilled = (wShut n).crossLin.linComplete := by
    simp only [State.crossFilled, hphase, if_true]
    rw [if_pos (by rw [hfilled', hfilled]; rfl)]
  have hfilledStands : (wShut n).Stands (wShut n).crossFilled := by
    rw [hfill]
    exact ((wShut_stands n (n + 1)).trans hstands).trans hstands'
  refine ⟨?_, ?_⟩
  · have hfree : (wShut n).freeCtr = n := rfl
    simp [State.crossOk, hphase, hresult, wShut_trained, hfree, htests]
  · have htiles := hfilledStands.crossTiles
      (fun t => badLogic (Config.testOutcome (wShut n).freeCtr) t || ([] : List Nat).any (fun p => tileOf p == t || tileOf (twinOf p) == t))
      (wShut_lets n).1 (wShut_bound n)
    exact (htiles.trans (State.stands_setFld _ _ _ _ (by decide) (by decide))).trans (State.stands_updFw _ _)

/-- The cross-check of `wShut` with its tests passed ends without START_OK: Cretal's own request for START is refused. -/
theorem exec_channelCrossCheck_wShut {n : Nat} (htests : Config.testOutcome n = 0) :
    ∃ t, exec (.channelCrossCheck []) (wShut n) = .next t ∧ t.fld 6 0x30 0 0 = 0 := by
  obtain ⟨hok, hstands⟩ := wShut_cross htests
  have hlets := (hstands.lets 6 0x10).trans (wShut_lets n).2
  obtain ⟨hsafe, -⟩ := id hstands
  have hmode : ((wShut n).crossDone []).mode = .test := State.mode_of_safe hsafe
  refine ⟨_, exec_channelCrossCheck [] rfl rfl rfl, ?_⟩
  rw [if_pos (by rw [hok]; rfl), State.cretalWrite, admits_not _ _ _ _ _ hlets]
  exact State.turned_cretal_startOk _ _ _ (by rw [hmode]; decide)

/-! ## What the statement comes to -/

/-- `wShut` meets every hypothesis of the cross-check clause once its tests pass, and loses START_OK. -/
theorem testOutcome_ne_of_safetyState (h : Obligations.SafetyState) (n : Nat) : Config.testOutcome n ≠ 0 := fun htests => by
  unfold Obligations.SafetyState at h
  obtain ⟨-, -, -, -, -, -, -, -, hcross⟩ := h (wShut n) .cretal 0 [] .start 0 0 rfl
  obtain ⟨t, ht, hset, -⟩ := hcross rfl rfl rfl (wShut_linIdle n)
  obtain ⟨u, hu, hclear⟩ := exec_channelCrossCheck_wShut htests
  obtain ⟨htrainedA, htrainedB⟩ := wShut_trained n
  obtain rfl : t = u := by simpa [ht] using hu
  have := hset (fun _ _ => rfl) (fun _ _ => ⟨rfl, rfl⟩) ⟨htrainedA, htrainedB, by simp, htests⟩
  omega

/-- Why O44 stays open: it holds exactly if the free value `Config.testOutcome` never says that the tests passed, and a free value has no
equation that would decide that. With tests that never pass the cross-check clause asks for START_OK 0 alone. -/
theorem safetyState_iff : Obligations.SafetyState ↔ ∀ n, Config.testOutcome n ≠ 0 := by
  refine ⟨testOutcome_ne_of_safetyState, fun htests => ?_⟩
  unfold Obligations.SafetyState
  intro s m data failed q c e hm may code ok allowed key
  have hcode : code = q.code := by cases q <;> rfl
  refine ⟨fun hmay hkey hq => ?_, fun hkey => exec_safe_noKey hm hkey, fun i o hio hmay => ?_, fun i hi => ?_, fun hochre hkick => ?_,
    fun hmay hkey => ?_, fun hmay h1 h100 => ?_, fun hmay hc => ?_, fun hmode hreset hidle _ => ?_⟩
  · have hexec := exec_safeMode_key hm hmay hkey (hq.trans hcode)
    refine ⟨fun hallowed => ?_, fun hnot => ?_⟩
    · rw [if_pos ((s.modeAllowed_iff m q).mpr hallowed)] at hexec
      exact ⟨_, hexec, s.setMode_mode q, by rw [s.setMode_safe], by rw [s.setMode_safe], s.setMode_events q, s.setMode_startOk q, s.setMode_ochre q⟩
    · rw [hexec, if_neg fun h => hnot ((s.modeAllowed_iff m q).mp h)]
  · have hturn : ∀ f, s.admits m 6 o f = s.turned m 6 o .write := fun f => admits_not _ _ _ _ f (Bool.eq_false_iff.mpr hmay)
    simp only [List.mem_cons, List.not_mem_nil, or_false, Prod.mk.injEq] at hio
    rcases hio with ⟨rfl, rfl⟩ | ⟨rfl, rfl⟩ | ⟨rfl, rfl⟩ | ⟨rfl, rfl⟩ <;> exact congrArg Host.Outcome.next (hturn _)
  · simp only [List.mem_cons, List.not_mem_nil, or_false] at hi
    rcases hi with rfl | rfl | rfl | rfl <;> exact congrArg Host.Outcome.next (admits_engine_eq e _ _ rfl)
  · change Host.Outcome.next (if s.vermRun then _ else _) = _
    rw [if_pos (by simp [State.vermRun, hochre, hkick])]
    rfl
  · refine congrArg Host.Outcome.next ((admits_of _ _ _ _ _ hmay).trans ?_)
    change bits data 31 16 = 0x5AFE at hkey
    simp [State.writeSafeKick, hm, hkey, State.updSafe]
  · refine ⟨_, congrArg Host.Outcome.next (admits_of _ _ _ _ _ hmay), ?_⟩
    have hwrite : s.writeSafeKcfg m data = s.setFld 6 0x24 7 0 (bits data 7 0) := by simp [State.writeSafeKcfg, hm, h1, h100]
    rw [hwrite]
    exact ⟨State.fld_setFld_self _ _ _ (by decide) (by decide) (bits_lt data 7 0), rfl⟩
  · obtain ⟨hmode, hfld⟩ := s.writeSafePol_class data hm hc
    refine ⟨_, congrArg Host.Outcome.next (admits_of _ _ _ _ _ hmay), hmode, hfld.trans ?_⟩
    simp only [s.polBad_iff, polMin_eq]
  · obtain ⟨t, ht, hclear⟩ := exec_channelCrossCheck_failed failed hmode hreset hidle (htests s.freeCtr)
    exact ⟨t, ht, fun _ _ ⟨_, _, _, hpass⟩ => absurd hpass (htests _), fun _ => hclear, fun _ _ ⟨_, _, _, hpass⟩ => absurd hpass (htests _)⟩

end Sys2Proof.Machine
end

section
/-!
# Reset (02_capabilities R90, 11_pairing_safety R418, 14_cretal_mailboxes R511)
-/

namespace Sys2Proof.Machine

open Sys2Proof

/-- Settles O3: each field of the state after reset is what the rules ask, and its empty lists of memory read as the defaults. -/
theorem resetState : Obligations.ResetState := by
  unfold Obligations.ResetState
  refine ⟨⟨rfl, rfl, rfl, rfl, fun _ => ⟨rfl, rfl⟩, rfl, rfl, rfl, rfl, rfl, rfl⟩, Memory.wf_empty, fun _ => ⟨rfl, rfl⟩⟩

end Sys2Proof.Machine
end

section
/-!
# The capability instructions (02_capabilities, R67 to R81)

A lineage check that has its entry at hand changes nothing but the checks its engine holds, so the level and the registers that the later
tests of an instruction read are those it began with.
-/

namespace Sys2Proof.Machine

open Sys2Proof

/-! ## The fields of a cell made from its bits

Proved so that they rewrite: a defeq that compares two cells makes the kernel evaluate their bits. -/

theorem kind_mk (q : Quad) (k : Kind) : Cell.kind ⟨q, k⟩ = k := Eq.trans (b := k) rfl (Eq.refl _)
theorem capCursor_mk (q : Quad) (k : Kind) : capCursor ⟨q, k⟩ = bits q 55 0 := Eq.trans (b := bits q 55 0) rfl (Eq.refl _)
theorem capE_mk (q : Quad) (k : Kind) : capE ⟨q, k⟩ = bits q 61 56 := Eq.trans (b := bits q 61 56) rfl (Eq.refl _)
theorem capB_mk (q : Quad) (k : Kind) : capB ⟨q, k⟩ = bits q 75 62 := Eq.trans (b := bits q 75 62) rfl (Eq.refl _)
theorem capL_mk (q : Quad) (k : Kind) : capL ⟨q, k⟩ = bits q 89 76 := Eq.trans (b := bits q 89 76) rfl (Eq.refl _)
theorem capPerm_mk (q : Quad) (k : Kind) : capPerm ⟨q, k⟩ = bits q 99 90 := Eq.trans (b := bits q 99 90) rfl (Eq.refl _)
theorem capLin_mk (q : Quad) (k : Kind) : capLin ⟨q, k⟩ = bits q 115 100 := Eq.trans (b := bits q 115 100) rfl (Eq.refl _)
theorem capGen_mk (q : Quad) (k : Kind) : capGen ⟨q, k⟩ = bits q 119 116 := Eq.trans (b := bits q 119 116) rfl (Eq.refl _)
theorem capOtype_mk (q : Quad) (k : Kind) : capOtype ⟨q, k⟩ = bits q 127 120 := Eq.trans (b := bits q 127 120) rfl (Eq.refl _)
theorem capHas_mk (q : Quad) (k : Kind) (p : Perm) : capHas ⟨q, k⟩ p = q.getLsbD (90 + p.idx) :=
  Eq.trans (b := q.getLsbD (90 + p.idx)) rfl (Eq.refl _)

theorem capDecode_eq (c : Cell) : capDecode c = boundsOf (capE c) (capB c) (capL c) (capCursor c) := Eq.trans (b := capDecode c) rfl rfl

theorem capCursor_lt (c : Cell) : capCursor c < 2 ^ 56 := by
  have h := bits_lt c.bits 55 0
  rwa [Nat.sub_zero] at h

/-! ## The sources of a capability instruction -/

/-- What a lineage check that need not wait leaves (R102). -/
theorem linkOk_state {e : Nat} {c : Cell} {t u : State} {b : Bool} (h : (linkOk e c false).run t = .ok b u) :
    u = t ∨ ∃ p, u = t.updEngine e (fun x => { x with lchk := x.lchk ++ [p] }) := by
  simp only [linkOk] at h
  split at h
  · obtain ⟨-, rfl⟩ : _ ∧ t = u := by simpa using h
    exact .inl rfl
  · simp only [em_bind, em_get, Bool.false_eq_true, if_false] at h
    split at h
    · obtain ⟨-, rfl⟩ : _ ∧ t = u := by simpa using h
      exact .inl rfl
    · split at h
      · simp only [Bool.not_false, if_true, em_bind, em_modify, em_pure, EStateM.Result.ok.injEq] at h
        exact .inr ⟨_, h.2.symm⟩
      · simp [em_throw] at h

theorem linkOk_level {e : Nat} {c : Cell} {t u : State} {b : Bool} (h : (linkOk e c false).run t = .ok b u) :
    (u.engine e).level = (t.engine e).level := by
  rcases linkOk_state h with rfl | ⟨p, rfl⟩ <;> simp

theorem linkOk_chuck {e : Nat} {c : Cell} {t u : State} {b : Bool} (h : (linkOk e c false).run t = .ok b u) : u.chuck e = t.chuck e := by
  rcases linkOk_state h with rfl | ⟨p, rfl⟩
  · rfl
  · simp [State.chuck]

theorem getReg_run (e : Eid) (r : Reg) (t : State) : (getReg e.toNat r).run t = .ok (regOf t e r) t := rfl

/-- A sound capability passes tests 2 to 6 of Table 02-6. -/
theorem capSource_sound {e : Nat} {c : Cell} {t u : State} (hk : c.kind = .cap) (hm : capMalformed c = false)
    (hl : (linkOk e c false).run t = .ok true u) (val : Nat) (reg : Option Nat) (acc : Nat) :
    (capSource e c val reg acc false).run t = .ok () u := by
  simp [capSource, hk, hm, isCap, hl]

theorem capReg_of {t u : State} {e : Eid} {r : Reg} {c : Cell} (h : CapOp t u e r c) : (capReg e.toNat r).run t = .ok c u := by
  obtain ⟨hr, hk, hm, hl⟩ := h
  simp [capReg, getReg_run, hr, capSource_sound hk hm hl]

/-- R79 asks nothing of a lineage other than 0, nor of level K or Rest with SYS in PCC. -/
theorem rule79_of {t : State} {e : Nat} {c : Cell} (r : Reg)
    (h : capLin c ≠ 0 ∨ ((t.engine e).level ≠ .t ∧ capHas (t.chuck e).pcc .sys = true)) : (rule79 e c r).run t = .ok () t := by
  have h' : ¬(capLin c = 0 ∧ ((t.engine e).level = .t ∨ capHas (t.chuck e).pcc .sys = false)) := by
    rcases h with h | ⟨hlevel, hsys⟩ <;> simp [*]
  simp only [rule79, em_bind, em_get]
  rw [if_neg h', EStateM.run_pure]

/-! ## The field extractors (Table 02-2) -/

theorem extract_run {t : State} {e : Eid} {rs1 : Reg} {c : Cell} (f d : Cell → Nat) (rd : Reg) (hc : regOf t e rs1 = c) (hp : c.kind ≠ .poison) :
    (extract f d rd rs1 e.toNat).run t = .ok .seq (setI t e rd (BitVec.ofNat 64 (if c.kind = .cap ∨ c.kind = .sealed then f c else d c))) := by
  have hk : isCap c.kind = true ↔ c.kind = .cap ∨ c.kind = .sealed := by simp [isCap]
  simp only [extract, em_bind, getReg_run, hc, hk]
  rw [if_neg hp]
  simp only [em_bind, wint_run, em_pure]

theorem ckindBody_run {t : State} {e : Eid} {rs1 : Reg} {c : Cell} (rd : Reg) (hc : regOf t e rs1 = c) :
    (ckindBody rd rs1 e.toNat).run t = .ok .seq (setI t e rd (BitVec.ofNat 64 (kindCode c.kind))) := by
  simp only [ckindBody, em_bind, getReg_run, hc, wint_run, em_pure]

theorem lenBody_run {t : State} {e : Eid} {rs1 : Reg} {x : Dword} (f : Dword → Dword) (rd : Reg) (h : IntOp t e rs1 x) :
    (lenBody f rd rs1 e.toNat).run t = .ok .seq (setI t e rd (f x)) := by
  simp only [lenBody, em_bind, ival_of h, wint_run, em_pure]

/-! ## Cursor moves (R67) -/

theorem moveEnd_run {t u : State} {e : Eid} {rs1 : Reg} {c : Cell} (f : Nat → Nat → Nat) (rd : Reg) (y : Dword) (h : CapOp t u e rs1 c) :
    (moveEnd e.toNat rd rs1 f y).run t = .ok .seq (setR u e rd (cursorMove c (f (capCursor c) y.toNat))) := by
  simp [moveEnd, capReg_of h]

theorem moveBody_run {t u : State} {e : Eid} {rs1 rs2 : Reg} {c : Cell} {y : Dword} (f : Nat → Nat → Nat) (rd : Reg) (hy : IntOp t e rs2 y)
    (h : CapOp t u e rs1 c) :
    (moveBody f rd rs1 rs2 e.toNat).run t = .ok .seq (setR u e rd (cursorMove c (f (capCursor c) y.toNat))) := by
  simp [moveBody, ival_of hy, moveEnd_run f rd y h]

theorem setBits_mod {n : Nat} (x : BitVec n) (hi lo v : Nat) : setBits x hi lo (v % 2 ^ (hi + 1 - lo)) = setBits x hi lo v := by
  rw [setBits, Nat.mod_mod, setBits]

/-- A cursor counts modulo 2^56. -/
theorem cursorMove_mod (c : Cell) (a : Nat) : cursorMove c (a % 2 ^ 56) = cursorMove c a := by
  have hcur : withCursor c (a % 2 ^ 56) = withCursor c a := by rw [withCursor, setBits_mod _ 55 0 a, withCursor]
  rw [cursorMove, cursorMove, hcur, Nat.mod_mod]

/-- The offset of CMOVE.ADDI counts modulo 2^56. -/
theorem toNat_signExtend_mod (imm : BitVec 13) : (imm.signExtend 64).toNat % 2 ^ 56 = (imm.signExtend 56).toNat := by
  rw [← BitVec.toNat_setWidth]
  congr 1
  ext i hi
  have h64 : i < 64 := by omega
  simp [BitVec.getElem_signExtend, BitVec.getLsbD_eq_getElem h64]

/-! ## CNARROW (R68) -/

/-- R64 for an unsealed capability. -/
theorem capMalformed_cap {c : Cell} (hk : c.kind = .cap) :
    capMalformed c = false ↔ capE c ≤ 43 ∧ capL c ≤ 0x2000 ∧ capTop c ≤ 2 ^ 56 ∧ capOtype c = 0 := by
  simp only [capMalformed, hk, Bool.or_eq_false_iff, decide_eq_false_iff_not, Nat.not_lt, gt_iff_lt, and_assoc]
  simp

/-- A length of the address space fits in 14 bits above the exponent that Table 02-4 gives it. -/
theorem lenExp_fits {l : Nat} (h : l ≤ 2 ^ 56) : lenExp l ≤ 43 ∧ l ≤ 2 ^ (lenExp l + 13) := by
  by_cases hs : l ≤ 0x2000
  · simp [lenExp, hs]
  · have hlog : lenExp l = Nat.log2 (l - 1) + 1 - 13 := by
      rw [lenExp, if_neg hs, if_neg (by omega), ceilLog2, if_neg (by omega)]
    have hup : l - 1 < 2 ^ (Nat.log2 (l - 1) + 1) := Nat.lt_log2_self
    have hlo : 13 ≤ Nat.log2 (l - 1) := (Nat.le_log2 (by omega)).2 (by omega)
    have hhi : Nat.log2 (l - 1) < 56 := (Nat.log2_lt (by omega)).2 (by omega)
    have he : Nat.log2 (l - 1) + 1 - 13 + 13 = Nat.log2 (l - 1) + 1 := by omega
    rw [hlog, he]
    omega

theorem capEncode_eq {b l : Nat} (h : b + l ≤ 2 ^ 56) :
    capEncode b l = if lenExp l > 0 ∧ (b % 2 ^ lenExp l ≠ 0 ∨ l % 2 ^ lenExp l ≠ 0) then none
      else some (lenExp l, (b >>> lenExp l) % 0x4000, l >>> lenExp l) := by
  have hexp : lenExp l = if l ≤ 0x2000 then 0 else ceilLog2 l - 13 := by rw [lenExp, if_neg (by omega : ¬l > 2 ^ 56)]
  rw [capEncode, if_neg (by omega), hexp]

/-- What `capEncode` asks of the base and length it takes. -/
theorem capEncode_some {b l : Nat} (h : (capEncode b l).isSome = true) :
    capEncode b l = some (lenExp l, (b >>> lenExp l) % 0x4000, l >>> lenExp l) ∧ b % 2 ^ lenExp l = 0 ∧ l % 2 ^ lenExp l = 0 ∧
      b + l ≤ 2 ^ 56 := by
  have hfit : b + l ≤ 2 ^ 56 := by
    by_contra hfit
    rw [capEncode, if_pos (.inr (Nat.lt_of_not_le hfit))] at h
    cases h
  rw [capEncode_eq hfit] at h ⊢
  split at h
  · simp at h
  next hal =>
  rw [if_neg hal]
  by_cases he : lenExp l = 0
  · exact ⟨rfl, by rw [he, Nat.pow_zero, Nat.mod_one], by rw [he, Nat.pow_zero, Nat.mod_one], hfit⟩
  · refine ⟨rfl, ?_, ?_, hfit⟩ <;> · by_contra hne; exact hal ⟨by omega, by simp [hne]⟩

/-- Base and length that an encoding represents come back from it (R65). -/
theorem boundsOf_encoded {b l e : Nat} (hb : b < 2 ^ 56) (hbe : b % 2 ^ e = 0) (hle : l % 2 ^ e = 0) :
    boundsOf e ((b >>> e) % 0x4000) (l >>> e) b = (b, b + l) := by
  have hback : ∀ {n : Nat}, n % 2 ^ e = 0 → n / 2 ^ e * 2 ^ e = n := fun h => Nat.div_mul_cancel (Nat.dvd_of_mod_eq_zero h)
  have hd : (b / 2 ^ e + 0x4000 - b / 2 ^ e % 0x4000) % 0x4000 = 0 := by omega
  have hbase : (b / 2 ^ e + 2 ^ 56) * 2 ^ e % 2 ^ 56 = b := by
    rw [Nat.add_mul, hback hbe, Nat.add_mul_mod_self_left, Nat.mod_eq_of_lt hb]
  simp [boundsOf, Nat.shiftRight_eq_div_pow, Nat.shiftLeft_eq, hd, hback hle] at hbase ⊢
  exact hbase

/-- The capability that CNARROW derives for the length `l`: E, B and L encode it, and no other field differs. -/
def narrowed (c : Cell) (l : Nat) : Cell :=
  { c with bits := setBits (setBits (setBits c.bits 61 56 (lenExp l)) 75 62 ((capCursor c >>> lenExp l) % 0x4000)) 89 76 (l >>> lenExp l) }

theorem shiftRight_lenExp_le {l : Nat} (h : l ≤ 2 ^ 56) : l >>> lenExp l ≤ 0x2000 := by
  rw [Nat.shiftRight_eq_div_pow]
  exact Nat.div_le_of_le_mul ((lenExp_fits h).2.trans_eq (Nat.pow_add 2 _ 13))

theorem narrowed_kind (c : Cell) (l : Nat) : (narrowed c l).kind = c.kind := by rw [narrowed, kind_mk]

theorem narrowed_bounds (c : Cell) {l : Nat} (h : l ≤ 2 ^ 56) :
    capE (narrowed c l) = lenExp l ∧ capB (narrowed c l) = (capCursor c >>> lenExp l) % 0x4000 ∧ capL (narrowed c l) = l >>> lenExp l := by
  have he := (lenExp_fits h).1
  have hl := shiftRight_lenExp_le h
  refine ⟨?_, ?_, ?_⟩
  · rw [narrowed, capE_mk, bits_setBits_apart _ (by decide) (by decide) (by decide), bits_setBits_apart _ (by decide) (by decide) (by decide),
      bits_setBits_self _ (by decide) (by decide) (by omega)]
  · rw [narrowed, capB_mk, bits_setBits_apart _ (by decide) (by decide) (by decide), bits_setBits_self _ (by decide) (by decide) (by omega)]
  · rw [narrowed, capL_mk, bits_setBits_self _ (by decide) (by decide) (by omega)]

theorem narrowed_rest (c : Cell) (l : Nat) :
    capCursor (narrowed c l) = capCursor c ∧ capPerm (narrowed c l) = capPerm c ∧ capLin (narrowed c l) = capLin c ∧
      capGen (narrowed c l) = capGen c ∧ capOtype (narrowed c l) = capOtype c := by
  obtain ⟨q, k⟩ := c
  simp [narrowed, capCursor_mk, capPerm_mk, capLin_mk, capGen_mk, capOtype_mk, bits_setBits_apart]

/-- The bounds of `narrowed c l` are exactly the range from the cursor. -/
theorem capDecode_narrowed {c : Cell} {l : Nat} (h : (capEncode (capCursor c) l).isSome = true) :
    capDecode (narrowed c l) = (capCursor c, capCursor c + l) := by
  obtain ⟨-, hb, hl, hfit⟩ := capEncode_some h
  obtain ⟨hE, hB, hL⟩ := narrowed_bounds c (le_trans (Nat.le_add_left ..) hfit)
  obtain ⟨hC, -⟩ := narrowed_rest c l
  rw [capDecode_eq, hE, hB, hL, hC, boundsOf_encoded (capCursor_lt c) hb hl]

theorem capMalformed_narrowed {c : Cell} {l : Nat} (h : (capEncode (capCursor c) l).isSome = true) (hk : c.kind = .cap)
    (hm : capMalformed c = false) : capMalformed (narrowed c l) = false := by
  obtain ⟨-, -, -, hfit⟩ := capEncode_some h
  have hl : l ≤ 2 ^ 56 := le_trans (Nat.le_add_left ..) hfit
  obtain ⟨hE, -, hL⟩ := narrowed_bounds c hl
  obtain ⟨-, -, -, -, hO⟩ := narrowed_rest c l
  rw [capMalformed_cap hk] at hm
  obtain ⟨-, -, -, hotype⟩ := hm
  rw [capMalformed_cap ((narrowed_kind c l).trans hk), hE, hL, hO, capTop, capDecode_narrowed h]
  exact ⟨(lenExp_fits hl).1, shiftRight_lenExp_le hl, hfit, hotype⟩

theorem cnarrowBody_run {t u : State} {e : Eid} {rs1 rs2 : Reg} {c : Cell} {y : Dword} (rd : Reg) (hy : IntOp t e rs2 y)
    (hc : CapOp t u e rs1 c) (h79 : capLin c ≠ 0 ∨ ((u.engine e.toNat).level ≠ .t ∧ capHas (u.chuck e.toNat).pcc .sys = true))
    (henc : (capEncode (capCursor c) y.toNat).isSome = true) (hlo : capBase c ≤ capCursor c) (hhi : capCursor c + y.toNat ≤ capTop c) :
    (cnarrowBody rd rs1 rs2 e.toNat).run t = .ok .seq (setR u e rd (narrowed c y.toNat)) := by
  have hin : ¬(capCursor c < capBase c ∨ capTop c < capCursor c + y.toNat) := by omega
  simp [cnarrowBody, ival_of hy, capReg_of hc, rule79_of rs1 h79, (capEncode_some henc).1, hin, narrowed]

/-! ## CMASK, CSEAL and COPEN -/

/-- The capability that CMASK derives: PERM taken down to the permissions of `m`. -/
def masked (c : Cell) (m : Dword) : Cell := { c with bits := setBits c.bits 99 90 (Nat.land (capPerm c) (bits m 9 0)) }

theorem testBit_capPerm (c : Cell) (p : Perm) : (capPerm c).testBit p.idx = capHas c p := by
  have hp : p.idx < 10 := by cases p <;> decide
  simp [capPerm, testBit_bits, hp, capHas, bit]

theorem capHas_masked (c : Cell) (m : Dword) (p : Perm) : capHas (masked c m) p = (capHas c p && m.getLsbD p.idx) := by
  have hp : p.idx < 10 := by cases p <;> decide
  rw [masked, capHas_mk, getLsbD_setBits _ (by decide) (by decide), if_pos (by omega), Nat.add_sub_cancel_left]
  refine (Nat.testBit_and ..).trans ?_
  rw [testBit_capPerm, testBit_bits, Nat.zero_add, decide_eq_true (by omega), Bool.true_and]

theorem masked_rest (c : Cell) (m : Dword) :
    (masked c m).kind = c.kind ∧ capDecode (masked c m) = capDecode c ∧ capLin (masked c m) = capLin c ∧ capGen (masked c m) = capGen c := by
  obtain ⟨q, k⟩ := c
  simp [masked, kind_mk, capDecode_eq, capE_mk, capB_mk, capL_mk, capCursor_mk, capLin_mk, capGen_mk, bits_setBits_apart]

/-- The capability that CSEAL derives: sealed with the object type `o`. -/
def sealedAs (c : Cell) (o : Nat) : Cell := { bits := setBits c.bits 127 120 o, kind := .sealed }

theorem capOtype_sealedAs (c : Cell) {o : Nat} (h : o ≤ 0xFF) : capOtype (sealedAs c o) = o := by
  rw [sealedAs, capOtype_mk, bits_setBits_self _ (by decide) (by decide) (by omega)]

theorem sealedAs_rest (c : Cell) (o : Nat) :
    (sealedAs c o).kind = .sealed ∧ capDecode (sealedAs c o) = capDecode c ∧ capPerm (sealedAs c o) = capPerm c ∧
      capLin (sealedAs c o) = capLin c := by
  obtain ⟨q, k⟩ := c
  simp [sealedAs, kind_mk, capDecode_eq, capE_mk, capB_mk, capL_mk, capCursor_mk, capPerm_mk, capLin_mk, bits_setBits_apart]

/-- The capability that COPEN unseals: object type 0, GBL as given. -/
def opened (c : Cell) (gbl : Bool) : Cell := { bits := setBit (setBits c.bits 127 120 0) 99 gbl, kind := .cap }

theorem capHas_opened (c : Cell) (b : Bool) (p : Perm) : capHas (opened c b) p = if p = .gbl then b else capHas c p := by
  have hp : p.idx ≤ 9 := by cases p <;> decide
  have h99 : (99 ≤ 90 + p.idx ∧ 90 + p.idx ≤ 99) ↔ p = .gbl := by cases p <;> decide
  obtain ⟨q, k⟩ := c
  rw [opened, capHas_mk, setBit, getLsbD_setBits _ (by decide) (by decide), getLsbD_setBits _ (by decide) (by decide),
    if_neg (by omega : ¬(120 ≤ 90 + p.idx ∧ _)), capHas_mk]
  simp only [h99]
  split
  next h => rw [h]; cases b <;> rfl
  next => rfl

theorem opened_rest (c : Cell) (b : Bool) :
    (opened c b).kind = .cap ∧ capOtype (opened c b) = 0 ∧ capDecode (opened c b) = capDecode c := by
  have hO : capOtype (opened c b) = 0 := by
    rw [opened, setBit, capOtype_mk, bits_setBits_apart _ (by decide) (by decide) (by decide), bits_setBits_self _ (by decide) (by decide) (by decide)]
  obtain ⟨q, k⟩ := c
  refine ⟨by rw [opened, kind_mk], hO, ?_⟩
  simp [opened, setBit, capDecode_eq, capE_mk, capB_mk, capL_mk, capCursor_mk, bits_setBits_apart]

theorem inBounds_of {c : Cell} {a : Nat} (hlo : capBase c ≤ a) (hhi : a < capTop c) : inBounds c a = true := by simp [inBounds, hlo, hhi]

/-- R79's condition, which speaks of the state before the lineage check, stands after it. -/
theorem rule79_after {t u : State} {e : Nat} {c d : Cell} {b : Bool} (h : (linkOk e c false).run t = .ok b u)
    (h79 : capLin d ≠ 0 ∨ ((t.engine e).level ≠ .t ∧ capHas (t.chuck e).pcc .sys = true)) :
    capLin d ≠ 0 ∨ ((u.engine e).level ≠ .t ∧ capHas (u.chuck e).pcc .sys = true) := by
  rwa [linkOk_level h, linkOk_chuck h]

theorem cmaskBody_run {t u : State} {e : Eid} {rs1 rs2 : Reg} {c : Cell} {y : Dword} (rd : Reg) (hy : IntOp t e rs2 y)
    (hc : CapOp t u e rs1 c) (h79 : capLin c ≠ 0 ∨ ((u.engine e.toNat).level ≠ .t ∧ capHas (u.chuck e.toNat).pcc .sys = true)) :
    (cmaskBody rd rs1 rs2 e.toNat).run t =
      .ok .seq (setR u e rd (masked c y)) := by
  simp [cmaskBody, ival_of hy, capReg_of hc, rule79_of rs1 h79, masked]

theorem csealBody_run {t u v : State} {e : Eid} {rs1 rs2 : Reg} {c a : Cell} (rd : Reg) (hc : CapOp t u e rs1 c) (ha : CapOp u v e rs2 a)
    (h79 : capLin c ≠ 0 ∨ ((v.engine e.toNat).level ≠ .t ∧ capHas (v.chuck e.toNat).pcc .sys = true)) (hseal : capHas a .seal = true)
    (hlo : capBase a ≤ capCursor a) (hhi : capCursor a < capTop a) (h1 : 1 ≤ capCursor a) (hFF : capCursor a ≤ 0xFF)
    (hsys : 0xF0 ≤ capCursor a → capHas a .sys = true) :
    (csealBody rd rs1 rs2 e.toNat).run t = .ok .seq (setR v e rd (sealedAs c (capCursor a))) := by
  have hsys' : ¬((0xF0 ≤ capCursor a ∧ capCursor a ≤ 0xFF) ∧ capHas a .sys = false) := by
    rintro ⟨⟨h, -⟩, hno⟩
    simp [hsys h] at hno
  have hcur : ¬(capCursor a = 0 ∨ 0xFF < capCursor a) := by omega
  simp [csealBody, capReg_of hc, capReg_of ha, rule79_of rs1 h79, hseal, hsys', inBounds_of hlo hhi, hcur, sealedAs]

theorem sealedReg_of {t u : State} {e : Eid} {r : Reg} {c : Cell} (hr : regOf t e r = c) (hk : c.kind = .sealed) (hm : capMalformed c = false)
    (hl : (linkOk e.toNat c false).run t = .ok true u) : (sealedReg e.toNat r).run t = .ok c u := by
  simp [sealedReg, getReg_run, hr, hk, hm, isCap, hl]

theorem copenBody_run {t u v : State} {e : Eid} {rs1 rs2 : Reg} {c a : Cell} (rd : Reg) (hr : regOf t e rs1 = c) (hk : c.kind = .sealed)
    (hm : capMalformed c = false) (hl : (linkOk e.toNat c false).run t = .ok true u) (ha : CapOp u v e rs2 a)
    (h79 : capLin c ≠ 0 ∨ ((v.engine e.toNat).level ≠ .t ∧ capHas (v.chuck e.toNat).pcc .sys = true)) (huns : capHas a .unseal = true)
    (hcur : capCursor a = capOtype c) (hlo : capBase a ≤ capCursor a) (hhi : capCursor a < capTop a) :
    (copenBody rd rs1 rs2 e.toNat).run t = .ok .seq (setR v e rd (opened c (capHas c .gbl && capHas a .gbl))) := by
  have hin := inBounds_of hlo hhi
  rw [hcur] at hin
  simp [copenBody, sealedReg_of hr hk hm hl, capReg_of ha, rule79_of rs1 h79, huns, hcur, hin, opened]

/-! ## The tests of an access (Table 02-6) -/

theorem capTests_sound {t u : State} {e : Nat} {c : Cell} (hk : c.kind = .cap) (hm : capMalformed c = false)
    (hl : (linkOk e c false).run t = .ok true u) (a n : Nat) (need : List Perm) (reg : Option Nat) (acc : Nat) :
    (capTests e c a n need reg acc false).run t =
      if ∃ p ∈ need, capHas c p = false then .error (.exc { code := 6, val := a, reg := reg, acc := acc }) u
      else if a < capBase c ∨ capTop c < a + n then .error (.exc { code := 5, val := a, reg := reg, acc := acc }) u else .ok () u := by
  have hneed : (!need.all (capHas c)) = true ↔ ∃ p ∈ need, capHas c p = false := by simp
  simp only [capTests, em_bind, capSource_sound hk hm hl, hneed]
  split
  · rfl
  · split <;> rfl

/-- Test 3 of Table 02-6: an integer cell and a malformed capability. -/
theorem capSource_noCap {t : State} {e : Nat} {c : Cell} {val : Nat} {reg : Option Nat} {acc : Nat}
    (hk : c.kind = .raw ∨ c.kind = .int ∨ ((c.kind = .cap ∨ c.kind = .sealed) ∧ capMalformed c = true)) :
    (capSource e c val reg acc false).run t = .error (.exc { code := 4, val := val, reg := reg, acc := acc }) t := by
  rcases hk with hk | hk | ⟨hk | hk, hm⟩ <;> simp [capSource, isCap, *]

theorem capTests_source {t u : State} {e : Nat} {c : Cell} {a n : Nat} {need : List Perm} {reg : Option Nat} {acc : Nat} {b : Abort}
    (h : (capSource e c a reg acc false).run t = .error b u) : (capTests e c a n need reg acc false).run t = .error b u := by
  simp only [capTests, em_bind, h]

/-- Settles O13: each instruction's body has a lemma that says what it comes to, and the fields of what it derives are read off. -/
theorem capabilityInstructions : Obligations.CapabilityInstructions := by
  unfold Obligations.CapabilityInstructions
  refine ⟨fun s t u e g rd rs1 rs2 imm c y => ⟨fun h => ?_, fun hc => ⟨fun hy h => ?_, fun hy h => ?_, fun h => ?_⟩⟩,
    fun s t u v e g rd rs1 rs2 c a y h79 => ⟨fun hc hy h henc hlo hhi => ?_, fun hc hy h => ?_, fun hc ha h hseal hlo hhi h1 hFF hsys => ?_,
      fun hr hk hm hl ha h huns hcur hlo hhi => ?_⟩,
    fun s t e g rd rs1 c x hc => ⟨fun h => ?_, fun hp => ?_, fun hx => ⟨fun h => ?_, fun h => ?_⟩⟩,
    fun t u e c a n need reg acc => ⟨fun hk => ?_, fun hk => ?_, fun ⟨hk, hm⟩ => ?_, fun ⟨hk, hm, hl⟩ => ?_, fun ⟨hk, hm, hl⟩ hno => ?_,
      fun ⟨hk, hm, hl⟩ hall hout => ?_, fun ⟨hk, hm, hl⟩ hall hlo hhi => ?_⟩⟩
  · exact run1_ok h rfl
  · rw [cursorMove_mod]
    exact run1_ok h (moveBody_run _ rd hy hc)
  · rw [cursorMove_mod]
    exact run1_ok h (moveBody_run _ rd hy hc)
  · rw [cursorMove_mod, ← toNat_signExtend_mod, ← cursorMove_mod, Nat.add_mod_mod, cursorMove_mod]
    exact run1_ok (body := fun n => moveEnd n rd rs1 (· + ·) (imm.signExtend 64)) h (moveEnd_run _ rd _ hc)
  · obtain ⟨hC, hP, hI, hG, -⟩ := narrowed_rest c y.toNat
    have hdec := capDecode_narrowed henc
    obtain ⟨-, hk, hm, hl⟩ := id hc
    exact ⟨narrowed c y.toNat, run1_ok h (cnarrowBody_run rd hy hc (rule79_after hl h79) henc hlo hhi), (narrowed_kind c _).trans hk,
      capMalformed_narrowed henc hk hm, by rw [capBase, hdec], by rw [capTop, hdec], hC, hP, hI, hG⟩
  · obtain ⟨-, hk, -, hl⟩ := id hc
    obtain ⟨hkind, hD, hI, hG⟩ := masked_rest c y
    exact ⟨masked c y, run1_ok h (cmaskBody_run rd hy hc (rule79_after hl h79)), hkind.trans hk, hD, hI, hG, capHas_masked c y⟩
  · obtain ⟨-, -, -, hlc⟩ := id hc
    obtain ⟨-, -, -, hla⟩ := id ha
    obtain ⟨hkind, hD, hP, hI⟩ := sealedAs_rest c (capCursor a)
    exact ⟨_, run1_ok h (csealBody_run rd hc ha (rule79_after hla (rule79_after hlc h79)) hseal hlo hhi h1 hFF hsys), hkind,
      capOtype_sealedAs c hFF, hD, hP, hI⟩
  · obtain ⟨-, -, -, hla⟩ := id ha
    obtain ⟨hkind, hO, hD⟩ := opened_rest c (capHas c .gbl && capHas a .gbl)
    refine ⟨_, run1_ok h (copenBody_run rd hr hk hm hl ha (rule79_after hla (rule79_after hl h79)) huns hcur hlo hhi), hkind, hO, hD, ?_,
      fun p hp => ?_⟩
    · rw [capHas_opened, if_pos rfl]
    · rw [capHas_opened, if_neg hp]
  · exact run1_ok h (ckindBody_run rd hc)
  · exact ⟨fun h => run1_ok h (extract_run _ _ rd hc hp), fun h => run1_ok h (extract_run _ _ rd hc hp),
      fun h => run1_ok h (extract_run _ _ rd hc hp), fun h => run1_ok h (extract_run _ _ rd hc hp),
      fun h => (run1_ok h (extract_run _ _ rd hc hp)).trans (by rw [ite_self]), fun h => run1_ok h (extract_run _ _ rd hc hp)⟩
  · exact run1_ok h (lenBody_run clenR rd hx)
  · exact run1_ok h (lenBody_run clenM rd hx)
  · exact capTests_source (by simp [capSource, hk])
  · exact capTests_source (capSource_noCap hk)
  · exact capTests_source (by simp [capSource, hk, hm, isCap])
  · exact capTests_source (by simp [capSource, hk, hm, isCap, hl])
  · exact (capTests_sound hk hm hl ..).trans (if_pos hno)
  · exact (capTests_sound hk hm hl ..).trans ((if_neg (by simpa using hall)).trans (if_pos hout))
  · exact (capTests_sound hk hm hl ..).trans ((if_neg (by simpa using hall)).trans (if_neg (by omega)))

end Sys2Proof.Machine
end

section
/-!
# Stores (03_isa_core R140 to R147, 05_engine_pipeline R206)

`Obligations.Stores` speaks of every state, so also of one whose TLB holds a page at an unaligned physical base. A walk installs no such
entry (`State.leafOf` aligns the base), but the statement does not ask for one that a walk made. Under it an aligned store of 4 bytes meets a
physical address in the last byte of a cell, and the merge into that cell drops what lies past its end.
-/

namespace Sys2Proof.Machine

open Sys2Proof

/-! ## What leaves memory as it was -/

theorem ite_mem (c : Prop) [Decidable c] (s t : State) : (if c then s else t).mem = if c then s.mem else t.mem := apply_ite _ _ _ _

theorem foldl_mem {α : Type} (f : State → α → State) (hf : ∀ s a, (f s a).mem = s.mem) (l : List α) (s : State) : (l.foldl f s).mem = s.mem := by
  induction l generalizing s with
  | nil => rfl
  | cons a l ih => exact (ih _).trans (hf s a)

@[simp] theorem State.setMode_mem (s : State) (m : Mode) : (s.setMode m).mem = s.mem := by simp [State.setMode, ite_mem]
@[simp] theorem State.react_mem (s : State) (cls unit : Nat) : (s.react cls unit).mem = s.mem := by simp [State.react, ite_mem]
@[simp] theorem State.stopEngine_mem (s : State) (e orig : Nat) (val : Dword) : (s.stopEngine e orig val).mem = s.mem := by
  simp [State.stopEngine, ite_mem]
@[simp] theorem State.dropActs_mem (s : State) (p : Nat) : (s.dropActs p).mem = s.mem := by simp [State.dropActs]
@[simp] theorem State.captureDiv_mem (s : State) (p reason cnt : Nat) (a b : Word) : (s.captureDiv p reason cnt a b).mem = s.mem := by
  simp [State.captureDiv, ite_mem]
@[simp] theorem State.diverge_mem (s : State) (p reason cnt : Nat) (a b : Word) : (s.diverge p reason cnt a b).mem = s.mem := by
  simp [State.diverge]
@[simp] theorem State.divergeAt_mem (s : State) (p reason cnt : Nat) : (s.divergeAt p reason cnt).mem = s.mem := by
  simp [State.divergeAt, ite_mem]
@[simp] theorem State.addPoint_mem (s : State) (p : Nat) (kind : PointKind) : (s.addPoint p kind).mem = s.mem := by simp [State.addPoint]
@[simp] theorem State.sigTake_mem (s : State) (e : Nat) (l : List Byte) : (s.sigTake e l).mem = s.mem := by simp [State.sigTake, ite_mem]
@[simp] theorem State.perf_mem (s : State) (e code : Nat) : (s.perf e code).mem = s.mem := by simp [State.perf]
@[simp] theorem State.tracePut_mem (s : State) (k ty : Nat) (body : List Byte) : (s.tracePut k ty body).mem = s.mem := by
  simp [State.tracePut, State.now, ite_mem]
@[simp] theorem State.traceEv_mem (s : State) (e ty : Nat) (body : List Byte) : (s.traceEv e ty body).mem = s.mem := by
  rw [State.traceEv, ite_mem, foldl_mem _ (fun t k => by simp [ite_mem]), ite_self]
@[simp] theorem State.flow_mem (s : State) (e target : Nat) : (s.flow e target).mem = s.mem := by simp [State.flow]
@[simp] theorem State.haltEngine_mem (s : State) (e reason : Nat) (bp : Option Nat) : (s.haltEngine e reason bp).mem = s.mem := by
  simp [State.haltEngine, ite_mem]
@[simp] theorem State.commitPair_mem (s : State) (e : Nat) : (s.commitPair e).mem = s.mem := by
  unfold State.commitPair
  dsimp only
  split <;> simp [ite_mem]
@[simp] theorem State.commit_mem (s : State) (e : Nat) : (s.commit e).mem = s.mem := by simp [State.commit, ite_mem]
@[simp] theorem State.advance_mem (s : State) (e : Nat) : (s.advance e).mem = s.mem := by
  unfold State.advance
  dsimp only
  split <;> simp

/-- A commit in sequence writes no memory. -/
@[simp] theorem State.retire_seq_mem (s : State) (e : Nat) : (s.retire e .seq).mem = s.mem := by simp [State.retire]

/-! ## A store through a page at an unaligned base -/

/-- The capability of the code: all of memory, every permission, at address 0. -/
def skewCode : Cell := { bits := capImage 0 0 0 0x3FF 0x2000 0 43 0, kind := .cap }
/-- The capability of the data: all of memory, at 0x1800. -/
def skewData : Cell := { bits := capImage 0 0 0 0x3FF 0x2000 0 43 0x1800, kind := .cap }
/-- The DEVICE page that the TLB holds for the first 16 KiB, at the physical base 15. -/
def skewPage : TlbEntry :=
  { half := false, vbase := 0, shift := 14, asid := 0, g := true, u := false, xt := false, xk := true, w := true, df := true, mt := .device, pbase := 15 }
/-- STW c3 at 0 from c1. -/
def skewWord : Word := encI 0 0x1A 3 1 0
/-- Engine 0 at level K about to execute `skewWord`. -/
def skewEngine : Engine :=
  { Engine.reset with
    held := false, level := .k, cur := 7, sys := [(0x10A, 0x12)], tlb := [skewPage]
    chucks := [(7, { Chuck.empty with pcc := skewCode, regs := [(1, skewData), (3, intCell 0xF5F6F7F8)] })]
    l1i := [.filled 0 [{ bits := skewWord.setWidth 128, tag := 0 }]] }
/-- The device in RUN with tile 0 running. -/
def skewState : State :=
  { State.reset with
    eng := [(0, skewEngine)], regs := Map.put 0x10 State.reset.regs (regKey 2 0x100), safe := { Safe.reset with modeA := .run, modeB := .run } }

/-- Does a computation answer `v` from `s` and leave `s` as it was. -/
def gives {α : Type} [DecidableEq α] (x : EM α) (s : State) (v : α) : Bool :=
  match x.run s with
  | .ok a t => decide (a = v ∧ t = s)
  | .error _ _ => false

theorem run_of_gives {α : Type} [DecidableEq α] {x : EM α} {s : State} {v : α} (h : gives x s v = true) : x.run s = .ok v s := by
  unfold gives at h
  split at h
  next a t hx =>
    obtain ⟨rfl, rfl⟩ := of_decide_eq_true h
    exact hx
  next => cases h

theorem skewState_runs : Runs skewState 0 skewWord skewState where
  ready := by decide +kernel
  free := by decide +kernel
  go := by decide +kernel
  fetched := run_of_gives (by decide +kernel)
  decoded := run_of_gives (v := ()) (by decide +kernel)
  guarded := by decide +kernel

theorem skewState_reaches : Reaches skewState skewState 0 1 skewData 0x1800 4 true false (pure ()) 0x180F .device := by
  refine ⟨run_of_gives (by decide +kernel), by decide +kernel, fun b o h => ?_⟩
  have hcluster : skewState.region 0x180F = .cluster 0 := by decide +kernel
  rw [hcluster] at h
  cases h

/-- The byte past the end of the cell is not written. -/
theorem exec_stw_skew : ∃ t, exec (.stw 0 0 3 1 0) skewState = .next t ∧ t.mem.byte 0x1810 = 0 := by
  refine ⟨_, rfl, ?_⟩
  decide +kernel

/-- Refutes O18: in `skewState` a store of 4 bytes on a DEVICE page meets physical address 0x180F, and retires with its first byte alone in
memory, where the statement asks for all four (R145 aligns the virtual address; the page's base is not aligned). -/
theorem not_stores : ¬ Obligations.Stores := by
  unfold Obligations.Stores
  rintro ⟨h, -⟩
  obtain ⟨h, -⟩ := h skewState skewState skewState skewState 0 0 3 1 0 skewData (intCell 0xF5F6F7F8) .raw 0x180F .device
    (by decide +kernel) (by decide +kernel)
  have hcompletes := h (.stw, 0x1A, 4) (by simp) 0 skewState_runs
  have haddr : (capCursor skewData + ((0 : BitVec 13).signExtend 56).toNat) % 2 ^ 56 = 0x1800 := by decide +kernel
  rw [haddr] at hcompletes
  obtain ⟨-, hdevice, -⟩ := hcompletes skewState_reaches ⟨.inr rfl, rfl⟩
  obtain ⟨x, hretires, -, -, hbytes, -⟩ := hdevice rfl (by decide +kernel) (by decide +kernel) (by decide +kernel) (by decide +kernel)
  obtain ⟨t, ht, hzero⟩ := exec_stw_skew
  have hmem : t.mem = x.mem := by
    obtain rfl : t = x.retire 0 .seq := Host.Outcome.next.inj (ht.symm.trans hretires)
    exact x.retire_seq_mem 0
  have hkey : keyOf (0 : Eid).toNat 0x180F + 1 = 0x1810 := by decide
  have hdata : BitVec.ofNat 8 ((intCell 0xF5F6F7F8).bits.toNat % 2 ^ (8 * 4) / 2 ^ (8 * 1)) = 0xF7 := by decide
  have hbyte := hbytes 1 (by decide)
  rw [hkey, hdata, ← hmem, hzero] at hbyte
  cases hbyte

end Sys2Proof.Machine
end

section
/-!
# The debug port (16_debug, R553 to R563)

A DBGACC command is a condition on the scope, an access, and the result that the next capture shows. Each access has its cases here; what a
result shows and leaves is said once.
-/

namespace Sys2Proof.Machine

open Sys2Proof

/-! ## Cells without an error -/

theorem errWeight_zero : errWeight 0 = (0, 0) := by decide

/-- A cell whose codeword holds no error reads as it is, and the read changes nothing (R370). -/
theorem State.readCell_clean (s : State) {key : Nat} (pa src master : Nat) (h : s.mem.err (alignDown key 16) = 0) :
    s.readCell key pa src master = (some (s.mem.cell key), s) := by
  have hdecode : s.decode key = (.clean (s.mem.cell key), s) := by
    simp only [State.decode, h, decodeErr, errWeight_zero]
    rfl
  rw [State.readCell, hdecode, ite_self]

/-- A part store to a sound cell (R58). -/
theorem State.mergeCell_clean (s : State) {key : Nat} (pa n v src master : Nat) (h : s.mem.err (alignDown key 16) = 0) :
    s.mergeCell key pa n v src master =
      (true, s.writeCell key { bits := mergeBytes (s.mem.cell key).bits (key % 16) n v, tag := 0 }) := by
  rw [State.mergeCell, s.readCell_clean pa src master h]

/-! ## Words of a cell -/

theorem ofNat_shift (q : Quad) (k : Nat) : BitVec.ofNat 32 (q.toNat >>> k) = BitVec.ofNat 32 (q.toNat / 2 ^ k % 2 ^ (8 * 4)) := by
  rw [Nat.shiftRight_eq_div_pow]
  exact BitVec.eq_of_toNat_eq (by rw [BitVec.toNat_ofNat, BitVec.toNat_ofNat, Nat.mod_mod])

/-- The four bytes of a cell at an address. -/
theorem ofNat_shift_partOf (q : Quad) {a k : Nat} (h : k % 16 = a % 16) :
    BitVec.ofNat 32 (q.toNat >>> (8 * (k % 16))) = BitVec.ofNat 32 (partOf q a 4) := by rw [ofNat_shift, partOf, h]

/-- A word of a register's cell as the debug port reads it. -/
theorem ofNat_cellWord (c : Cell) (j : Nat) :
    BitVec.ofNat 32 (cellWord c j) = BitVec.ofNat 32 (if j = 4 then kindCode c.kind else bits c.bits (32 * j + 31) (32 * j)) := by
  have h32 : 32 * j + 31 + 1 - 32 * j = 32 := by omega
  unfold cellWord
  split
  · rfl
  · rw [bits, h32]
    exact BitVec.eq_of_toNat_eq (by rw [BitVec.toNat_ofNat, BitVec.toNat_ofNat, Nat.mod_mod])

theorem privKey_mod (e o : Nat) : privKey e o % 16 = o % 16 := by
  unfold privKey
  omega

/-- The engine-private window starts at a multiple of 16 and is 8 KiB long (R41). -/
theorem State.region_priv {s : State} {a o : Nat} (h : s.region a = .priv o) : o < 0x2000 ∧ o % 16 = a % 16 := by
  unfold State.region at h
  repeat' split at h
  all_goals simp only [Region.priv.injEq, reduceCtorEq] at h
  omega

/-! ## Results (Table 16-4) -/

/-- What the next capture shows. -/
def Shows (u : State) (st n : Nat) (d : Word) : Prop := u.jtag.status = st ∧ u.jtag.addr = n ∧ u.jtag.data = d ∧ u.jtag.busy = none

/-- `u` differs from `t` in the port alone. -/
def PortOnly (u t : State) : Prop := { u with jtag := t.jtag } = t

theorem State.dbgResult_shows (t : State) (st : Nat) (a : BitVec 44) (d : Option Word) :
    Shows (t.dbgResult st a d) st a.toNat (d.getD t.jtag.data) := ⟨rfl, rfl, rfl, rfl⟩

theorem State.dbgResult_portOnly (t : State) (st : Nat) (a : BitVec 44) (d : Option Word) : PortOnly (t.dbgResult st a d) t := by
  cases t
  rfl

section
variable {s t : State} {a : BitVec 44} {st : Nat} {d w : Word}

theorem perform_busRead (hs : s.busScope a.toNat false = true) (h : s.busRead a.toNat = (st, d, t)) :
    s.dbgPerform (.busRead a.toNat) = t.dbgResult st a (some d) := by simp [State.dbgPerform, hs, h]

theorem perform_kind (hs : s.inScope 1 = true) (h : s.kindRead a.toNat = (st, d, t)) :
    s.dbgPerform (.kind a.toNat) = t.dbgResult st a (some d) := by simp [State.dbgPerform, hs, h]

theorem perform_stateRead (hs : s.inScope 5 = true) (h : s.stateRead a = (st, d, t)) :
    s.dbgPerform (.stateRead a.toNat) = t.dbgResult st a (some d) := by simp [State.dbgPerform, hs, h]

theorem perform_busWrite (hs : s.busScope a.toNat true = true) (h : s.busWrite a.toNat w = (st, t)) :
    s.dbgPerform (.busWrite a.toNat w) = t.dbgResult st a none := by simp [State.dbgPerform, hs, h]

theorem perform_stateWrite (hs : s.inScope 6 = true) (h : s.stateWrite a w = (st, t)) :
    s.dbgPerform (.stateWrite a.toNat w) = t.dbgResult st a none := by simp [State.dbgPerform, hs, h]

end

/-- Without its scope a command is NOTOPEN and has no effect (R553). -/
theorem perform_notOpen (s : State) (a : BitVec 44) (w : Word) :
    (¬s.busScope a.toNat false = true → s.dbgPerform (.busRead a.toNat) = s.dbgResult 4 a none) ∧
    (¬s.busScope a.toNat true = true → s.dbgPerform (.busWrite a.toNat w) = s.dbgResult 4 a none) ∧
    (s.inScope 1 = false → s.dbgPerform (.kind a.toNat) = s.dbgResult 4 a none) ∧
    (s.inScope 5 = false → s.dbgPerform (.stateRead a.toNat) = s.dbgResult 4 a none) ∧
    (s.inScope 6 = false → s.dbgPerform (.stateWrite a.toNat w) = s.dbgResult 4 a none) := by
  refine ⟨fun h => ?_, fun h => ?_, fun h => ?_, fun h => ?_, fun h => ?_⟩ <;> simp [State.dbgPerform, h]

/-! ## Bus accesses (R556 to R558) -/

/-- The bytes at `n` are those of a sound cell of cluster memory or DRAM, outside the xSPI window. -/
structure State.PlainAt (s : State) (n : Nat) : Prop where
  open_ : s.guarded n = false
  word : n % 4 = 0
  memory : (∃ c, s.region n = .cluster c) ∨ ∃ h, s.region n = .dram h
  sound : s.mem.err (alignDown n 16) = 0

section
variable {s : State} {n : Nat} {w : Word}

theorem State.busRead_guarded (h : s.guarded n = true) : s.busRead n = (1, 0, s) := by rw [State.busRead, if_pos h]

theorem State.busRead_misaligned (h : s.guarded n = false) (hn : n % 4 ≠ 0) : s.busRead n = (6, 0, s) := by
  rw [State.busRead, if_neg (by rw [h]; decide), if_pos hn]

theorem State.busRead_none (h : s.guarded n = false) (hr : s.region n = .none) : s.busRead n = (6, 0, s) := by
  rw [State.busRead, if_neg (by rw [h]; decide), hr, ite_self]

theorem State.dbgLoad_clean {key pa : Nat} (hk : key % 16 = pa % 16) (he : s.mem.err (alignDown key 16) = 0) :
    s.dbgLoad key pa = (0, BitVec.ofNat 32 (partOf (s.mem.cell key).bits pa 4), s) := by
  rw [State.dbgLoad, s.readCell_clean _ _ _ he]
  exact congrArg (fun d => (0, d, s)) (ofNat_shift_partOf _ hk)

theorem State.busRead_plain (h : s.PlainAt n) : s.busRead n = (0, BitVec.ofNat 32 (partOf (s.mem.cell n).bits n 4), s) := by
  obtain ⟨hg, hn, hr, he⟩ := h
  rw [State.busRead, if_neg (by rw [hg]; decide), if_neg (by omega)]
  rcases hr with ⟨c, hr⟩ | ⟨c, hr⟩ <;> rw [hr] <;> exact State.dbgLoad_clean rfl he

theorem State.busRead_priv {o : Nat} (h : s.guarded n = false) (hn : n % 4 = 0) (hr : s.region n = .priv o)
    (he : s.mem.err (alignDown (privKey s.dbgSel o) 16) = 0) :
    s.busRead n = (0, BitVec.ofNat 32 (partOf (s.mem.cell (privKey s.dbgSel o)).bits n 4), s) := by
  obtain ⟨ho, hmod⟩ := State.region_priv hr
  rw [State.busRead, if_neg (by rw [h]; decide), if_neg (by omega), hr]
  dsimp only
  rw [if_pos ho, State.dbgLoad_clean ((privKey_mod _ _).trans hmod) he]

theorem State.busRead_regs {b o : Nat} (h : s.guarded n = false) (hn : n % 4 = 0) (hr : s.region n = .regs b o) (hb : blkOf b ≠ none) :
    s.busRead n = (0, (s.regRead .debug b o).1, (s.regRead .debug b o).2) := by
  rw [State.busRead, if_neg (by rw [h]; decide), if_neg (by omega), hr]
  dsimp only
  rw [if_neg (by simpa using hb)]

theorem State.busWrite_guarded (h : s.guarded n = true) : s.busWrite n w = (1, s.raise 1921) := by rw [State.busWrite, if_pos h]

theorem State.busWrite_refused (h : s.guarded n = false)
    (hr : s.region n = .xspi ∨ s.region n = .none ∨ (∃ c i, s.region n = .lin c i) ∨ n % 4 ≠ 0) : s.busWrite n w = (6, s) := by
  rw [State.busWrite, if_neg (by rw [h]; decide)]
  by_cases hn : n % 4 = 0
  · rw [if_neg (by omega)]
    rcases hr with hr | hr | ⟨c, i, hr⟩ | hr
    · rw [hr]
    · rw [hr]
    · rw [hr]
    · exact absurd hn hr
  · rw [if_pos hn]

theorem State.dbgStore_clean {key pa : Nat} (hk : key % 16 = pa % 16) (he : s.mem.err (alignDown key 16) = 0) :
    s.dbgStore key pa w = (0, s.writeCell key { bits := mergeBytes (s.mem.cell key).bits (pa % 16) 4 w.toNat, tag := 0 }) := by
  rw [State.dbgStore, s.mergeCell_clean _ _ _ _ _ he, hk]

theorem State.busWrite_plain (h : s.PlainAt n) :
    s.busWrite n w = (0, s.writeCell n { bits := mergeBytes (s.mem.cell n).bits (n % 16) 4 w.toNat, tag := 0 }) := by
  obtain ⟨hg, hn, hr, he⟩ := h
  rw [State.busWrite, if_neg (by rw [hg]; decide), if_neg (by omega)]
  rcases hr with ⟨c, hr⟩ | ⟨c, hr⟩ <;> rw [hr] <;> exact State.dbgStore_clean rfl he

theorem State.busWrite_priv {o : Nat} (h : s.guarded n = false) (hn : n % 4 = 0) (hr : s.region n = .priv o)
    (he : s.mem.err (alignDown (privKey s.dbgSel o) 16) = 0) :
    s.busWrite n w = (0, s.writeCell (privKey s.dbgSel o)
      { bits := mergeBytes (s.mem.cell (privKey s.dbgSel o)).bits (n % 16) 4 w.toNat, tag := 0 }) := by
  obtain ⟨ho, hmod⟩ := State.region_priv hr
  rw [State.busWrite, if_neg (by rw [h]; decide), if_neg (by omega), hr]
  dsimp only
  rw [if_pos ho, State.dbgStore_clean ((privKey_mod _ _).trans hmod) he]

theorem State.busWrite_regs {b o : Nat} (h : s.guarded n = false) (hn : n % 4 = 0) (hr : s.region n = .regs b o) (hb : blkOf b ≠ none) :
    s.busWrite n w = if b = 0x1E ∧ o = 0x10 then (1, s.raise 1921) else (0, s.regWrite .debug b o w) := by
  rw [State.busWrite, if_neg (by rw [h]; decide), if_neg (by omega), hr]
  dsimp only
  rw [if_neg (by simpa using hb)]

theorem State.kindRead_guarded (h : s.guarded n = true) : s.kindRead n = (1, 0, s) := by rw [State.kindRead, if_pos h]

theorem State.kindRead_plain {k : Kind} (h : s.PlainAt n) (hk : kindOfTag (s.mem.cell n).tag = some k) :
    s.kindRead n = (0, BitVec.ofNat 32 (kindCode k), s) := by
  obtain ⟨hg, -, hr, he⟩ := h
  rw [State.kindRead, if_neg (by rw [hg]; decide)]
  rcases hr with ⟨c, hr⟩ | ⟨c, hr⟩ <;> · simp only [hr, s.readCell_clean _ _ _ he, hk]

/-! ## Engine state (R563) -/

theorem State.stateRead_none {a : BitVec 44} (h : dbgRegOf a = none) : s.stateRead a = (5, 0, s) := by rw [State.stateRead, h]

theorem State.stateRead_running {a : BitVec 44} {p : DbgReg × Nat} (h : dbgRegOf a = some p) (hr : s.dbgReady = false) :
    s.stateRead a = (3, 0, s) := by simp [State.stateRead, h, hr]

theorem State.stateRead_cell {a : BitVec 44} {c r j : Nat} (h : dbgRegOf a = some (.cell c r, j)) (hr : s.dbgReady = true) :
    s.stateRead a = (0, BitVec.ofNat 32 (cellWord ((s.chuckAt s.dbgSel c).reg r) j), s) := by simp [State.stateRead, State.dbgGet, h, hr]

theorem State.stateWrite_none {a : BitVec 44} (h : dbgRegOf a = none) : s.stateWrite a w = (5, s) := by rw [State.stateWrite, h]

theorem State.stateWrite_running {a : BitVec 44} {p : DbgReg × Nat} (h : dbgRegOf a = some p) (hr : s.dbgReady = false) :
    s.stateWrite a w = (3, s) := by simp [State.stateWrite, h, hr]

theorem State.stateWrite_denied {a : BitVec 44} {c r j : Nat} (h : dbgRegOf a = some (.cell c r, j)) (hr : s.dbgReady = true) (h0 : r ≠ 0)
    (hput : cellPut ((s.chuckAt s.dbgSel c).reg r) j w = none) : s.stateWrite a w = (1, s.raise 1921) := by
  simp [State.stateWrite, State.dbgPut, h, hr, h0, hput]

/-- A cell register of an engine, written by the port. -/
theorem State.dbgPut_cell {t : State} {e c r j : Nat} (hput : ∀ k, ∃ d, cellPut k j w = some d) :
    ∃ u, t.dbgPut e (.cell c r) j w = some u ∧ u.mem = t.mem ∧ u.jtag = t.jtag ∧ (∀ i, i ≠ e → u.engine i = t.engine i) ∧
      (u.chuckAt e c).reg 0 = (t.chuckAt e c).reg 0 ∧
      ∀ d, r ≠ 0 → cellPut ((t.chuckAt e c).reg r) j w = some d → (u.chuckAt e c).reg r = d := by
  by_cases h0 : r = 0
  · exact ⟨t, by rw [State.dbgPut, if_pos h0], rfl, rfl, fun _ _ => rfl, rfl, fun _ h _ => absurd h0 h⟩
  · obtain ⟨d, hd⟩ := hput ((t.chuckAt e c).reg r)
    have hreg : (t.updChuckAt e c (fun k => k.setReg r d)).chuckAt e c = (t.chuckAt e c).setReg r d := by
      simp [State.updChuckAt, State.chuckAt, Map.upd]
    refine ⟨t.updChuckAt e c (fun k => k.setReg r d), by rw [State.dbgPut, if_neg h0, hd, Option.map_some], rfl, rfl, fun i hi => State.engine_updEngine_ne _ _ hi, ?_, fun d' _ hd' => ?_⟩
    · rw [hreg, Chuck.reg_setReg, if_neg (by omega)]
    · obtain rfl : d = d' := Option.some.inj (hd.symm.trans hd')
      rw [hreg, Chuck.reg_setReg, if_pos ⟨rfl, h0⟩]

/-- A write of a cell register that gives a kind, to the engine and, for a halted coupled pair, to its twin (R561, R563). -/
theorem State.stateWrite_cell {a : BitVec 44} {c r j : Nat} (h : dbgRegOf a = some (.cell c r, j)) (hr : s.dbgReady = true)
    (hput : ∀ k, ∃ d, cellPut k j w = some d) :
    ∃ u, s.stateWrite a w = (0, u) ∧ u.mem = s.mem ∧ u.jtag = s.jtag ∧
      (∀ i, i ≠ s.dbgSel → i ≠ twinOf s.dbgSel → u.engine i = s.engine i) ∧
      (u.chuckAt s.dbgSel c).reg 0 = (s.chuckAt s.dbgSel c).reg 0 ∧
      ∀ d, r ≠ 0 → cellPut ((s.chuckAt s.dbgSel c).reg r) j w = some d → (u.chuckAt s.dbgSel c).reg r = d := by
  obtain ⟨t, ht, htmem, htjtag, hteng, ht0, htr⟩ := State.dbgPut_cell (t := s) (e := s.dbgSel) (c := c) (r := r) hput
  by_cases hc : (s.coupled s.dbgSel && !(s.engine s.dbgSel).stopped) = true
  · obtain ⟨u, hu, humem, hujtag, hueng, -, -⟩ := State.dbgPut_cell (t := t) (e := twinOf s.dbgSel) (c := c) (r := r) hput
    have hchuck : u.chuckAt s.dbgSel c = t.chuckAt s.dbgSel c := by rw [State.chuckAt, hueng _ (twinOf_ne _), State.chuckAt]
    refine ⟨u, by simp only [State.stateWrite, h, hr, ht, hc, hu]; rfl, humem.trans htmem, hujtag.trans htjtag,
      fun i h1 h2 => (hueng i h2).trans (hteng i h1), by rw [hchuck, ht0], fun d h0 hd => by rw [hchuck]; exact htr d h0 hd⟩
  · exact ⟨t, by simp only [State.stateWrite, h, hr, ht, hc]; rfl, htmem, htjtag, fun i h1 _ => hteng i h1, ht0, htr⟩

end

/-- A word of bits makes the cell RAW. -/
theorem cellPut_bits (c : Cell) {j : Nat} (v : Word) (h : j < 4) :
    cellPut c j v = some { bits := setBits c.bits (32 * j + 31) (32 * j) v.toNat, kind := .raw } := if_pos h

/-- The kinds that a debug write may give. -/
theorem cellPut_kind (c : Cell) (v : Word) :
    cellPut c 4 v = if v = 0 then some { c with kind := .raw } else if v = 1 then some { c with kind := .int }
      else if v = 4 then some { c with kind := .poison } else none := if_neg (by decide)

/-! ## DBGACC commands (Table 16-3) -/

/-- A command that finds the port free is performed or captured BUSY (R554). -/
theorem State.dbgacc_cases {s : State} (c : DbgCmd) (a : BitVec 44) (h : s.jtag.busy = none) :
    let t := { s with freeCtr := s.freeCtr + 1 }
    s.dbgacc c a = t.dbgPerform c ∨
      ((s.dbgacc c a).jtag.status = 3 ∧ (s.dbgacc c a).jtag.busy = some c ∧ (s.dbgacc c a).jtag.addr = a.toNat ∧
        (s.dbgacc c a).jtag.data = s.jtag.data ∧ { s.dbgacc c a with jtag := s.jtag } = t) := by
  intro t
  by_cases hb : bit (Config.unstated s.freeCtr) 0 = true
  · have hacc : s.dbgacc c a = (t.dbgResult 3 a none).updJtag (fun j => { j with busy := some c }) := by
      rw [State.dbgacc, if_neg (by rw [h]; decide), if_pos hb]
    rw [hacc]
    exact .inr ⟨rfl, rfl, rfl, rfl, by cases s; rfl⟩
  · exact .inl (by rw [State.dbgacc, if_neg (by rw [h]; decide), if_neg hb])


theorem State.inDebugScope_iff (s : State) (b o : Nat) (wr : Bool) :
    s.inDebugScope b o wr = true ↔ (b = 0x1E ∧ o = 0x10) ∨ (b = 5 ∧ 0x7000 ≤ o ∧ o < 0x8000) ∨
      if wr = false then s.inScope 1 = true
      else if b = 0x1E ∧ 0x14 ≤ o then
        (if o = 0x14 then s.inScope 2 = true ∨ s.inScope 4 = true else if 0x30 ≤ o ∧ o < 0x44 then s.inScope 8 = true else s.inScope 4 = true)
      else s.inScope 2 = true := by
  cases wr
  · simp [State.inDebugScope, scopeFree, or_assoc]
  · by_cases hdbg : b = 0x1E ∧ 0x14 ≤ o
    · by_cases hsel : o = 0x14
      · simp [State.inDebugScope, scopeFree, hdbg, hsel]
      · by_cases htrace : 0x30 ≤ o ∧ o < 0x44 <;> simp [State.inDebugScope, scopeFree, traceOfs, hdbg, hsel, htrace]
    · simp [State.inDebugScope, scopeFree, hdbg, or_assoc]

/-- Settles O59: each instruction of the port by its definition, and each DBGACC command by its scope and the case of its access. -/
theorem debugPort : Obligations.DebugPort := by
  unfold Obligations.DebugPort
  refine ⟨fun s pins => ⟨rfl, rfl, rfl, fun h => ?_, fun h => ?_⟩, fun s a data c => ⟨fun p hp hbusy => ?_, fun hbusy => ?_⟩, ?_⟩
  · have hdrives : s.extestDrives = true := by simpa [State.extestDrives] using h
    exact congrArg Host.Outcome.next (congrArg (fun j => { s with jtag := j }) (if_pos hdrives))
  · have hdrives : ¬s.extestDrives = true := by simpa [State.extestDrives] using h
    exact congrArg Host.Outcome.next (congrArg (fun j => { s with jtag := j }) (if_neg hdrives))
  · have hexec : exec p.1 s = .next (s.dbgacc p.2 a) := by
      simp only [List.mem_cons, List.not_mem_nil, or_false] at hp
      rcases hp with rfl | rfl | rfl | rfl | rfl <;> rfl
    exact ⟨_, hexec, s.dbgacc_cases p.2 a hbusy⟩
  · change execDbgaccComplete s = _
    rw [execDbgaccComplete, hbusy]
  intro s a w m k n shows only does old holds opens rd wr plain e
  have hrd : rd ↔ s.busScope n false = true := by
    simp only [rd]
    unfold State.busScope
    cases s.region n with
    | regs b o => exact (s.inDebugScope_iff b o false).symm
    | _ => exact Iff.rfl
  have hwr : wr ↔ s.busScope n true = true := by
    simp only [wr]
    unfold State.busScope
    cases s.region n with
    | regs b o => exact (s.inDebugScope_iff b o true).symm
    | _ => exact Iff.rfl
  have hplain : plain → s.PlainAt n ∧ s.mem.cell n = m := fun ⟨hg, hn, hr, hm, he, _⟩ => ⟨⟨hg, hn, hr, he⟩, hm⟩
  rw [hrd, hwr]
  have hread : ∀ {t : State} {st : Nat} {d : Word} {c : DbgCmd}, s.dbgPerform c = t.dbgResult st a (some d) → does c st d t := fun h => by
    simp only [does, h]
    exact ⟨State.dbgResult_shows .., State.dbgResult_portOnly ..⟩
  have hwrite : ∀ {t : State} {st : Nat} {c : DbgCmd}, s.dbgPerform c = t.dbgResult st a none → t.jtag = s.jtag → does c st old t := fun h ht => by
    simp only [does, h, old, ← ht]
    exact ⟨State.dbgResult_shows .., State.dbgResult_portOnly ..⟩
  obtain ⟨hnoRead, hnoWrite, hnoKind, hnoGet, hnoPut⟩ := perform_notOpen s a w
  refine ⟨fun h => ?_, fun h => ?_, fun h => ?_, fun h => ?_, fun h => ?_, fun hg => ⟨fun h => ?_, fun h => ?_, fun h => ?_⟩,
    fun hg hr h => ?_, fun hg hr h => ?_, fun hp h => ?_, fun hp h hk => ?_, fun hp h => ?_, fun o hr hg hn hm he => ⟨fun h => ?_, fun h => ?_⟩,
    fun b o hr hg hn hb => ⟨fun h => ?_, fun h => ⟨fun hauth => ?_, fun hauth => ?_⟩⟩, fun h => ⟨fun hn => ?_, fun p hp hready => ?_⟩,
    fun h => ⟨fun hn => ?_, fun p hp hready => ?_⟩, ?_⟩
  · exact hwrite (hnoRead h) rfl
  · exact hwrite (hnoWrite h) rfl
  · exact hwrite (hnoKind h) rfl
  · exact hwrite (hnoGet h) rfl
  · exact hwrite (hnoPut h) rfl
  · exact hread (perform_busRead h (State.busRead_guarded hg))
  · exact hread (perform_kind h (State.kindRead_guarded hg))
  · exact hwrite (perform_busWrite h (State.busWrite_guarded hg)) rfl
  · exact hwrite (perform_busWrite h (State.busWrite_refused hg hr)) rfl
  · by_cases hn : n % 4 = 0
    · exact hread (perform_busRead h (State.busRead_none hg (hr.resolve_right (not_not.mpr hn))))
    · exact hread (perform_busRead h (State.busRead_misaligned hg hn))
  · obtain ⟨hat, rfl⟩ := hplain hp
    exact hread (perform_busRead h (State.busRead_plain hat))
  · obtain ⟨hat, rfl⟩ := hplain hp
    exact hread (perform_kind h (State.kindRead_plain hat hk))
  · obtain ⟨hat, rfl⟩ := hplain hp
    have hperform := perform_busWrite h (State.busWrite_plain (w := w) hat)
    obtain ⟨hshows, -⟩ := hwrite hperform rfl
    exact ⟨hshows, by rw [hperform]; rfl⟩
  · subst hm
    exact hread (perform_busRead h (State.busRead_priv hg hn hr he))
  · subst hm
    have hperform := perform_busWrite h (State.busWrite_priv (w := w) hg hn hr he)
    obtain ⟨hshows, -⟩ := hwrite hperform rfl
    exact ⟨hshows, by rw [hperform]; rfl⟩
  · exact hread (perform_busRead h (State.busRead_regs hg hn hr hb))
  · exact hwrite (perform_busWrite h ((State.busWrite_regs hg hn hr hb).trans (if_pos hauth))) rfl
  · have hperform := perform_busWrite (w := w) h ((State.busWrite_regs hg hn hr hb).trans (if_neg hauth))
    refine ⟨?_, by rw [hperform]; rfl⟩
    change PortOnly (s.dbgPerform (.busWrite n w)) _
    rw [hperform]
    exact State.dbgResult_portOnly ..
  · exact hread (perform_stateRead h (State.stateRead_none hn))
  · exact hread (perform_stateRead h (State.stateRead_running hp hready))
  · exact hwrite (perform_stateWrite h (State.stateWrite_none hn)) rfl
  · exact hwrite (perform_stateWrite h (State.stateWrite_running hp hready)) rfl
  intro c r j hreg hready cell u puts
  have hputs : ∀ {d : Cell}, s.inScope 6 = true → (∀ k, ∃ d, cellPut k j w = some d) → cellPut cell j w = some d → puts d := by
    intro d h hput hd
    obtain ⟨v, hv, hmem, hjtag, heng, h0, hr⟩ := State.stateWrite_cell hreg hready hput
    have hperform := perform_stateWrite h hv
    obtain ⟨hshows, -⟩ := hwrite hperform hjtag
    simp only [puts, u]
    refine ⟨hshows, ?_⟩
    rw [hperform]
    exact ⟨fun h0 => hr d h0 hd, h0, hmem, heng⟩
  refine ⟨fun h => ?_, fun h => ⟨fun hj => ?_, fun hj hw => ?_, fun hj hw => ?_, fun hj hw => ?_, fun hj h0 h1 h2 h3 => ?_⟩⟩
  · rw [← ofNat_cellWord]
    exact hread (perform_stateRead h (State.stateRead_cell hreg hready))
  · exact hputs h (fun k => ⟨_, cellPut_bits k w hj⟩) (cellPut_bits _ w hj)
  · subst hj hw
    exact hputs h (fun k => ⟨_, cellPut_kind k 0⟩) (cellPut_kind _ 0)
  · subst hj hw
    exact hputs h (fun k => ⟨_, cellPut_kind k 1⟩) (cellPut_kind _ 1)
  · subst hj hw
    exact hputs h (fun k => ⟨_, cellPut_kind k 4⟩) (cellPut_kind _ 4)
  · subst hj
    have hdenied : cellPut cell 4 w = none := by rw [cellPut_kind, if_neg h1, if_neg h2, if_neg h3]
    exact hwrite (perform_stateWrite h (State.stateWrite_denied hreg hready h0 hdenied)) rfl

end Sys2Proof.Machine
end

section
/-!
# How lineage commands go on (02_capabilities, R91 to R104)

A command is taken (`State.linTaken`), tested, and performed on the entry that both copies hold. What a broadcast's end, an acknowledgement
and a safety reaction leave unchanged is said once, in `Reacts` and in the lemmas on `Lin.ended`.
-/

namespace Sys2Proof.Machine

open Sys2Proof

/-! ## Reactions and events -/

/-- What the reaction of a safety class and the events it raises leave (R420 to R422): all of the lineage, the engines, and block 8. -/
structure Reacts (s t : State) : Prop where
  eng : t.eng = s.eng
  lin : t.lin = s.lin
  linA : t.linA = s.linA
  linB : t.linB = s.linB
  mem : t.mem = s.mem
  blk8 : ∀ o, o < 0x10000 → t.reg 8 o = s.reg 8 o
  events : ∃ l, t.events = s.events ++ l

theorem Reacts.refl (s : State) : Reacts s s := ⟨rfl, rfl, rfl, rfl, rfl, fun _ _ => rfl, [], by simp⟩

theorem Reacts.trans {s t u : State} (h : Reacts s t) (h' : Reacts t u) : Reacts s u := by
  obtain ⟨heng, hlin, hA, hB, hmem, hreg, l, hl⟩ := h
  obtain ⟨heng', hlin', hA', hB', hmem', hreg', l', hl'⟩ := h'
  exact ⟨heng'.trans heng, hlin'.trans hlin, hA'.trans hA, hB'.trans hB, hmem'.trans hmem,
    fun o ho => (hreg' o ho).trans (hreg o ho), l ++ l', by rw [hl', hl, List.append_assoc]⟩

theorem Reacts.engine {s t : State} (h : Reacts s t) (e : Nat) : t.engine e = s.engine e := by rw [State.engine, State.engine, h.eng]

theorem Reacts.linEntry {s t : State} (h : Reacts s t) (chB : Bool) (i : Nat) : t.linEntry chB i = s.linEntry chB i := by
  rw [State.linEntry, State.linEntry, h.linA, h.linB]

theorem Reacts.event {s t : State} (h : Reacts s t) {n : Nat} (hn : n ∈ s.events.map (·.1)) : n ∈ t.events.map (·.1) := by
  obtain ⟨l, hl⟩ := h.events
  rw [hl, List.map_append]
  exact List.mem_append_left _ hn

theorem State.reacts_setReg6 (s : State) (o : Nat) (w : Word) (ho : o < 0x10000) : Reacts s (s.setReg 6 o w) :=
  ⟨rfl, rfl, rfl, rfl, rfl, fun p hp => s.reg_setReg_ne w (by simp only [regKey]; omega), [], by simp⟩

theorem State.reacts_raise (s : State) (id : Nat) : Reacts s (s.raise id) := ⟨rfl, rfl, rfl, rfl, rfl, fun _ _ => rfl, _, rfl⟩

theorem State.mem_raise (s : State) (id : Nat) : id ∈ (s.raise id).events.map (·.1) := by simp [State.raise]

theorem Reacts.ite {s t u : State} (c : Prop) [Decidable c] (h : Reacts s t) (h' : Reacts s u) : Reacts s (if c then t else u) := by
  split_ifs
  · exact h
  · exact h'

theorem State.reacts_setMode (s : State) (m : Mode) : Reacts s (s.setMode m) := by
  have hsafe : ∀ f, Reacts s (s.updSafe f) := fun f => ⟨rfl, rfl, rfl, rfl, rfl, fun _ _ => rfl, [], by simp [State.updSafe]⟩
  exact (Reacts.ite _ ((hsafe _).trans (State.reacts_setReg6 _ 0x30 _ (by decide))) (hsafe _)).trans (State.reacts_raise _ 1668)

theorem State.reacts_react (s : State) (cls unit : Nat) : Reacts s (s.react cls unit) := by
  have hcapture : ∀ w, Reacts s (if s.fld 6 0x14 31 31 = 1 then s else s.setReg 6 0x14 w) := fun w =>
    .ite _ (.refl s) (s.reacts_setReg6 _ w (by decide))
  exact .ite _ (.refl s) (.ite _ ((hcapture _).trans (State.reacts_setMode _ _)) (hcapture _))

theorem State.reacts_linEvent (s : State) (n : Nat) : Reacts s (s.linEvent n) := by
  induction n generalizing s with
  | zero => exact .refl s
  | succ n ih => exact ((s.reacts_raise 1661).trans (State.reacts_react _ 12 0)).trans (ih _)

theorem State.linEvent_raises (s : State) {n : Nat} (h : n ≠ 0) : 1661 ∈ (s.linEvent n).events.map (·.1) := by
  obtain ⟨k, rfl⟩ := Nat.exists_eq_succ_of_ne_zero h
  exact (State.reacts_linEvent _ k).event ((State.reacts_react _ 12 0).event (s.mem_raise 1661))

/-! ## Broadcasts and their acknowledgements -/

/-- The LIN block once no engine is left to acknowledge (R97). -/
def Lin.ended (l : Lin) : Lin :=
  if l.pend.isEmpty then { l with bidx := [], sweep := false, solo := 0, phase := if l.phase = LinPhase.bcast then .done else l.phase } else l

@[simp] theorem Lin.ended_pend (l : Lin) : l.ended.pend = l.pend := by rw [Lin.ended, apply_ite Lin.pend, ite_self]
@[simp] theorem Lin.ended_result (l : Lin) : l.ended.result = l.result := by rw [Lin.ended, apply_ite Lin.result, ite_self]

theorem Lin.ended_bcast {l : Lin} (hpend : l.pend = []) (hphase : l.phase = .bcast) : l.ended.phase = .done ∧ l.ended.bidx = [] := by
  simp [Lin.ended, hpend, hphase]

theorem Lin.ended_phase_of {l : Lin} (h : l.pend ≠ []) : l.ended.phase = l.phase := by simp [Lin.ended, h]

theorem State.linBroadcastEnd_lin (s : State) : s.linBroadcastEnd.lin = s.lin.ended := by
  by_cases h : s.lin.pend.isEmpty = true
  · rw [State.linBroadcastEnd, Lin.ended, if_pos h, if_pos h]
    exact (State.reacts_linEvent _ _).lin
  · rw [State.linBroadcastEnd, Lin.ended, if_neg h, if_neg h]

theorem State.linBroadcastEnd_engine (s : State) (e : Nat) : s.linBroadcastEnd.engine e = s.engine e := by
  by_cases h : s.lin.pend.isEmpty = true
  · rw [State.linBroadcastEnd, if_pos h]
    exact (State.reacts_linEvent _ _).engine e
  · rw [State.linBroadcastEnd, if_neg h]

theorem State.foldl_ackLin_lin (l : List Nat) (s : State) : (l.foldl (fun u e => u.ackLin e) s).lin = s.lin := by
  induction l generalizing s with
  | nil => rfl
  | cons e l ih => exact (ih _).trans (s.updEngine_lin e _)

theorem State.ackAll_lin (s : State) (l : List Nat) :
    (s.ackAll l).lin = ({ s.lin with pend := s.lin.pend.filter (fun e => !l.contains e) } : Lin).ended := by
  rw [State.ackAll, State.linBroadcastEnd_lin, State.foldl_ackLin_lin]

theorem State.ackAll_engine (s : State) (l : List Nat) (e : Nat) :
    (s.ackAll l).engine e = (l.foldl (fun u e => u.ackLin e) s).engine e := State.linBroadcastEnd_engine _ e

/-- What an engine's filter holds after it acknowledged (R101, R103). -/
theorem State.ackLin_filt (s : State) (e : Nat) : ∀ p ∈ ((s.ackLin e).engine e).filt, p.1 ∉ s.lin.bidx := by
  simp only [State.ackLin, State.engine_updEngine_self]
  split_ifs <;> simp [Engine.dropFilt, Engine.sweepRegs]

/-! ## The engines that a time-out stops -/

theorem State.engine_react (s : State) (cls unit e : Nat) : (s.react cls unit).engine e = s.engine e := (s.reacts_react cls unit).engine e

theorem State.stopEngine_stops (s : State) (e orig : Nat) (val : Dword) : ((s.stopEngine e orig val).engine e).stopped = true := by
  by_cases h : (s.engine e).stopped = true
  · rw [State.stopEngine, if_pos h, h]
  · rw [State.stopEngine, if_neg h, State.engine_setFld, State.engine_setEngine_self]

theorem State.stopEngine_stays (s : State) {e n : Nat} (orig : Nat) (val : Dword) (h : (s.engine n).stopped = true) :
    ((s.stopEngine e orig val).engine n).stopped = true := by
  rcases eq_or_ne n e with rfl | hne
  · exact s.stopEngine_stops n orig val
  · by_cases he : (s.engine e).stopped = true
    · rwa [State.stopEngine, if_pos he]
    · rwa [State.stopEngine, if_neg he, State.engine_setFld, State.engine_setEngine_ne _ _ hne]

theorem State.updEngine_stays (s : State) {e n : Nat} {f : Engine → Engine} (hf : ∀ x, (f x).stopped = x.stopped)
    (h : (s.engine n).stopped = true) : ((s.updEngine e f).engine n).stopped = true := by
  rcases eq_or_ne n e with rfl | hne
  · rw [State.engine_updEngine_self, hf, h]
  · rwa [State.engine_updEngine_ne s f hne]

theorem State.dropActs_stays (s : State) {n : Nat} (p : Nat) (h : (s.engine n).stopped = true) : ((s.dropActs p).engine n).stopped = true :=
  State.updEngine_stays _ (fun _ => rfl) (State.updEngine_stays _ (fun _ => rfl) h)

theorem State.captureDiv_engine (s : State) (p reason cnt : Nat) (a b : Word) (n : Nat) : (s.captureDiv p reason cnt a b).engine n = s.engine n := by
  unfold State.captureDiv
  split_ifs <;> rfl

theorem State.diverge_stays (s : State) {n : Nat} (p reason cnt : Nat) (a b : Word) (h : (s.engine n).stopped = true) :
    ((s.diverge p reason cnt a b).engine n).stopped = true := by
  have hdrop := State.dropActs_stays _ p ((congrArg Engine.stopped (s.captureDiv_engine p reason cnt a b n)).trans h)
  rw [State.diverge, State.engine_react, State.engine_raise, State.engine_updPair, State.engine_setFld, State.engine_setFld]
  exact State.stopEngine_stays _ _ _ (State.stopEngine_stays _ _ _ hdrop)

theorem State.divergeNow_stays (s : State) {n : Nat} (p reason : Nat) (h : (s.engine n).stopped = true) :
    ((s.divergeNow p reason).engine n).stopped = true := by
  by_cases hp : s.pairStopped p = true
  · rwa [State.divergeNow, State.divergeAt, if_pos hp]
  · rw [State.divergeNow, State.divergeAt, if_neg hp]
    exact s.diverge_stays _ _ _ _ _ h

theorem State.stopWith_stays (s : State) {e n : Nat} (orig : Nat) (val : Dword) (event cls : Nat) (h : ((s.stopEngine e orig val).engine n).stopped = true) :
    ((s.stopWith e orig val event cls).engine n).stopped = true := by
  have hreact : (((s.stopEngine e orig val).raise event).react cls e).engine n = (s.stopEngine e orig val).engine n := State.engine_react ..
  rw [State.stopWith]
  split_ifs
  · exact State.divergeNow_stays _ _ _ (hreact ▸ h)
  · exact hreact ▸ h

theorem State.react_lin (s : State) (cls unit : Nat) : (s.react cls unit).lin = s.lin := (s.reacts_react cls unit).lin

theorem State.stopEngine_lin (s : State) (e orig : Nat) (val : Dword) : (s.stopEngine e orig val).lin = s.lin := by
  rw [State.stopEngine, apply_ite State.lin]
  exact ite_self _

theorem State.captureDiv_lin (s : State) (p reason cnt : Nat) (a b : Word) : (s.captureDiv p reason cnt a b).lin = s.lin := by
  rw [State.captureDiv, apply_ite State.lin]
  exact ite_self _

theorem State.diverge_lin (s : State) (p reason cnt : Nat) (a b : Word) : (s.diverge p reason cnt a b).lin = s.lin := by
  simp only [State.diverge, State.react_lin, State.raise_lin, State.updPair_lin, State.setFld_lin, State.stopEngine_lin, State.dropActs,
    State.updEngine_lin, State.captureDiv_lin]

theorem State.stopWith_lin (s : State) (e orig : Nat) (val : Dword) (event cls : Nat) : (s.stopWith e orig val event cls).lin = s.lin := by
  simp only [State.stopWith, State.divergeNow, State.divergeAt, apply_ite State.lin, State.diverge_lin, State.react_lin, State.raise_lin,
    State.stopEngine_lin, ite_self]

/-- What the time-out does to one engine that has not acknowledged (R104). -/
def State.hang (s : State) (e : Nat) : State := if (s.engine e).stopped then s else s.stopWith e 0 0 1671 1

theorem State.hang_lin (s : State) (e : Nat) : (s.hang e).lin = s.lin := by
  rw [State.hang, apply_ite State.lin, State.stopWith_lin, ite_self]

theorem State.hang_stops (s : State) (e : Nat) : ((s.hang e).engine e).stopped = true := by
  by_cases h : (s.engine e).stopped = true
  · rw [State.hang, if_pos h, h]
  · rw [State.hang, if_neg h]
    exact s.stopWith_stays _ _ _ _ (s.stopEngine_stops e 0 0)

theorem State.hang_stays (s : State) {e n : Nat} (h : (s.engine n).stopped = true) : ((s.hang e).engine n).stopped = true := by
  rw [State.hang]
  split_ifs
  · exact h
  · exact s.stopWith_stays _ _ _ _ (s.stopEngine_stays _ _ h)

theorem State.foldl_hang_lin (l : List Nat) (s : State) : (l.foldl State.hang s).lin = s.lin := by
  induction l generalizing s with
  | nil => rfl
  | cons e l ih => exact (ih _).trans (s.hang_lin e)

theorem State.foldl_hang_stays (l : List Nat) {s : State} {n : Nat} (h : (s.engine n).stopped = true) :
    ((l.foldl State.hang s).engine n).stopped = true := by
  induction l generalizing s with
  | nil => exact h
  | cons e l ih => exact ih (s.hang_stays h)

theorem State.foldl_hang_stops (l : List Nat) (s : State) : ∀ n ∈ l, ((l.foldl State.hang s).engine n).stopped = true := by
  induction l generalizing s with
  | nil => simp
  | cons e l ih =>
    intro n hn
    rcases List.mem_cons.mp hn with rfl | hn
    · exact State.foldl_hang_stays l (s.hang_stops n)
    · exact ih _ n hn

/-- The time-out of a broadcast leaves the engines that still execute to stop (R104). -/
theorem State.timeout_pend (s : State) :
    (s.ackAll (s.lin.pend.filter s.acksIdle)).lin =
      ({ s.lin with pend := s.lin.pend.filter (fun n => !s.acksIdle n) } : Lin).ended := by
  have hrest : s.lin.pend.filter (fun e => !(s.lin.pend.filter s.acksIdle).contains e) = s.lin.pend.filter (fun n => !s.acksIdle n) :=
    List.filter_congr fun n hn => by simp [hn]
  rw [State.ackAll_lin, hrest]

theorem execLinBroadcastTimeout_stops {s : State} {l : List Nat} (hl : s.lin.pend.filter (fun n => !s.acksIdle n) = l) (h : l ≠ []) :
    ∃ t, execLinBroadcastTimeout s = .next t ∧ t.lin.result = (if s.lin.phase = .bcast then 6 else s.lin.result) ∧
      ∀ n ∈ l, (t.engine n).stopped = true := by
  have hlin := s.timeout_pend
  rw [hl] at hlin
  have hpend : (s.ackAll (s.lin.pend.filter s.acksIdle)).lin.pend = l := by rw [hlin, Lin.ended_pend]
  refine ⟨_, if_neg (by rw [hpend]; simpa using h), ?_, fun n hn => ?_⟩
  · show (if (List.foldl State.hang _ _).lin.phase = .bcast then 6 else (List.foldl State.hang _ _).lin.result) = _
    rw [State.foldl_hang_lin, hlin, Lin.ended_phase_of h, Lin.ended_result]
  · exact State.foldl_hang_stops _ _ n (hpend.symm ▸ hn)

theorem execLinBroadcastTimeout_ends {s : State} (h : s.lin.pend.filter (fun n => !s.acksIdle n) = []) (hphase : s.lin.phase = .bcast) :
    ∃ t, execLinBroadcastTimeout s = .next t ∧ t.lin.phase = .done ∧ t.lin.result = s.lin.result := by
  have hlin := s.timeout_pend
  refine ⟨_, if_pos (by rw [hlin, Lin.ended_pend, h]; rfl), ?_, ?_⟩
  · rw [hlin]
    exact (Lin.ended_bcast (l := { s.lin with pend := _ }) h hphase).1
  · rw [hlin, Lin.ended_result]

/-- An engine that may acknowledge drops the indices broadcast and is waited for no longer (R101, R103). -/
theorem execFilterInvalidateAck_acks {s : State} {e : Eid} (hpend : e.toNat ∈ s.lin.pend)
    (h : (s.engine e.toNat).drained s.lin.bidx = true ∨ s.acksAtOnce e.toNat = true) :
    ∃ t, execFilterInvalidateAck e s = .next t ∧ (∀ p ∈ (t.engine e.toNat).filt, p.1 ∉ s.lin.bidx) ∧ e.toNat ∉ t.lin.pend ∧
      (s.lin.pend = [e.toNat] → s.lin.phase = .bcast → t.lin.phase = .done ∧ t.lin.bidx = []) := by
  refine ⟨s.ackAll [e.toNat], congrArg _ (if_pos (by simp [hpend, h])), ?_, ?_, fun hlast hphase => ?_⟩
  · rw [State.ackAll_engine]
    exact s.ackLin_filt e.toNat
  · simp [State.ackAll_lin]
  · rw [State.ackAll_lin]
    exact Lin.ended_bcast (by simp [hlast]) hphase

end Sys2Proof.Machine
end

section
/-!
# The lineage commands, their completion and the filter's fill (02_capabilities, R91 to R102)
-/

namespace Sys2Proof.Machine

open Sys2Proof

/-! ## The memory map -/

/-- The memory map reads no register of block 8 (Table 01-6). -/
theorem State.region_congr {s t : State} (hreg : ∀ b o, b ≠ 8 → o < 0x10000 → t.reg b o = s.reg b o) (heff : t.eff = s.eff)
    (happ : t.applying = s.applying) (a : Nat) : t.region a = s.region a := by
  have hfld : ∀ b o hi lo, b ≠ 8 → o < 0x10000 → t.fld b o hi lo = s.fld b o hi lo := fun b o hi lo hb ho => by
    rw [State.fld, State.fld, hreg b o hb ho]
  have hcache : t.cacheOf (a / 0x80000) = s.cacheOf (a / 0x80000) := by
    have heffFld : ∀ b o hi lo, t.effFld b o hi lo = s.effFld b o hi lo := fun b o hi lo => by
      rw [State.effFld, State.effFld, State.effReg, State.effReg, heff]
    simp only [State.cacheOf, heffFld, happ]
    rw [hfld (tileBlk _) _ 9 9 (by simp only [tileBlk]; omega) (by omega)]
  have hdram : ∀ chB ofs, t.dramOk chB ofs = s.dramOk chB ofs := fun chB ofs => by
    have hblk : (if chB then 0x0B else 0x0A) ≠ 8 := by cases chB <;> decide
    simp only [State.dramOk, hfld _ 0x14 _ _ hblk (by decide), hfld _ 0x10 _ _ hblk (by decide)]
  simp only [State.region, hcache, hdram, hfld 0x1C 0x10 _ _ (by decide) (by decide)]

/-! ## Taking a command -/

/-- The LIN block as it takes a command (R95, R96). -/
def State.linTaken (s : State) (op i owner : Nat) : State :=
  { (((s.setFld 8 0x10 31 16 i).setFld 8 0x10 15 8 owner).setFld 8 0x14 0 0 1) with lin := { s.lin with op := op, idx := i, found := 0, result := 0 } }

theorem State.reg_withLin (s : State) (l : Lin) (b o : Nat) : ({ s with lin := l } : State).reg b o = s.reg b o := rfl

theorem State.linTaken_reg (s : State) (op i owner : Nat) {b o : Nat} (h10 : regKey b o ≠ regKey 8 0x10) (h14 : regKey b o ≠ regKey 8 0x14) :
    (s.linTaken op i owner).reg b o = s.reg b o := by
  rw [State.linTaken, State.reg_withLin, State.reg_setFld_ne _ _ _ _ h14, State.reg_setFld_ne _ _ _ _ h10, State.reg_setFld_ne _ _ _ _ h10]

theorem State.linTaken_region (s : State) (op i owner a : Nat) : (s.linTaken op i owner).region a = s.region a :=
  State.region_congr (fun b o hb ho => s.linTaken_reg _ _ _ (by simp only [regKey]; omega) (by simp only [regKey]; omega)) rfl rfl a

theorem State.linTaken_mintImage (s : State) (op i owner : Nat) : (s.linTaken op i owner).mintImage = s.mintImage := by
  simp only [State.mintImage, s.linTaken_reg op i owner (b := 8) (o := 0x40) (by decide) (by decide),
    s.linTaken_reg op i owner (b := 8) (o := 0x44) (by decide) (by decide), s.linTaken_reg op i owner (b := 8) (o := 0x48) (by decide) (by decide),
    s.linTaken_reg op i owner (b := 8) (o := 0x4C) (by decide) (by decide)]

theorem State.linTaken_mintAddr (s : State) (op i owner : Nat) : (s.linTaken op i owner).mintAddr = s.mintAddr := by
  simp only [State.mintAddr, s.linTaken_reg op i owner (b := 8) (o := 0x30) (by decide) (by decide),
    s.linTaken_reg op i owner (b := 8) (o := 0x34) (by decide) (by decide)]

theorem State.isMemory_congr {s t : State} {a : Nat} (h : t.region a = s.region a) : t.isMemory a = s.isMemory a := by
  rw [State.isMemory, State.isMemory, h]

theorem State.linRefused_linTaken (s : State) (op i owner : Nat) : (s.linTaken op i owner).linRefused op i = s.linRefused op i := by
  have hseal : (s.linTaken op i owner).fld 8 0x50 2 0 = s.fld 8 0x50 2 0 := by
    rw [State.fld, State.fld, s.linTaken_reg op i owner (by decide) (by decide)]
  simp only [State.linRefused, s.linTaken_mintImage, s.linTaken_mintAddr, hseal, State.isMemory_congr (s.linTaken_region op i owner _)]

/-- May a master give a command now: a management master, MINT never by the debug port, with no command under way (R83, R96). -/
structure TakesLin (s : State) (m : Master) (op : Nat) : Prop where
  mgmt : isMgmt m = true
  free : s.fld 8 0x14 0 0 = 0
  op_pos : op ≠ 0
  op_lt : op < 7
  mint : op = 5 → m ≠ .debug

theorem State.linCmd_taken {s : State} {m : Master} {op : Nat} (i owner : Nat) (h : TakesLin s m op) :
    s.linCmd m op i owner =
      match s.linRefused op i with
      | some r => (s.linTaken op i owner).linEnd r
      | none =>
        match (s.linTaken op i owner).linCompare i 0xA with
        | (none, t) => t.linFail i
        | (some v, t) => t.linPerform op i owner v := by
  obtain ⟨hm, hfree, hpos, hlt, hmint⟩ := h
  have hmgmt : ¬((!isMgmt m) = true) := by simp [hm]
  have hop : ¬(8 ≤ op ∨ op = 5 ∧ m = .debug) := by
    rintro (h8 | ⟨h5, hd⟩)
    · omega
    · exact hmint h5 hd
  rw [State.linCmd, if_neg hmgmt, if_neg hop, if_neg (by omega)]
  dsimp only
  rw [if_neg hpos, if_neg (by omega), ← s.linRefused_linTaken op i owner]
  rfl

theorem State.linCmd_refused {s : State} {m : Master} {op i r : Nat} (owner : Nat) (h : TakesLin s m op) (hr : s.linRefused op i = some r) :
    s.linCmd m op i owner = (s.linTaken op i owner).linEnd r := by
  rw [State.linCmd_taken i owner h, hr]

/-- The copies of an entry agree, and their cells hold no error. -/
structure CopiesAgree (s : State) (i : Nat) (v : Word) : Prop where
  copyA : s.linEntry false i = v
  copyB : s.linEntry true i = v
  errA : s.mem.err (alignDown (linKey false i) 16) = 0
  errB : s.mem.err (alignDown (linKey true i) 16) = 0

theorem State.linCompare_same {s : State} {i : Nat} {v : Word} (src : Nat) (h : CopiesAgree s i v) : s.linCompare i src = (some v, s) := by
  obtain ⟨hA, hB, heA, heB⟩ := h
  simp [State.linCompare, s.linRead_clean _ _ heA, s.linRead_clean _ _ heB, hA, hB]

theorem State.linCmd_performed {s : State} {m : Master} {op i : Nat} {v : Word} (owner : Nat) (h : TakesLin s m op)
    (hr : s.linRefused op i = none) (hv : CopiesAgree s i v) :
    s.linCmd m op i owner = (s.linTaken op i owner).linPerform op i owner v := by
  have htaken : CopiesAgree (s.linTaken op i owner) i v := ⟨hv.copyA, hv.copyB, hv.errA, hv.errB⟩
  rw [State.linCmd_taken i owner h, hr, State.linCompare_same 0xA htaken]

/-! ## Refusals -/

/-- A command ended with a result, and the table and memory stand (R96). -/
def Ended (s t : State) (i r : Nat) : Prop :=
  t.lin.phase = .done ∧ t.lin.result = r ∧ t.linEntry false i = s.linEntry false i ∧ t.linEntry true i = s.linEntry true i ∧ t.mem = s.mem

theorem State.linTaken_linEnd (s : State) (op i owner r : Nat) : Ended s ((s.linTaken op i owner).linEnd r) i r := ⟨rfl, rfl, rfl, rfl, rfl⟩

theorem State.linRefused_zero (s : State) {op : Nat} (h1 : 1 ≤ op) (h4 : op ≤ 4) : s.linRefused op 0 = some 2 := by
  simp [State.linRefused, h1, h4]

theorem State.linRefused_none (s : State) {op i : Nat} (hi : i ≠ 0) (h5 : op ≠ 5) : s.linRefused op i = none := by
  simp [State.linRefused, hi, h5]

/-- A MINT image that is malformed or of another lineage is refused (R96). -/
theorem State.linRefused_mint_image (s : State) {i : Nat}
    (h : let c : Cell := { bits := s.mintImage, kind := if s.fld 8 0x50 2 0 = 3 then .sealed else .cap }
      capMalformed c = true ∨ capLin c ≠ i) : s.linRefused 5 i = some 3 := by
  rw [State.linRefused, if_neg (by omega), if_pos ⟨rfl, h⟩]

/-- A MINT target outside memory is refused (R96). -/
theorem State.linRefused_mint_target (s : State) {i : Nat}
    (hgood : capMalformed { bits := s.mintImage, kind := if s.fld 8 0x50 2 0 = 3 then .sealed else .cap } = false)
    (hlin : capLin { bits := s.mintImage, kind := if s.fld 8 0x50 2 0 = 3 then .sealed else .cap } = i)
    (hmem : s.isMemory s.mintAddr = false) : s.linRefused 5 i = some 4 := by
  rw [State.linRefused, if_neg (by omega), if_neg (by simp [hgood, hlin]), if_pos ⟨rfl, by simp [hmem]⟩]

/-- An entry in the wrong state refuses ALLOC, REVOKE, RETIRE and FREE (R96). -/
theorem State.linPerform_refused (s : State) {op i owner : Nat} {v : Word}
    (h : op = 1 ∧ entState v ≠ 0 ∨ (op = 2 ∨ op = 3) ∧ entState v ≠ 1 ∨ op = 4 ∧ entState v ≠ 2) : s.linPerform op i owner v = s.linEnd 1 := by
  rcases h with ⟨rfl, hv⟩ | ⟨rfl | rfl, hv⟩ | ⟨rfl, hv⟩ <;> simp [State.linPerform, hv]

/-! ## CHECK and completion -/

theorem State.linCmd_checkAll {s : State} {m : Master} (i owner : Nat) (hm : isMgmt m = true) (hfree : s.fld 8 0x14 0 0 = 0) :
    s.linCmd m 7 i owner = (s.linTaken 7 i owner).linCheckAll := by
  simp [State.linCmd, State.linTaken, hm, hfree]

/-- The registers as a command completes, before its events (R97). -/
def State.linShown (s : State) : State :=
  ((s.setFld 8 0x14 0 0 0).setFld 8 0x14 11 8 s.lin.result).setReg 8 0x18 (s.linEntry false s.lin.idx)

theorem State.linShown_reads (s : State) :
    s.linShown.fld 8 0x14 0 0 = 0 ∧ s.linShown.fld 8 0x14 11 8 = s.lin.result % 16 ∧ s.linShown.reg 8 0x18 = s.linEntry false s.lin.idx := by
  have h14 : s.linShown.reg 8 0x14 = setBits (setBits (s.reg 8 0x14) 0 0 0) 11 8 (s.lin.result % 2 ^ (11 + 1 - 8)) := by
    rw [setBits_mod, State.linShown, State.reg_setReg_ne _ _ (by decide), State.setFld, State.reg_setReg_self, State.setFld, State.reg_setReg_self]
  refine ⟨?_, ?_, State.reg_setReg_self ..⟩
  · rw [State.fld, h14, bits_setBits_apart _ (by decide) (by decide) (by decide), bits_setBits_self _ (by decide) (by decide) (by decide)]
  · rw [State.fld, h14, bits_setBits_self _ (by decide) (by decide) (Nat.mod_lt _ (Nat.two_pow_pos _))]
    rfl

/-- After it has shown its result a command only raises events: 1660, 1661 after a mismatch, 1662 after a time-out (R97, R100, R104). -/
theorem State.linComplete_eq (s : State) : ∃ t, Reacts (s.linShown.raise 1660) t ∧ s.linComplete = { t with lin := { t.lin with phase := .idle, found := 0 } } ∧
    (s.lin.found ≠ 0 → 1661 ∈ t.events.map (·.1)) ∧ (s.lin.result = 6 → 1662 ∈ t.events.map (·.1)) ∧
    (s.lin.found = 0 → s.lin.result ≠ 6 → t = s.linShown.raise 1660) := by
  have hlin := State.reacts_linEvent (s.linShown.raise 1660) s.lin.found
  by_cases h6 : s.lin.result = 6
  · refine ⟨_, hlin.trans (State.reacts_raise _ 1662), ?_, fun h => (State.reacts_raise _ 1662).event (State.linEvent_raises _ h), fun _ => State.mem_raise _ _,
      fun _ h => absurd h6 h⟩
    simp only [State.linComplete, if_pos h6]
    rfl
  · refine ⟨_, hlin, ?_, fun h => State.linEvent_raises _ h, fun h => absurd h h6, fun h _ => by rw [h]; rfl⟩
    simp only [State.linComplete, if_neg h6]
    rfl

theorem State.linComplete_shows (s : State) :
    s.linComplete.fld 8 0x14 0 0 = 0 ∧ s.linComplete.fld 8 0x14 11 8 = s.lin.result % 16 ∧
      s.linComplete.reg 8 0x18 = s.linEntry false s.lin.idx ∧ s.linComplete.lin.phase = .idle ∧ 1660 ∈ s.linComplete.events.map (·.1) ∧
      (s.lin.found ≠ 0 → 1661 ∈ s.linComplete.events.map (·.1)) ∧ (s.lin.result = 6 → 1662 ∈ s.linComplete.events.map (·.1)) ∧
      (s.lin.found = 0 → s.lin.result ≠ 6 → s.linComplete.events.map (·.1) = s.events.map (·.1) ++ [1660]) := by
  obtain ⟨t, hreacts, heq, h1661, h1662, hquiet⟩ := s.linComplete_eq
  obtain ⟨hbusy, hresult, hentry⟩ := s.linShown_reads
  have h14 : t.reg 8 0x14 = s.linShown.reg 8 0x14 := (hreacts.blk8 0x14 (by decide)).trans (State.reg_raise ..)
  have h18 : t.reg 8 0x18 = s.linShown.reg 8 0x18 := (hreacts.blk8 0x18 (by decide)).trans (State.reg_raise ..)
  have hfld : ∀ hi lo, s.linComplete.fld 8 0x14 hi lo = s.linShown.fld 8 0x14 hi lo := fun hi lo => by
    rw [heq, State.fld, State.reg_withLin, h14, State.fld]
  refine ⟨(hfld 0 0).trans hbusy, (hfld 11 8).trans hresult, ?_⟩
  rw [heq, State.reg_withLin, h18]
  exact ⟨hentry, rfl, hreacts.event (State.mem_raise _ _), h1661, h1662, fun h0 h6 => by
    rw [hquiet h0 h6]
    exact List.map_append⟩

/-! ## The fill of a lineage filter -/

/-- A check whose entry was read passes exactly a capability of the generation read (R102). -/
theorem linkOk_checked {e : Nat} {c : Cell} {t : State} {p : Nat × Option Nat} (hi : capLin c ≠ 0)
    (h : (t.engine e).lchk.find? (fun p => p.1 == capLin c) = some p) : (linkOk e c false).run t = .ok (p.2 == some (capGen c)) t := by
  simp only [linkOk]
  rw [if_neg hi]
  simp only [em_bind, em_get, Bool.false_eq_true, if_false, h, em_pure]

/-- Nothing that an engine checks was checked under an index (R102). -/
def Unchecked (s : State) (n i : Nat) : Prop := ∀ p ∈ (s.engine n).lchk, p.1 ≠ i

/-- The check that a fill decides (R92, R102). -/
def State.filled (s : State) (n i : Nat) (g : Option Nat) : State :=
  s.updEngine n (fun x => { x with lfill := none, lchk := x.lchk ++ [(i, g)] })

theorem State.filled_lfill (s : State) (n i : Nat) (g : Option Nat) : ((s.filled n i g).engine n).lfill = none := by simp [State.filled]

theorem State.filled_filt (s : State) (n i : Nat) (g : Option Nat) : ((s.filled n i g).engine n).filt = (s.engine n).filt := by simp [State.filled]

theorem State.filled_check {s : State} {n i : Nat} (g : Option Nat) {c : Cell} (h : Unchecked s n i) (hi : i ≠ 0) (hc : capLin c = i) :
    (linkOk n c false).run (s.filled n i g) = .ok (g == some (capGen c)) (s.filled n i g) := by
  subst hc
  refine linkOk_checked (p := (capLin c, g)) hi ?_
  have hnone : (s.engine n).lchk.find? (fun p => p.1 == capLin c) = none :=
    List.find?_eq_none.mpr fun p hp => by simpa using h p hp
  simp [State.filled, hnone]

theorem exec_fill {s : State} {e : Eid} {i : Nat} (h : (s.engine e.toNat).lfill = some i) :
    exec (.lineageFilterFill e) s = .next ((s.filtFill e.toNat i).2.filled e.toNat i (s.filtFill e.toNat i).1) := by
  show execLineageFilterFill e s = _
  simp only [execLineageFilterFill, h]
  rfl

theorem State.filtInstall_engine (s : State) (n i g : Nat) :
    ∃ l, (s.filtInstall n i g).engine n = { s.engine n with filt := l ++ [(i, g)] } := by
  by_cases h : (s.engine n).filt.length < 64
  · exact ⟨_, by rw [State.filtInstall, if_pos h, State.engine_setEngine_self]⟩
  · exact ⟨_, by rw [State.filtInstall, if_neg h]; exact State.engine_setEngine_self s n _⟩

theorem State.filtInstall_mem (s : State) (n i g : Nat) : (i, g) ∈ ((s.filtInstall n i g).engine n).filt := by
  obtain ⟨l, hl⟩ := s.filtInstall_engine n i g
  simp [hl]

theorem State.filtInstall_unchecked {s : State} {n i : Nat} (g : Nat) (h : Unchecked s n i) : Unchecked (s.filtInstall n i g) n i := by
  obtain ⟨l, hl⟩ := s.filtInstall_engine n i g
  rwa [Unchecked, hl]

/-! ### An uncorrectable entry -/

theorem State.logError_eng (s : State) (key pa ty pos src master : Nat) : (s.logError key pa ty pos src master).eng = s.eng := by
  have hreact : ∀ (t : State) cls unit, (t.react cls unit).eng = t.eng := fun t cls unit => (t.reacts_react cls unit).eng
  simp [State.logError, State.count16, apply_ite State.eng, hreact]

theorem State.linRead_uncorrectable {s : State} {chB : Bool} {i : Nat} (src master : Nat)
    (h : (errWeight (s.mem.err (alignDown (linKey chB i) 16))).1 = 2) :
    ∃ t, s.linRead chB i src master = (none, t) ∧ t.eng = s.eng := by
  have hne : s.mem.err (alignDown (linKey chB i) 16) ≠ 0 := fun h0 => by
    rw [h0, errWeight_zero] at h
    exact absurd h (by decide)
  have hdecode : s.decode (linKey chB i) = (.ue 1 0, s) := by simp [State.decode, decodeErr, h]
  refine ⟨_, ?_, State.logError_eng s (linKey chB i) (alignDown (linKey chB i) 16) 1 0 src master⟩
  simp only [State.linRead, if_neg hne, hdecode]

theorem State.ackLin_unchecked {s : State} {n i : Nat} (e : Nat) (h : Unchecked s n i) : Unchecked (s.ackLin e) n i := by
  rcases eq_or_ne n e with rfl | hne
  · intro p hp
    refine h p ?_
    simp only [State.ackLin, State.engine_updEngine_self] at hp
    split_ifs at hp <;> simp only [Engine.sweepRegs, Engine.dropFilt, List.mem_filter] at hp <;> exact hp.1
  · rwa [Unchecked, State.ackLin, State.engine_updEngine_ne s _ hne]

theorem State.foldl_ackLin_unchecked (l : List Nat) {s : State} {n i : Nat} (h : Unchecked s n i) :
    Unchecked (l.foldl (fun u e => u.ackLin e) s) n i := by
  induction l generalizing s with
  | nil => exact h
  | cons e l ih => exact ih (s.ackLin_unchecked e h)

/-- The handling of a mismatch only ends checks (R100, R101). -/
theorem State.linMismatch_unchecked {s : State} {n i : Nat} (j : Nat) (h : Unchecked s n i) : Unchecked (s.linMismatch j) n i := by
  have hregs : (if s.fld 8 0x14 2 2 = 1 then s else s.setFld 8 0x60 31 16 j).eng = s.eng := by
    split_ifs <;> rfl
  have hstart : ∀ t : State, t.eng = s.eng → Unchecked t n i := fun t ht => by rwa [Unchecked, State.engine, ht]
  by_cases hj : j = 0
  · rw [State.linMismatch, if_pos hj]
    exact hstart _ hregs
  · simp only [State.linMismatch, if_neg hj]
    rw [Unchecked, State.linBroadcast, State.ackAll_engine]
    exact State.foldl_ackLin_unchecked _ (hstart _ hregs)

theorem State.filtFill_uncorrectable {s : State} {n i : Nat} (hi : i ≠ 0) (h : Unchecked s n i)
    (herr : (errWeight (s.mem.err (alignDown (linKey (inB n) i) 16))).1 = 2) :
    ∃ t, s.filtFill n i = (none, t) ∧ Unchecked t n i := by
  obtain ⟨t, hread, heng⟩ := s.linRead_uncorrectable 0xA n herr
  refine ⟨t.linMismatchSolo i, by rw [State.filtFill, hread], ?_⟩
  rw [State.linMismatchSolo, if_neg hi]
  exact State.linMismatch_unchecked i (by rwa [Unchecked, State.engine, heng])

/-! ### A sound entry -/

theorem State.filtFill_live {s : State} {n i : Nat} (herr : s.mem.err (alignDown (linKey (inB n) i) 16) = 0)
    (hv : entState (s.linEntry (inB n) i) = 1) :
    s.filtFill n i = (some (entGen (s.linEntry (inB n) i)), s.filtInstall n i (entGen (s.linEntry (inB n) i))) := by
  simp only [State.filtFill, s.linRead_clean 0xA n herr, if_pos hv]

theorem State.filtFill_dead {s : State} {n i : Nat} (herr : s.mem.err (alignDown (linKey (inB n) i) 16) = 0)
    (hv : entState (s.linEntry (inB n) i) ≠ 1) : s.filtFill n i = (none, s) := by
  simp only [State.filtFill, s.linRead_clean 0xA n herr, if_neg hv]

/-! ## O34 -/

/-- The commands that a LIN block takes from a management master, by their codes (R95). -/
theorem exec_lin {s : State} {m : Master} (idx : BitVec 16) (owner : Byte) (h : s.lets m 8 0x10 .write = true) :
    exec (.alloc m idx owner) s = .next (s.linCmd m 1 idx.toNat owner.toNat) ∧ exec (.revoke m idx) s = .next (s.linCmd m 2 idx.toNat 0) ∧
      exec (.retire m idx) s = .next (s.linCmd m 3 idx.toNat 0) ∧ exec (.free m idx) s = .next (s.linCmd m 4 idx.toNat 0) ∧
      exec (.mint m idx) s = .next (s.linCmd m 5 idx.toNat 0) ∧ exec (.check m idx) s = .next (s.linCmd m 7 idx.toNat 0) := by
  have hadmits : ∀ f, s.admits m 8 0x10 f = f s := fun f => admits_of s m 8 0x10 f h
  exact ⟨congrArg _ (hadmits _), congrArg _ (hadmits _), congrArg _ (hadmits _), congrArg _ (hadmits _), congrArg _ (hadmits _),
    congrArg _ (hadmits _)⟩

/-- Settles O34: the refusals by the order of their tests, the rest by what each step does to the LIN block and to the engine. -/
theorem lineageProgress : Obligations.LineageProgress := by
  unfold Obligations.LineageProgress
  refine ⟨?refusals, ?steps, ?fill⟩
  case refusals =>
    intro s m idx owner v i c ends hm hlets hfree
    obtain ⟨halloc, hrevoke, hretire, hfreeCmd, hmint, -⟩ := exec_lin idx owner hlets
    have htakes : ∀ op, op ≠ 0 → op < 7 → (op = 5 → m ≠ .debug) → TakesLin s m op := fun op h0 h7 h5 => ⟨hm, hfree, h0, h7, h5⟩
    have hends : ∀ {x op o r}, exec x s = .next (s.linCmd m op i o) → s.linCmd m op i o = (s.linTaken op i o).linEnd r → ends x r :=
      fun {x op o r} hx ht => ⟨_, hx.trans (congrArg _ ht), s.linTaken_linEnd op i o r⟩
    have hrefused : ∀ {x op o r}, exec x s = .next (s.linCmd m op i o) → op ≠ 0 → op < 7 → (op = 5 → m ≠ .debug) →
        s.linRefused op i = some r → ends x r :=
      fun hx h0 h7 h5 hr => hends hx (State.linCmd_refused _ (htakes _ h0 h7 h5) hr)
    refine ⟨fun hi => ?_, fun hd hbad => ?_, fun hd hgood hlin hmem => ?_, fun hi hA hB heA heB => ?_⟩
    · have hzero : ∀ op, 1 ≤ op → op ≤ 4 → s.linRefused op i = some 2 := fun op h1 h4 => hi ▸ s.linRefused_zero h1 h4
      exact ⟨hrefused halloc (by decide) (by decide) (fun h => absurd h (by decide)) (hzero 1 (by decide) (by decide)),
        hrefused hrevoke (by decide) (by decide) (fun h => absurd h (by decide)) (hzero 2 (by decide) (by decide)),
        hrefused hretire (by decide) (by decide) (fun h => absurd h (by decide)) (hzero 3 (by decide) (by decide)),
        hrefused hfreeCmd (by decide) (by decide) (fun h => absurd h (by decide)) (hzero 4 (by decide) (by decide))⟩
    · exact hrefused hmint (by decide) (by decide) (fun _ => hd) (s.linRefused_mint_image hbad)
    · exact hrefused hmint (by decide) (by decide) (fun _ => hd) (s.linRefused_mint_target hgood hlin hmem)
    · have hwrong : ∀ {x op o}, exec x s = .next (s.linCmd m op i o) → op ≠ 0 → op < 7 → op ≠ 5 →
          (op = 1 ∧ entState v ≠ 0 ∨ (op = 2 ∨ op = 3) ∧ entState v ≠ 1 ∨ op = 4 ∧ entState v ≠ 2) → ends x 1 :=
        fun hx h0 h7 h5 hv => hends hx ((State.linCmd_performed _ (htakes _ h0 h7 fun h => absurd h h5) (s.linRefused_none hi h5)
          ⟨hA, hB, heA, heB⟩).trans (State.linPerform_refused _ hv))
      exact ⟨fun hv => hwrong halloc (by decide) (by decide) (by decide) (by simp [hv]),
        fun hv => ⟨hwrong hrevoke (by decide) (by decide) (by decide) (by simp [hv]),
          hwrong hretire (by decide) (by decide) (by decide) (by simp [hv])⟩,
        fun hv => hwrong hfreeCmd (by decide) (by decide) (by decide) (by simp [hv])⟩
  case steps =>
    intro s m idx e
    refine ⟨fun hm hlets hfree hsame herrs => ?_, fun hpend hmay => ?_, ⟨fun hrest => ?_, fun hrest _ hphase => ?_⟩, fun hdone => ?_⟩
    · obtain ⟨-, -, -, -, -, hcheck⟩ := exec_lin idx 0 hlets
      have hclean : ∀ k, s.mem.err k = 0 := fun k => by rw [Memory.err, herrs]; rfl
      refine ⟨_, hcheck, ?_⟩
      rw [State.linCmd_checkAll _ _ hm hfree, State.linCheckAll_same (s := s.linTaken 7 idx.toNat 0) hsame hclean]
      exact ⟨rfl, rfl, rfl, rfl⟩
    · refine execFilterInvalidateAck_acks hpend ?_
      rcases hmay with ⟨hsb, hload, hact, hchecks⟩ | hheld | hasleep
      · refine .inl ?_
        simpa [Engine.drained, hsb, hload, hact] using fun a b h => hchecks (a, b) h
      · exact .inr (by simp [State.acksAtOnce, hheld])
      · exact .inr (by simp [State.acksAtOnce, hasleep])
    · exact execLinBroadcastTimeout_stops rfl hrest
    · exact execLinBroadcastTimeout_ends hrest hphase
    · exact ⟨_, congrArg Host.Outcome.next (if_pos hdone), s.linComplete_shows⟩
  case fill =>
    intro s e i c n v err hfill hnone hi hc herr
    have hun : Unchecked s n i := fun p hp => by simpa using List.find?_eq_none.mp hnone p hp
    refine ⟨_, exec_fill hfill, State.filled_lfill .., fun h0 hv => ?_, fun h0 hv => ?_, fun h2 => ?_⟩
    · rw [State.filtFill_live h0 hv]
      refine ⟨?_, (State.filled_check _ (State.filtInstall_unchecked _ hun) hi hc).trans ?_⟩
      · exact (State.filled_filt (s.filtInstall n i (entGen v)) n i (some (entGen v))).symm ▸ s.filtInstall_mem n i (entGen v)
      · rw [Option.some_beq_some, BEq.comm]
    · rw [State.filtFill_dead h0 hv]
      exact State.filled_check none hun hi hc
    · obtain ⟨t, ht, hunt⟩ := State.filtFill_uncorrectable hi hun h2
      rw [ht]
      exact State.filled_check none hunt hi hc


end Sys2Proof.Machine
end

section
/-!
# A lineage command on memory that lists a cell's error twice (R99, R368)

An error that memory lists a second time, outside its canonical form, comes to light where a write frees the cell of the error listed first:
the entry read as sound before the command reads back uncorrectable, and the command ends in a mismatch (R100).
-/

namespace Sys2Proof.Machine

open Sys2Proof

/-! ## A mismatch, and a write that does not read back -/

theorem State.foldl_ackLin_linA (l : List Nat) (s : State) : (l.foldl (fun u e => u.ackLin e) s).linA = s.linA := by
  induction l generalizing s with
  | nil => rfl
  | cons e l ih => exact (ih _).trans (s.updEngine_linA e _)

theorem State.linBroadcastEnd_linA (s : State) : s.linBroadcastEnd.linA = s.linA := by
  by_cases h : s.lin.pend.isEmpty = true
  · rw [State.linBroadcastEnd, if_pos h]
    exact (State.reacts_linEvent _ _).linA
  · rw [State.linBroadcastEnd, if_neg h]

theorem State.ackAll_linA (s : State) (l : List Nat) : (s.ackAll l).linA = s.linA := by
  rw [State.ackAll, State.linBroadcastEnd_linA]
  exact State.foldl_ackLin_linA l s

theorem State.linBroadcast_linA (s : State) (i : Nat) : (s.linBroadcast i).linA = s.linA := by
  rw [State.linBroadcast, State.ackAll_linA]

theorem entState_sweep (owner gen : Nat) : entState (mkEntry owner 2 gen) = 2 := by
  simp only [entState, mkEntry, bits, BitVec.toNat_ofNat, Nat.shiftRight_eq_div_pow]
  omega

/-- A mismatch of a command leaves its entry SWEEP (R100). -/
theorem State.linFail_entry (s : State) {i : Nat} (hi : i ≠ 0) : entState ((s.linFail i).linEntry false i) = 2 := by
  have hput : ∀ (t : State) w, (t.setLinBoth i w).linEntry false i = w := fun t w => Map.get_put_self 0 w t.linA i
  simp only [State.linFail, State.linMismatch, if_neg hi]
  rw [State.linEntry, if_neg (by decide), State.linBroadcast_linA]
  exact (congrArg entState (hput _ _)).trans (entState_sweep _ _)

/-- An entry whose cell reads back uncorrectable ends its command in a mismatch (R99). -/
theorem State.linWrite_uncorrectable (s : State) {i : Nat} (w : Word) (next : State → State)
    (h : (errWeight ((s.setLinBoth i w).mem.err (alignDown (linKey false i) 16))).1 = 2) : ∃ t : State, s.linWrite i w next = t.linFail i := by
  obtain ⟨t, hread, -⟩ := State.linRead_uncorrectable 0xA 0 h
  exact ⟨(t.linRead true i 0xA 0).2, by simp only [State.linWrite, State.linCompare, hread]⟩

/-- A REVOKE whose entry does not read back leaves it SWEEP. -/
theorem State.linCmd_revoke_uncorrectable {s : State} {m : Master} {i : Nat} {v : Word} (ht : TakesLin s m 2) (hi : i ≠ 0) (hv : CopiesAgree s i v)
    (hlive : entState v = 1)
    (herr : (errWeight (((s.mem.setErr (alignDown (linKey false i) 16) 0).setErr (alignDown (linKey true i) 16) 0).err (alignDown (linKey false i) 16))).1 = 2) :
    entState ((s.linCmd m 2 i 0).linEntry false i) = 2 := by
  rw [State.linCmd_performed 0 ht (s.linRefused_none hi (by decide)) hv, State.linPerform]
  dsimp only
  rw [if_neg (by simp [hlive])]
  obtain ⟨t, hfail⟩ := State.linWrite_uncorrectable (s.linTaken 2 i 0) (if entGen v < 15 then mkEntry (entOwner v) 1 (entGen v + 1) else mkEntry (entOwner v) 2 0)
    (fun t => ({ t with lin := { t.lin with phase := .bcast, result := 0, sweep := false } } : State).linBroadcast i) herr
  rw [hfail]
  exact t.linFail_entry hi

/-! ## A lineage command through firmware -/

theorem fm_bind {α β : Type} (x : FM α) (f : α → FM β) (s : State) :
    (x >>= f).run s = match x.run s with | .ok a t => (f a).run t | .error b t => .error b t := by
  rw [EStateM.run_bind]
  cases x.run s <;> rfl
theorem fm_pure {α : Type} (a : α) (s : State) : (pure a : FM α).run s = .ok a s := (EStateM.run_pure a s).trans (Eq.refl _)
theorem fm_get (s : State) : (get : FM State).run s = .ok s s := (EStateM.run_get s).trans (Eq.refl _)
theorem fm_throw {α : Type} (b : FwStop) (s : State) : (throw b : FM α).run s = .error b s := Eq.trans (b := .error b s) rfl (Eq.refl _)
theorem fm_modify (f : State → State) (s : State) : (modify f : FM PUnit).run s = .ok ⟨⟩ (f s) := (EStateM.run_modify f s).trans (Eq.refl _)

theorem forM_run {α : Type} {f : α → FM PUnit} {s : State} (hf : ∀ a, (f a).run s = .ok ⟨⟩ s) (l : List α) : (l.forM f).run s = .ok ⟨⟩ s := by
  induction l with
  | nil => exact fm_pure _ s
  | cons a l ih => rw [List.forM, fm_bind, hf a]; exact ih

/-- Firmware reads a window that Cretal's MPU lets it at (R493). -/
theorem fwLook_run {s : State} {pa : Nat} (n : Nat) (h : ∀ a, (s.mpuDecide .cretal a .read true false (plainMt pa)).1 = 0) :
    (fwLook pa n).run s = .ok ⟨⟩ s := by
  have hcheck : ∀ a, s.mpuCheck .cretal a .read true false (plainMt pa) 3 0 = (0, s) := fun a => by
    obtain ⟨w, hw⟩ : ∃ w, s.mpuDecide .cretal a .read true false (plainMt pa) = (0, w) := ⟨_, Prod.ext (h a) rfl⟩
    simp only [State.mpuCheck, hw]
  refine forM_run (fun i => ?_) _
  rw [fm_bind, fm_get]
  dsimp only
  rw [hcheck, if_neg (by simp), fm_pure]

theorem fwReach_run {s : State} {b o : Nat} {acc : Access} (h : s.lets .cretal b o acc = true) : (fwReach b o acc).run s = .ok ⟨⟩ s := by
  rw [fwReach, fm_bind, fm_get]
  dsimp only
  rw [if_neg (by simp [h]), fm_pure]

theorem need_run {c : Bool} (st : Nat) (s : State) (h : c = true) : (need c st).run s = .ok ⟨⟩ s := by rw [need, if_pos h, fm_pure]

/-- A request in the background (R507). -/
def State.inBg (s : State) (q : Req) (val aux : Nat) : State :=
  s.updFw (fun f => { f with bg := Map.put { cmd := q.cmd, val := val, aux := aux } f.bg q.chan })

theorem State.inBg_linEntry (s : State) (q : Req) (val aux : Nat) (chB : Bool) (i : Nat) :
    (s.inBg q val aux).linEntry chB i = s.linEntry chB i := rfl

/-- LIN_REVOKE, LIN_RETIRE and LIN_SWEPT give their LIN command and go to the background (Table 14-14). -/
theorem fwLinOp_run {s : State} {q : Req} {op st i : Nat} {v : Word} (hi : q.num 0 2 = i) (hwin : ∀ a mt, (s.mpuDecide .cretal a .read true false mt).1 = 0)
    (hlets : s.lets .cretal 8 0x10 .write = true) (howns : s.ownsLin q i = true) (hready : LinReady s i v) (hst : entState v = st) :
    (fwLinOp op st q).run s = .error .bg ((s.linCmd .cretal op i 0).inBg q i op) := by
  obtain ⟨hidle, hbg, -, hA, -, -, -⟩ := hready
  have hentry : (fwEntry i).run s = .ok ⟨⟩ s := fwLook_run 4 fun a => hwin a _
  have hgo : ¬((decide (s.lin.phase ≠ .idle) || s.linBg) = true) := by simp [hidle, hbg]
  rw [fwLinOp, fm_bind, fm_get]
  simp only [hi]
  rw [fm_bind, hentry]
  dsimp only
  rw [fm_bind, need_run 6 s howns]
  dsimp only
  rw [fm_bind, need_run 7 s (by simp [hA, hst])]
  dsimp only
  rw [if_neg hgo, fm_bind, fwReach_run hlets]
  dsimp only
  rw [fm_bind, fm_modify]
  dsimp only
  rw [goBg, fm_bind, fm_modify]
  dsimp only
  rw [fm_throw]
  rfl

/-- A request that passes checks 1 to 5 and is new is served by its command's own checks and effect (R505, R506). -/
theorem serve_of_asks {s : State} {n : BitVec 5} {code : Nat} {q : Req} (h : Asks s n code q) {body : Req → FM (List Byte)} {t : State}
    (hbody : (body q).run s = .error .bg t) : s.serve n.toNat code body = t := by
  obtain ⟨⟨hram, -, -⟩, hserved, hcode, hcrc, hnew, hform⟩ := h
  simp only [State.serve, hserved]
  rw [if_neg (fun hne => hne.1 hcode), State.cretalRun, hram]
  dsimp only
  rw [State.serveReq, if_neg (not_not_intro hcrc), hnew]
  dsimp only
  rw [hform]
  dsimp only
  rw [hbody]

/-! ## The state -/

/-- Domain 7, with engine 0. -/
def staleDomain : Domain :=
  { id := 7, engines := [0], chans := [2], drop := 0, quota := 1, trustk := false, heartbeat := false, safety := false, image := false, cal := false
    sysmgr := false, soft := [] }
/-- A resource of domain 7. -/
def staleResource : Resource := { num := 5, base := 0x100000, size := 0x1000, vbase := 2 ^ 55, perm := 0x3FF, domains := [7], mirror := false }
/-- A specification over that resource. -/
def staleSpec : CapSpec := { res := 5, lin := 1, perm := 0x3FF, drop := 0, ofs := 0, size := 0, cur := 0 }
/-- Engine 0, of domain 7. -/
def staleEngine : EngineRec :=
  { id := 0, domain := 7, chan := some 2, spillHw := true, paired := false, dtb := 0x40000, regions := [], pcc := staleSpec, ksp := staleSpec
    vbar := staleSpec, restpc := staleSpec, restsp := staleSpec, drop := staleSpec, vmode := 0, ttb1 := 0, tcr := 0, tlbage := 0 }
/-- The record of that domain. -/
def staleRecord : InstallRec :=
  { domains := [staleDomain], resources := [staleResource], engines := [staleEngine], ports := []
    device := { memCfgA := 0, memCfgB := 0, dcsize := [], safePol := 0, calCfg := 0, kcfg := 0, hang := 0, scrbPeriod := 0, role := 0, refcal := 0
                tdrZero := [], binds := [], cretalMpu := [] } }
/-- LIN_REVOKE of index 1. -/
def staleMessage : List Byte := fwMsg 0x0303 6 0 (toBytes 2 1)
/-- The device in RUN with no region of Cretal's MPU enabled, lineage 1 LIVE and owned by domain 7, and a request of engine 0 on channel 2 in
service. The cell of the entry is listed with no error, and then with an error of two symbols. -/
def staleState : State :=
  { State.reset with
    regs := [(regKey 5 (mbxBase 2 + 0x204), 2), (regKey 5 (mbxBase 2 + 0x20C), 0x80000000)], safe := { Safe.reset with modeA := .run, modeB := .run }
    cretalReset := false, inst := some staleRecord, fw := { Fw.reset with req := [(2, staleMessage)] }
    linA := [(0, 0x10), (1, 0x710)], linB := [(0, 0x10), (1, 0x710)]
    mem := { State.reset.mem with errs := [(0x40000000, 0), (0x40000000, 0x101)] } }
/-- The request in service. -/
def staleReq : Req := staleState.reqOf 2 staleMessage

theorem staleReq_index : staleReq.num 0 2 = 1 := by decide +kernel

theorem staleState_ready : LinReady staleState 1 0x710 := by
  unfold LinReady
  decide +kernel

/-- Cretal's MPU lets every access but a fetch. -/
theorem staleState_lets (pa : Nat) {acc : Access} (mt : MemType) (h : acc ≠ .exec) : (staleState.mpuDecide .cretal pa acc true false mt).1 = 0 := by
  have hwin : staleState.mpuWin 0x100 0x1000 pa 16 = none := mpuWin_none _ _ _ _ _ (by decide +kernel)
  have hstrict : staleState.mpuStrict .cretal = false := by decide +kernel
  simp [State.mpuDecide, mpuAt, hwin, hstrict, h]

theorem staleState_reaches : CretalReaches staleState where
  ram := by decide +kernel
  regs b o acc _ _ h := by simp [State.lets, staleState_lets _ _ h]
  windows pa _ := staleState_lets pa _ (by decide)

theorem staleState_asks : Asks staleState 2 0x0303 staleReq where
  reaches := staleState_reaches
  served := by
    have hserving : staleState.serving 2 =
        if staleState.cretalReset || staleState.mbxState 2 != 2 || staleState.fw.bg.any (fun p => p.1 == 2) ||
          (staleState.inst.isNone && chanFrom 2 != 8) then none else some staleReq := rfl
    exact hserving.trans (if_neg (by decide +kernel))
  code := by decide +kernel
  crc := by decide +kernel
  new := by decide +kernel
  form := by decide +kernel

/-- The write of entry 1 frees its cell of the error listed first, and the second is of two symbols. -/
theorem staleState_error :
    (errWeight (((staleState.mem.setErr (alignDown (linKey false 1) 16) 0).setErr (alignDown (linKey true 1) 16) 0).err (alignDown (linKey false 1) 16))).1 = 2 := by
  decide +kernel

theorem staleState_revoked : entState ((staleState.linCmd .cretal 2 1 0).linEntry false 1) = 2 := by
  obtain ⟨-, -, hbusy, hA, hB, heA, heB⟩ := staleState_ready
  exact State.linCmd_revoke_uncorrectable ⟨rfl, hbusy, by decide, by decide, by decide⟩ (by decide) ⟨hA, hB, heA, heB⟩ (by decide) staleState_error

theorem staleState_cmd : staleState.lets .cretal 8 0x10 .write = true := staleState_reaches.regs 8 0x10 .write (by decide) (by decide) (by decide)

/-- Refutes O33: REVOKE of the LIVE lineage 1 in `staleState` leaves it SWEEP, where the statement asks for LIVE at the next generation. The
statement's hypotheses look at the error listed first, and do not ask for memory in canonical form. -/
theorem not_lineageCommands : ¬ Obligations.LineageCommands := by
  unfold Obligations.LineageCommands
  intro h
  obtain ⟨-, -, hbusy, hA, hB, heA, heB⟩ := staleState_ready
  obtain ⟨hcmds, -⟩ := h staleState .cretal 1 0 0x710 rfl staleState_cmd hbusy hA hB heA heB
  obtain ⟨-, hlive, -⟩ := hcmds (by decide)
  obtain ⟨⟨t, ht, -, -, hput, -⟩, -⟩ := hlive (by decide)
  obtain ⟨-, hrevoke, -⟩ := exec_lin (s := staleState) (m := .cretal) 1 0 staleState_cmd
  have hone : (1 : BitVec 16).toNat = 1 := rfl
  rw [hone] at hput hrevoke
  have ht : t = staleState.linCmd .cretal 2 1 0 := Host.Outcome.next.inj (ht.symm.trans hrevoke)
  have hstate := congrArg entState hput
  rw [ht, staleState_revoked] at hstate
  exact absurd hstate (by decide)

theorem exec_linRevoke_stale : exec (.linRevoke 2) staleState = .next ((staleState.linCmd .cretal 2 1 0).inBg staleReq 1 2) :=
  congrArg Host.Outcome.next (serve_of_asks staleState_asks (fwLinOp_run staleReq_index (fun a mt => staleState_lets a mt (by decide)) staleState_cmd
    (by decide +kernel) staleState_ready (by decide)))

/-- Refutes O52: LIN_REVOKE of the LIVE lineage 1 in `staleState` gives its LIN command, which leaves the entry SWEEP, where the statement asks
for LIVE. -/
theorem not_firmwareTasks : ¬ Obligations.FirmwareTasks := by
  unfold Obligations.FirmwareTasks
  intro h
  obtain ⟨-, -, hops, -⟩ := h staleState staleState staleState staleState staleState staleState 2 staleReq 0x710 0 Cell.null Cell.null Cell.null
    Cell.null staleResource staleResource staleResource staleResource staleEngine
  obtain ⟨hrevoke, -⟩ := hops (.linRevoke, 0x0303, 2, 1) (by simp) staleState_asks (by decide +kernel) (by decide +kernel)
    (staleReq_index ▸ staleState_ready)
  obtain ⟨t, ht, -, -, hstate⟩ := hrevoke (by decide)
  have heq : t = (staleState.linCmd .cretal 2 1 0).inBg staleReq 1 2 := Host.Outcome.next.inj (ht.symm.trans exec_linRevoke_stale)
  rw [staleReq_index, heq, State.inBg_linEntry, staleState_revoked] at hstate
  exact absurd hstate (by decide)

end Sys2Proof.Machine
end

section
/-!
# The integer instructions (03_isa_core, R125 to R133)

Every integer instruction reads its operands, computes a result with its carry and overflow, and ends alike: in a trap, or with flags and a
result written. What each computes is said once, as an equation of its function.
-/

namespace Sys2Proof.Machine

open Sys2Proof

/-! ## The end of an integer instruction -/

theorem setFlags_run (t : State) (e : Eid) (f : Flagged) : (setFlags e.toNat f).run t = .ok ⟨⟩ (withFlags t e f) := by
  have hcode : ∀ (b : Bool) (n : Nat), b.toNat * n = if b then n else 0 := by
    intro b n
    cases b <;> simp
  have hn : f.res.msb = decide (2 ^ 63 ≤ f.res.toNat) := BitVec.msb_eq_decide _
  have hflags : f.res.msb.toNat * 8 + (f.res == 0).toNat * 4 + f.c.toNat * 2 + f.v.toNat =
      (if f.res.toNat ≥ 2 ^ 63 then 8 else 0) + (if f.res = 0 then 4 else 0) + (if f.c then 2 else 0) + (if f.v then 1 else 0) := by
    rw [← Nat.mul_one f.v.toNat, hcode, hcode, hcode, hcode, hn]
    simp only [decide_eq_true_eq, beq_iff_eq, ge_iff_le]
  rw [setFlags, em_modify, hflags, withFlags]

/-- An integer instruction that does not trap leaves flags and, where it writes one, its result. -/
theorem aluEnd_run {t : State} {e : Eid} {f : Flagged} {traps : Bool} (rd : Reg) (wr : Bool) (h : (f.v && traps && oveSet t e) = false) :
    (aluEnd e.toNat rd traps wr f).run t = .ok .seq (if wr then setI (withFlags t e f) e rd f.res else withFlags t e f) := by
  have hno : ¬((f.v && traps && bit (t.tstat e.toNat) 9) = true) := fun hyes => Bool.false_ne_true (h.symm.trans hyes)
  simp only [aluEnd, em_bind, em_get]
  rw [if_neg hno, em_bind, setFlags_run]
  cases wr <;> simp

/-- A trapping form that overflows raises Integer Overflow with its result where TSTAT.OVE is 1 (R129). -/
theorem aluEnd_trap {t : State} {e : Eid} {f : Flagged} (rd : Reg) (wr : Bool) (hv : f.v = true) (ho : oveSet t e = true) :
    (aluEnd e.toNat rd true wr f).run t = .error (.exc { code := 0x11, val := f.res.toNat, reg := some rd.toNat, acc := 0 }) t := by
  have hyes : (f.v && true && bit (t.tstat e.toNat) 9) = true := by
    rw [hv]
    exact ho
  simp only [aluEnd, em_bind, em_get]
  rw [if_pos hyes]
  rfl

section
variable {t : State} {e : Eid} {rs1 rs2 : Reg} {x y : Dword}

theorem alu2_eq (f : Dword → Dword → Flagged) (traps wr : Bool) (rd : Reg) (hx : IntOp t e rs1 x) (hy : IntOp t e rs2 y) :
    (alu2 f traps wr rd rs1 rs2 e.toNat).run t = (aluEnd e.toNat rd traps wr (f x y)).run t := by
  simp only [alu2, em_bind, ival_of hx, ival_of hy]

theorem alu1_eq (f : Dword → Flagged) (traps : Bool) (rd : Reg) (hx : IntOp t e rs1 x) :
    (alu1 f traps rd rs1 e.toNat).run t = (aluEnd e.toNat rd traps true (f x)).run t := by
  simp only [alu1, em_bind, ival_of hx]

theorem aluI_eq (f : Dword → Dword → Flagged) (traps wr : Bool) (rd : Reg) (imm : Imm13) (hx : IntOp t e rs1 x) :
    (aluI f traps wr rd rs1 imm e.toNat).run t = (aluEnd e.toNat rd traps wr (f x (imm.signExtend 64))).run t := by
  simp only [aluI, em_bind, ival_of hx]
end

theorem addc_overflow (x y : Dword) (cin : Bool) : (addc x y cin).v = overflows (x.toInt + y.toInt + cin.toNat) := by
  have hx := x.isLt
  have hy := y.isLt
  have hc : cin.toNat ≤ 1 := by cases cin <;> simp
  simp only [addc, overflows, BitVec.msb_eq_decide, BitVec.toInt_eq_toNat_cond, BitVec.toNat_ofNat]
  rw [Bool.eq_iff_iff]
  simp only [Bool.and_eq_true, beq_iff_eq, bne_iff_ne, decide_eq_true_eq, ne_eq, decide_eq_decide]
  split_ifs <;> omega

theorem addF_eq (x y : Dword) : addF x y = ⟨x + y, decide (2 ^ 64 ≤ x.toNat + y.toNat), overflows (x.toInt + y.toInt)⟩ := by
  have hv := addc_overflow x y false
  have hr : BitVec.ofNat 64 (x.toNat + y.toNat) = x + y := by simp [BitVec.ofNat_add]
  simp only [Bool.toNat_false, Nat.cast_zero, add_zero] at hv
  rw [addF, ← hv, ← hr]
  rfl

theorem toInt_not (y : Dword) : (~~~y).toInt = -1 - y.toInt := by
  have hy := y.isLt
  simp only [BitVec.toInt_eq_toNat_cond, BitVec.toNat_not]
  split_ifs <;> omega

theorem subF_eq (x y : Dword) : subF x y = ⟨x - y, decide (y.toNat ≤ x.toNat), overflows (x.toInt - y.toInt)⟩ := by
  have hv := addc_overflow x (~~~y) true
  have hx := x.isLt
  have hy := y.isLt
  have hr : BitVec.ofNat 64 (x.toNat + (~~~y).toNat + 1) = x - y := by
    apply BitVec.eq_of_toNat_eq
    simp only [BitVec.toNat_ofNat, BitVec.toNat_not, BitVec.toNat_sub]
    omega
  have hc : (2 ^ 64 ≤ x.toNat + (~~~y).toNat + 1) = (y.toNat ≤ x.toNat) := by
    rw [BitVec.toNat_not, eq_iff_iff]
    omega
  have hz : x.toInt + (~~~y).toInt + (true.toNat : Int) = x.toInt - y.toInt := by
    rw [toInt_not, Bool.toNat_true]
    omega
  rw [hz] at hv
  rw [subF, ← hv, ← hr]
  simp only [← hc]
  rfl

theorem negF_eq (x : Dword) : negF x = ⟨-x, decide (x = 0), overflows (-x.toInt)⟩ := by
  have h : negF x = subF 0 x := rfl
  have hx : x.toNat = 0 ↔ x = 0 := ⟨fun h => BitVec.eq_of_toNat_eq h, fun h => congrArg BitVec.toNat h⟩
  rw [h, subF_eq]
  simp [hx]

/-! ## Each kind of integer instruction, from fetch to commit -/

/-- A form that does not trap asks nothing of TSTAT.OVE. -/
theorem traps_false (v ove : Bool) : (v && false && ove) = false := by rw [Bool.and_false, Bool.false_and]

theorem traps_true {v ove : Bool} (h : (v && ove) = false) : (v && true && ove) = false := by rwa [Bool.and_true]

section
variable {s t : State} {e : Eid} {w : Word} {rs1 rs2 : Reg} {x y : Dword} {f : Dword → Dword → Flagged} {r : Flagged} {traps : Bool}

theorem run_alu2 (rd : Reg) (hf : f x y = r) (hx : IntOp t e rs1 x) (hy : IntOp t e rs2 y) (h : Runs s e w t)
    (hv : (r.v && traps && oveSet t e) = false) :
    run1 s e w (alu2 f traps true rd rs1 rs2) = .next ((setI (withFlags t e r) e rd r.res).retire e.toNat .seq) := by
  subst hf
  exact run1_ok h ((alu2_eq f traps true rd hx hy).trans (aluEnd_run rd true hv))

theorem run_alu1 {f : Dword → Flagged} (rd : Reg) (hf : f x = r) (hx : IntOp t e rs1 x) (h : Runs s e w t)
    (hv : (r.v && traps && oveSet t e) = false) :
    run1 s e w (alu1 f traps rd rs1) = .next ((setI (withFlags t e r) e rd r.res).retire e.toNat .seq) := by
  subst hf
  exact run1_ok h ((alu1_eq f traps rd hx).trans (aluEnd_run rd true hv))

theorem run_aluI (rd : Reg) {imm : Imm13} (hf : f x (imm.signExtend 64) = r) (hx : IntOp t e rs1 x) (h : Runs s e w t)
    (hv : (r.v && traps && oveSet t e) = false) :
    run1 s e w (aluI f traps true rd rs1 imm) = .next ((setI (withFlags t e r) e rd r.res).retire e.toNat .seq) := by
  subst hf
  exact run1_ok h ((aluI_eq f traps true rd imm hx).trans (aluEnd_run rd true hv))

/-- A form that writes flags alone. -/
theorem run_flags2 (hf : f x y = r) (hx : IntOp t e rs1 x) (hy : IntOp t e rs2 y) (h : Runs s e w t) :
    run1 s e w (alu2 f false false 0 rs1 rs2) = .next ((withFlags t e r).retire e.toNat .seq) := by
  subst hf
  exact run1_ok h ((alu2_eq f false false 0 hx hy).trans (aluEnd_run 0 false (traps_false ..)))

theorem run_flagsI {imm : Imm13} (hf : f x (imm.signExtend 64) = r) (hx : IntOp t e rs1 x) (h : Runs s e w t) :
    run1 s e w (aluI f false false 0 rs1 imm) = .next ((withFlags t e r).retire e.toNat .seq) := by
  subst hf
  exact run1_ok h ((aluI_eq f false false 0 imm hx).trans (aluEnd_run 0 false (traps_false ..)))
end

/-- Settles O6: the sum with carry of R128 overflows where the signed sum does, and a difference is a sum with the complement. -/
theorem sumsAndFlags : Obligations.SumsAndFlags := by
  unfold Obligations.SumsAndFlags
  refine ⟨fun s t e g rd rs1 rs2 imm x y hx => ⟨fun hy h hv => ?_, fun hy h => ?_, fun hy h hv => ?_, fun hy h => ?_, fun h hv => ?_, fun h hv => ?_,
    fun h => ?_⟩, fun s t e g rs1 rs2 imm x y hx => ⟨fun hy h => ?_, fun hy h => ?_, fun h => ?_⟩⟩
  · exact run_alu2 rd (addF_eq x y) hx hy h (traps_true hv)
  · exact run_alu2 rd (addF_eq x y) hx hy h (traps_false ..)
  · exact run_alu2 rd (subF_eq x y) hx hy h (traps_true hv)
  · exact run_alu2 rd (subF_eq x y) hx hy h (traps_false ..)
  · exact run_alu1 rd (negF_eq x) hx h (traps_true hv)
  · exact run_aluI rd (addF_eq x _) hx h (traps_true hv)
  · exact run_aluI rd (addF_eq x _) hx h (traps_false ..)
  · exact run_flags2 (subF_eq x y) hx hy h
  · exact run_flags2 (f := fun x y => plainF (x &&& y)) rfl hx hy h
  · exact run_flagsI (subF_eq x _) hx h

/-! ## Results that leave C and V 0 -/

theorem minF_eq (x y : Dword) : minF x y = plainF (if x.toInt < y.toInt then x else y) := by simp [minF, BitVec.slt_eq_decide]
theorem maxF_eq (x y : Dword) : maxF x y = plainF (if x.toInt < y.toInt then y else x) := by simp [maxF, BitVec.slt_eq_decide]
theorem minuF_eq (x y : Dword) : minuF x y = plainF (if x.toNat < y.toNat then x else y) := by simp [minuF, BitVec.ult]
theorem maxuF_eq (x y : Dword) : maxuF x y = plainF (if x.toNat < y.toNat then y else x) := by simp [maxuF, BitVec.ult]

section
variable {s t : State} {e : Eid} {w : Word} {rs1 rs2 : Reg} {x y : Dword} {f : Dword → Dword → Flagged} {r : Dword}

theorem run_plain2 (rd : Reg) (hf : f x y = plainF r) (hx : IntOp t e rs1 x) (hy : IntOp t e rs2 y) (h : Runs s e w t) :
    run1 s e w (alu2 f false true rd rs1 rs2) = .next ((setI (withFlags t e ⟨r, false, false⟩) e rd r).retire e.toNat .seq) :=
  run_alu2 rd hf hx hy h (traps_false ..)

theorem run_plainI (rd : Reg) {imm : Imm13} (hf : f x (imm.signExtend 64) = plainF r) (hx : IntOp t e rs1 x) (h : Runs s e w t) :
    run1 s e w (aluI f false true rd rs1 imm) = .next ((setI (withFlags t e ⟨r, false, false⟩) e rd r).retire e.toNat .seq) :=
  run_aluI rd hf hx h (traps_false ..)
end

/-- Settles O7: each function is a plain result, the minima and maxima by what the signed and unsigned comparisons decide. -/
theorem plainResults : Obligations.PlainResults := by
  unfold Obligations.PlainResults
  simp only [List.forall_mem_cons]
  refine ⟨⟨?_, ?_, ?_, ?_, ?_, ?_, ?_, ?_, ?_, ?_, ?_, List.forall_mem_nil _⟩, ?_, ?_, ?_, List.forall_mem_nil _⟩
  all_goals intro s t e g rd
  · exact fun rs1 rs2 x y hx hy h => run_plain2 (f := fun x y => plainF (x &&& y)) rd rfl hx hy h
  · exact fun rs1 rs2 x y hx hy h => run_plain2 (f := fun x y => plainF (x ||| y)) rd rfl hx hy h
  · exact fun rs1 rs2 x y hx hy h => run_plain2 (f := fun x y => plainF (x ^^^ y)) rd rfl hx hy h
  · exact fun rs1 rs2 x y hx hy h => run_plain2 (f := fun x y => plainF (x &&& ~~~y)) rd rfl hx hy h
  · exact fun rs1 rs2 x y hx hy h => run_plain2 (f := fun x y => plainF (x ||| ~~~y)) rd rfl hx hy h
  · exact fun rs1 rs2 x y hx hy h => run_plain2 (f := rolF) rd rfl hx hy h
  · exact fun rs1 rs2 x y hx hy h => run_plain2 (f := rorF) rd rfl hx hy h
  · exact fun rs1 rs2 x y hx hy h => run_plain2 rd (minF_eq x y) hx hy h
  · exact fun rs1 rs2 x y hx hy h => run_plain2 rd (maxF_eq x y) hx hy h
  · exact fun rs1 rs2 x y hx hy h => run_plain2 rd (minuF_eq x y) hx hy h
  · exact fun rs1 rs2 x y hx hy h => run_plain2 rd (maxuF_eq x y) hx hy h
  · exact fun rs1 imm x hx h => run_plainI (f := fun x y => plainF (x &&& y)) rd rfl hx h
  · exact fun rs1 imm x hx h => run_plainI (f := fun x y => plainF (x ||| y)) rd rfl hx h
  · exact fun rs1 imm x hx h => run_plainI (f := fun x y => plainF (x ^^^ y)) rd rfl hx h

/-! ## Shifts (R127, R128) -/

theorem flagged_ext {f g : Flagged} (hr : f.res = g.res) (hc : f.c = g.c) (hv : f.v = g.v) : f = g := by
  cases f
  cases g
  simp_all

theorem sllF_eq (x s : Dword) :
    sllF x s = ⟨BitVec.ofNat 64 (x.toNat * 2 ^ s.toNat), decide (0 < s.toNat ∧ s.toNat ≤ 64) && x.getLsbD (64 - s.toNat), false⟩ := by
  refine flagged_ext ?_ ?_ rfl
  · apply BitVec.eq_of_toNat_eq
    simp only [sllF]
    split_ifs with h
    · have hdvd : 2 ^ 64 ∣ x.toNat * 2 ^ s.toNat := Dvd.dvd.mul_left (Nat.pow_dvd_pow 2 h) _
      rw [BitVec.toNat_ofNat, Nat.mod_eq_zero_of_dvd hdvd]
      rfl
    · rw [BitVec.toNat_shiftLeft, BitVec.toNat_ofNat, Nat.shiftLeft_eq]
  · simp only [sllF]
    split_ifs with h
    · have hno : ¬(0 < s.toNat ∧ s.toNat ≤ 64) := by omega
      simp [hno]
    · have hin : 0 < s.toNat ∧ s.toNat ≤ 64 := by omega
      simp [hin]

theorem srlF_eq (x s : Dword) :
    srlF x s = ⟨BitVec.ofNat 64 (x.toNat / 2 ^ s.toNat), decide (0 < s.toNat) && x.getLsbD (s.toNat - 1), false⟩ := by
  refine flagged_ext ?_ ?_ rfl
  · simp only [srlF]
    split_ifs with h
    · have hlt : x.toNat < 2 ^ s.toNat := x.isLt.trans_le (Nat.pow_le_pow_right (by decide) h)
      rw [Nat.div_eq_of_lt hlt]
      rfl
    · apply BitVec.eq_of_toNat_eq
      have hlt : x.toNat / 2 ^ s.toNat < 2 ^ 64 := (Nat.div_le_self _ _).trans_lt x.isLt
      rw [BitVec.toNat_ushiftRight, BitVec.toNat_ofNat, Nat.shiftRight_eq_div_pow, Nat.mod_eq_of_lt hlt]
  · simp only [srlF]
    split_ifs with h
    · rcases h with h | h
      · simp [h]
      · simp [BitVec.getLsbD_of_ge x (s.toNat - 1) (by omega)]
    · have hin : 0 < s.toNat := by omega
      simp [hin]

theorem sraF_eq (x s : Dword) :
    sraF x s = ⟨BitVec.ofInt 64 (x.toInt / 2 ^ s.toNat),
      decide (0 < s.toNat) && (if 64 ≤ s.toNat then x.msb else x.getLsbD (s.toNat - 1)), false⟩ := by
  refine flagged_ext ?_ ?_ rfl
  · have hshift : (sraF x s).res = x.sshiftRight s.toNat := by
      simp only [sraF]
      split_ifs with h hm
      · ext i hi
        rw [BitVec.getElem_sshiftRight, dif_neg (by omega), hm, BitVec.getElem_allOnes]
      · ext i hi
        rw [BitVec.getElem_sshiftRight, dif_neg (by omega), Bool.eq_false_of_not_eq_true hm]
        exact BitVec.getElem_zero hi
      · rfl
    rw [hshift, BitVec.sshiftRight_eq, Int.shiftRight_eq_div_pow]
    norm_cast
  · simp only [sraF]
    rcases Nat.eq_zero_or_pos s.toNat with h | h
    · simp [h]
    · have hne : s.toNat ≠ 0 := by omega
      simp [h, hne]

/-- The operation that SHI selects by imm13[8:6], with the amount imm13[5:0] (R127). -/
theorem shiFn_eq {x : Dword} {imm : Imm13} {f : Nat → Flagged}
    (hf : [fun n => ⟨BitVec.ofNat 64 (x.toNat * 2 ^ n), decide (0 < n ∧ n ≤ 64) && x.getLsbD (64 - n), false⟩,
      fun n => ⟨BitVec.ofNat 64 (x.toNat / 2 ^ n), decide (0 < n) && x.getLsbD (n - 1), false⟩,
      fun n => ⟨BitVec.ofInt 64 (x.toInt / 2 ^ n), decide (0 < n) && (if 64 ≤ n then x.msb else x.getLsbD (n - 1)), false⟩,
      fun n => ⟨x.rotateLeft n, false, false⟩, fun n => ⟨x.rotateRight n, false, false⟩][imm.toNat / 64]? = some f) :
    shiFn (bits imm 8 6) x (BitVec.ofNat 64 (bits imm 5 0)) = f (imm.toNat % 64) := by
  have hamount : (BitVec.ofNat 64 (bits imm 5 0)).toNat = imm.toNat % 64 := by
    rw [BitVec.toNat_ofNat, bits_eq_div]
    omega
  have hop : bits imm 8 6 = imm.toNat / 64 % 8 := bits_eq_div imm 8 6
  rw [← hamount, hop]
  generalize BitVec.ofNat 64 (bits imm 5 0) = s at *
  generalize imm.toNat / 64 = op at hf ⊢
  match op with
  | 0 => obtain rfl := Option.some.inj hf; exact sllF_eq x s
  | 1 => obtain rfl := Option.some.inj hf; exact srlF_eq x s
  | 2 => obtain rfl := Option.some.inj hf; exact sraF_eq x s
  | 3 => obtain rfl := Option.some.inj hf; exact congrArg (fun n => plainF (x.rotateLeft n)) (Nat.mod_eq_of_lt (by omega))
  | 4 => obtain rfl := Option.some.inj hf; exact congrArg (fun n => plainF (x.rotateRight n)) (Nat.mod_eq_of_lt (by omega))
  | n + 5 => simp at hf

/-! ## Bit counts and extensions (Table 03-5) -/

theorem clz_eq {x r : Dword} (hr : r.toNat ≤ 64) (hz : ∀ i, 64 - r.toNat ≤ i → x.getLsbD i = false)
    (ho : r.toNat < 64 → x.getLsbD (63 - r.toNat) = true) : clzF x = plainF r := by
  have hlt : x.toNat < 2 ^ (64 - r.toNat) := Nat.lt_pow_two_of_testBit _ fun i hi => by
    rw [BitVec.testBit_toNat]
    exact hz i hi
  rw [clzF]
  congr 1
  apply BitVec.eq_of_toNat_eq
  split_ifs with h
  · have h64 : ¬r.toNat < 64 := fun h64 => by simp [h] at ho; omega
    simp
    omega
  · have h0 : x.toNat ≠ 0 := fun h0 => h (BitVec.eq_of_toNat_eq h0)
    have h64 : r.toNat < 64 := by
      by_contra hge
      rw [show 64 - r.toNat = 0 by omega] at hlt
      omega
    have hge : 2 ^ (63 - r.toNat) ≤ x.toNat := Nat.ge_two_pow_of_testBit (by rw [BitVec.testBit_toNat]; exact ho h64)
    have hlog : x.toNat.log2 = 63 - r.toNat := by
      rw [Nat.log2_eq_iff h0]
      exact ⟨hge, by rwa [show 63 - r.toNat + 1 = 64 - r.toNat by omega]⟩
    rw [hlog, BitVec.toNat_ofNat]
    omega

/-- The trailing zeros are counted up to the first one bit. -/
theorem ctzFrom_eq {x : Dword} {n : Nat} : ∀ {i k : Nat}, k ≤ n → (∀ j, j < k → x.getLsbD (i + j) = false) →
    (k < n → x.getLsbD (i + k) = true) → ctzFrom x n i = k := by
  induction n with
  | zero => intro i k hk _ _; exact (Nat.le_zero.1 hk).symm
  | succ n ih =>
    intro i k hk hz ho
    rw [ctzFrom]
    cases k with
    | zero => exact if_pos (ho (Nat.succ_pos n))
    | succ k =>
      rw [if_neg (by rw [show x.getLsbD i = false from hz 0 (Nat.succ_pos k)]; exact Bool.false_ne_true), Nat.add_comm]
      congr 1
      refine ih (by omega) (fun j hj => ?_) (fun hlt => ?_)
      · rw [Nat.add_assoc, Nat.add_comm 1]
        exact hz (j + 1) (by omega)
      · rw [Nat.add_assoc, Nat.add_comm 1]
        exact ho (by omega)

theorem ctz_eq {x r : Dword} (hr : r.toNat ≤ 64) (hz : ∀ i, i < r.toNat → x.getLsbD i = false) (ho : r.toNat < 64 → x.getLsbD r.toNat = true) :
    ctzF x = plainF r := by
  rw [ctzF, ctzFrom_eq (k := r.toNat) hr (by simpa using hz) (by simpa using ho), BitVec.ofNat_toNat, BitVec.setWidth_eq]

theorem popFrom_eq (x : Dword) (n : Nat) : popFrom x n = ((List.range n).filter (fun i => x.getLsbD i)).length := by
  induction n with
  | zero => rfl
  | succ n ih =>
    rw [popFrom, ih, List.range_succ, List.filter_append, List.length_append, Nat.add_comm]
    cases h : x.getLsbD n <;> simp [h]

theorem popc_eq {x r : Dword} (hr : r.toNat = ((List.range 64).filter (fun i => x.getLsbD i)).length) : popcF x = plainF r := by
  rw [popcF, popFrom_eq, ← hr, BitVec.ofNat_toNat, BitVec.setWidth_eq]

theorem zxF_eq {n : Nat} {x r : Dword} (hn : n ≤ 64) (hr : r.toNat = x.toNat % 2 ^ n) : zxF n x = plainF r := by
  rw [zxF]
  congr 1
  apply BitVec.eq_of_toNat_eq
  have hlt : x.toNat % 2 ^ n < 2 ^ 64 := (Nat.mod_lt _ (Nat.two_pow_pos n)).trans_le (Nat.pow_le_pow_right (by decide) hn)
  rw [BitVec.toNat_setWidth, BitVec.toNat_setWidth, hr, Nat.mod_eq_of_lt hlt]

section
variable {s t : State} {e : Eid} {w : Word} {rs1 rs2 : Reg} {x y r : Dword}

theorem run_plain1 {f : Dword → Flagged} (rd : Reg) (hf : f x = plainF r) (hx : IntOp t e rs1 x) (h : Runs s e w t) :
    run1 s e w (alu1 f false rd rs1) = .next ((setI (withFlags t e ⟨r, false, false⟩) e rd r).retire e.toNat .seq) :=
  run_alu1 rd hf hx h (traps_false ..)

/-- SHI's operation and amount (R127). -/
theorem run_shi {r : Flagged} (rd : Reg) {imm : Imm13} (hr : shiFn (bits imm 8 6) x (BitVec.ofNat 64 (bits imm 5 0)) = r)
    (hx : IntOp t e rs1 x) (h : Runs s e w t) :
    run1 s e w (shiBody rd rs1 imm) = .next ((setI (withFlags t e r) e rd r.res).retire e.toNat .seq) := by
  subst hr
  refine run1_ok h ?_
  simp only [shiBody, em_bind, ival_of hx]
  exact aluEnd_run rd true (traps_false ..)

theorem run_sel (cond : Cnd) (rd : Reg) (hx : IntOp t e rs1 x) (hy : IntOp t e rs2 y) (h : Runs s e w t) :
    run1 s e w (selBody cond rd rs1 rs2) = .next ((setI t e rd (if t.selector e.toNat cond then x else y)).retire e.toNat .seq) := by
  refine run1_ok h ?_
  simp only [selBody, em_bind, ival_of hx, ival_of hy, em_get, wint_run, em_pure]

theorem run_cmov (cond : Cnd) (rd : Reg) (hx : IntOp t e rs1 x) (h : Runs s e w t) :
    run1 s e w (cmovBody cond rd rs1) = .next ((if t.selector e.toNat cond then setI t e rd x else t).retire e.toNat .seq) := by
  refine run1_ok h ?_
  simp only [cmovBody, em_bind, ival_of hx, em_get]
  cases t.selector e.toNat cond <;> simp
end

theorem selector_eq (t : State) (e : Eid) (cond : Cnd) :
    t.selector e.toNat cond = (let ts := (t.chuck e.toNat).sysr 0
      if t.stream e.toNat then bit ((t.chuck e.toNat).pred (cond.toNat % 8)) 0
      else condHolds cond.toNat (bit ts 3) (bit ts 2) (bit ts 1) (bit ts 0)) := by
  have hc : bits cond 2 0 = cond.toNat % 8 := by simp [bits]
  rw [State.selector, hc]
  rfl

/-- Settles O8: shifts are products and quotients by powers of two, the counts are fixed by the bits they count over, and a select takes
the selector of R133. -/
theorem shiftsAndSelects : Obligations.ShiftsAndSelects := by
  unfold Obligations.ShiftsAndSelects
  refine ⟨fun s t e g rd rs1 rs2 imm x y hx => ⟨fun hy h => ?_, fun hy h => ?_, fun hy h => ?_, fun h f hf => ?_⟩,
    fun s t e g rd rs1 x r hx => ⟨fun h hr hz ho => ?_, fun h hr hz ho => ?_, fun h hr => ?_, fun h hr => ?_, fun h hr => ?_, fun h hr => ?_,
      fun h hr => ?_, fun h hr => ?_, fun h hr => ?_⟩,
    fun s t e g cond rd rs1 rs2 x y hx => ⟨fun hy h => ?_, fun h => ?_⟩⟩
  · exact run_alu2 rd (sllF_eq x y) hx hy h (traps_false ..)
  · exact run_alu2 rd (srlF_eq x y) hx hy h (traps_false ..)
  · exact run_alu2 rd (sraF_eq x y) hx hy h (traps_false ..)
  · refine run_shi rd (shiFn_eq hf) hx h
  · exact run_plain1 rd (clz_eq hr hz ho) hx h
  · exact run_plain1 rd (ctz_eq hr hz ho) hx h
  · exact run_plain1 rd (popc_eq hr) hx h
  · exact run_plain1 (f := sxF 8) rd (congrArg plainF hr.symm) hx h
  · exact run_plain1 (f := sxF 16) rd (congrArg plainF hr.symm) hx h
  · exact run_plain1 (f := sxF 32) rd (congrArg plainF hr.symm) hx h
  · exact run_plain1 rd (zxF_eq (by decide) hr) hx h
  · exact run_plain1 rd (zxF_eq (by decide) hr) hx h
  · exact run_plain1 rd (zxF_eq (by decide) hr) hx h
  · simp only [← selector_eq]
    exact run_sel cond rd hx hy h
  · simp only [← selector_eq]
    exact run_cmov cond rd hx h

/-! ## Products and quotients (R128, R131) -/

theorem mulF_eq (x y : Dword) : mulF x y = ⟨BitVec.ofInt 64 (x.toInt * y.toInt), false, overflows (x.toInt * y.toInt)⟩ := by
  refine flagged_ext rfl rfl ?_
  simp only [mulF, overflows, decide_eq_decide]
  omega

theorem muluF_eq (x y : Dword) : muluF x y = ⟨x * y, decide (2 ^ 64 ≤ x.toNat * y.toNat), false⟩ := by
  refine flagged_ext ?_ rfl rfl
  simp [muluF, BitVec.ofNat_mul]

/-- A quotient overflows only where -2^63 is divided by -1. -/
theorem overflows_tdiv (x y : Dword) : overflows (x.toInt.tdiv y.toInt) = decide (x.toInt = -(2 ^ 63) ∧ y.toInt = -1) := by
  have hlo : -(2 ^ 63 : Int) ≤ x.toInt := x.le_toInt
  have hhi : x.toInt < (2 ^ 63 : Int) := x.toInt_lt
  rw [overflows, decide_eq_decide]
  have habs := Int.natAbs_tdiv x.toInt y.toInt
  rcases Nat.lt_or_ge 1 y.toInt.natAbs with hy | hy
  · have hhalf : x.toInt.natAbs.div y.toInt.natAbs ≤ x.toInt.natAbs / 2 := Nat.div_le_div_left hy (by decide)
    omega
  · have hcases : y.toInt = 0 ∨ y.toInt = 1 ∨ y.toInt = -1 := by omega
    rcases hcases with h | h | h
    · rw [h, Int.tdiv_zero]
      omega
    · rw [h, Int.tdiv_one]
      omega
    · rw [h, Int.tdiv_neg, Int.tdiv_one]
      omega

theorem divF_eq (x y : Dword) :
    divF x y = ⟨if y = 0 then 0 else BitVec.ofInt 64 (x.toInt.tdiv y.toInt), false, decide (y ≠ 0) && overflows (x.toInt.tdiv y.toInt)⟩ := by
  refine flagged_ext rfl rfl ?_
  rw [overflows_tdiv, divF]
  exact Bool.decide_and _ _

theorem remF_eq (x y : Dword) : remF x y = plainF (BitVec.ofInt 64 (x.toInt - y.toInt * x.toInt.tdiv y.toInt)) := by
  rw [remF, ← Int.tmod_def]
  congr 1
  split_ifs with h
  · rw [h, show (0 : Dword).toInt = 0 from rfl, Int.tmod_zero, BitVec.ofInt_toInt]
  · rfl

/-- The state that a zero divisor leaves: TSTAT.DZ is set. -/
def withDz (t : State) (e : Eid) : State := t.updChuck e.toNat (fun c => c.setSysr 0 (setBit (c.sysr 0) 4 true))

theorem tstat_withDz (t : State) (e : Eid) {i : Nat} (h : i ≠ 4) :
    bit (((withDz t e).chuck e.toNat).sysr 0) i = bit ((t.chuck e.toNat).sysr 0) i := by
  rw [withDz, State.chuck_updChuck_self, Chuck.sysr_setSysr, if_pos rfl, setBit, bit, getLsbD_setBits _ (le_refl _) (by decide), if_neg (by omega)]
  rfl

/-- -2^63 is its own negative. -/
theorem neg_eq_of_toInt_min {x : Dword} (h : x.toInt = -(2 ^ 63)) : -x = x := by
  obtain rfl : x = BitVec.intMin 64 := BitVec.eq_of_toInt_eq (h.trans (by decide))
  decide

section
variable {s t : State} {e : Eid} {w : Word} {rs1 rs2 : Reg} {x y : Dword} {f : Dword → Dword → Flagged} {r : Flagged} {isDiv : Bool} {z : Dword} {c v : Bool}

theorem run_div (rd : Reg) (hf : f x y = r) (hx : IntOp t e rs1 x) (hy : IntOp t e rs2 y) (h : Runs s e w t)
    (hv : (r.v && isDiv && oveSet t e) = false) (hz : y = 0 → isDiv = true → bit ((t.chuck e.toNat).sysr 0) 8 = false) :
    run1 s e w (aluDiv f isDiv rd rs1 rs2) =
      .next ((setI (withFlags (if y = 0 then withDz t e else t) e r) e rd r.res).retire e.toNat .seq) := by
  subst hf
  refine run1_ok h ?_
  simp only [aluDiv, em_bind, ival_of hx, ival_of hy]
  by_cases hy0 : y = 0
  · have hno : ¬((isDiv && bit ((withDz t e).tstat e.toNat) 8) = true) := by
      rw [State.tstat, tstat_withDz t e (by decide), Bool.and_eq_true]
      rintro ⟨hd, hb⟩
      exact Bool.false_ne_true ((hz hy0 hd).symm.trans hb)
    have hv' : ((f x y).v && isDiv && oveSet (withDz t e) e) = false := by rwa [oveSet, tstat_withDz t e (by decide)]
    rw [if_pos hy0, if_pos hy0, em_bind, em_modify]
    simp only [em_bind, em_get]
    exact (congrArg (EStateM.run · _) (if_neg hno)).trans (aluEnd_run rd true hv')
  · rw [if_neg hy0, if_neg hy0]
    exact aluEnd_run rd true hv

/-- DIV by zero with TSTAT.DZE set (R128). -/
theorem run_div_zero (rd : Reg) (hx : IntOp t e rs1 x) (hy : IntOp t e rs2 0) (h : Runs s e w t)
    (hz : bit ((t.chuck e.toNat).sysr 0) 8 = true) :
    run1 s e w (aluDiv f true rd rs1 rs2) =
      .next ((withDz t e).takeAbort e.toNat (.exc { code := 0x10, val := x.toNat, reg := some rd.toNat, acc := 0 })) := by
  refine run1_err h ?_
  have hyes : (true && bit ((withDz t e).tstat e.toNat) 8) = true := by
    rw [State.tstat, tstat_withDz t e (by decide), hz]
    rfl
  simp only [aluDiv, em_bind, ival_of hx, ival_of hy, if_true, em_modify, em_get]
  exact (congrArg (EStateM.run · _) (if_pos hyes)).trans (em_fault ..)

theorem trap_alu2 (rd : Reg) (hf : f x y = ⟨z, c, v⟩) (hx : IntOp t e rs1 x) (hy : IntOp t e rs2 y) (h : Runs s e w t) (hv : v = true)
    (ho : oveSet t e = true) :
    run1 s e w (alu2 f true true rd rs1 rs2) =
      .next (t.takeAbort e.toNat (.exc { code := 0x11, val := z.toNat, reg := some rd.toNat, acc := 0 })) := by
  subst hv
  exact run1_err h ((alu2_eq f true true rd hx hy).trans (hf ▸ aluEnd_trap rd true rfl ho))

theorem trap_alu1 {f : Dword → Flagged} (rd : Reg) (hf : f x = ⟨z, c, v⟩) (hx : IntOp t e rs1 x) (h : Runs s e w t) (hv : v = true)
    (ho : oveSet t e = true) :
    run1 s e w (alu1 f true rd rs1) =
      .next (t.takeAbort e.toNat (.exc { code := 0x11, val := z.toNat, reg := some rd.toNat, acc := 0 })) := by
  subst hv
  exact run1_err h ((alu1_eq f true rd hx).trans (hf ▸ aluEnd_trap rd true rfl ho))

theorem trap_aluI (rd : Reg) {imm : Imm13} (hf : f x (imm.signExtend 64) = ⟨z, c, v⟩) (hx : IntOp t e rs1 x) (h : Runs s e w t) (hv : v = true)
    (ho : oveSet t e = true) :
    run1 s e w (aluI f true true rd rs1 imm) =
      .next (t.takeAbort e.toNat (.exc { code := 0x11, val := z.toNat, reg := some rd.toNat, acc := 0 })) := by
  subst hv
  exact run1_err h ((aluI_eq f true true rd imm hx).trans (hf ▸ aluEnd_trap rd true rfl ho))

theorem trap_div (rd : Reg) (hf : f x y = ⟨z, c, v⟩) (hx : IntOp t e rs1 x) (hy : IntOp t e rs2 y) (hy0 : y ≠ 0) (h : Runs s e w t) (hv : v = true)
    (ho : oveSet t e = true) :
    run1 s e w (aluDiv f true rd rs1 rs2) =
      .next (t.takeAbort e.toNat (.exc { code := 0x11, val := z.toNat, reg := some rd.toNat, acc := 0 })) := by
  subst hv
  refine run1_err h ?_
  simp only [aluDiv, em_bind, ival_of hx, ival_of hy]
  rw [if_neg hy0]
  rw [hf]
  exact aluEnd_trap rd true rfl ho
end

/-- Settles O9: a quotient overflows for -2^63 by -1 alone, and the remainder is what the truncated quotient leaves. -/
theorem productsAndQuotients : Obligations.ProductsAndQuotients := by
  unfold Obligations.ProductsAndQuotients
  refine ⟨fun s t e g rd rs1 rs2 x y hx hy => ⟨fun h hv => ?_, fun h => ?_, fun h => ?_, fun h => ?_, fun h hv hz => ?_, fun h => ?_, fun h => ?_,
    fun h => ?_⟩, fun s t e g rd rs1 rs2 imm x y hx => ⟨fun hy ho => ⟨fun h hv => ?_, fun h hv => ?_, fun h hv => ?_, fun h hlo hm1 => ?_⟩,
      fun ho h hlo => ?_, fun ho h hv => ?_, fun hy hz h => ?_⟩⟩
  · exact run_alu2 rd (mulF_eq x y) hx hy h (traps_true hv)
  · exact run_alu2 rd (muluF_eq x y) hx hy h (traps_false ..)
  · exact run_plain2 (f := mulhF) rd rfl hx hy h
  · exact run_plain2 (f := mulhuF) rd rfl hx hy h
  · exact run_div rd (divF_eq x y) hx hy h (traps_true hv) fun hy0 _ => hz hy0
  · exact run_div (f := divuF) rd rfl hx hy h (traps_false ..) fun _ h => absurd h Bool.false_ne_true
  · exact run_div rd (remF_eq x y) hx hy h (traps_false ..) fun _ h => absurd h Bool.false_ne_true
  · exact run_div (f := remuF) rd rfl hx hy h (traps_false ..) fun _ h => absurd h Bool.false_ne_true
  · exact trap_alu2 rd (addF_eq x y) hx hy h hv ho
  · exact trap_alu2 rd (subF_eq x y) hx hy h hv ho
  · exact trap_alu2 rd ((mulF_eq x y).trans (by rw [BitVec.ofInt_mul, BitVec.ofInt_toInt, BitVec.ofInt_toInt])) hx hy h hv ho
  · have hy0 : y ≠ 0 := fun h0 => by rw [h0] at hm1; exact absurd hm1 (by decide)
    have hquot : divF x y = ⟨x, false, true⟩ := by
      rw [divF_eq, overflows_tdiv, if_neg hy0, decide_eq_true hy0, decide_eq_true ⟨hlo, hm1⟩, hm1, Int.tdiv_neg, Int.tdiv_one, BitVec.ofInt_neg,
        BitVec.ofInt_toInt, neg_eq_of_toInt_min hlo]
      rfl
    exact trap_div rd hquot hx hy hy0 h rfl ho
  · have hneg : negF x = ⟨x, decide (x = 0), true⟩ := by
      rw [negF_eq, neg_eq_of_toInt_min hlo, hlo]
      rfl
    exact trap_alu1 rd hneg hx h rfl ho
  · have hv' : overflows (x.toInt + (imm.signExtend 64).toInt) = true := by rwa [BitVec.toInt_signExtend_of_le (by decide)]
    exact trap_aluI rd (addF_eq x _) hx h hv' ho
  · exact run_div_zero rd hx hy h hz

/-! ## MOVI and MOVK (R132) -/

theorem getLsbD_movkR (x : Dword) (imm : Imm18) (i : Nat) :
    (movkR x imm).getLsbD i = if i / 16 = imm.toNat / 2 ^ 16 then imm.getLsbD (i % 16) else x.getLsbD i := by
  have himm := imm.isLt
  have hk : bits imm 17 16 = imm.toNat / 2 ^ 16 := by
    rw [bits_eq_div]
    omega
  rw [movkR, hk, getLsbD_setBits x (by omega) (by omega)]
  by_cases h : i / 16 = imm.toNat / 2 ^ 16
  · have hin : 16 * (imm.toNat / 2 ^ 16) ≤ i ∧ i ≤ 16 * (imm.toNat / 2 ^ 16) + 15 := by omega
    have hof : i - 16 * (imm.toNat / 2 ^ 16) = i % 16 := by omega
    rw [if_pos hin, if_pos h, hof, testBit_bits, Nat.zero_add, decide_eq_true (by omega), Bool.true_and]
  · have hout : ¬(16 * (imm.toNat / 2 ^ 16) ≤ i ∧ i ≤ 16 * (imm.toNat / 2 ^ 16) + 15) := by omega
    rw [if_neg hout, if_neg h]

/-- Settles O10: MOVI is one write, and MOVK writes rd with the 16 bits replaced. -/
theorem immediateMoves : Obligations.ImmediateMoves := by
  unfold Obligations.ImmediateMoves
  refine fun s t e g rd imm x => ⟨fun h => run1_ok (body := moviBody rd imm) h ?_, fun h hx =>
    ⟨movkR x imm, run1_ok (body := movkBody rd imm) h ?_, fun i _ => getLsbD_movkR x imm i⟩⟩
  · simp only [moviBody, em_bind, wint_run, em_pure]
  · simp only [movkBody, em_bind, ival_of hx, wint_run, em_pure]

end Sys2Proof.Machine
end

section
/-!
# What a fetch and a commit leave (05_engine_pipeline, 07_exceptions_privilege)

A fetch fills caches, and a commit counts, traces and signs; neither touches memory or the registers of a chuck, and the registers of an
engine change only where a pair diverges. `RegsStand` says so, operation by operation; the branches and jumps rest on it.
-/

namespace Sys2Proof.Machine

open Sys2Proof

/-! ## Standing registers and memory -/

/-- An engine keeps its level, its store buffer, its chucks and the one it runs in, and where `p` holds its engine registers and its
reservation. -/
structure EngineStands (p : Prop) (x y : Engine) : Prop where
  chucks : y.chucks = x.chucks
  cur : y.cur = x.cur
  level : y.level = x.level
  sb : y.sb = x.sb
  sys : p → y.sys = x.sys
  csys : p → y.csys = x.csys
  resv : p → y.resv = x.resv

/-- Memory, the class B values in force and every engine's chucks and level stand, and where `p` holds every engine's registers. -/
structure RegsStand (p : Prop) (s u : State) : Prop where
  mem : u.mem = s.mem
  eff : u.eff = s.eff
  eng : ∀ i, EngineStands p (s.engine i) (u.engine i)

section
variable {p : Prop} {s t u : State}

theorem EngineStands.refl (x : Engine) : EngineStands p x x := ⟨rfl, rfl, rfl, rfl, fun _ => rfl, fun _ => rfl, fun _ => rfl⟩

theorem EngineStands.trans {x y z : Engine} (h : EngineStands p x y) (h' : EngineStands p y z) : EngineStands p x z where
  chucks := h'.chucks.trans h.chucks
  cur := h'.cur.trans h.cur
  level := h'.level.trans h.level
  sb := h'.sb.trans h.sb
  sys hp := (h'.sys hp).trans (h.sys hp)
  csys hp := (h'.csys hp).trans (h.csys hp)
  resv hp := (h'.resv hp).trans (h.resv hp)

theorem EngineStands.weaken {q : Prop} {x y : Engine} (h : EngineStands q x y) (hpq : p → q) : EngineStands p x y :=
  ⟨h.chucks, h.cur, h.level, h.sb, fun hp => h.sys (hpq hp), fun hp => h.csys (hpq hp), fun hp => h.resv (hpq hp)⟩

/-- What keeps each of these of an engine. -/
theorem EngineStands.of_eq {x y : Engine} (hch : y.chucks = x.chucks) (hcur : y.cur = x.cur) (hlevel : y.level = x.level) (hsb : y.sb = x.sb)
    (hsys : y.sys = x.sys) (hcsys : y.csys = x.csys) (hresv : y.resv = x.resv) : EngineStands p x y :=
  ⟨hch, hcur, hlevel, hsb, fun _ => hsys, fun _ => hcsys, fun _ => hresv⟩

theorem RegsStand.refl (s : State) : RegsStand p s s := ⟨rfl, rfl, fun _ => .refl _⟩

theorem RegsStand.trans (h : RegsStand p s t) (h' : RegsStand p t u) : RegsStand p s u where
  mem := h'.mem.trans h.mem
  eff := h'.eff.trans h.eff
  eng i := (h.eng i).trans (h'.eng i)

theorem RegsStand.weaken {q : Prop} (h : RegsStand q s u) (hpq : p → q) : RegsStand p s u := ⟨h.mem, h.eff, fun i => (h.eng i).weaken hpq⟩

theorem RegsStand.ite (c : Prop) [Decidable c] (h : c → RegsStand p s t) (h' : ¬c → RegsStand p s u) : RegsStand p s (if c then t else u) := by
  split_ifs with hc
  · exact h hc
  · exact h' hc

theorem RegsStand.foldl {α : Type} {f : State → α → State} (hf : ∀ s a, RegsStand p s (f s a)) (l : List α) (s : State) : RegsStand p s (l.foldl f s) := by
  induction l generalizing s with
  | nil => exact .refl s
  | cons a l ih => exact (hf s a).trans (ih _)

/-- What leaves the engines, memory and the values in force. -/
theorem RegsStand.of_eq (hmem : u.mem = s.mem) (heff : u.eff = s.eff) (heng : u.eng = s.eng) : RegsStand p s u :=
  ⟨hmem, heff, fun i => by rw [State.engine, State.engine, heng]; exact .refl _⟩

theorem RegsStand.setEngine {e : Nat} {x : Engine} (h : EngineStands p (s.engine e) x) : RegsStand p s (s.setEngine e x) where
  mem := rfl
  eff := rfl
  eng i := by
    rcases eq_or_ne i e with rfl | hne
    · rwa [State.engine_setEngine_self]
    · rw [State.engine_setEngine_ne _ _ hne]
      exact .refl _

theorem RegsStand.updEngine (s : State) (e : Nat) {f : Engine → Engine} (hf : ∀ x, EngineStands p x (f x)) : RegsStand p s (s.updEngine e f) :=
  .setEngine (hf _)

theorem RegsStand.chuck (h : RegsStand p s u) (i : Nat) : u.chuck i = s.chuck i := by
  rw [State.chuck, State.chuck, (h.eng i).chucks, (h.eng i).cur]

theorem RegsStand.pairedEng (h : RegsStand p s u) (i : Nat) : u.pairedEng i = s.pairedEng i := by
  rw [State.pairedEng, State.pairedEng, State.effFld, State.effFld, State.effReg, State.effReg, h.eff]

theorem RegsStand.esys (h : RegsStand p s u) (hp : p) (i n : Nat) : u.esys i n = s.esys i n := by
  rw [State.esys, State.esys, (h.eng i).sys hp]

theorem RegsStand.ecell (h : RegsStand p s u) (hp : p) (i n : Nat) : u.ecell i n = s.ecell i n := by
  rw [State.ecell, State.ecell, (h.eng i).csys hp]

theorem RegsStand.stream (h : RegsStand p s u) (i : Nat) : u.stream i = s.stream i := by
  rw [State.stream, State.stream, h.chuck, (h.eng i).cur]
end

/-! ## Operations under which they stand -/

section
variable {p : Prop}

theorem State.regsStand_react (s : State) (cls unit : Nat) : RegsStand p s (s.react cls unit) := by
  have h := s.reacts_react cls unit
  refine .of_eq h.mem ?_ h.eng
  unfold State.react State.setMode State.raise
  dsimp only
  split_ifs <;> rfl

theorem State.regsStand_raise (s : State) (id : Nat) : RegsStand p s (s.raise id) := .of_eq rfl rfl rfl

theorem State.regsStand_freeCtr (s : State) (n : Nat) : RegsStand p s { s with freeCtr := n } := .of_eq rfl rfl rfl

theorem State.regsStand_setReg (s : State) (b o : Nat) (v : Word) : RegsStand p s (s.setReg b o v) := .of_eq rfl rfl rfl

theorem State.regsStand_setFld (s : State) (b o hi lo v : Nat) : RegsStand p s (s.setFld b o hi lo v) := s.regsStand_setReg ..

theorem State.regsStand_updPair (s : State) (i : Nat) (f : Pair → Pair) : RegsStand p s (s.updPair i f) := .of_eq rfl rfl rfl

theorem State.regsStand_perf (s : State) (e code : Nat) : RegsStand p s (s.perf e code) := .updEngine s e fun _ => .of_eq rfl rfl rfl rfl rfl rfl rfl

theorem State.regsStand_sigTake (s : State) (e : Nat) (l : List Byte) : RegsStand p s (s.sigTake e l) :=
  .ite _ (fun _ => .updEngine s e fun _ => .of_eq rfl rfl rfl rfl rfl rfl rfl) fun _ => .refl s

theorem State.regsStand_tracePut (s : State) (k ty : Nat) (body : List Byte) : RegsStand p s (s.tracePut k ty body) := by
  unfold State.tracePut
  dsimp only
  split_ifs <;> exact .of_eq rfl rfl rfl

theorem State.regsStand_traceEv (s : State) (e ty : Nat) (body : List Byte) : RegsStand p s (s.traceEv e ty body) :=
  .ite _ (fun _ => .foldl (fun _ _ => .ite _ (fun _ => State.regsStand_tracePut ..) fun _ => .refl _) _ s) fun _ => .refl s

theorem State.regsStand_flow (s : State) (e target : Nat) : RegsStand p s (s.flow e target) :=
  (s.regsStand_sigTake e _).trans (State.regsStand_traceEv ..)

theorem State.regsStand_haltEngine (s : State) (e reason : Nat) (bp : Option Nat) : RegsStand p s (s.haltEngine e reason bp) := by
  unfold State.haltEngine
  dsimp only
  generalize hx : ({ s.engine e with dbg := _, lchk := [] } : Engine) = x
  have hkept : EngineStands p (s.engine e) x := by
    subst hx
    exact .of_eq rfl rfl rfl rfl rfl rfl rfl
  have hhalted : RegsStand p s (((s.setEngine e x).raise 1920).traceEv e 5 []) :=
    ((RegsStand.setEngine hkept).trans (State.regsStand_raise ..)).trans (State.regsStand_traceEv ..)
  exact .ite _ (fun _ => hhalted.trans (State.regsStand_updPair ..)) fun _ => hhalted

theorem State.regsStand_btbPut (s : State) (e : Nat) (b : BtbEntry) : RegsStand p s (s.btbPut e b) := by
  have hput : ∀ l, RegsStand p s (s.setEngine e { s.engine e with btb := l }) := fun _ => .setEngine (.of_eq rfl rfl rfl rfl rfl rfl rfl)
  unfold State.btbPut
  dsimp only
  split_ifs
  · exact hput _
  · exact (hput _).trans (State.regsStand_freeCtr ..)

/-- An event counted under a condition. -/
theorem State.regsStand_perfIf (s : State) (c : Prop) [Decidable c] (e code : Nat) : RegsStand p s (if c then s.perf e code else s) :=
  .ite _ (fun _ => s.regsStand_perf e code) fun _ => .refl s

/-- A direction counter moved under a condition. -/
theorem State.regsStand_dirIf (s : State) (c : Prop) [Decidable c] (e i : Nat) (taken : Bool) :
    RegsStand p s (if c then s.updEngine e (fun x => x.dirUpdate i taken) else s) :=
  .ite _ (fun _ => .updEngine s e fun _ => .of_eq rfl rfl rfl rfl rfl rfl rfl) fun _ => .refl s

theorem State.regsStand_predict (s : State) (e pc : Nat) (cond taken : Bool) (target kind : Nat) :
    RegsStand p s (s.predict e pc cond taken target kind) := by
  have hcounted : ∀ (c c' c'' : Prop) [Decidable c] [Decidable c'] [Decidable c''] (i : Nat) (b : BtbEntry),
      let s1 := if c then s.perf e 3 else s
      let s2 := if c' then s1.perf e 2 else s1
      let s3 := if c'' then s2.updEngine e (fun x => x.dirUpdate i taken) else s2
      RegsStand p s (if taken then s3.btbPut e b else s3) := by
    intro c c' c'' _ _ _ i b s1 s2 s3
    have hdir : RegsStand p s s3 := ((s.regsStand_perfIf c e 3).trans (s1.regsStand_perfIf c' e 2)).trans (s2.regsStand_dirIf c'' e i taken)
    exact .ite _ (fun _ => hdir.trans (State.regsStand_btbPut ..)) fun _ => hdir
  unfold State.predict
  exact .ite _ (fun _ => .refl s) fun _ => hcounted ..
end

/-! ## Commits -/

section
variable {p : Prop}

/-- The registers of chucks stand where an engine stops; its engine registers take the stop. -/
theorem State.regsStand_stopEngine (s : State) (e orig : Nat) (val : Dword) : RegsStand False s (s.stopEngine e orig val) := by
  unfold State.stopEngine
  dsimp only
  refine .ite _ (fun _ => .refl s) fun _ => RegsStand.trans (RegsStand.setEngine ⟨?_, ?_, ?_, ?_, False.elim, False.elim, False.elim⟩) (State.regsStand_setFld ..) <;> rfl

theorem State.regsStand_captureDiv (s : State) (q reason cnt : Nat) (a b : Word) : RegsStand p s (s.captureDiv q reason cnt a b) :=
  .ite _ (fun _ => State.regsStand_setFld ..) fun _ => .of_eq rfl rfl rfl

theorem State.regsStand_dropActs (s : State) (q : Nat) : RegsStand p s (s.dropActs q) := by
  have hdrop : ∀ (t : State) (e : Nat), RegsStand p t (t.updEngine e fun x => { x with act := none }) := fun t e =>
    .updEngine t e fun _ => .of_eq rfl rfl rfl rfl rfl rfl rfl
  exact ((State.regsStand_updPair ..).trans (hdrop _ q)).trans (hdrop _ (twinOf q))

theorem State.regsStand_diverge (s : State) (q reason cnt : Nat) (a b : Word) : RegsStand False s (s.diverge q reason cnt a b) := by
  unfold State.diverge
  dsimp only
  refine RegsStand.trans ?_ (State.regsStand_react ..)
  refine RegsStand.trans ?_ (State.regsStand_raise ..)
  refine RegsStand.trans ?_ (State.regsStand_updPair ..)
  refine RegsStand.trans ?_ (State.regsStand_setFld ..)
  refine RegsStand.trans ?_ (State.regsStand_setFld ..)
  refine RegsStand.trans ?_ (State.regsStand_stopEngine ..)
  refine RegsStand.trans ?_ (State.regsStand_stopEngine ..)
  exact (s.regsStand_captureDiv ..).trans (State.regsStand_dropActs ..)

theorem State.regsStand_commits (s : State) (e : Nat) : RegsStand p s (s.updEngine e fun x => { x with commits := x.commits + 1 }) :=
  .updEngine s e fun _ => .of_eq rfl rfl rfl rfl rfl rfl rfl

theorem State.regsStand_addPoint (s : State) (i : Nat) (k : PointKind) : RegsStand p s (s.addPoint i k) := by
  unfold State.addPoint
  exact State.regsStand_updPair ..

theorem State.regsStand_commitPair (s : State) (e : Nat) : RegsStand False s (s.commitPair e) := by
  unfold State.commitPair
  dsimp only
  generalize ht : State.updPair (s.updEngine e fun x => { x with commits := x.commits + 1 }) _ _ = t
  have hcount : RegsStand False s t := by
    subst ht
    exact (s.regsStand_commits e).trans (State.regsStand_updPair ..)
  split
  · exact hcount.trans (.ite _ (fun _ => .refl _) fun _ => State.regsStand_diverge ..)
  · exact .ite _ (fun _ => hcount.trans (State.regsStand_addPoint ..)) fun _ => hcount

/-- A commit leaves the registers of chucks, and of an engine outside a pair every engine's registers. -/
theorem State.regsStand_commit (s : State) (e : Nat) : RegsStand (s.pairedEng e = false) s (s.commit e) := by
  have hslot : RegsStand True s (if (s.engine e).level = .t then s.updSlot e (s.engine e).slot (fun t => { t with used := t.used + 1 }) else s) :=
    .ite _ (fun _ => .updEngine s e fun _ => .of_eq rfl rfl rfl rfl rfl rfl rfl) fun _ => .refl s
  unfold State.commit
  dsimp only
  generalize (if (s.engine e).level = .t then s.updSlot e (s.engine e).slot (fun t => { t with used := t.used + 1 }) else s) = s0 at *
  generalize ht : (s0.perf e 1).updEngine e (fun x => { x with lchk := [], dbg := { x.dbg with skip := none } }) = t
  have hcounted : RegsStand True s t := by
    subst ht
    exact (hslot.trans (s0.regsStand_perf e 1)).trans (.updEngine _ e fun _ => .of_eq rfl rfl rfl rfl rfl rfl rfl)
  have hcommitted : RegsStand (s.pairedEng e = false) s (if t.pairedEng e then t.commitPair e else t) := by
    have hcounted' : RegsStand (s.pairedEng e = false) s t := hcounted.weaken fun _ => trivial
    refine .ite _ (fun hp => hcounted'.trans ((t.regsStand_commitPair e).weaken fun hno => ?_)) fun _ => hcounted'
    simp [← hcounted.pairedEng e, hp] at hno
  exact .ite _ (fun _ => hcommitted.trans (State.regsStand_haltEngine ..)) fun _ => hcommitted

end

end Sys2Proof.Machine
end

section
/-!
# What the checks and the fetch leave (02_capabilities Table 02-6, 05_engine_pipeline, 08_translation)

`EndsIn P m s`: where `m` ends well from `s`, `P` holds of the state it leaves. The checks of an access that need not wait leave memory, the
registers and the store buffers as they were, and so does a fetch.
-/

namespace Sys2Proof.Machine

open Sys2Proof

/-! ## Postconditions -/

theorem em_bind_of_ok {α β : Type} {x : EM α} {f : α → EM β} {s t : State} {a : α} (h : x.run s = .ok a t) : (x >>= f).run s = (f a).run t := by
  rw [em_bind, h]

theorem em_bind_of_error {α β : Type} {x : EM α} {f : α → EM β} {s t : State} {b : Abort} (h : x.run s = .error b t) : (x >>= f).run s = .error b t := by
  rw [em_bind, h]

/-- Whatever `m` answers from `s`, its state meets `P`, unless it aborts. -/
structure EndsIn {α : Type} (P : State → Prop) (m : EM α) (s : State) : Prop where
  ends : ∀ a t, m.run s = .ok a t → P t

section
variable {α β : Type} {P : State → Prop} {s : State}

theorem EndsIn.pure {a : α} (h : P s) : EndsIn P (pure a) s := ⟨fun _ _ hrun => by
  cases (em_pure a s).symm.trans hrun
  exact h⟩

theorem EndsIn.throw {b : Abort} : EndsIn P (throw b : EM α) s := ⟨fun _ _ hrun => by cases (em_throw b s).symm.trans hrun⟩

theorem EndsIn.fault {code val acc : Nat} {reg : Option Nat} : EndsIn P (fault code val reg acc : EM α) s := .throw

theorem EndsIn.bind {x : EM α} {f : α → EM β} (h : ∀ a t, x.run s = .ok a t → EndsIn P (f a) t) : EndsIn P (x >>= f) s := ⟨fun b u hrun => by
  rw [em_bind] at hrun
  cases hx : x.run s with
  | ok a t =>
    rw [hx] at hrun
    exact (h a t hx).ends b u hrun
  | error a t =>
    rw [hx] at hrun
    cases hrun⟩

theorem EndsIn.get {f : State → EM β} (h : EndsIn P (f s) s) : EndsIn P (get >>= f) s :=
  .bind fun _ _ hrun => by cases (em_get s).symm.trans hrun; exact h

theorem EndsIn.set {u : State} {f : PUnit → EM β} (h : EndsIn P (f ⟨⟩) u) : EndsIn P (set u >>= f) s :=
  .bind fun _ _ hrun => by cases (em_set s u).symm.trans hrun; exact h

theorem EndsIn.modify {f : State → State} {k : PUnit → EM β} (h : EndsIn P (k ⟨⟩) (f s)) : EndsIn P (modify f >>= k) s :=
  .bind fun _ _ hrun => by cases (em_modify f s).symm.trans hrun; exact h

theorem EndsIn.ite {c : Prop} [Decidable c] {x y : EM α} (hx : c → EndsIn P x s) (hy : ¬c → EndsIn P y s) : EndsIn P (if c then x else y) s := by
  split_ifs with hc
  · exact hx hc
  · exact hy hc

theorem EndsIn.mono {Q : State → Prop} {x : EM α} (h : EndsIn P x s) (hPQ : ∀ t, P t → Q t) : EndsIn Q x s :=
  ⟨fun a t hrun => hPQ t (h.ends a t hrun)⟩
end

section
variable {α β : Type} {p : Prop} {s : State}

/-- What leaves the registers, one operation after another. -/
theorem EndsIn.stands_bind {x : EM α} {f : α → EM β} (hx : EndsIn (RegsStand p s) x s) (hf : ∀ a t, x.run s = .ok a t → EndsIn (RegsStand p t) (f a) t) :
    EndsIn (RegsStand p s) (x >>= f) s :=
  .bind fun a t hrun => (hf a t hrun).mono fun _ h => (hx.ends a t hrun).trans h

/-- A test that aborts or goes on. -/
theorem EndsIn.stands_test {c : Prop} [Decidable c] {code val acc : Nat} {reg : Option Nat} {y : EM α} (h : EndsIn (RegsStand p s) y s) :
    EndsIn (RegsStand p s) (if c then Sys2Proof.Machine.fault code val reg acc else y) s := .ite (fun _ => .fault) fun _ => h

/-- An operation made under a condition. -/
theorem EndsIn.stands_when {c : Prop} [Decidable c] {x : EM Unit} {k : Unit → EM β} (hx : ∀ t, EndsIn (RegsStand p t) x t)
    (hk : ∀ t, EndsIn (RegsStand p t) (k ()) t) : EndsIn (RegsStand p s) (if c then x >>= k else k ()) s :=
  .ite (fun _ => .stands_bind (hx s) fun _ t _ => hk t) fun _ => hk s

theorem EndsIn.stands_set {u : State} {k : PUnit → EM β} (h : RegsStand p s u) (hk : ∀ t, EndsIn (RegsStand p t) (k ⟨⟩) t) :
    EndsIn (RegsStand p s) (MonadStateOf.set u >>= k) s := .set ((hk u).mono fun _ ht => h.trans ht)

theorem EndsIn.stands_pure {a : α} : EndsIn (RegsStand p s) (Pure.pure a) s := .pure (.refl s)
end

/-! ## The checks of an access -/

section
variable {p : Prop} (s : State) (e : Nat)

theorem linkOk_stands (c : Cell) : EndsIn (RegsStand p s) (linkOk e c false) s := ⟨fun b t h => by
  rcases linkOk_state h with rfl | ⟨x, rfl⟩
  · exact .refl t
  · exact .updEngine s e fun _ => .of_eq rfl rfl rfl rfl rfl rfl rfl⟩

theorem capSource_stands (c : Cell) (val : Nat) (reg : Option Nat) (acc : Nat) : EndsIn (RegsStand p s) (capSource e c val reg acc false) s := by
  refine .stands_test (.stands_test (.stands_test (.stands_bind (linkOk_stands s e c) fun _ _ _ => .stands_test .stands_pure)))

theorem capTests_stands (c : Cell) (a n : Nat) (need : List Perm) (reg : Option Nat) (acc : Nat) :
    EndsIn (RegsStand p s) (capTests e c a n need reg acc false) s :=
  .stands_bind (capSource_stands s e c a reg acc) fun _ _ _ => .stands_test (.stands_test .stands_pure)

theorem bpTake_stands (hits : List Nat) (val reason acc : Nat) : EndsIn (RegsStand p s) (bpTake e hits val reason acc) s := by
  cases hits with
  | nil => exact .stands_pure
  | cons k l => exact .get (.ite (fun _ => .throw) fun _ => .fault)

theorem bpFetch_stands (a : Nat) : EndsIn (RegsStand p s) (bpFetch e a) s := .get (bpTake_stands ..)

theorem bpData_stands (a n : Nat) (rd wr : Bool) (acc : Nat) : EndsIn (RegsStand p s) (bpData e a n rd wr acc) s := .get (bpTake_stands ..)

theorem tlbMiss_waits {P : State → Prop} (r : XReq) (h : r.inl = false) : EndsIn P (tlbMiss e r) s := by
  simp only [tlbMiss, h, Bool.false_eq_true, if_false]
  exact .modify .throw

/-- A translation that need not wait hits the TLB, and changes nothing. -/
theorem translate_stands (r : XReq) (h : r.inl = false) : EndsIn (RegsStand p s) (translate e r) s := by
  refine .get (.ite (fun _ => .stands_pure) fun _ => ?_)
  split
  · exact .fault
  · split
    · split
      · exact .set (tlbMiss_waits _ e r h)
      · exact .fault
      · exact .stands_pure
    · exact tlbMiss_waits s e r h
    · exact .set (tlbMiss_waits _ e r h)

theorem sysTest_stands (c : Cell) (a pa : Nat) (reg : Option Nat) (acc : Nat) : EndsIn (RegsStand p s) (sysTest c a pa reg acc) s := by
  refine .get ?_
  split
  · exact .stands_test .stands_pure
  · exact .stands_pure

theorem State.regsStand_mpuCapture (u : MpuUnit) (pa reason region : Nat) (acc : Access) (lvl src : Nat) :
    RegsStand p s (s.mpuCapture u pa reason region acc lvl src) := by
  refine .ite _ (fun _ => State.regsStand_setFld ..) fun _ => ?_
  split <;> exact .of_eq rfl rfl rfl

theorem State.regsStand_mpuCheck (u : MpuUnit) (pa : Nat) (acc : Access) (atK paired : Bool) (mt : MemType) (lvl src : Nat) :
    RegsStand p s (s.mpuCheck u pa acc atK paired mt lvl src).2 := by
  unfold State.mpuCheck
  split
  · exact .refl s
  · exact s.regsStand_mpuCapture ..

theorem mpuE_stands (pa : Nat) (acc : Access) (lvl : Level) (paired : Bool) (mt : MemType) (reg : Option Nat) (code : Nat) :
    EndsIn (RegsStand p s) (mpuE e pa acc lvl paired mt reg code) s :=
  .get (.set (.ite (fun _ => .fault) fun _ => .pure (s.regsStand_mpuCheck ..)))

theorem dataAccess_stands (r : DReq) (t9 : EM Unit) (h : r.inl = false) (h9 : ∀ t, EndsIn (RegsStand p t) t9 t) :
    EndsIn (RegsStand p s) (dataAccess e r t9) s := by
  refine .stands_test (.stands_bind ?_ fun _ t _ => .stands_bind (h9 t) fun _ u _ => .get (.stands_bind (translate_stands u e _ h) fun _ v _ =>
    .stands_bind (sysTest_stands v ..) fun _ w _ => ?_))
  · rw [h]
    exact capTests_stands ..
  · exact .stands_when (fun x => mpuE_stands x ..) fun x => .stands_when (fun y => mpuE_stands y ..) fun y =>
      .stands_bind (bpData_stands y ..) fun _ _ _ => .stands_pure
end

/-! ## The fetch -/

section
variable {p : Prop} (s : State)

theorem State.regsStand_decode (k : Nat) : RegsStand p s (s.decode k).2 := .ite _ (fun _ => .refl s) fun _ => s.regsStand_freeCtr ..

/-- The capture of an error's log, and the event it raises. -/
theorem State.regsStand_captured (b pa v ev : Nat) (ty : Nat) :
    let t := ((s.setReg b 0x40 (BitVec.ofNat 32 pa)).setReg b 0x44 (BitVec.ofNat 32 (pa >>> 32))).setReg b 0x48 (BitVec.ofNat 32 v)
    RegsStand p s (if ty = 0 then t.raise ev else (t.raise (ev + 1)).react 11 0) := by
  intro t
  have hlog : RegsStand p s t := .of_eq rfl rfl rfl
  exact .ite _ (fun _ => hlog.trans (t.regsStand_raise ev)) fun _ => (hlog.trans (t.regsStand_raise (ev + 1))).trans (State.regsStand_react ..)

theorem State.regsStand_logError (key pa ty pos src master : Nat) : RegsStand p s (s.logError key pa ty pos src master) := by
  unfold State.logError
  dsimp only
  generalize hs1 : s.count16 _ _ 0 = s1
  have hcount : RegsStand p s s1 := hs1 ▸ s.regsStand_setFld ..
  exact .ite _ (fun _ => (hcount.trans (.ite _ (fun _ => State.regsStand_captured ..) fun _ => .refl s1)).trans (State.regsStand_raise ..)) fun _ =>
    hcount.trans (.ite _ (fun _ => State.regsStand_captured ..) fun _ => .refl s1)

theorem State.regsStand_readCell (key pa src master : Nat) : RegsStand p s (s.readCell key pa src master).2 := by
  have hdecode := s.regsStand_decode (p := p) key
  unfold State.readCell
  split
  · exact .refl s
  · generalize s.decode key = d at hdecode
    split
    · exact hdecode
    · exact (hdecode.trans (State.regsStand_logError ..)).trans (.of_eq rfl rfl rfl)
    · exact hdecode.trans (State.regsStand_logError ..)

theorem State.regsStand_readCells (key pa src e : Nat) : RegsStand p s (s.readCells key pa src e).2 := by
  have hall : ∀ (l : List Nat) (r : List (Option MCell) × State), RegsStand p s r.2 →
      RegsStand p s (l.foldl (fun r i => let t := r.2.readCell (key + 16 * i) (pa + 16 * i) src e; (r.1 ++ [t.1], t.2)) r).2 := by
    intro l
    induction l with
    | nil => exact fun r h => h
    | cons i l ih => exact fun r h => ih _ (h.trans (State.regsStand_readCell ..))
  exact hall _ _ (.refl s)

theorem State.regsStand_hitCell (l : L1Line) (ofs : Nat) : RegsStand p s (s.hitCell l ofs).2 := by
  unfold State.hitCell
  dsimp only
  split <;> exact .ite _ (fun _ => .refl s) fun _ => s.regsStand_freeCtr ..

theorem State.regsStand_putL1i (e : Nat) (l : L1Line) : RegsStand p s (s.updEngine e (fun x => x.putL1i l)) :=
  .updEngine s e fun _ => .of_eq rfl rfl rfl rfl rfl rfl rfl

theorem fetchFill_stands (e pa code : Nat) : EndsIn (RegsStand p s) (fetchFill e pa code) s := by
  refine .get ?_
  generalize hr : State.readCells _ _ _ _ _ = r
  have hread : RegsStand p s r.2 := by
    subst hr
    exact (RegsStand.ite _ (fun _ => .refl s) fun _ => s.regsStand_perf ..).trans (State.regsStand_readCells ..)
  refine .stands_set ?_ fun t => ?_
  · split
    · exact .ite _ (fun _ => hread) fun _ => hread.trans (State.regsStand_putL1i ..)
    · exact hread
  · split
    · exact .stands_pure
    · exact .fault

theorem fetchLine_stands (e pa : Nat) : EndsIn (RegsStand p s) (fetchLine e pa) s := by
  refine .get ?_
  dsimp only
  split
  · exact fetchFill_stands ..
  · next l _ =>
    have hhit := s.regsStand_hitCell (p := p) l (keyOf e pa % 64)
    generalize s.hitCell l (keyOf e pa % 64) = r at hhit
    split
    · exact .stands_set (hhit.trans (State.regsStand_putL1i ..)) fun _ => .stands_pure
    · refine .stands_set (hhit.trans (RegsStand.updEngine _ e fun x => ?_)) fun t => fetchFill_stands t ..
      exact .of_eq rfl rfl rfl rfl rfl rfl rfl

theorem fetch_stands (e : Nat) : EndsIn (RegsStand p s) (fetch e false) s := by
  refine .get (.stands_bind (bpFetch_stands s ..) fun _ t _ => .stands_bind (capTests_stands t ..) fun _ u _ =>
    .stands_bind (translate_stands u e _ rfl) fun _ v _ => .stands_bind (sysTest_stands v ..) fun _ w _ =>
    .stands_bind (mpuE_stands w ..) fun _ x _ => .get ?_)
  split
  · exact .fault
  · exact .fault
  · exact .fault
  all_goals
    refine .stands_bind (fetchLine_stands ..) fun _ y _ => ?_
    split
    · exact .stands_pure
    · exact .stands_pure
    · exact .fault
end

end Sys2Proof.Machine
end

section
/-!
# What an instruction leaves (03_isa_core R112, R134 to R137, R181, 07_exceptions_privilege)

From the fetch to the commit an instruction leaves memory and the registers alone, but for PCC, the loop counts and what its body writes.
On this rest branches, jumps and links, and what TRAP and a word that is no instruction raise.
-/

namespace Sys2Proof.Machine

open Sys2Proof

/-! ## Standing registers, but for the loop counts and one register -/

/-- A chuck keeps its registers but for the general register `rd`, PCC and the loop counts. -/
structure ChuckStands (rd : Option Reg) (c d : Chuck) : Prop where
  reg : ∀ r : Nat, rd.map (·.toNat) ≠ some r → d.reg r = c.reg r
  pred : ∀ n, d.pred n = c.pred n
  acc : ∀ n, d.acc n = c.acc n
  sysr : ∀ n, ¬(0x18 ≤ n ∧ n ≤ 0x1A) → d.sysr n = c.sysr n

/-- Memory and every register stand but for general register `rd` of engine `e`, its PCC and its loop counts. -/
structure Leaves (e : Eid) (rd : Option Reg) (s u : State) : Prop where
  mem : u.mem = s.mem
  eff : u.eff = s.eff
  others : ∀ i, i ≠ e.toNat → u.chuck i = s.chuck i
  own : ChuckStands rd (s.chuck e.toNat) (u.chuck e.toNat)
  engineRegs : s.pairedEng e.toNat = false → ∀ i n, u.esys i n = s.esys i n ∧ u.ecell i n = s.ecell i n

section
variable {rd : Option Reg} {e : Eid} {s t u : State} {b c d : Chuck}

theorem ChuckStands.refl (c : Chuck) : ChuckStands rd c c := ⟨fun _ _ => rfl, fun _ => rfl, fun _ => rfl, fun _ _ => rfl⟩

theorem ChuckStands.trans (h : ChuckStands rd b c) (h' : ChuckStands rd c d) : ChuckStands rd b d where
  reg r hr := (h'.reg r hr).trans (h.reg r hr)
  pred n := (h'.pred n).trans (h.pred n)
  acc n := (h'.acc n).trans (h.acc n)
  sysr n hn := (h'.sysr n hn).trans (h.sysr n hn)

theorem ChuckStands.setLoop (c : Chuck) {n : Nat} (hn : 0x18 ≤ n ∧ n ≤ 0x1A) (v : Dword) : ChuckStands rd c (c.setSysr n v) where
  reg _ _ := rfl
  pred _ := rfl
  acc _ := rfl
  sysr i hi := by
    rw [Chuck.sysr_setSysr, if_neg]
    rintro rfl
    exact hi hn

theorem ChuckStands.setPcc (h : ChuckStands rd b c) (v : Cell) : ChuckStands rd b { c with pcc := v } := ⟨h.reg, h.pred, h.acc, h.sysr⟩

theorem ChuckStands.setReg (c : Chuck) (r : Reg) (v : Cell) : ChuckStands (some r) c (c.setReg r.toNat v) where
  reg i hi := by
    rw [Chuck.reg_setReg, if_neg]
    rintro ⟨rfl, -⟩
    exact hi rfl
  pred := by simp
  acc := by simp
  sysr := by simp

/-- The loop-end test writes loop counts alone (R181). -/
theorem loopEnd_stands (x : Nat) (atK : Bool) (k : Nat) (hk : k ≤ 3) (c : Chuck) : ChuckStands rd c (loopEnd x atK k c).2 := by
  induction k generalizing c with
  | zero => exact .refl c
  | succ k ih =>
    have hcount : ∀ v, ChuckStands rd c (c.setSysr (0x18 + k) v) := .setLoop c ⟨by omega, by omega⟩
    simp only [loopEnd]
    split_ifs
    · exact hcount _
    · exact (hcount 0).trans (ih (by omega) _)
    · exact ih (by omega) c

theorem Leaves.of_stands (h : RegsStand (s.pairedEng e.toNat = false) s u) : Leaves e rd s u where
  mem := h.mem
  eff := h.eff
  others i _ := h.chuck i
  own := by
    rw [h.chuck]
    exact .refl _
  engineRegs hp i n := ⟨h.esys hp i n, h.ecell hp i n⟩

theorem Leaves.pairedEng (h : Leaves e rd s u) (i : Nat) : u.pairedEng i = s.pairedEng i := by
  rw [State.pairedEng, State.pairedEng, State.effFld, State.effFld, State.effReg, State.effReg, h.eff]

theorem Leaves.trans (h : Leaves e rd s t) (h' : Leaves e rd t u) : Leaves e rd s u where
  mem := h'.mem.trans h.mem
  eff := h'.eff.trans h.eff
  others i hi := (h'.others i hi).trans (h.others i hi)
  own := h.own.trans h'.own
  engineRegs hp i n :=
    have ht := h'.engineRegs ((h.pairedEng e.toNat).trans hp) i n
    have hs := h.engineRegs hp i n
    ⟨ht.1.trans hs.1, ht.2.trans hs.2⟩

/-- A write of a chuck writes no engine register. -/
theorem State.engineRegs_updChuck (s : State) (k i n : Nat) (f : Chuck → Chuck) :
    (s.updChuck k f).esys i n = s.esys i n ∧ (s.updChuck k f).ecell i n = s.ecell i n := by
  rcases eq_or_ne i k with rfl | hne
  · simp [State.esys, State.ecell, State.updChuck]
  · simp [State.esys, State.ecell, State.updChuck, State.engine_updEngine_ne _ _ hne]

theorem Leaves.updChuck (s : State) {f : Chuck → Chuck} (hf : ChuckStands rd (s.chuck e.toNat) (f (s.chuck e.toNat))) :
    Leaves e rd s (s.updChuck e.toNat f) where
  mem := rfl
  eff := rfl
  others i hi := s.chuck_updChuck_ne f hi
  own := by rwa [State.chuck_updChuck_self]
  engineRegs _ i n := s.engineRegs_updChuck ..

theorem Leaves.sameMem (h : Leaves e rd s u) : SameMem s u := fun a => by rw [h.mem]; exact ⟨rfl, rfl⟩

theorem Leaves.sameRegs (h : Leaves e rd s u) : SameRegs s u e rd 0 :=
  ⟨h.others, h.own.reg, h.own.pred, h.own.acc, fun n _ => h.own.sysr n, by rw [h.own.sysr 0 (by omega)], h.engineRegs⟩

/-! ## The commit and what comes before it -/

theorem State.leaves_commit (s : State) : Leaves e rd s (s.commit e.toNat) := .of_stands (s.regsStand_commit _)

theorem State.leaves_setPcc (s : State) (c : Cell) : Leaves e rd s (s.setPcc e.toNat c) := .updChuck s ((ChuckStands.refl _).setPcc _)

theorem State.leaves_flow (s : State) (target : Nat) : Leaves e rd s (s.flow e.toNat target) := .of_stands (s.regsStand_flow ..)

theorem State.leaves_advance (s : State) : Leaves e rd s (s.advance e.toNat) := by
  unfold State.advance
  dsimp only
  generalize hr : (if (s.engine e.toNat).level = .rest then (none, s.chuck e.toNat) else loopEnd _ _ 3 (s.chuck e.toNat)) = r
  have hloop : ChuckStands rd (s.chuck e.toNat) r.2 := by
    subst hr
    split
    · exact .refl _
    · exact loopEnd_stands _ _ 3 le_rfl _
  split
  · exact (Leaves.updChuck s (hloop.setPcc _)).trans (State.leaves_flow ..)
  · exact .updChuck s (hloop.setPcc _)

theorem State.leaves_seq (s : State) : Leaves e rd s (s.retire e.toNat .seq) := s.leaves_advance.trans (State.leaves_commit _)

theorem State.leaves_jump (s : State) (c : Cell) : Leaves e rd s (s.retire e.toNat (.jump c)) :=
  ((s.leaves_setPcc c).trans (State.leaves_flow ..)).trans (State.leaves_commit _)

theorem State.leaves_setR (s : State) (r : Reg) (c : Cell) : Leaves e (some r) s (setR s e r c) := .updChuck s (.setReg _ r c)

/-- The fetch leaves all of it. -/
theorem Runs.leaves {w : Word} (h : Runs s e w t) : Leaves e rd s t := .of_stands ((fetch_stands s _).ends _ _ h.fetched)

theorem State.leaves_predict (s : State) (pc : Nat) (cond taken : Bool) (target kind : Nat) : Leaves e rd s (s.predict e.toNat pc cond taken target kind) :=
  .of_stands (s.regsStand_predict ..)
end

/-! ## PCC after a jump -/

/-- A cell whose cursor is a multiple of 4 goes into PCC as it is (R112). -/
theorem alignPcc_of_aligned {c : Cell} (h : capCursor c % 4 = 0) : alignPcc c = c := by
  obtain ⟨q, k⟩ := c
  have hsame : setBits q 55 0 (bits q 55 0) = q := by
    refine BitVec.eq_of_getLsbD_eq fun i hi => ?_
    rw [getLsbD_setBits _ (by decide) (by decide), testBit_bits]
    split_ifs with h55
    · simp [show i < 56 by omega]
    · rfl
  rw [alignPcc, alignDown, h, Nat.sub_zero, withCursor, capCursor_mk, hsame]

section
variable {e : Eid} {s t u : State} {w : Word} {rd : Option Reg}

theorem State.chuck_retire_jump (s : State) (e : Nat) (c : Cell) : (s.retire e (.jump c)).chuck e = { s.chuck e with pcc := alignPcc c } := by
  rw [State.retire, (State.regsStand_commit _ e).chuck, (State.regsStand_flow (p := True) _ e _).chuck, State.setPcc, State.chuck_updChuck_self]

/-- In sequence PCC goes to the next word where no loop goes back (R181). -/
theorem State.pcc_retire_seq (s : State) (e : Nat)
    (h : (s.engine e).level = .rest ∨ (loopEnd (capCursor (s.chuck e).pcc) ((s.engine e).level == .k) 3 (s.chuck e)).1 = none) :
    ((s.retire e .seq).chuck e).pcc = withCursor (s.chuck e).pcc (capCursor (s.chuck e).pcc + 4) := by
  rw [State.retire, (State.regsStand_commit _ e).chuck, State.advance]
  dsimp only
  rcases h with h | h
  · rw [if_pos h, State.chuck_updChuck_self]
  · split_ifs with hrest
    · rw [State.chuck_updChuck_self]
    · rw [h]
      dsimp only
      rw [State.chuck_updChuck_self]

/-- What a body that jumps comes to. -/
theorem run_jump {body : Nat → EM Next} {p : Cell} (h : Runs s e w t) (hb : (body e.toNat).run t = .ok (.jump p) u) (hu : Leaves e rd t u) :
    ∃ v, run1 s e w body = .next v ∧ (v.chuck e.toNat).pcc = alignPcc p ∧ SameMem s v ∧ SameRegs s v e rd 0 := by
  have hleaves : Leaves e rd s (u.retire e.toNat (.jump p)) := (h.leaves.trans hu).trans (u.leaves_jump p)
  exact ⟨_, run1_ok h hb, by rw [State.chuck_retire_jump], hleaves.sameMem, hleaves.sameRegs⟩

/-- The link that a body which jumps leaves in its register. -/
theorem regOf_run_jump {body : Nat → EM Next} {p link : Cell} {r : Reg} (h : Runs s e w t) (hb : (body e.toNat).run t = .ok (.jump p) (setR u e r link))
    {v : State} (hv : run1 s e w body = .next v) (hr : r ≠ 0) : regOf v e r = link := by
  rw [run1_ok h hb] at hv
  cases hv
  have hr' : r.toNat ≠ 0 := fun hz => hr (BitVec.eq_of_toNat_eq hz)
  rw [regOf, State.chuck_retire_jump, ((ChuckStands.refl (rd := none) _).setPcc _).reg _ nofun, setR, State.chuck_updChuck_self, Chuck.reg_setReg,
    if_pos ⟨rfl, hr'⟩]

/-! ## Branches -/

theorem branchTarget_eq (a : Nat) (off : BitVec 18) : branchTarget a off = (a + 4 * (off.signExtend 56).toNat) % 2 ^ 56 := by
  rw [branchTarget, Nat.mul_comm]

theorem branchTo_in {n tgt : Nat} (h : capBase (t.chuck n).pcc ≤ tgt) (h' : tgt + 4 ≤ capTop (t.chuck n).pcc) :
    (branchTo n tgt).run t = .ok (withCursor (t.chuck n).pcc tgt) t := by
  simp only [branchTo, em_bind, em_get]
  rw [if_neg (by omega), em_pure]

theorem branchTo_out {n tgt : Nat} (h : tgt < capBase (t.chuck n).pcc ∨ capTop (t.chuck n).pcc < tgt + 4) :
    (branchTo n tgt).run t = .error (.exc { code := 5, val := tgt, reg := none, acc := 3 }) t := by
  simp only [branchTo, em_bind, em_get]
  rw [if_pos h, em_fault]

section
variable {g : Grd} {cond : BitVec 4} {off : BitVec 18} {rd : Reg}

theorem bBody_taken (ht : (t.stream e.toNat || condT (t.tstat e.toNat) cond.toNat) = true) {tgt : Nat}
    (htgt : branchTarget (capCursor (t.chuck e.toNat).pcc) off = tgt)
    (hb : capBase (t.chuck e.toNat).pcc ≤ tgt) (hb' : tgt + 4 ≤ capTop (t.chuck e.toNat).pcc) :
    ∃ u, (bBody g cond off e.toNat).run t = .ok (.jump (withCursor (t.chuck e.toNat).pcc tgt)) u ∧ Leaves e none t u := by
  simp only [bBody, em_bind, em_get, ht, if_true, htgt, branchTo_in hb hb', em_modify, em_pure]
  refine ⟨_, rfl, (t.leaves_predict ..).trans (.of_stands (.ite _ (fun _ => State.regsStand_sigTake ..) fun _ => .refl _))⟩

theorem bBody_out (ht : (t.stream e.toNat || condT (t.tstat e.toNat) cond.toNat) = true) {tgt : Nat}
    (htgt : branchTarget (capCursor (t.chuck e.toNat).pcc) off = tgt)
    (hb : tgt < capBase (t.chuck e.toNat).pcc ∨ capTop (t.chuck e.toNat).pcc < tgt + 4) :
    (bBody g cond off e.toNat).run t = .error (.exc { code := 5, val := tgt, reg := none, acc := 3 }) t := by
  simp only [bBody, em_bind, em_get, ht, if_true, htgt, branchTo_out hb]

/-- A branch not taken leaves the registers, and goes on in sequence. -/
theorem bBody_off (ht : (t.stream e.toNat || condT (t.tstat e.toNat) cond.toNat) = false) :
    ∃ u, (bBody g cond off e.toNat).run t = .ok .seq u ∧ RegsStand True t u := by
  simp only [bBody, em_bind, em_get, ht, Bool.false_eq_true, if_false, em_modify, em_pure]
  exact ⟨_, rfl, (t.regsStand_predict ..).trans (State.regsStand_sigTake ..)⟩

theorem jalBody_in {tgt : Nat} (htgt : branchTarget (capCursor (t.chuck e.toNat).pcc) off = tgt)
    (hb : capBase (t.chuck e.toNat).pcc ≤ tgt) (hb' : tgt + 4 ≤ capTop (t.chuck e.toNat).pcc) :
    ∃ u, (jalBody rd off e.toNat).run t = .ok (.jump (withCursor (t.chuck e.toNat).pcc tgt)) (setR u e rd (linkOf (t.chuck e.toNat).pcc)) ∧
      Leaves e (some rd) t u := by
  simp only [jalBody, em_bind, em_get, htgt, branchTo_in hb hb', em_modify, putReg_run, em_pure]
  exact ⟨_, rfl, t.leaves_predict ..⟩

theorem jalBody_out {tgt : Nat} (htgt : branchTarget (capCursor (t.chuck e.toNat).pcc) off = tgt)
    (hb : tgt < capBase (t.chuck e.toNat).pcc ∨ capTop (t.chuck e.toNat).pcc < tgt + 4) :
    (jalBody rd off e.toNat).run t = .error (.exc { code := 5, val := tgt, reg := none, acc := 3 }) t := by
  simp only [jalBody, em_bind, em_get, htgt, branchTo_out hb]

/-- The capability that JR enters: rs1's, its object type cleared where it is a call entry. -/
def entered (c : Cell) : Cell := { bits := setBits c.bits 127 120 0, kind := .cap }

theorem mk_entered (c : Cell) : ({ bits := setBits c.bits 127 120 0, kind := .cap } : Cell) = entered c := Eq.trans (b := entered c) rfl (Eq.refl _)

theorem capCursor_entered (c : Cell) : capCursor (entered c) = capCursor c := by
  obtain ⟨q, k⟩ := c
  rw [entered, capCursor_mk, capCursor_mk, bits_setBits_apart _ (by decide) (by decide) (by decide)]

theorem capHas_entered (c : Cell) (q : Perm) : capHas (entered c) q = capHas c q := by
  obtain ⟨b, k⟩ := c
  have hq : q.idx ≤ 9 := by cases q <;> decide
  rw [entered, capHas_mk, capHas_mk, getLsbD_setBits _ (by decide) (by decide), if_neg (by omega)]

theorem jrBody_enters {rs1 : Reg} {c : Cell} (hc : regOf t e rs1 = c) (hk : c.kind = .cap ∨ c.kind = .sealed ∧ capOtype c = 0xFF)
    (hm : capMalformed c = false) (ha : capCursor c % 4 = 0) (hx : capHas c .ex = true) (hl : (linkOk e.toNat (entered c) false).run t = .ok true u) :
    ∃ v, (jrBody rd rs1 e.toNat).run t = .ok (.jump (entered c)) (setR v e rd (linkOf (t.chuck e.toNat).pcc)) ∧ Leaves e (some rd) t v := by
  have hstands : RegsStand True t u := (linkOk_stands t ..).ends _ _ hl
  have hpoison : c.kind ≠ .poison := by rcases hk with hk | ⟨hk, -⟩ <;> simp [hk]
  have hcap : ¬(!isCap c.kind || capMalformed c) = true := by rcases hk with hk | ⟨hk, -⟩ <;> simp [hk, hm, isCap]
  have hseal : ¬(decide (c.kind = .sealed) && capOtype c != 0xFF) = true := by
    rcases hk with hk | ⟨hk, ho⟩
    · simp [hk]
    · simp [ho]
  have hx' : ¬(!capHas (entered c) .ex) = true := by simp [capHas_entered, hx]
  simp only [jrBody, em_bind, getReg_run, em_get, hc]
  rw [if_neg (not_not_intro ha), if_neg hpoison, if_neg hcap, if_neg hseal, mk_entered, em_bind_of_ok hl, if_neg (by decide), if_neg hx']
  simp only [em_bind, em_modify, putReg_run, em_pure]
  exact ⟨_, rfl, .trans (.of_stands (hstands.weaken fun _ => trivial)) (State.leaves_predict ..)⟩
end

/-- Settles O14: a body that jumps or goes on leaves what R134 to R137 leave, since the fetch before it and the commit after it do. -/
theorem branchesAndJumps : Obligations.BranchesAndJumps := by
  unfold Obligations.BranchesAndJumps
  intro s t u e g cond rd rs1 off c pcc a tgt ts taken link goes
  have htgt : branchTarget a off = tgt := branchTarget_eq a off
  refine ⟨fun h => ⟨fun ht hb hb' => ?_, fun ht hloop => ?_, fun ht hb => run1_err (body := bBody g cond off) h (bBody_out ht htgt hb)⟩,
    fun h => ⟨fun hb hb' => ?_, fun hb => run1_err (body := jalBody rd off) h (jalBody_out htgt hb)⟩, fun h hc hk hm ha hx => ?_⟩
  · obtain ⟨v, hv, hleaves⟩ := bBody_taken (g := g) ht htgt hb hb'
    exact run_jump h hv hleaves
  · obtain ⟨v, hv, hstands⟩ := bBody_off (g := g) (off := off) ht
    have hseq : Leaves e none s (v.retire e.toNat .seq) := (h.leaves.trans (.of_stands (hstands.weaken fun _ => trivial))).trans v.leaves_seq
    refine ⟨_, run1_ok (body := bBody g cond off) h hv, ?_, hseq.sameMem, hseq.sameRegs⟩
    have hpcc := v.pcc_retire_seq e.toNat
    rw [hstands.chuck, (hstands.eng _).level] at hpcc
    exact hpcc hloop
  · obtain ⟨v, hv, hleaves⟩ := jalBody_in (rd := rd) htgt hb hb'
    exact ⟨run_jump h hv (hleaves.trans (v.leaves_setR rd _)), fun w hw hr => regOf_run_jump (body := jalBody rd off) h hv hw hr⟩
  · intro d hl
    obtain ⟨v, hv, hleaves⟩ := jrBody_enters (rd := rd) hc hk hm ha hx hl
    have haligned : alignPcc (entered c) = entered c := alignPcc_of_aligned (by rw [capCursor_entered, ha])
    have hjump := run_jump h hv (hleaves.trans (v.leaves_setR rd _))
    rw [haligned] at hjump
    exact ⟨hjump, fun w hw hr => regOf_run_jump (body := jrBody rd rs1) h hv hw hr⟩
end

end Sys2Proof.Machine
end

section
/-!
# TRAP, words that are no instruction, and the frame of a write (03_isa_core R56, R156, R161, R162)
-/

namespace Sys2Proof.Machine

open Sys2Proof

/-! ## Traps and illegal words -/

/-- A word that the engine's decoder refuses raises Illegal Instruction where the engine issues it. -/
theorem issue_illegal {s t : State} {e : Nat} {w : Word} (body : EM Next) (hready : s.ready e = true) (hfree : (s.engine e).long = none)
    (hgo : s.pairGo e = true) (hfetch : (fetch e false).run s = .ok w t) (hlegal : legalWord w (t.stream e) (bit (t.esys e 0x10A) 4) = false) :
    s.issue e w body = t.takeAbort e (.exc { code := 1, val := w.toNat, reg := none, acc := 0 }) := by
  have hdecode : (decodeWord e w).run t = .error (.exc { code := 1, val := w.toNat, reg := none, acc := 0 }) t := by
    simp only [decodeWord, em_bind, em_get, hlegal, Bool.not_false, if_true, em_fault]
  have hexecute : (execute e w body).run t = .error (.exc { code := 1, val := w.toNat, reg := none, acc := 0 }) t := em_bind_of_error hdecode
  simp [State.issue, hready, hfree, hgo, hfetch, hexecute]

/-- Settles O22: TRAP does nothing but fault, and the fetch before an illegal word leaves what its legality rests on. -/
theorem trapsAndIllegalWords : Obligations.TrapsAndIllegalWords := by
  unfold Obligations.TrapsAndIllegalWords
  intro s t e g num w
  refine ⟨fun h => run1_err (body := trapBody num) h (em_fault ..), fun hready hfree hgo hfetch hlegal => ?_⟩
  have hstands : RegsStand True s t := (fetch_stands s _).ends _ _ hfetch
  have hillegal : ¬legalWord w (s.stream e.toNat) (bit (s.esys e.toNat 0x10A) 4) = true := by simp [hlegal]
  rw [← hstands.stream, ← hstands.esys trivial] at hlegal
  show execIllegalInstruction e w s = _
  rw [execIllegalInstruction, if_neg hillegal, run1, issue_illegal _ hready hfree hgo hfetch hlegal]

/-! ## A chuck listed out of order -/

/-- ADD c1, c0, c0. -/
def unsortedWord : Word := encR 0 1 1 0 0 0
/-- Engine 0 at level K about to execute `unsortedWord` in chuck 7, which its map lists behind chuck 8. -/
def unsortedEngine : Engine :=
  { skewEngine with
    chucks := [(8, Chuck.empty), (7, { Chuck.empty with pcc := skewCode })]
    l1i := [.filled 0 [{ bits := unsortedWord.setWidth 128, tag := 0 }]] }
/-- The device in RUN with tile 0 running. -/
def unsortedState : State := { skewState with eng := [(0, unsortedEngine)] }

theorem unsortedState_runs : Runs unsortedState 0 unsortedWord unsortedState where
  ready := by decide +kernel
  free := by decide +kernel
  go := by decide +kernel
  fetched := run_of_gives (by decide +kernel)
  decoded := run_of_gives (v := ()) (by decide +kernel)
  guarded := by decide +kernel

/-- Refutes O11: register 0 ignores the write of R56, and every register reads as before, but where the map of chucks lists 8 before 7 the
write of chuck 7 lists it again in front, so that the state is not the one before. -/
theorem not_registerFrame : ¬ Obligations.RegisterFrame := by
  unfold Obligations.RegisterFrame
  intro h
  obtain ⟨-, -, -, -, hsame⟩ := h unsortedState unsortedState 0 unsortedWord 0 Cell.null ⟨0, false, false⟩ unsortedState_runs
  have hlen : ((setR unsortedState 0 0 Cell.null).engine 0).chucks.length = 3 := by decide +kernel
  rw [hsame] at hlen
  exact absurd hlen (by decide +kernel)

end Sys2Proof.Machine
end

section
/-!
# Addresses, loads and atomic accesses (03_isa_core R140 to R151, 04_isa_stream R177)
-/

namespace Sys2Proof.Machine

open Sys2Proof

/-! ## Addresses (R140, R142, R177) -/

theorem signed_toNat {w : Nat} (x : BitVec w) : signed w x.toNat = x.toInt := by
  have hsmall : (x.toNat : Int) % 2 ^ w = x.toNat := by exact_mod_cast congrArg Nat.cast (Nat.mod_eq_of_lt x.isLt)
  rw [signed, Nat.mod_eq_of_lt x.isLt, BitVec.toInt, hsmall]
  split_ifs <;> simp

theorem add_wrap (a w : Nat) (z : Int) : (a + wrap w z) % 2 ^ w = (((a : Int) + z) % 2 ^ w).toNat := by
  have hpos : (2 : Int) ^ w ≠ 0 := (Int.pow_pos (by decide)).ne'
  apply Int.ofNat_inj.1
  rw [Int.toNat_of_nonneg (Int.emod_nonneg _ hpos), wrap]
  push_cast
  rw [Int.toNat_of_nonneg (Int.emod_nonneg _ hpos), Int.add_emod_emod]

/-- STEP of MODk as a signed number. -/
theorem signed_step (md : Dword) : signed 16 (bits md 47 32) = ((md.toNat / 2 ^ 32 % 2 ^ 16 : Nat) : Int) - (if bit md 47 then 2 ^ 16 else 0) := by
  have hbit : bit md 47 = decide (md.toNat / 2 ^ 47 % 2 = 1) := by rw [bit, BitVec.getLsbD, Nat.testBit_eq_decide_div_mod_eq]
  rw [bits_eq_div, hbit, signed]
  simp only [decide_eq_true_eq]
  split_ifs <;> omega

/-- The new cursor that a modulo or bit-reversed access writes back. -/
def modCursor (md : Dword) (c : Cell) (n : Nat) : Nat :=
  let len := bits md 27 0
  let o : Nat := (capCursor c + 2 ^ 56 - capBase c) % 2 ^ 56 % len
  (capBase c + (((o : Int) + signed 16 (bits md 47 32) * n) % (len : Int)).toNat) % 2 ^ 56

section
variable {md : Dword} {c : Cell} {n : Nat}

theorem modaddr_none (rev : Bool) (h : bits md 27 0 = 0 ∨ bits md 27 0 % n ≠ 0) : modaddr md c n rev = none := if_pos h

theorem modaddr_linear (h : bits md 27 0 ≠ 0) (h' : bits md 27 0 % n = 0) :
    modaddr md c n false = some ((capBase c + (capCursor c + 2 ^ 56 - capBase c) % 2 ^ 56 % bits md 27 0) % 2 ^ 56, modCursor md c n) := by
  rw [modaddr, if_neg (by omega)]
  rfl

theorem modaddr_reversed (h : bits md 27 0 ≠ 0) (h' : bits md 27 0 % n = 0) {b : Nat} (hb : bits md 27 0 / n = 2 ^ b) :
    modaddr md c n true = some ((capBase c + bitrev b ((capCursor c + 2 ^ 56 - capBase c) % 2 ^ 56 % bits md 27 0 / n) * n +
      (capCursor c + 2 ^ 56 - capBase c) % 2 ^ 56 % bits md 27 0 % n) % 2 ^ 56, modCursor md c n) := by
  rw [modaddr, if_neg (by omega)]
  simp only [hb, Nat.log2_two_pow]
  rw [if_neg (by decide), if_neg (not_not_intro rfl)]
  rfl

end

section
variable {t : State} {e : Eid} {c : Cell} {n : Nat} {reg : Option Nat} {acc : Nat}

theorem eval_idx {ix : Reg} {x : Dword} (lg : Nat) (hx : IntOp t e ix x) :
    (Addr.eval (.idx ix lg) e.toNat c n reg acc).run t = .ok ((capCursor c + x.toNat * 2 ^ lg) % 2 ^ 56, none) t := by
  simp only [Addr.eval]
  rw [em_bind_of_ok (ivalA_of hx acc), em_pure]

theorem eval_post (ix : Reg) :
    (Addr.eval (.post ix) e.toNat c n reg acc).run t = .ok (capCursor c, some (((capCursor c : Int) + ix.toInt * n) % 2 ^ 56).toNat) t := by
  simp only [Addr.eval, em_pure, signed_toNat, add_wrap]

/-- What an access in a mode of R177 gets from `modaddr`. -/
def modAnswer (t : State) (c : Cell) (reg : Option Nat) (acc : Nat) : Option (Nat × Nat) → EStateM.Result Abort State (Nat × Option Nat)
  | none => .error (.exc { code := 9, val := capCursor c, reg := reg, acc := acc }) t
  | some r => .ok (r.1, some r.2) t

theorem not_noCap (hk : c.kind = .cap ∨ c.kind = .sealed) (hm : capMalformed c = false) : ¬(!isCap c.kind || capMalformed c) = true := by
  rcases hk with hk | hk <;> simp [hk, hm, isCap]

theorem eval_modulo (hk : c.kind = .cap ∨ c.kind = .sealed) (hm : capMalformed c = false) (k : Nat) :
    (Addr.eval (.modulo k) e.toNat c n reg acc).run t = modAnswer t c reg acc (modaddr ((t.chuck e.toNat).sysr (0x20 + k)) c n false) := by
  simp only [Addr.eval]
  rw [if_neg (not_noCap hk hm), em_bind_of_ok (em_get t)]
  cases modaddr ((t.chuck e.toNat).sysr (0x20 + k)) c n false <;> rfl

theorem eval_rev (hk : c.kind = .cap ∨ c.kind = .sealed) (hm : capMalformed c = false) (k : Nat) :
    (Addr.eval (.rev k) e.toNat c n reg acc).run t = modAnswer t c reg acc (modaddr ((t.chuck e.toNat).sysr (0x20 + k)) c n true) := by
  simp only [Addr.eval]
  rw [if_neg (not_noCap hk hm), em_bind_of_ok (em_get t)]
  cases modaddr ((t.chuck e.toNat).sysr (0x20 + k)) c n true <;> rfl
end

/-! ## Loads (R144 to R147) -/

theorem bits_partOf (q : Quad) (a : Nat) {n : Nat} (hn : 0 < n) : bits q (8 * (a % 16 + n) - 1) (8 * (a % 16)) = partOf q a n := by
  have hwidth : 8 * (a % 16 + n) - 1 + 1 - 8 * (a % 16) = 8 * n := by omega
  rw [bits_eq_div, hwidth, partOf]

/-- The sign extension of a number of 1, 2, 4 or 8 bytes to 64 bits. -/
theorem wrap_signed {lg v : Nat} (hlg : lg < 4) (hv : v < 2 ^ (8 * 2 ^ lg)) :
    wrap 64 (signed (8 * 2 ^ lg) v) = if 2 ^ (8 * 2 ^ lg - 1) ≤ v then v + 2 ^ 64 - 2 ^ (8 * 2 ^ lg) else v := by
  rw [signed, wrap]
  interval_cases lg
  all_goals
    norm_num at hv ⊢
    split_ifs <;> omega

/-- A part load's number, extended as its row says. -/
theorem extended_eq {lg v : Nat} (hlg : lg < 4) (hv : v < 2 ^ (8 * 2 ^ lg)) (sx : Bool) :
    (if sx = true then wrap 64 (signed (8 * 2 ^ lg) v) else v) =
      if sx = true ∧ 2 ^ (8 * 2 ^ lg - 1) ≤ v then v + 2 ^ 64 - 2 ^ (8 * 2 ^ lg) else v := by
  cases sx
  · simp
  · simp [wrap_signed hlg hv]

/-- What a load of `n` bytes may find in its cell (test 10 of Table 02-6). -/
def Legal (base : Cell) (n : Nat) (k : Kind) : Prop := if n = 16 then (k = .cap ∨ k = .sealed → capHas base .ldc = true) else k ≠ .cap ∧ k ≠ .sealed

theorem loadValue_loadedCell {base : Cell} {lg a : Nat} (hlg : lg ≤ 4) (sx : Bool) {m : MCell} {k : Kind} (reg : Option Nat) (t : State)
    (hk : kindOfTag m.tag = some k) (hlegal : Legal base (2 ^ lg) k) :
    (loadValue base a (2 ^ lg) sx m reg).run t = .ok (loadedCell (2 ^ lg) sx a m k) t := by
  rcases Nat.lt_or_eq_of_le hlg with hpart | rfl
  · have h16 : 2 ^ lg ≠ 16 := fun h => absurd (Nat.pow_right_injective le_rfl (h.trans (by norm_num : 16 = 2 ^ 4))) hpart.ne
    have hcap : ¬isCap k = true := by
      rw [Legal, if_neg h16] at hlegal
      cases k <;> simp_all [isCap]
    have hv : partOf m.bits a (2 ^ lg) < 2 ^ (8 * 2 ^ lg) := Nat.mod_lt _ (Nat.two_pow_pos _)
    simp only [loadValue, hk, loadedCell, if_neg h16]
    rw [if_neg hcap, em_pure, bits_partOf _ _ (Nat.two_pow_pos lg), extended_eq hpart hv]
  · have hcap : ¬(isCap k && !capHas base .ldc) = true := by
      have hldc : k = .cap ∨ k = .sealed → capHas base .ldc = true := hlegal
      cases k <;> simp_all [isCap]
    simp only [loadValue, hk, loadedCell, show 2 ^ 4 = 16 from rfl, if_true]
    rw [if_neg hcap, em_pure]

section
variable {s t v u : State} {e : Eid} {rd rs1 : Reg} {c : Cell} {m : MCell} {k : Kind} {a pa lg : Nat} {mt : MemType} {new : Option Nat} {f : Addr} {sx user : Bool}

theorem writeBack_run (u : State) : (writeBack e.toNat rs1 (new.map (cursorMove c))).run u = .ok () (wroteBack u e rs1 c new) := by
  cases new <;> rfl

/-- A load whose access is allowed and whose cell the memory path has. -/
theorem loadBody_run (hc : regOf t e rs1 = c) (hlg : lg ≤ 4) (hk : kindOfTag m.tag = some k)
    (ha : (f.eval e.toNat c (2 ^ lg) (some rs1.toNat) 1).run t = .ok (a, new) t) (hr : Reaches t v e rs1 c a (2 ^ lg) false user (pure ()) pa mt)
    (hs : Sees v e pa (2 ^ lg) mt m u) (hlegal : Legal c (2 ^ lg) k) :
    (loadBody (2 ^ lg) sx user f rd rs1 e.toNat).run t = .ok .seq (setR (wroteBack u e rs1 c new) e rd (loadedCell (2 ^ lg) sx a m k)) := by
  obtain ⟨haccess, hbus, hmem⟩ := hr
  simp only [Bool.false_eq_true, if_false, Bool.not_false] at haccess
  simp only [loadBody]
  rw [em_bind_of_ok (getReg_run e rs1 t), hc, em_bind_of_ok ha]
  dsimp only
  rw [em_bind_of_ok haccess]
  dsimp only
  rw [em_bind_of_ok (em_get v), hbus, if_neg (by decide), em_bind_of_ok (em_get v)]
  split
  · exact absurd ‹_› (hmem _ _)
  · rw [em_bind_of_ok (hs _ _), em_bind_of_ok (loadValue_loadedCell hlg sx _ u hk hlegal), em_bind_of_ok (writeBack_run u),
      em_bind_of_ok (putReg_run ..), em_pure]

/-- The loads of Table 03-9 by an offset. -/
theorem run_load_ofs {w : Word} {imm : BitVec 13} (h : Runs s e w t) (hc : regOf t e rs1 = c) (hlg : lg ≤ 4) (hk : kindOfTag m.tag = some k)
    (hr : Reaches t v e rs1 c ((capCursor c + (imm.signExtend 56).toNat) % 2 ^ 56) (2 ^ lg) false false (pure ()) pa mt)
    (hs : Sees v e pa (2 ^ lg) mt m u) (hlegal : Legal c (2 ^ lg) k) :
    run1 s e w (loadBody (2 ^ lg) sx false (.ofs imm) rd rs1) =
      .next ((setR u e rd (loadedCell (2 ^ lg) sx ((capCursor c + (imm.signExtend 56).toNat) % 2 ^ 56) m k)).retire e.toNat .seq) :=
  run1_ok h (loadBody_run (new := none) hc hlg hk (em_pure _ t) hr hs hlegal)
end

/-- Settles O16: every row of loads is `loadBody` of a size and an address form, and the forms give what R177 gives. -/
theorem loads : Obligations.Loads := by
  unfold Obligations.Loads
  refine ⟨?_, fun s t v u e g rd rs1 ix c m k pa mt hc hk => ⟨?_, ?_⟩⟩
  · intro t e c n lg k imm ix x reg acc cur md len o step nc
    refine ⟨em_pure _ t, fun hx => eval_idx lg hx, eval_post ix, fun hkind hm hn => ?_⟩
    have hlen : len = bits md 27 0 := by rw [bits_eq_div, Nat.pow_zero, Nat.div_one]
    have ho : o = (capCursor c + 2 ^ 56 - capBase c) % 2 ^ 56 % bits md 27 0 := by rw [← hlen]
    have hnc : nc = modCursor md c n := by rw [modCursor, signed_step, ← hlen]
    rw [eval_modulo hkind hm, eval_rev hkind hm, hnc, ho, hlen]
    exact ⟨fun h => by rw [modaddr_none false h, modAnswer],
      fun h h' => ⟨by rw [modaddr_linear h h', modAnswer], fun b hb => by rw [modaddr_reversed h h' hb, modAnswer]⟩⟩
  · intro p hp imm h a hr hs hlegal
    simp only [List.mem_cons, List.not_mem_nil, or_false] at hp
    rcases hp with rfl | rfl | rfl | rfl | rfl | rfl | rfl | rfl
    · exact run_load_ofs (lg := 0) h hc (by decide) hk hr hs hlegal
    · exact run_load_ofs (lg := 0) h hc (by decide) hk hr hs hlegal
    · exact run_load_ofs (lg := 1) h hc (by decide) hk hr hs hlegal
    · exact run_load_ofs (lg := 1) h hc (by decide) hk hr hs hlegal
    · exact run_load_ofs (lg := 2) h hc (by decide) hk hr hs hlegal
    · exact run_load_ofs (lg := 2) h hc (by decide) hk hr hs hlegal
    · exact run_load_ofs (lg := 3) h hc (by decide) hk hr hs hlegal
    · exact run_load_ofs (lg := 4) h hc (by decide) hk hr hs hlegal
  · intro mode size sx a new hsize n ha hs hlegal
    exact ⟨fun h hr => run1_ok h (loadBody_run hc hsize hk ha hr hs hlegal), fun h hr => run1_ok h (loadBody_run hc hsize hk ha hr hs hlegal)⟩

end Sys2Proof.Machine
end

section
/-!
# Atomic accesses (03_isa_core R149 to R153)
-/

namespace Sys2Proof.Machine

open Sys2Proof

/-! ## Their access, read and result -/

theorem test9_stands {p : Prop} (s : State) (base v : Cell) (a : Nat) (reg : Option Nat) : EndsIn (RegsStand p s) (test9 base v a reg) s := by
  unfold test9
  exact .ite (fun _ => .stands_test (.stands_test .stands_pure)) fun _ => .stands_pure

theorem storeKind_stands {p : Prop} (s : State) (e : Nat) (c : Cell) : EndsIn (RegsStand p s) (storeKind e c false) s := by
  unfold storeKind
  exact .ite (fun _ => .stands_pure) fun _ => .stands_bind (linkOk_stands s e c) fun _ _ _ => .ite (fun _ => .stands_pure) fun _ => .stands_pure

/-- An atomic access leaves the registers and memory, and finds the store buffer empty. -/
theorem atomAccess_leaves {e : Nat} {c : Cell} {n pa : Nat} {need : List Perm} {rd wr : Bool} {rs1 : Reg} {t9 : EM Unit} {t v : State}
    (h9 : ∀ x, EndsIn (RegsStand True x) t9 x) (h : (atomAccess e c n need rd wr rs1 t9).run t = .ok pa v) :
    RegsStand True t v ∧ (v.engine e).sb = [] := by
  refine EndsIn.ends (P := fun v => RegsStand True t v ∧ (v.engine e).sb = []) ?_ _ _ h
  refine .bind fun p x hx => .get (.ite (fun _ => .fault) fun _ => .bind fun _ y hy => .pure ?_)
  have hstands : RegsStand True t x := (dataAccess_stands t e _ t9 rfl h9).ends _ _ hx
  simp only [sbEmpty, em_bind, em_get] at hy
  split_ifs at hy with hsb
  · cases hy
  · cases hy
    exact ⟨hstands, by simpa using hsb⟩

/-- With an empty store buffer a sound cell of memory reads as it is. -/
theorem readMem_clean {e pa : Nat} {v : State} (hsb : (v.engine e).sb = []) (herr : v.mem.err (alignDown (keyOf e pa) 16) = 0) (src : Nat)
    (reg : Option Nat) (acc : Nat) : (readMem e pa src reg acc).run v = .ok (v.mem.cell (keyOf e pa)) v := by
  simp only [readMem, readMemVal, em_bind, em_get, v.readCell_clean pa src e herr, em_set, hsb, em_pure, sbOver, List.foldl_nil]

theorem loadedCell_congr {a b : Nat} (h : a % 16 = b % 16) (n : Nat) (sx : Bool) (m : MCell) (k : Kind) : loadedCell n sx a m k = loadedCell n sx b m k := by
  have hpart : partOf m.bits a n = partOf m.bits b n := by rw [partOf, partOf, h]
  rw [loadedCell, loadedCell, hpart]

theorem regOf_setR {t : State} {e : Eid} {rd : Reg} {c : Cell} (h : rd ≠ 0) : regOf (setR t e rd c) e rd = c := by
  have hr : rd.toNat ≠ 0 := fun hz => h (BitVec.eq_of_toNat_eq hz)
  rw [regOf, setR, State.chuck_updChuck_self, Chuck.reg_setReg, if_pos ⟨rfl, hr⟩]

/-! ## Reservations -/

@[simp] theorem State.resv_updChuck (s : State) (k i : Nat) (f : Chuck → Chuck) : ((s.updChuck k f).engine i).resv = (s.engine i).resv := by
  rcases eq_or_ne i k with rfl | hne
  · simp [State.updChuck]
  · simp [State.updChuck, State.engine_updEngine_ne _ _ hne]

theorem State.resv_sigTake (s : State) (e i : Nat) (l : List Byte) : ((s.sigTake e l).engine i).resv = (s.engine i).resv :=
  ((s.regsStand_sigTake (p := True) e l).eng i).resv trivial

theorem alignDown_idem (a : Nat) : alignDown (alignDown a 16) 16 = alignDown a 16 := by
  unfold alignDown
  omega

theorem Memory.setCell_alignDown (m : Memory) (k : Nat) (c : MCell) : m.setCell (alignDown k 16) c = m.setCell k c := by
  rw [Memory.setCell, Memory.setCell, alignDown_idem]

/-- An engine without a reservation of the cell. -/
def Engine.unreserved (cell : Nat) (x : Engine) : Engine := if x.resv = some cell then { x with resv := none } else x

/-- An engine with other reservations at most. -/
theorem Engine.unreserved_eq (cell : Nat) (x : Engine) : ∃ r, x.unreserved cell = { x with resv := r } := by
  unfold Engine.unreserved
  split_ifs
  · exact ⟨none, rfl⟩
  · exact ⟨x.resv, rfl⟩

theorem State.engine_writeCell (s : State) (key : Nat) (c : MCell) (i : Nat) :
    (s.writeCell key c).engine i = (s.engine i).unreserved (alignDown key 16) :=
  Map.get_mapVal (Engine.unreserved (alignDown key 16)) Engine.reset (if_neg nofun) s.eng i

/-- A store breaks every reservation of its cell. -/
theorem State.resv_writeCell (s : State) (key : Nat) (c : MCell) (i : Nat) : ((s.writeCell key c).engine i).resv ≠ some (alignDown key 16) := by
  rw [State.engine_writeCell, Engine.unreserved]
  split_ifs with h
  · nofun
  · exact h

/-- What the engine that stores under its reservation leaves of reservations. -/
theorem State.resv_stored {s : State} {e cell : Nat} (h : ∀ i, (s.engine i).resv ≠ some cell) {f : Engine → Engine} (hf : ∀ x, (f x).resv = none) (i : Nat) :
    ((s.updEngine e f).engine i).resv ≠ some cell := by
  rcases eq_or_ne i e with rfl | hne
  · rw [State.engine_updEngine_self, hf]
    nofun
  · rw [State.engine_updEngine_ne _ _ hne]
    exact h i

/-! ## TAS, LRES and SCND -/

section
variable {t v w : State} {e : Eid} {rd rs1 rs2 : Reg} {c d : Cell} {pa : Nat} {k : Kind}

theorem tasBody_run (hc : regOf t e rs1 = c) (hv : (atomAccess e.toNat c 1 [.ld, .st] true true rs1 (pure ())).run t = .ok pa v)
    (herr : t.mem.err (alignDown (keyOf e.toNat pa) 16) = 0) (hk : kindOfTag (t.mem.cell (keyOf e.toNat pa)).tag = some k) (hcap : k ≠ .cap) (hsealed : k ≠ .sealed) :
    ∃ u, (tasBody rd rs1 e.toNat).run t = .ok .seq (setR u e rd (loadedCell 1 false (capCursor c) (t.mem.cell (keyOf e.toNat pa)) k)) ∧
      u.mem = t.mem.setCell (keyOf e.toNat pa) { bits := mergeBytes (t.mem.cell (keyOf e.toNat pa)).bits (keyOf e.toNat pa % 16) 1 1, tag := 0 } := by
  obtain ⟨hstands, hsb⟩ := atomAccess_leaves (fun x => .stands_pure) hv
  rw [← hstands.mem] at herr hk ⊢
  have hload := loadValue_loadedCell (base := c) (a := capCursor c) (lg := 0) (by decide) false (some rs1.toNat) v hk ⟨hcap, hsealed⟩
  rw [tasBody, em_bind_of_ok (getReg_run e rs1 t), hc]
  dsimp only
  rw [em_bind_of_ok hv, em_bind_of_ok (readMem_clean hsb herr ..), em_bind_of_ok (by exact hload), em_bind_of_ok (em_modify ..), em_bind_of_ok (putReg_run ..), em_pure]
  refine ⟨_, rfl, ?_⟩
  simp [State.sigWrite, State.writeCell]

theorem lresBody_run (hc : regOf t e rs1 = c) (hv : (atomAccess e.toNat c 16 [.ld] true false rs1 (pure ())).run t = .ok pa v)
    (herr : t.mem.err (alignDown (keyOf e.toNat pa) 16) = 0) (hk : kindOfTag (t.mem.cell (keyOf e.toNat pa)).tag = some k)
    (hldc : k = .cap ∨ k = .sealed → capHas c .ldc = true) :
    ∃ u, (lresBody rd rs1 e.toNat).run t = .ok .seq (setR u e rd { bits := (t.mem.cell (keyOf e.toNat pa)).bits, kind := k }) ∧
      (u.engine e.toNat).resv = some (alignDown (keyOf e.toNat pa) 16) ∧ u.mem = t.mem := by
  obtain ⟨hstands, hsb⟩ := atomAccess_leaves (fun x => .stands_pure) hv
  rw [← hstands.mem] at herr hk ⊢
  have hload := loadValue_loadedCell (a := capCursor c) (lg := 4) le_rfl false (some rs1.toNat) v hk hldc
  rw [lresBody, em_bind_of_ok (getReg_run e rs1 t), hc]
  rw [em_bind_of_ok hv, em_bind_of_ok (readMem_clean hsb herr ..), em_bind_of_ok (by exact hload), em_bind_of_ok (em_modify ..),
    em_bind_of_ok (putReg_run ..), em_pure]
  exact ⟨_, rfl, by simp, rfl⟩

theorem scndBody_stores (hc : regOf t e rs1 = c) (hd : regOf t e rs2 = d)
    (hv : (atomAccess e.toNat c 16 [.st] false true rs1 (test9 c d (capCursor c) (some rs1.toNat))).run t = .ok pa v)
    (hres : (t.engine e.toNat).resv = some (alignDown (keyOf e.toNat pa) 16)) (hk : (storeKind e.toNat d false).run v = .ok k w) :
    ∃ u, (scndBody rd rs1 rs2 e.toNat).run t = .ok .seq (setI u e rd 0) ∧
      u.mem = t.mem.setCell (keyOf e.toNat pa) { bits := d.bits, tag := kindTag k } ∧ ∀ i, (u.engine i).resv ≠ some (alignDown (keyOf e.toNat pa) 16) := by
  obtain ⟨hstands, -⟩ := atomAccess_leaves (fun x => test9_stands x ..) hv
  have hres' : (v.engine e.toNat).resv = some (alignDown (keyOf e.toNat pa) 16) := by rwa [(hstands.eng _).resv trivial]
  have hmem : w.mem = t.mem := ((storeKind_stands (p := True) v ..).ends _ _ hk).mem.trans hstands.mem
  rw [scndBody, em_bind_of_ok (getReg_run e rs1 t), em_bind_of_ok (getReg_run e rs2 t), hc, hd]
  dsimp only
  rw [em_bind_of_ok hv, em_bind_of_ok (em_get v), if_pos hres', em_bind_of_ok hk, em_bind_of_ok (em_modify ..), em_bind_of_ok (wint_run ..), em_pure]
  refine ⟨_, rfl, ?_, fun i => ?_⟩
  · rw [State.sigTake_mem, State.sigWrite, State.sigTake_mem, ← hmem, ← Memory.setCell_alignDown]
    rfl
  · rw [State.resv_sigTake, State.sigWrite, State.resv_sigTake]
    refine State.resv_stored (fun j => ?_) (fun _ => rfl) i
    have hbroken := w.resv_writeCell (alignDown (keyOf e.toNat pa) 16) { bits := d.bits, tag := kindTag k } j
    rwa [alignDown_idem] at hbroken

theorem scndBody_fails (hc : regOf t e rs1 = c) (hd : regOf t e rs2 = d)
    (hv : (atomAccess e.toNat c 16 [.st] false true rs1 (test9 c d (capCursor c) (some rs1.toNat))).run t = .ok pa v)
    (hres : (t.engine e.toNat).resv ≠ some (alignDown (keyOf e.toNat pa) 16)) :
    ∃ u, (scndBody rd rs1 rs2 e.toNat).run t = .ok .seq (setI u e rd 1) ∧ u.mem = t.mem ∧ (u.engine e.toNat).resv = none := by
  obtain ⟨hstands, -⟩ := atomAccess_leaves (fun x => test9_stands x ..) hv
  have hres' : ¬(v.engine e.toNat).resv = some (alignDown (keyOf e.toNat pa) 16) := by rwa [(hstands.eng _).resv trivial]
  rw [scndBody, em_bind_of_ok (getReg_run e rs1 t), em_bind_of_ok (getReg_run e rs2 t), hc, hd]
  dsimp only
  rw [em_bind_of_ok hv, em_bind_of_ok (em_get v), if_neg hres', em_bind_of_ok (em_modify ..), em_bind_of_ok (wint_run ..), em_pure]
  refine ⟨_, rfl, ?_, ?_⟩
  · rw [← hstands.mem, State.sigTake_mem]
    rfl
  · rw [State.resv_sigTake, State.engine_updEngine_self]
end

/-- Settles O19: an atomic access leaves memory, its reservation and an empty store buffer as it found them, so its body acts on the cell of
the fetch. -/
theorem atomicAccesses : Obligations.AtomicAccesses := by
  unfold Obligations.AtomicAccesses
  refine ⟨?_, ?_⟩
  · intro s t v e g rd rs1 c pa k key cell h hc hal hv _ herr hk hcap hsealed
    obtain ⟨u, hu, hmem⟩ := tasBody_run (rd := rd) hc hv herr hk hcap hsealed
    refine ⟨_, run1_ok h hu, fun hrd => ?_, hmem⟩
    rw [regOf_setR hrd, loadedCell_congr hal]
  · intro s t a w e g rd rs1 rs2 c v pa k key cell hc hv _ herr
    refine ⟨fun h ha hk hldc => ?_, fun h ha => ⟨fun hres hk => ?_, fun hres => ?_⟩⟩
    · obtain ⟨u, hu, hresv, hmem⟩ := lresBody_run (rd := rd) hc ha herr hk hldc
      exact ⟨_, run1_ok h hu, by rwa [setR, State.resv_updChuck], fun hrd => regOf_setR hrd, hmem⟩
    · obtain ⟨u, hu, hmem, hresv⟩ := scndBody_stores (rd := rd) hc hv ha hres hk
      exact ⟨_, run1_ok h hu, fun hrd => regOf_setR hrd, hmem, fun i => by rw [setI, setR, State.resv_updChuck]; exact hresv i⟩
    · obtain ⟨u, hu, hmem, hresv⟩ := scndBody_fails (rd := rd) hc hv ha hres
      exact ⟨_, run1_ok h hu, fun hrd => regOf_setR hrd, hmem, by rwa [setI, setR, State.resv_updChuck]⟩

end Sys2Proof.Machine
end

section
/-!
# Loads and stores of device registers (03_isa_core R148, 11_pairing_safety R393, R400, R403)
-/

namespace Sys2Proof.Machine

open Sys2Proof

/-! ## The space of device registers -/

/-- The row of the device registers of Table 01-6 has fixed addresses. -/
theorem State.region_regs_any {s : State} {pa b o : Nat} (h : s.region pa = .regs b o) (t : State) : t.region pa = .regs b o := by
  obtain ⟨hlo, hhi, -, -⟩ := State.region_regs h
  have hcluster : ¬pa < 0x4000000 := by omega
  have hpriv : ¬(0x8000000 ≤ pa ∧ pa < 0x8002000) := by omega
  simpa only [State.region, if_neg hcluster, if_neg hpriv, if_pos (And.intro hlo hhi)] using h

theorem State.busBad_regs {s : State} {pa b o : Nat} (h : s.region pa = .regs b o) (wr : Bool) : s.busBad pa 4 .device wr false = false := by
  simp [State.busBad, h]

theorem ofNat_eid (e : Eid) : BitVec.ofNat 10 e.toNat = e := by simp

section
variable {s t u x : State} {e : Eid} {rd rs1 : Reg} {c v : Cell} {a pa b o : Nat} {w : Word}

theorem sbEmpty_run {n : Nat} (h : (x.engine n).sb = []) : (sbEmpty n).run x = .ok () x := by
  simp only [sbEmpty, em_bind, em_get, h]
  rfl

theorem regLoad_run (hsb : (x.engine e.toNat).sb = []) (hp : x.pairedEng e.toNat = false) (hmay : engineMay b false = true)
    (hread : x.regRead (.engine e) b o = (w, u)) (reg : Option Nat) : (regLoad e.toNat pa b o reg).run x = .ok (w.setWidth 64) u := by
  have hperform : x.engRegRead e.toNat b o = (some (w.setWidth 64), u) := by
    simp only [State.engRegRead, hmay, if_true, ofNat_eid, hread]
  have hpair : (pairRead e.toNat b o fun s => s.engRegRead e.toNat b o).run x = .ok (some (w.setWidth 64)) u := by
    simp only [pairRead, em_bind, em_get, hp, Bool.not_false, if_true, em_set, em_pure, hperform]
  simp only [regLoad]
  rw [em_bind_of_ok (sbEmpty_run hsb)]
  split_ifs
  · refine Eq.trans (em_bind_of_ok (a := some (w.setWidth 64)) (t := u) ?_) (em_pure _ u)
    exact congrArg (fun r : Option Dword × State => EStateM.Result.ok r.1 r.2) hperform
  · rw [em_bind_of_ok hpair, em_pure]

/-- A 4-byte access by an offset reaches the register of block `b` at `o` in state `x`. -/
def ReachesReg (t x : State) (e : Eid) (rs1 : Reg) (c : Cell) (a : Nat) (wr : Bool) (pa : Nat) : Prop :=
  (dataAccess e.toNat { cap := c, a := a, n := 4, need := [if wr then .st else .ld], rd := !wr, wr := wr, align := true, user := false
                        inl := false, reg := some rs1.toNat, accCode := if wr then 2 else 1 } (pure ())).run t = .ok (pa, .device) x

theorem ReachesReg.stands {wr : Bool} (h : ReachesReg t x e rs1 c a wr pa) : RegsStand True t x :=
  (dataAccess_stands t e.toNat _ (pure ()) rfl fun _ => .stands_pure).ends _ _ h

theorem loadBody_reg {imm : BitVec 13} (hc : regOf t e rs1 = c) (ha : (capCursor c + (imm.signExtend 56).toNat) % 2 ^ 56 = a)
    (hr : ReachesReg t x e rs1 c a false pa) (hregion : t.region pa = .regs b o) (hsb : (t.engine e.toNat).sb = []) (hp : t.pairedEng e.toNat = false)
    (hmay : engineMay b false = true) (hread : x.regRead (.engine e) b o = (w, u)) (sx : Bool) :
    (loadBody 4 sx false (.ofs imm) rd rs1 e.toNat).run t = .ok .seq (setI u e rd (if sx then w.signExtend 64 else w.setWidth 64)) := by
  have hstands := hr.stands
  have hload := regLoad_run (pa := pa) ((hstands.eng _).sb.trans hsb) ((hstands.pairedEng _).trans hp) hmay hread (some rs1.toNat)
  have hbus := State.busBad_regs (State.region_regs_any hregion x) false
  have haddr : ((Addr.ofs imm).eval e.toNat c 4 (some rs1.toNat) 1).run t = .ok (a, none) t := ha ▸ em_pure _ t
  have hext : ((w.setWidth 64 : Dword).setWidth 32).signExtend 64 = w.signExtend 64 := by
    rw [BitVec.setWidth_setWidth_of_le _ (by decide), BitVec.setWidth_eq]
  simp only [ReachesReg, Bool.false_eq_true, if_false, Bool.not_false] at hr
  simp only [loadBody]
  rw [em_bind_of_ok (getReg_run e rs1 t), hc, em_bind_of_ok haddr]
  dsimp only
  rw [em_bind_of_ok hr]
  dsimp only
  rw [em_bind_of_ok (em_get x), hbus, if_neg (by decide), em_bind_of_ok (em_get x), State.region_regs_any hregion x]
  dsimp only
  rw [em_bind_of_ok hload, em_bind_of_ok (em_pure _ u), em_bind_of_ok (writeBack_run (new := none) (c := c) u), em_bind_of_ok (putReg_run ..), em_pure, hext]
  rfl

/-! ## Stores -/

theorem State.sigTake_unpaired {n : Nat} (h : x.pairedEng n = false) (l : List Byte) : x.sigTake n l = x := by
  simp [State.sigTake, h]

variable {imm : BitVec 13} {data : Word} {wb : Option Cell}

/-- A store of an unpaired engine to a register that is no gated act writes it. -/
theorem regStore_plain (hsb : (x.engine e.toNat).sb = []) (hmay : engineMay b true = true) (hg : gatedReg b o = false)
    (hp : (x.regWrite (.engine e) b o data).pairedEng e.toNat = false) :
    (regStore e.toNat a pa b o data rs1 wb).run x = .ok () (x.regWrite (.engine e) b o data) := by
  simp only [regStore]
  rw [em_bind_of_ok (sbEmpty_run hsb), hmay, hg, if_neg (by decide), if_neg (by decide), em_modify, ofNat_eid]
  simp only [State.sigWrite, State.sigTake_unpaired hp, ite_self]

/-- A gated act of an unpaired engine waits at the gate (R400). -/
theorem regStore_gated (hsb : (x.engine e.toNat).sb = []) (hmay : engineMay b true = true) (hg : gatedReg b o = true) (hp : x.pairedEng e.toNat = false) :
    ∃ h, (regStore e.toNat a pa b o data rs1 wb).run x = .error .wait (x.updEngine e.toNat fun x => { x with act := some h }) ∧
      h.addr = pa ∧ h.data = data := by
  simp only [regStore]
  rw [em_bind_of_ok (sbEmpty_run hsb), hmay, hg, if_neg (by decide), if_pos rfl, em_bind_of_ok (em_modify ..), State.sigTake_unpaired hp,
    em_bind_of_ok (em_get x)]
  simp only [gatedStore, em_bind, em_get, hp, Bool.false_and, Bool.false_eq_true, if_false, em_set, em_throw]
  exact ⟨_, rfl, rfl, rfl⟩

/-- A store of 4 bytes that reaches a register comes to `regStore`. -/
theorem storeBody_reg (hc : regOf t e rs1 = c) (hv : regOf t e rd = v) (hk : v.kind = .raw ∨ v.kind = .int)
    (ha : (capCursor c + (imm.signExtend 56).toNat) % 2 ^ 56 = a) (hr : ReachesReg t x e rs1 c a true pa) (hregion : t.region pa = .regs b o) :
    (storeBody 4 false (.ofs imm) rd rs1 e.toNat).run t =
      (do regStore e.toNat a pa b o (v.bits.setWidth 32) rs1 none; pure Next.seq : EM Next).run x := by
  have hbus := State.busBad_regs (State.region_regs_any hregion x) true
  have haddr : ((Addr.ofs imm).eval e.toNat c 4 (some rs1.toNat) 2).run t = .ok (a, none) t := ha ▸ em_pure _ t
  have hint : ¬(decide (4 < 16) && !kindInt v.kind) = true := by simp [(kindInt_iff _).2 hk]
  simp only [ReachesReg, if_true, Bool.not_true] at hr
  simp only [storeBody]
  rw [em_bind_of_ok (getReg_run e rs1 t), em_bind_of_ok (getReg_run e rd t), hc, hv, if_neg hint, em_bind_of_ok haddr]
  dsimp only
  rw [if_neg (by decide), em_bind_of_ok hr]
  dsimp only
  rw [em_bind_of_ok (em_get x), hbus, if_neg (by decide), em_bind_of_ok (em_get x), State.region_regs_any hregion x]
  rfl

/-- The gate forwards the act of an unpaired engine (R403). -/
theorem exec_unpairedActForward {h : Act} (hact : (s.engine e.toNat).act = some h) (hp : s.pairedEng e.toNat = false) (hregion : s.region h.addr = .regs b o)
    (hwb : h.wb = none) {f : State} (hf : (s.regWrite (.engine e) b o h.data).updEngine e.toNat (fun x => { x with act := none }) = f)
    (hretired : (f.retire e.toNat .seq).pairedEng e.toNat = false) : exec (.unpairedActForward e) s = .next (f.retire e.toNat .seq) := by
  have hforward : s.actForward e.toNat h = s.regWrite (.engine e) b o h.data := by rw [State.actForward, hregion, ofNat_eid]
  show execUnpairedActForward e s = _
  rw [execUnpairedActForward, hact]
  dsimp only
  rw [hp, if_neg (by decide), hforward, State.actDone, hf, hwb]
  dsimp only
  rw [hretired, if_neg (by decide)]
end

/-- Settles O21: an unpaired engine's load and store of a register reach it, and a gated act stops at the gate until it is forwarded. -/
theorem deviceRegisterAccess : Obligations.DeviceRegisterAccess := by
  unfold Obligations.DeviceRegisterAccess
  intro s t u x e g rd rs1 imm c v pa b o w a reaches hc hregion hsb hp
  refine ⟨fun hr hmay hread => ⟨fun h => ?_, fun h => ?_⟩, fun hr hmay hv hk h => ?_, fun h hact hp' hregion' hwb => ?_⟩
  · exact run1_ok h (loadBody_reg hc rfl hr hregion hsb hp hmay hread false)
  · exact run1_ok h (loadBody_reg hc rfl hr hregion hsb hp hmay hread true)
  · have hstands := ReachesReg.stands hr
    have hsb' : (x.engine e.toNat).sb = [] := (hstands.eng _).sb.trans hsb
    have hbody := storeBody_reg hc hv hk rfl hr hregion
    refine ⟨fun hg hp' => ?_, fun hg => ?_⟩
    · exact run1_ok h (hbody.trans ((em_bind_of_ok (regStore_plain hsb' hmay hg hp')).trans (em_pure _ _)))
    · obtain ⟨act, hact, haddr, hdata⟩ := regStore_gated (a := a) (pa := pa) (rs1 := rs1) (data := v.bits.setWidth 32) (wb := none) hsb' hmay hg
        ((hstands.pairedEng _).trans hp)
      exact ⟨act, run1_err h (hbody.trans (em_bind_of_error hact)), haddr, hdata⟩
  · intro f _ hretired
    exact exec_unpairedActForward hact hp' hregion' hwb rfl hretired

end Sys2Proof.Machine
end

section
/-!
# Barriers, predictor maintenance and waits (03_isa_core R155, R160, 05_engine_pipeline R215, R218, 06_tasks_scheduler R233, R246, R253)
-/

namespace Sys2Proof.Machine

open Sys2Proof

/-! ## A cell written to memory reads back -/

theorem ofBytes_toBytes (n v : Nat) : ofBytes (toBytes n v) = v % 256 ^ n := by
  induction n generalizing v with
  | zero => simp [toBytes, ofBytes, Nat.mod_one]
  | succ n ih =>
    rw [toBytes, ofBytes, ih, Nat.pow_succ', Nat.mod_mul, BitVec.toNat_ofNat]

theorem Memory.read_write (m : Memory) (k : Nat) (l : List Byte) (h : m.wf = true) : (m.write k l).read k l.length = l := by
  induction l generalizing m k with
  | nil => rfl
  | cons b l ih =>
    have hfirst : ((m.setByte k b).write (k + 1) l).byte k = b := by
      rw [Memory.byte_write_out _ _ _ _ (m.wf_setByte k b h) (.inl (Nat.lt_succ_self k)), m.byte_setByte k k b h, if_pos rfl]
    rw [Memory.write, List.length_cons, Memory.read, hfirst, ih _ _ (m.wf_setByte k b h)]

theorem Memory.read_congr {m n : Memory} (h : ∀ k, m.byte k = n.byte k) (k l : Nat) : m.read k l = n.read k l := by
  induction l generalizing k with
  | zero => rfl
  | succ l ih => rw [Memory.read, Memory.read, h, ih]

theorem Memory.tag_setErr (m : Memory) (k i : Nat) (v : BitVec 176) : (m.setErr k v).tag i = m.tag i := rfl

theorem Memory.cell_setCell (m : Memory) (k : Nat) (c : MCell) (h : m.wf = true) : (m.setCell k c).cell k = c := by
  have hwf := m.wf_write (alignDown k 16) (toBytes 16 c.bits.toNat) h
  have hread : (m.setCell k c).read (alignDown k 16) 16 = toBytes 16 c.bits.toNat := by
    have hwritten := m.read_write (alignDown k 16) (toBytes 16 c.bits.toNat) h
    rw [length_toBytes] at hwritten
    exact (Memory.read_congr (fun i => by rw [Memory.setCell, Memory.byte_setErr, Memory.byte_setTag]) _ _).trans hwritten
  have htag : (m.setCell k c).tag (alignDown k 16) = c.tag := by
    rw [Memory.setCell, Memory.tag_setErr, Memory.tag_setTag _ _ _ _ hwf, if_pos rfl]
  have hbits : BitVec.ofNat 128 (c.bits.toNat % 256 ^ 16) = c.bits := BitVec.eq_of_toNat_eq (by rw [BitVec.toNat_ofNat]; omega)
  rw [Memory.cell, hread, htag, ofBytes_toBytes, hbits]

/-! ## The write of DET -/

theorem State.readCell_eng (s : State) (key pa src master : Nat) : (s.readCell key pa src master).2.eng = s.eng := by
  have hdecode : (s.decode key).2.eng = s.eng := by
    simp only [State.decode]
    split_ifs <;> rfl
  unfold State.readCell
  split
  · rfl
  · generalize s.decode key = d at hdecode
    split
    · exact hdecode
    · exact (State.logError_eng ..).trans hdecode
    · exact (State.logError_eng ..).trans hdecode

section
variable (s : State) (e slot : Nat)

/-- The address of CTRL in a descriptor is that of a cell. -/
theorem State.ctrl_aligned : alignDown (s.descAddr e slot + 0x10) 16 = s.descAddr e slot + 0x10 := by
  unfold alignDown State.descAddr
  omega

theorem State.detWrite_off (h : s.isMemory (s.descAddr e slot + 0x10) = false) : s.detWrite e slot = s := by
  simp [State.detWrite, h]

/-- Where the cell is sound its DET bit is set (R233). -/
theorem State.detWrite_sound (h : s.isMemory (s.descAddr e slot + 0x10) = true) (herr : s.mem.err (s.descAddr e slot + 0x10) = 0) :
    s.detWrite e slot = s.writeCell (s.descAddr e slot + 0x10) { bits := (s.mem.cell (s.descAddr e slot + 0x10)).bits ||| 0x20, tag := 0 } := by
  have hread := s.readCell_clean (key := s.descAddr e slot + 0x10) (s.descAddr e slot + 0x10) 0xC e (by rwa [State.ctrl_aligned])
  simp only [State.detWrite, h, Bool.not_true, Bool.false_eq_true, if_false, hread]

/-- Memory changes in that cell alone. -/
theorem State.detWrite_byte (hwf : s.mem.wf = true) (a : Nat) (ha : ¬(s.descAddr e slot + 0x10 ≤ a ∧ a < s.descAddr e slot + 0x10 + 16)) :
    (s.detWrite e slot).mem.byte a = s.mem.byte a := by
  have hmem := (s.regsStand_readCell (p := True) (s.descAddr e slot + 0x10) (s.descAddr e slot + 0x10) 0xC e).mem
  simp only [State.detWrite]
  split
  · rfl
  · generalize s.readCell _ _ _ _ = r at hmem
    split
    · dsimp only at hmem
      rw [State.writeCell, hmem, Memory.byte_setCell_out _ _ _ _ hwf (by rw [State.ctrl_aligned]; omega)]
    · exact congrArg (Memory.byte · a) hmem

/-- The engines keep all but reservations. -/
theorem State.detWrite_engine (i : Nat) : ∃ r, (s.detWrite e slot).engine i = { s.engine i with resv := r } := by
  have heng := s.readCell_eng (s.descAddr e slot + 0x10) (s.descAddr e slot + 0x10) 0xC e
  simp only [State.detWrite]
  split
  · exact ⟨_, rfl⟩
  · generalize s.readCell _ _ _ _ = r at heng
    split
    · rw [State.engine_writeCell, State.engine, heng]
      exact Engine.unreserved_eq _ _
    · exact ⟨(s.engine i).resv, congrArg (Map.get Engine.reset · i) heng⟩
end

/-! ## Barriers -/

section
variable {s t : State} {e : Eid} {g : Grd}

theorem acquire_leaves (t : State) (e : Nat) :
    (t.acquire e).mem = t.mem ∧ ((t.acquire e).engine e).chucks = (t.engine e).chucks ∧ (∀ l ∈ ((t.acquire e).engine e).l1d, l ∈ (t.engine e).l1d) ∧
      ∀ l ∈ (t.engine e).l1d,
        l ∈ ((t.acquire e).engine e).l1d ↔ ¬(64 * l.line < 0x4000000 ∨ (0x10000000000 ≤ 64 * l.line ∧ 64 * l.line < 0x10400000000)) := by
  rw [State.acquire, State.engine_updEngine_self]
  refine ⟨rfl, rfl, fun l hl => List.mem_of_mem_filter hl, fun l hl => ?_⟩
  rw [List.mem_filter, Bool.not_eq_true', decide_eq_false_iff_not]
  exact and_iff_right hl

theorem sbEmpty_waits {n : Nat} (h : (t.engine n).sb ≠ []) : (sbEmpty n).run t = .error .wait t := by
  have hsb : (!(t.engine n).sb.isEmpty) = true := by simpa using h
  simp only [sbEmpty, em_bind, em_get, hsb, if_true, em_throw]

theorem barRelBody_empty {n : Nat} (h : (t.engine n).sb = []) : (barRelBody n).run t = .ok .seq t := by
  rw [barRelBody, em_bind_of_ok (sbEmpty_run h), em_pure]

theorem barFullBody_empty {n : Nat} (h : (t.engine n).sb = []) : (barFullBody n).run t = .ok .seq (t.acquire n) := by
  rw [barFullBody, em_bind_of_ok (sbEmpty_run h), em_bind_of_ok (em_modify ..), em_pure]

/-! ## Predictor maintenance -/

theorem pflush_forgets (x : Engine) (slot task : Nat) :
    (∀ p ∈ (x.pflush slot task).dirc, p ∈ x.dirc ∧ p.2.owner ≠ some slot) ∧ (∀ b ∈ (x.pflush slot task).btb, b ∈ x.btb ∧ b.task ≠ task) := by
  refine ⟨fun p hp => ?_, fun b hb => ?_⟩
  · simpa [Engine.pflush, List.mem_filter] using hp
  · simpa [Engine.pflush, List.mem_filter] using hb

/-- The state in which PBAR writes the descriptor: PFLUSH's, with DET in the slot. -/
def State.barred (t : State) (e : Nat) : State :=
  (t.updEngine e (fun x => x.pflush x.slot (t.taskId e))).updSlot e (t.engine e).slot (fun t => { t with det := true })

theorem State.barred_engine (t : State) (e : Nat) : (t.barred e).engine e =
    { (t.engine e).pflush (t.engine e).slot (t.taskId e) with
      slots := Map.upd Slot.free (fun t => { t with det := true }) (t.engine e).slots (t.engine e).slot } := by
  rw [State.barred, State.updSlot, State.engine_updEngine_self, State.engine_updEngine_self]
  rfl

theorem pbarBody_run (t : State) (e : Nat) : (pbarBody e).run t = .ok .seq ((t.barred e).detWrite e (t.engine e).slot) := by
  rw [pbarBody, em_bind_of_ok (em_modify ..), em_pure]
  rfl

/-! ## WAIT -/

theorem waitBody_goesOn {n : Nat} (hl : (t.engine n).level = .t) (hw : t.twinWaits n = false) (hp : (t.curSlot n).pend &&& ~~~(t.curSlot n).emask ≠ 0) :
    (waitBody n).run t = .ok .seq (t.updSlot n (t.engine n).slot (fun t => { t with pend := t.pend &&& t.emask })) := by
  have hgo : ((t.curSlot n).pend &&& ~~~(t.curSlot n).emask != 0 && !t.twinWaits n) = true := by simpa [hw] using hp
  simp only [waitBody, em_bind, em_get, hl]
  rw [if_pos hgo, em_bind_of_ok (em_set ..), em_pure]

theorem waitBody_waits {n : Nat} (hl : (t.engine n).level = .t) (hw : t.twinWaits n = false) (hp : (t.curSlot n).pend &&& ~~~(t.curSlot n).emask = 0) :
    (waitBody n).run t = .ok .hold ((t.updSlot n (t.engine n).slot (fun t => { t with st := .waiting })).idle n) := by
  have hgo : ¬((t.curSlot n).pend &&& ~~~(t.curSlot n).emask != 0 && !t.twinWaits n) = true := by simp [hp]
  simp only [waitBody, em_bind, em_get, hl]
  rw [if_neg hgo, em_bind_of_ok (em_set ..), em_pure, hw]
  rfl

theorem waitBody_trap {n : Nat} (hl : (t.engine n).level = .k) (ht : (t.engine n).trap = true) :
    (waitBody n).run t = .ok .hold (((t.retire n .seq).updEngine n (fun x => { x with trap := false, level := .t })).idle n) := by
  simp only [waitBody, em_bind, em_get, hl]
  rw [if_pos ht, em_bind_of_ok (em_set ..), em_pure]

theorem waitBody_none {n : Nat} (h : (t.engine n).level = .k ∧ (t.engine n).trap = false ∨ (t.engine n).level = .rest) :
    (waitBody n).run t = .ok .seq t := by
  rcases h with ⟨hl, ht⟩ | hl
  · simp only [waitBody, em_bind, em_get, hl]
    rw [if_neg (by simp [ht]), em_pure]
  · simp only [waitBody, em_bind, em_get, hl, em_pure]

theorem State.curSlot_updSlot (t : State) (n : Nat) (f : Slot → Slot) : (t.updSlot n (t.engine n).slot f).curSlot n = f (t.curSlot n) := by
  simp [State.curSlot, State.updSlot, Map.upd]

/-! ## What each leaves -/

theorem State.idle_engine (t : State) (n : Nat) : (t.idle n).engine n = { t.engine n with running := false, resv := none, lchk := [] } :=
  t.engine_updEngine_self ..

theorem State.curSlot_idle (t : State) (n : Nat) : (t.idle n).curSlot n = t.curSlot n := by rw [State.curSlot, State.idle_engine, State.curSlot]

theorem State.retire_hold (t : State) (n : Nat) : t.retire n .hold = t := rfl

/-- What PBAR leaves of the engine's predictor and slots, of memory, and of its descriptor. -/
theorem pbar_leaves (t : State) (n : Nat) (hwf : t.mem.wf = true) :
    let d := t.descAddr n (t.engine n).slot + 0x10
    let u := (t.barred n).detWrite n (t.engine n).slot
    (∃ r, u.engine n = { (t.barred n).engine n with resv := r }) ∧ u.detMode n = true ∧
      (∀ a, ¬(d ≤ a ∧ a < d + 16) → u.mem.byte a = t.mem.byte a) ∧ (t.isMemory d = false → u.mem = t.mem) ∧
      (t.isMemory d = true → t.mem.err d = 0 → u.mem.cell d = { bits := (t.mem.cell d).bits ||| 0x20, tag := 0 }) := by
  intro d u
  have hwf' : (t.barred n).mem.wf = true := hwf
  obtain ⟨r, hr⟩ := (t.barred n).detWrite_engine n (t.engine n).slot n
  refine ⟨⟨r, hr⟩, ?_, (t.barred n).detWrite_byte n _ hwf', fun h => ?_, fun h herr => ?_⟩
  · have hslots : (Map.get Slot.free (u.engine n).slots (u.engine n).slot).det = true := by
      rw [hr, State.barred_engine]
      simp [Map.upd, Engine.pflush]
    exact hslots
  · exact (congrArg State.mem ((t.barred n).detWrite_off n _ h)).trans rfl
  · have hwrite := congrArg (fun s : State => s.mem.cell d) ((t.barred n).detWrite_sound n (t.engine n).slot h herr)
    exact hwrite.trans (Memory.cell_setCell _ d _ hwf')
end

/-- Settles O20: each body does what its row of Table 03-13 says, and PBAR's one write is that of a cell. -/
theorem barriersAndWaits : Obligations.BarriersAndWaits := by
  unfold Obligations.BarriersAndWaits
  refine ⟨fun s t e g => ⟨fun h => ?_, fun hsb => ⟨fun h => ?_, fun h => ?_, fun h => ?_⟩, fun hsb => ⟨fun h => ?_, fun h => ?_, fun h => ?_⟩⟩,
    fun s t e g => ⟨fun h => ?_, fun h => ?_, fun h hwf => ?_, fun h hw => ⟨fun hl hp => ?_, fun hl hp => ?_, fun hl ht => ?_, fun hl ht => ?_, fun hl => ?_⟩⟩⟩
  · exact ⟨_, run1_ok (body := barAcqBody) h (em_bind_of_ok (em_modify ..)), acquire_leaves t e.toNat⟩
  · exact run1_ok h (barRelBody_empty hsb)
  · exact ⟨_, run1_ok h (barFullBody_empty hsb), acquire_leaves t e.toNat⟩
  · exact run1_ok h (barRelBody_empty hsb)
  · exact run1_err (body := barRelBody) h (em_bind_of_error (sbEmpty_waits hsb))
  · exact run1_err (body := barFullBody) h (em_bind_of_error (sbEmpty_waits hsb))
  · exact run1_err (body := barRelBody) h (em_bind_of_error (sbEmpty_waits hsb))
  · exact run1_ok (body := fun _ => pure .seq) h (em_pure _ t)
  · obtain ⟨hdirc, hbtb⟩ := pflush_forgets (t.engine e.toNat) (t.engine e.toNat).slot (t.taskId e.toNat)
    refine ⟨_, run1_ok (body := pflushBody) h (em_bind_of_ok (em_modify ..)), ?_, rfl⟩
    rw [State.engine_updEngine_self]
    exact ⟨hdirc, hbtb, rfl⟩
  · intro d
    obtain ⟨hdirc, hbtb⟩ := pflush_forgets (t.engine e.toNat) (t.engine e.toNat).slot (t.taskId e.toNat)
    obtain ⟨⟨r, hr⟩, hleaves⟩ := pbar_leaves t e.toNat hwf
    refine ⟨_, run1_ok h (pbarBody_run t e.toNat), ?_, hleaves⟩
    rw [hr, State.barred_engine]
    exact ⟨hdirc, hbtb, rfl⟩
  · refine ⟨_, run1_ok h (waitBody_goesOn hl hw hp), ?_, ?_⟩ <;> rw [State.curSlot_updSlot]
  · refine ⟨_, run1_ok h (waitBody_waits hl hw hp), ?_, ?_, ?_⟩
    · rw [State.retire_hold, State.idle_engine]
    · rw [State.retire_hold, State.curSlot_idle, State.curSlot_updSlot]
    · rw [State.retire_hold, State.idle_engine]
  · refine ⟨_, run1_ok h (waitBody_trap hl ht), ?_, ?_, ?_⟩ <;> rw [State.retire_hold, State.idle_engine, State.engine_updEngine_self]
  · exact run1_ok h (waitBody_none (.inl ⟨hl, ht⟩))
  · exact run1_ok h (waitBody_none (.inr hl))

end Sys2Proof.Machine
end

section
/-!
# System registers (03_isa_core R157 to R159, 04_isa_stream R195, 05_engine_pipeline R217)
-/

namespace Sys2Proof.Machine

open Sys2Proof

/-! ## Reads (R157) -/

section
variable {s t u : State} {e : Eid} {rd rs1 : Reg} {sr : BitVec 12} {v : Dword}

theorem gsrBody_pcc (h : sr.toNat = 1) : (gsrBody rd sr e.toNat).run t = .ok .seq (setR t e rd (t.chuck e.toNat).pcc) := by
  simp only [gsrBody]
  rw [em_bind_of_ok (em_get t), if_pos h, em_bind_of_ok (putReg_run ..), em_pure]

theorem gsrBody_cell (h1 : sr.toNat ≠ 1) (h : sysIsCell sr.toNat = true) :
    (gsrBody rd sr e.toNat).run t = .ok .seq (setR t e rd (t.ecell e.toNat sr.toNat)) := by
  simp only [gsrBody]
  rw [em_bind_of_ok (em_get t), if_neg h1, if_pos h, em_bind_of_ok (putReg_run ..), em_pure]

/-- A register of 64 bits gives what `sysVal` reads. -/
theorem gsrBody_val (h1 : sr.toNat ≠ 1) (h : sysIsCell sr.toNat = false) (hv : (sysVal e.toNat sr.toNat).run t = .ok v u) :
    (gsrBody rd sr e.toNat).run t = .ok .seq (setI u e rd v) := by
  simp only [gsrBody]
  rw [em_bind_of_ok (em_get t), if_neg h1, if_neg (by simp [h]), em_bind_of_ok hv, em_bind_of_ok (wint_run ..), em_pure]

theorem sysVal_chuck {n : Nat} (h : n < 0x30 ∧ n ≠ 2 ∧ n ≠ 3 ∧ n ≠ 4 ∧ n ≠ 5) (e : Nat) : (sysVal e n).run t = .ok ((t.chuck e).sysr n) t := by
  simp only [sysVal]
  rw [em_bind_of_ok (em_get t), if_pos h, em_pure]

theorem sysVal_engine {n : Nat} (h : 0x101 ≤ n) (h' : n ≠ 0x10D) (e : Nat) : (sysVal e n).run t = .ok (t.esys e n) t := by
  simp only [sysVal]
  rw [em_bind_of_ok (em_get t), if_neg (by omega)]
  split
  case h_10 => exact em_pure _ t
  all_goals omega

theorem readTime_run {n : Nat} (hp : t.pairedEng n = false) : (readTime n).run t = .ok t.now.1 t.now.2 := by
  have hread : (pairRead n 0xFF 5 (fun s => (some s.now.1, s.now.2))).run t = .ok (some t.now.1) t.now.2 := by
    simp only [pairRead, em_bind, em_get, hp, Bool.not_false, if_true, em_set, em_pure]
  simp only [readTime]
  rw [em_bind_of_ok hread, em_pure]

/-- What a GSR of a 64-bit register comes to. -/
theorem run_gsr {w : Word} (h : Runs s e w t) {n : Nat} (hn : sr.toNat = n) (h1 : n ≠ 1) (hc : sysIsCell n = false)
    (hv : (sysVal e.toNat n).run t = .ok v u) : run1 s e w (gsrBody rd sr) = .next ((setI u e rd v).retire e.toNat .seq) := by
  subst hn
  exact run1_ok h (gsrBody_val h1 hc hv)


/-! ## Writes (R124, R158, R159, R217) -/

@[simp] theorem State.esys_setEsys_self (s : State) (n k : Nat) (v : Dword) : (s.setEsys n k v).esys n k = v := by
  simp [State.esys, State.setEsys]

@[simp] theorem State.chuck_setEsys (s : State) (n k i : Nat) (v : Dword) : (s.setEsys n k v).chuck i = s.chuck i := by
  rcases eq_or_ne i n with rfl | hne
  · simp [State.chuck, State.setEsys]
  · simp [State.chuck, State.setEsys, State.engine_updEngine_ne _ _ hne]

theorem bits_and_low (v : Dword) {m : Dword} (hm : bits m 1 0 = 3) : bits (v &&& m) 1 0 = v.toNat % 4 := by
  have hm' : m.toNat % 2 ^ 2 = 2 ^ 2 - 1 := by simpa [bits] using hm
  have hand : (v.toNat &&& m.toNat) % 2 ^ 2 = v.toNat % 2 ^ 2 := by
    rw [Nat.and_mod_two_pow, hm', Nat.and_two_pow_sub_one_eq_mod, Nat.mod_mod]
  simpa [bits] using hand

theorem bits_low (v : Dword) : bits v 1 0 = v.toNat % 4 := by simp [bits]

theorem ssrBody_cell (h : sysIsCell sr.toNat = true) : (ssrBody sr rs1 e.toNat).run t = .ok .seq (t.setEcell e.toNat sr.toNat (regOf t e rs1)) := by
  simp only [ssrBody]
  rw [if_pos h, em_bind_of_ok (getReg_run e rs1 t), em_bind_of_ok (em_modify ..), em_pure]

/-- What an SSR of a 64-bit register comes to. -/
theorem run_ssr {w : Word} (h : Runs s e w t) (hv : IntOp t e rs1 v) {n : Nat} (hn : sr.toNat = n) (hc : sysIsCell n = false) :
    run1 s e w (ssrBody sr rs1) = .next ((t.ssrWrite e.toNat n v).retire e.toNat .seq) := by
  subst hn
  refine run1_ok h ?_
  simp only [ssrBody]
  rw [if_neg (by simp [hc]), em_bind_of_ok (ival_of hv), em_bind_of_ok (em_modify ..), em_pure]

theorem ssrValue_plain {n : Nat} {old : Dword} (h : ssrReserved n v = none) : ssrValue n old v = (v &&& ssrMask n, false) := by
  simp only [ssrValue, h]

theorem ssrValue_reserved {n hi lo : Nat} {old : Dword} (h : ssrReserved n v = some (hi, lo)) :
    ssrValue n old v = (setBits (v &&& ssrMask n) hi lo (bits old hi lo), true) := by
  simp only [ssrValue, h]

/-- An engine register that takes a value of its masked bits. -/
theorem ssrWrite_engine {n : Nat} (h : 0x30 ≤ n) (h' : n ≠ 0x10D) (hr : ssrReserved n v = none) (e : Nat) :
    t.ssrWrite e n v = t.setEsys e n (v &&& ssrMask n) := by
  simp only [State.ssrWrite, ssrValue_plain hr, if_neg h', if_neg (show ¬n = 0 by omega), decide_eq_false (show ¬n < 0x30 by omega)]
  rfl

/-- An engine register keeps an encoded field that is given a reserved value, and TSTAT.CFGERR tells (R159). -/
theorem ssrWrite_reserved {n hi lo : Nat} (h : 0x30 ≤ n) (h' : n ≠ 0x10D) (hr : ssrReserved n v = some (hi, lo)) (e : Nat) :
    t.ssrWrite e n v = (t.setEsys e n (setBits (v &&& ssrMask n) hi lo (bits (t.esys e n) hi lo))).updChuck e
      (fun c => c.setSysr 0 (setBit (c.sysr 0) 12 true)) := by
  simp only [State.ssrWrite, ssrValue_reserved hr, if_neg h', if_neg (show ¬n = 0 by omega), decide_eq_false (show ¬n < 0x30 by omega)]
  rfl

theorem ssrWrite_chuck {n : Nat} (h0 : n ≠ 0) (h : n < 0x30) (hr : ssrReserved n v = none) (e : Nat) :
    t.ssrWrite e n v = t.updChuck e (fun c => c.setSysr n (v &&& ssrMask n)) := by
  simp only [State.ssrWrite, ssrValue_plain hr, if_neg h0, if_neg (show ¬n = 0x10D by omega), decide_eq_true h]
  rfl

theorem ssrWrite_psalt (t : State) (e : Nat) (v : Dword) :
    let u := t.ssrWrite e 0x10D v
    u.esys e 0x10D = v &&& 0xFFFFFFFFFFFFFFF ∧ (u.curSlot e).psalt = v.setWidth 60 ∧ (u.engine e).chucks = (t.engine e).chucks ∧ u.mem = t.mem := by
  have hr : ssrReserved 0x10D v = none := rfl
  have hlow : (v &&& 0xFFFFFFFFFFFFFFF).setWidth 60 = v.setWidth 60 := by
    rw [BitVec.setWidth_and, show (0xFFFFFFFFFFFFFFF : Dword).setWidth 60 = BitVec.allOnes 60 by decide, BitVec.and_allOnes]
  have hwrite : t.ssrWrite e 0x10D v = ((t.setEsys e 0x10D (v &&& 0xFFFFFFFFFFFFFFF)).updSlot e (t.engine e).slot
      (fun q => { q with psalt := v.setWidth 60 })).updEngine e (fun x => x.pflush (t.engine e).slot (t.taskId e)) := by
    simp only [State.ssrWrite, ssrValue_plain hr, ← hlow]
    rfl
  intro u
  have hengine : u.engine e = (let x := t.engine e
      { x with sys := Map.put (v &&& 0xFFFFFFFFFFFFFFF) x.sys 0x10D, slots := Map.upd Slot.free (fun q => { q with psalt := v.setWidth 60 }) x.slots x.slot :
        Engine }).pflush (t.engine e).slot (t.taskId e) := by
    rw [show u = _ from hwrite, State.engine_updEngine_self, State.updSlot, State.engine_updEngine_self, State.setEsys, State.engine_updEngine_self]
  have hmem : u.mem = t.mem := by
    rw [show u = _ from hwrite]
    rfl
  refine ⟨?_, ?_, ?_, hmem⟩
  · simp [State.esys, hengine, Engine.pflush]
  · simp [State.curSlot, hengine, Engine.pflush, Map.upd]
  · simp [hengine, Engine.pflush]

/-- TSTAT as an SSR leaves it (R124). -/
theorem tstatWrite_bits (old v : Dword) (atT : Bool) :
    (∀ i, i ≤ 3 ∨ i = 8 ∨ i = 9 → bit (tstatWrite old v atT) i = bit v i) ∧
    (∀ i, i = 4 ∨ i = 12 → bit (tstatWrite old v atT) i = (bit old i && !bit v i)) ∧ bit (tstatWrite old v atT) 16 = bit old 16 ∧
    bit (tstatWrite old v atT) 17 = if atT then bit old 17 else bit v 17 := by
  refine ⟨fun i hi => ?_, fun i hi => ?_, ?_, ?_⟩
  · have hi' : i = 0 ∨ i = 1 ∨ i = 2 ∨ i = 3 ∨ i = 8 ∨ i = 9 := by omega
    cases atT <;> rcases hi' with rfl | rfl | rfl | rfl | rfl | rfl <;> simp [tstatWrite, bit]
  · cases atT <;> rcases hi with rfl | rfl <;> simp [tstatWrite, bit]
  · cases atT <;> simp [tstatWrite, bit]
  · cases atT <;> simp [tstatWrite, bit]


/-- An SSR of a register whose low two bits encode a field, reserved where `bad` says so. -/
theorem ssrWrite_field {n : Nat} (h : 0x30 ≤ n) (h' : n ≠ 0x10D) (hm : bits (ssrMask n) 1 0 = 3) {bad : Prop}
    (hbad : bad → ssrReserved n v = some (1, 0)) (hok : ¬bad → ssrReserved n v = none) (e : Nat) :
    let u := t.ssrWrite e n v
    (bad → bits (u.esys e n) 1 0 = bits (t.esys e n) 1 0 ∧ bit ((u.chuck e).sysr 0) 12 = true) ∧
      (¬bad → bits (u.esys e n) 1 0 = v.toNat % 4 ∧ (u.chuck e).sysr 0 = (t.chuck e).sysr 0) := by
  refine ⟨fun hb => ?_, fun hb => ?_⟩
  · rw [ssrWrite_reserved h h' (hbad hb), (State.engineRegs_updChuck ..).1, State.esys_setEsys_self, State.chuck_updChuck_self, Chuck.sysr_setSysr,
      if_pos rfl]
    exact ⟨bits_setBits_self _ (by decide) (by decide) (bits_lt ..), bit_setBit_self _ (by decide)⟩
  · rw [ssrWrite_engine h h' (hok hb), State.esys_setEsys_self, State.chuck_setEsys]
    exact ⟨bits_and_low v hm, rfl⟩

theorem sysMask_of {n : Nat} (h : n = 8 ∨ 0x10 ≤ n ∧ n ≤ 0x16 ∨ 0x18 ≤ n ∧ n ≤ 0x1A ∨ 0x20 ≤ n ∧ n ≤ 0x23) :
    sysMask n = if n = 8 then 0x80FFFFFFFFFFFFFF else if n ≤ 0x16 then 0xFFFFFFFFFFFFFF else if n ≤ 0x1A then BitVec.allOnes 64 else 0xFFFF0FFFFFFF := by
  rcases h with rfl | ⟨h, h'⟩ | ⟨h, h'⟩ | ⟨h, h'⟩
  · rfl
  all_goals interval_cases n <;> rfl

/-- The registers of a chuck have no encoded field; their writable bits are those they hold. -/
theorem ssr_chuck {n : Nat} (h : n < 0x30) : ssrReserved n v = none ∧ ssrMask n = sysMask n ∧ sysIsCell n = false := by
  interval_cases n <;> exact ⟨rfl, rfl, rfl⟩
end

/-- Settles O25: a GSR reads what `sysVal` reads, and an SSR of each register is its masked write. -/
theorem systemRegisters : Obligations.SystemRegisters := by
  unfold Obligations.SystemRegisters
  refine ⟨?_, ?_⟩
  · intro s t e g rd sr h n gives isCell
    have hval : ∀ {m : Nat} {v : Dword} {u : State}, n = m → m ≠ 1 → sysIsCell m = false → (sysVal e.toNat m).run t = .ok v u →
        Retires (.gsr e g rd sr) s e (setI u e rd v) := fun hn h1 hc hv => run_gsr h hn h1 hc hv
    refine ⟨fun hn => run1_ok (body := gsrBody rd sr) h (gsrBody_pcc hn), fun hn => ?_, fun hn => ?_, fun hn => ?_, fun hn => ?_, fun hn => ?_, fun hn => ?_,
      fun hn => ?_, fun hn => ?_, fun hn => ?_, fun hn hc hp => ?_, fun hn => ?_, fun hn hp => ?_⟩
    · have hcell : sysIsCell n = true := by
        simp only [sysIsCell, Bool.or_eq_true, beq_iff_eq]
        tauto
      exact run1_ok (body := gsrBody rd sr) h (gsrBody_cell (fun h1 => by rw [show n = 1 from h1] at hcell; cases hcell) hcell)
    · exact hval hn (by decide) (by decide) rfl
    · rw [← BitVec.ofNat_toNat]
      exact hval hn (by decide) (by decide) rfl
    · exact hval hn (by decide) (by decide) rfl
    · exact hval hn (by decide) (by decide) (congrArg (EStateM.Result.ok · t) (by decide : featReg 0x30 = 0x0001000F4834080F))
    · exact hval hn (by decide) (by decide) (congrArg (EStateM.Result.ok · t) (by decide : featReg 0x31 = 0x2040107F))
    · exact hval hn (by decide) (by decide) (congrArg (EStateM.Result.ok · t) (by decide : featReg 0x32 = 0x0000408020200888))
    · exact hval hn (by decide) (by decide) (congrArg (EStateM.Result.ok · t) (by decide : featReg 0x33 = 0x0000A20004000001))
    · have hcell : sysIsCell n = false := by
        simp only [sysIsCell, Bool.or_eq_false_iff, beq_eq_false_iff_ne]
        omega
      exact hval rfl (by omega) hcell (sysVal_chuck (by omega) _)
    · have hcell : sysIsCell n = false := by
        simp only [sysIsCell, Bool.or_eq_false_iff, beq_eq_false_iff_ne]
        tauto
      exact hval rfl (by omega) hcell (sysVal_engine hn hp _)
    · exact hval hn (by decide) (by decide) rfl
    · exact hval hn (by decide) (by decide) (readTime_run hp)
  · intro s t e g sr rs1 v h n
    have hcell : (n = 0x100 ∨ n = 0x104 ∨ n = 0x105 ∨ n = 0x180 ∨ n = 0x181) ↔ sysIsCell n = true := by simp [sysIsCell, or_assoc]
    refine ⟨fun hn => run1_ok (body := ssrBody sr rs1) h (ssrBody_cell (hcell.1 hn)), fun hv => ?_⟩
    have hwrite : ∀ {m : Nat}, n = m → sysIsCell m = false → Retires (.ssr e g sr rs1) s e (t.ssrWrite e.toNat m v) := fun hn hc => run_ssr h hv hn hc
    refine ⟨fun hn => ?_, fun hn => ?_, fun hn => ?_, fun hn => ?_, fun hn => ?_, fun hn => ?_⟩
    · obtain ⟨hlow, hw1c, hclass, hkgu⟩ := tstatWrite_bits ((t.chuck e.toNat).sysr 0) v ((t.engine e.toNat).level == .t)
      refine ⟨_, hwrite hn (by decide), ?_⟩
      rw [State.ssrWrite, if_pos rfl, State.chuck_updChuck_self, Chuck.sysr_setSysr, if_pos rfl]
      simp only [beq_iff_eq] at hkgu
      exact ⟨hlow, hw1c, hclass, hkgu⟩
    · refine ⟨_, hwrite rfl (by rcases hn with hn | hn | hn <;> rw [hn] <;> decide), ?_⟩
      intro bad
      refine ssrWrite_field (by omega) (by omega) (by rcases hn with hn | hn | hn <;> rw [hn] <;> decide) (fun hb => ?_) (fun hb => ?_) _
      · rcases hn with hn | hn | hn <;> simp_all [bad, ssrReserved, bits_low]
      · rcases hn with hn | hn | hn <;> simp_all [bad, ssrReserved, bits_low]
    · have hr : ssrReserved n v = none ∧ ssrMask n = 0xFFFFFFFF000 ∧ sysIsCell n = false := by rcases hn with hn | hn <;> rw [hn] <;> exact ⟨rfl, rfl, rfl⟩
      have hretires := hwrite rfl hr.2.2
      rwa [ssrWrite_engine (by omega) (by omega) hr.1, hr.2.1] at hretires
    · have hr : ssrReserved n v = none ∧ sysIsCell n = false := by rcases hn with hn | hn | hn <;> rw [hn] <;> exact ⟨rfl, rfl⟩
      have hmask : v &&& ssrMask n = if n = 0x102 then v &&& 0x3F033F3F else if n = 0x10B then v &&& 0xFFF else v := by
        rcases hn with hn | hn | hn <;> rw [hn]
        · rfl
        · exact BitVec.and_allOnes
        · rfl
      have hretires := hwrite rfl hr.2
      rwa [ssrWrite_engine (by omega) (by omega) hr.1, hmask] at hretires
    · exact ⟨_, hwrite hn (by decide), hn ▸ ssrWrite_psalt t e.toNat v⟩
    · obtain ⟨hr, hmask, hc⟩ := ssr_chuck (n := n) (v := v) (by omega)
      have hretires := hwrite rfl hc
      rwa [ssrWrite_chuck (by omega) (by omega) hr, hmask, sysMask_of hn] at hretires

end Sys2Proof.Machine
end

section
/-!
# Lanes and predicates (03_isa_core R121, R122, 04_isa_stream R164, R165, R169 to R171)
-/

namespace Sys2Proof.Machine

open Sys2Proof

/-! ## Guards -/

section
variable {s t u : State} {e : Eid} {g : Grd} {m : BitVec 16}

theorem guardMask_run (t : State) (e : Eid) (g : Grd) : (guardMask e.toNat g).run t = .ok ((t.chuck e.toNat).pred g.toNat) t := rfl

theorem maskNone_iff (m : BitVec 16) (n : Nat) : maskNone m n = true ↔ m.toNat % 2 ^ n = 0 := by simp [maskNone]

/-- A lane guard of which no bit is 1 skips the instruction (R165). -/
theorem lwrite_skips {rd : Reg} {w n : Nat} {res : EM (List Nat)} (h : ((t.chuck e.toNat).pred g.toNat).toNat % 2 ^ n = 0) :
    (lwrite e.toNat g rd w n res).run t = .ok .seq t := by
  rw [lwrite, em_bind_of_ok (guardMask_run t e g), if_pos ((maskNone_iff _ n).2 h), em_pure]

theorem underGuard_skips {n : Nat} {f : BitVec 16 → EM Unit} (h : ((t.chuck e.toNat).pred g.toNat).toNat % 2 ^ n = 0) :
    (underGuard e.toNat g n f).run t = .ok .seq t := by
  rw [underGuard, em_bind_of_ok (guardMask_run t e g), if_pos ((maskNone_iff _ n).2 h), em_pure]

theorem underGuard_runs {n : Nat} {f : BitVec 16 → EM Unit} (h : ((t.chuck e.toNat).pred g.toNat).toNat % 2 ^ n ≠ 0)
    (hf : (f ((t.chuck e.toNat).pred g.toNat)).run t = .ok () u) : (underGuard e.toNat g n f).run t = .ok .seq u := by
  rw [underGuard, em_bind_of_ok (guardMask_run t e g), if_neg (fun hn => h ((maskNone_iff _ n).1 hn)), em_bind_of_ok hf, em_pure]

/-- A scalar result is written under bit 0 of the guard alone (R164). -/
theorem scalarResult_skips {rd : Reg} {res : Nat → EM Dword} (h : bit ((t.chuck e.toNat).pred g.toNat) 0 = false) :
    (scalarResult g rd res e.toNat).run t = .ok .seq t := by
  rw [scalarResult, em_bind_of_ok (guardMask_run t e g), if_pos (by simp [h]), em_pure]

theorem scalarResult_runs {rd : Reg} {res : Nat → EM Dword} {v : Dword} (h : bit ((t.chuck e.toNat).pred g.toNat) 0 = true)
    (hv : (res e.toNat).run t = .ok v u) : (scalarResult g rd res e.toNat).run t = .ok .seq (setI u e rd v) := by
  rw [scalarResult, em_bind_of_ok (guardMask_run t e g), if_neg (by simp [h]), em_bind_of_ok hv, em_bind_of_ok (wint_run ..), em_pure]

theorem bit_zero_of_even (h : m.toNat % 2 ^ 1 = 0) : bit m 0 = false := by
  rw [bit, BitVec.getLsbD, Nat.testBit_zero]
  simp only [decide_eq_false_iff_not]
  omega

/-! ## Lanes (R163, R169) -/

theorem laneWidth_pos (w : BitVec 2) : 0 < laneWidth w := Nat.mul_pos (by decide) (Nat.two_pow_pos _)

theorem laneWidth_mul_laneCount (w : BitVec 2) : laneWidth w * laneCount w = 128 := by
  have hw : ∀ w : BitVec 2, laneWidth w * laneCount w = 128 := by decide
  exact hw w

theorem lane_eq_bits (x : Quad) {n : Nat} (hn : 0 < n) (i : Nat) : lane x n i = bits x (n * i + n - 1) (n * i) := by
  have hwidth : n * i + n - 1 + 1 - n * i = n := by omega
  rw [lane, bits, hwidth]

/-- One lane written (R169). -/
theorem lane_setLane (x : Quad) {n k : Nat} (hn : 0 < n) (hk : n * k + n ≤ 128) (v i : Nat) :
    lane (setBits x (n * k + n - 1) (n * k) v) n i = if i = k then v % 2 ^ n else lane x n i := by
  have hwidth : n * k + n - 1 + 1 - n * k = n := by omega
  rw [lane_eq_bits _ hn, lane_eq_bits _ hn]
  split_ifs with h
  · have hsame := bits_setBits_self x (lo := n * k) (hi := n * k + n - 1) (v := v % 2 ^ n) (by omega) (by omega) (by
      rw [hwidth]
      exact Nat.mod_lt _ (Nat.two_pow_pos n))
    rwa [h, ← setBits_mod, hwidth]
  · have hapart : n * k + n - 1 < n * i ∨ n * i + n - 1 < n * k := by
      rcases Nat.lt_or_gt_of_ne h with hlt | hlt
      · right
        have := Nat.mul_le_mul_left n hlt
        rw [Nat.mul_succ] at this
        omega
      · left
        have := Nat.mul_le_mul_left n hlt
        rw [Nat.mul_succ] at this
        omega
    exact bits_setBits_apart x (by omega) (by omega) hapart v


/-! ## Predicates (R171) -/

theorem testBit_bool_add (b : Bool) (n j : Nat) : (b.toNat + 2 * n).testBit j = if j = 0 then b else n.testBit (j - 1) := by
  cases j with
  | zero => cases b <;> simp [Nat.testBit_zero]
  | succ j =>
    have hlt := b.toNat_lt
    have hhalf : (b.toNat + 2 * n) / 2 = n := by omega
    rw [Nat.testBit_succ, hhalf, if_neg (Nat.succ_ne_zero j), Nat.add_sub_cancel]

/-- The bits of a number built from a list of them, bit 0 first. -/
theorem testBit_foldr (p : Nat → Bool) (l : List Nat) (j : Nat) :
    (l.foldr (fun i acc => (p i).toNat + 2 * acc) 0).testBit j = (l[j]?.map p).getD false := by
  induction l generalizing j with
  | nil => simp
  | cons i l ih =>
    rw [List.foldr_cons, testBit_bool_add, ih]
    cases j <;> simp

theorem bit_mergePred (m old : BitVec 16) (n : Nat) (f : Nat → Bool) {j : Nat} (hj : j < 16) :
    bit (mergePred m old n f) j = if j < n ∧ bit m j = true then f j else bit old j := by
  rw [bit, mergePred, BitVec.getLsbD_ofNat, testBit_foldr, List.getElem?_range hj]
  simp [hj]

end

/-- An update of the running chuck as the chuck stands. -/
theorem State.updChuck_congr (t : State) (e : Nat) {f h : Chuck → Chuck} (hf : f (t.chuck e) = h (t.chuck e)) : t.updChuck e f = t.updChuck e h := by
  simp only [State.updChuck, State.updEngine, Map.upd]
  rw [show Map.get Chuck.empty (t.engine e).chucks (t.engine e).cur = t.chuck e from rfl, hf]

/-- A predicate written under a guard. -/
theorem writePred_run (t : State) (e : Nat) (pd : Grd) (n : Nat) (f : Nat → Bool) (m : BitVec 16) :
    (writePred e pd n f m).run t = .ok () (t.updChuck e (fun c => c.setPred pd.toNat (mergePred m ((t.chuck e).pred pd.toNat) n f))) := by
  rw [writePred, em_modify]
  exact congrArg (EStateM.Result.ok ()) (t.updChuck_congr e rfl)

section
variable {s t : State} {e : Eid} {g pd : Grd} {word : Word} {n : Nat}

/-- What an instruction comes to whose body writes predicate `pd` by `f` under its guard. -/
theorem run_pred {body : Nat → EM Next} {f : BitVec 16 → EM Unit} {p q : Nat → Bool} (h : Runs s e word t) (hbody : body e.toNat = underGuard e.toNat g n f)
    (hf : ∀ m, (f m).run t = (writePred e.toNat pd n p m).run t) (hq : ∀ j < n, p j = q j) (hm : ((t.chuck e.toNat).pred g.toNat).toNat % 2 ^ n ≠ 0) :
    ∃ r, run1 s e word body = .next ((t.updChuck e.toNat (fun k => k.setPred pd.toNat r)).retire e.toNat .seq) ∧
      ∀ j, j < 16 → bit r j =
        if j < n ∧ bit ((t.chuck e.toNat).pred g.toNat) j = true then q j else bit ((t.chuck e.toNat).pred pd.toNat) j := by
  refine ⟨_, run1_ok h (by rw [hbody]; exact underGuard_runs hm ((hf _).trans (writePred_run ..))), fun j hj => ?_⟩
  rw [bit_mergePred _ _ _ _ hj]
  split_ifs with hc
  · exact hq j hc.1
  · rfl

theorem run_pred_skips {body : Nat → EM Next} {f : BitVec 16 → EM Unit} (h : Runs s e word t) (hbody : body e.toNat = underGuard e.toNat g n f)
    (hm : ((t.chuck e.toNat).pred g.toNat).toNat % 2 ^ n = 0) : run1 s e word body = .next (t.retire e.toNat .seq) :=
  run1_ok h (by rw [hbody]; exact underGuard_skips hm)

theorem run_pcmp {f : PcmpFn} {w : BitVec 2} {rs1 rs2 : Reg} {x y : Quad} (h : Runs s e word t) (hx : QuadOp t e rs1 x) (hy : QuadOp t e rs2 y)
    (hm : ((t.chuck e.toNat).pred g.toNat).toNat % 2 ^ laneCount w ≠ 0) :
    ∃ r, run1 s e word (pcmpBody f g w pd rs1 rs2) = .next ((t.updChuck e.toNat (fun k => k.setPred pd.toNat r)).retire e.toNat .seq) ∧
      ∀ j, j < 16 → bit r j = if j < laneCount w ∧ bit ((t.chuck e.toNat).pred g.toNat) j = true
        then f.eval (laneWidth w) (lane x (laneWidth w) j) (lane y (laneWidth w) j) else bit ((t.chuck e.toNat).pred pd.toNat) j :=
  run_pred h rfl (fun m => by rw [em_bind_of_ok (ival128_of hx), em_bind_of_ok (ival128_of hy)]) (fun _ _ => rfl) hm

theorem run_predBody {f : Bool → Bool → Bool} {ps1 ps2 : Grd} (h : Runs s e word t)
    (hm : ((t.chuck e.toNat).pred g.toNat).toNat % 2 ^ 16 ≠ 0) :
    ∃ r, run1 s e word (predBody f g pd ps1 ps2) = .next ((t.updChuck e.toNat (fun k => k.setPred pd.toNat r)).retire e.toNat .seq) ∧
      ∀ j, j < 16 → bit r j = if j < 16 ∧ bit ((t.chuck e.toNat).pred g.toNat) j = true
        then f (bit ((t.chuck e.toNat).pred ps1.toNat) j) (bit ((t.chuck e.toNat).pred ps2.toNat) j) else bit ((t.chuck e.toNat).pred pd.toNat) j :=
  run_pred h rfl (fun m => by rw [em_bind_of_ok (em_get t)]) (fun _ _ => rfl) hm

theorem run_predFrom {f : Dword → Nat → Bool} {q : Nat → Bool} {rs1 : Reg} {v : Dword} (h : Runs s e word t) (hv : IntOp t e rs1 v)
    (hq : ∀ j < 16, f v j = q j) (hm : ((t.chuck e.toNat).pred g.toNat).toNat % 2 ^ 16 ≠ 0) :
    ∃ r, run1 s e word (predFrom f g pd rs1) = .next ((t.updChuck e.toNat (fun k => k.setPred pd.toNat r)).retire e.toNat .seq) ∧
      ∀ j, j < 16 → bit r j = if j < 16 ∧ bit ((t.chuck e.toNat).pred g.toNat) j = true then q j else bit ((t.chuck e.toNat).pred pd.toNat) j :=
  run_pred h rfl (fun m => by rw [em_bind_of_ok (ival_of hv)]) hq hm
end

/-- Settles O31: each predicate function writes its bits by `mergePred` under its guard. -/
theorem predicateResults : Obligations.PredicateResults := by
  unfold Obligations.PredicateResults
  intro s t e g pd ps1 ps2 w rd rs1 rs2 x y v ch n m a b gives skips cmps bools
  refine ⟨fun p hp h => ?_, fun p hp h => ?_, fun h => ?_, fun h => ?_, fun h => ?_, fun h => ?_⟩
  · simp only [cmps, List.mem_cons, List.not_mem_nil, or_false] at hp
    rcases hp with rfl | rfl | rfl | rfl | rfl | rfl
    · exact ⟨fun hx hy hm => run_pcmp (f := .eq) h hx hy hm, fun hm => run_pred_skips (body := pcmpBody .eq g w pd rs1 rs2) h rfl hm⟩
    · exact ⟨fun hx hy hm => run_pcmp (f := .ne) h hx hy hm, fun hm => run_pred_skips (body := pcmpBody .ne g w pd rs1 rs2) h rfl hm⟩
    · exact ⟨fun hx hy hm => run_pcmp (f := .lt) h hx hy hm, fun hm => run_pred_skips (body := pcmpBody .lt g w pd rs1 rs2) h rfl hm⟩
    · exact ⟨fun hx hy hm => run_pcmp (f := .le) h hx hy hm, fun hm => run_pred_skips (body := pcmpBody .le g w pd rs1 rs2) h rfl hm⟩
    · exact ⟨fun hx hy hm => run_pcmp (f := .ltu) h hx hy hm, fun hm => run_pred_skips (body := pcmpBody .ltu g w pd rs1 rs2) h rfl hm⟩
    · exact ⟨fun hx hy hm => run_pcmp (f := .leu) h hx hy hm, fun hm => run_pred_skips (body := pcmpBody .leu g w pd rs1 rs2) h rfl hm⟩
  · simp only [bools, List.mem_cons, List.not_mem_nil, or_false] at hp
    rcases hp with rfl | rfl | rfl | rfl
    · exact ⟨fun hm => run_predBody h hm, fun hm => run_pred_skips (body := predBody (fun a b => a && b) g pd ps1 ps2) h rfl hm⟩
    · exact ⟨fun hm => run_predBody h hm, fun hm => run_pred_skips (body := predBody (fun a b => a || b) g pd ps1 ps2) h rfl hm⟩
    · exact ⟨fun hm => run_predBody h hm, fun hm => run_pred_skips (body := predBody (fun a b => a != b) g pd ps1 ps2) h rfl hm⟩
    · exact ⟨fun hm => run_predBody h hm, fun hm => run_pred_skips (body := predBody (fun a b => a && !b) g pd ps1 ps2) h rfl hm⟩
  · exact ⟨fun hm => run_predBody h hm, fun hm => run_pred_skips (body := predBody (fun a _ => !a) g pd ps1 ps1) h rfl hm⟩
  · exact ⟨fun hv hm => run_predFrom h hv (fun _ _ => rfl) hm, fun hm => run_pred_skips (body := predFrom (fun v i => bit v i) g pd rs1) h rfl hm⟩
  · refine ⟨fun hv hm => run_predFrom h hv (fun j hj => ?_) hm,
      fun hm => run_pred_skips (body := predFrom (fun v i => decide (i < Nat.min v.toNat 16)) g pd rs1) h rfl hm⟩
    exact decide_eq_decide.2 (show j < min v.toNat 16 ↔ j < v.toNat by omega)
  · exact ⟨fun hm => run1_ok (body := scalarResult g rd (pgetVal ps1)) h (scalarResult_runs hm rfl),
      fun hm => run1_ok (body := scalarResult g rd (pgetVal ps1)) h (scalarResult_skips (bit_zero_of_even hm))⟩

end Sys2Proof.Machine
end

section
/-!
# Moves between lanes and integers, and guards that are off (03_isa_core R122, 04_isa_stream R164, R165, R169)
-/

namespace Sys2Proof.Machine

open Sys2Proof

section
variable {s t : State} {e : Eid} {g : Grd} {w : BitVec 2} {rd rs1 k : Reg} {x o : Quad} {v : Dword}

/-! ## LINS, LEXT and LEXTS -/

theorem linsBody_skips (h : bit ((t.chuck e.toNat).pred g.toNat) k.toNat = false) : (linsBody g w rd rs1 k e.toNat).run t = .ok .seq t := by
  rw [linsBody, em_bind_of_ok (guardMask_run t e g), if_pos (by simp [h]), em_pure]

theorem linsBody_runs (hv : IntOp t e rs1 v) (ho : QuadOp t e rd o) (h : bit ((t.chuck e.toNat).pred g.toNat) k.toNat = true) :
    (linsBody g w rd rs1 k e.toNat).run t =
      .ok .seq (setR t e rd { bits := setBits o (laneWidth w * k.toNat + laneWidth w - 1) (laneWidth w * k.toNat) v.toNat, kind := .int }) := by
  rw [linsBody, em_bind_of_ok (guardMask_run t e g), if_neg (by simp [h]), em_bind_of_ok (ival_of hv), em_bind_of_ok (ival128_of ho)]
  dsimp only
  rw [em_bind_of_ok (putReg_run ..), em_pure]

/-- The lanes of a register end with it. -/
theorem lane_fits {i : Nat} (hi : i < laneCount w) : laneWidth w * i + laneWidth w ≤ 128 := by
  have hmul := Nat.mul_le_mul_left (laneWidth w) hi
  rwa [laneWidth_mul_laneCount, Nat.mul_succ] at hmul

theorem lextVal_run (hx : QuadOp t e rs1 x) : (lextVal false w rs1 k e.toNat).run t = .ok (BitVec.ofNat 64 (lane x (laneWidth w) k.toNat)) t := by
  rw [lextVal, em_bind_of_ok (ival128_of hx)]
  rfl

theorem ofInt_eq_ofNat_wrap (z : Int) : BitVec.ofInt 64 z = BitVec.ofNat 64 (wrap 64 z) := by
  refine BitVec.eq_of_toNat_eq ?_
  have hlt : wrap 64 z < 2 ^ 64 := by
    have hpos : (0 : Int) < 2 ^ 64 := by decide
    have hmod := Int.emod_lt_of_pos z hpos
    rw [wrap]
    omega
  rw [BitVec.toNat_ofInt, BitVec.toNat_ofNat, Nat.mod_eq_of_lt hlt, wrap]
  rfl

/-- LEXTS extends the lane's sign to 64 bits. -/
theorem lextsVal_run (hx : QuadOp t e rs1 x) :
    (lextVal true w rs1 k e.toNat).run t = .ok (BitVec.ofNat 64
      (if 2 ^ (laneWidth w - 1) ≤ lane x (laneWidth w) k.toNat then lane x (laneWidth w) k.toNat + 2 ^ 64 - 2 ^ laneWidth w
       else lane x (laneWidth w) k.toNat)) t := by
  have hlane : lane x (laneWidth w) k.toNat < 2 ^ (8 * 2 ^ w.toNat) := Nat.mod_lt _ (Nat.two_pow_pos _)
  have hsigned := wrap_signed w.isLt hlane
  rw [lextVal, em_bind_of_ok (ival128_of hx)]
  dsimp only
  rw [if_pos rfl, em_pure, ofInt_eq_ofNat_wrap]
  exact congrArg (fun n => EStateM.Result.ok (BitVec.ofNat 64 n) t) hsigned

/-! ## Guards that are off -/

/-- A scalar instruction whose guard is off does what `guardedOff` does. -/
theorem issue_guardedOff {u : State} {n : Nat} {word : Word} {body : EM Next} (hready : s.ready n = true) (hfree : (s.engine n).long = none)
    (hgo : s.pairGo n = true) (hfetch : (fetch n false).run s = .ok word t) (hdecode : (decodeWord n word).run t = .ok () t)
    (hoff : t.guardOn n word = false) (hend : (guardedOff n word).run t = .ok .seq u) : s.issue n word body = u.retire n .seq := by
  have hexecute : (execute n word body).run t = .ok .seq u := by
    rw [execute, em_bind_of_ok hdecode, em_bind_of_ok (em_get t), hoff, if_neg (by decide), hend]
  simp [State.issue, hready, hfree, hgo, hfetch, hexecute]

theorem guardedOff_plain {n : Nat} {word : Word} (h : wMajor word ≠ 0x21) : (guardedOff n word).run t = .ok .seq t := by
  rw [guardedOff, if_neg h]
  rfl

/-- Whatever a word whose guard is off does, it leaves the registers and memory. -/
theorem guardedOff_leaves (t : State) (n : Nat) (word : Word) : ∃ u, (guardedOff n word).run t = .ok .seq u ∧ RegsStand True t u := by
  by_cases h : wMajor word = 0x21
  · rw [guardedOff, if_pos h]
    exact ⟨_, rfl, (t.regsStand_predict ..).trans (State.regsStand_sigTake ..)⟩
  · exact ⟨t, guardedOff_plain h, .refl t⟩
end

/-- Settles O30: a lane moves under its own guard bit, and a guard without a lane, or off, ends an instruction before it does anything. -/
theorem laneMoves : Obligations.LaneMoves := by
  unfold Obligations.LaneMoves
  refine ⟨?_, ?_⟩
  · intro s t e g w rd rs1 k x o v hk n m l
    refine ⟨fun h hm => run1_ok h (linsBody_skips hm), fun hm => ⟨fun h => run1_ok h (scalarResult_skips hm), fun h => run1_ok h (scalarResult_skips hm)⟩,
      fun h hv ho hm => ⟨_, run1_ok h (linsBody_runs hv ho hm), fun i _ => lane_setLane o (laneWidth_pos w) (lane_fits hk) v.toNat i⟩,
      fun hx hm => ⟨fun h => run1_ok h (scalarResult_runs hm (lextVal_run hx)), fun h => run1_ok h (scalarResult_runs hm (lextsVal_run hx))⟩⟩
  · intro s t e g w ad pd ps rd rs1 rs2 v body cond off
    refine ⟨fun hready hfree hgo hfetch hdecode hoff => ⟨fun hmajor => ?_, fun hv => ?_⟩, fun hg => ?_⟩
    · exact congrArg Host.Outcome.next (issue_guardedOff hready hfree hgo hfetch hdecode hoff (guardedOff_plain hmajor))
    · obtain ⟨u, hu, hstands⟩ := guardedOff_leaves t e.toNat v
      have hissue := issue_guardedOff (body := bBody g cond off e.toNat) hready hfree hgo hfetch hdecode hoff hu
      rw [hv] at hissue
      exact ⟨u, congrArg Host.Outcome.next hissue, (hstands.eng _).chucks, hstands.mem⟩
    · have hnone : ∀ n, ((t.chuck e.toNat).pred g.toNat).toNat % 2 ^ n = 0 := fun n => by rw [hg]; exact Nat.zero_mod _
      have hbit : bit ((t.chuck e.toNat).pred g.toNat) 0 = false := by rw [hg]; decide
      exact ⟨fun h => run1_ok (body := lane2 (laneMap .add) g w rd rs1 rs2) h (lwrite_skips (hnone _)),
        fun h => run1_ok (body := lane1 lrev g w rd rs1) h (lwrite_skips (hnone _)),
        fun h => run1_ok (body := pcmpBody .eq g w pd rs1 rs2) h (underGuard_skips (hnone _)),
        fun h => run1_ok (body := predBody (fun a _ => !a) g pd ps ps) h (underGuard_skips (hnone _)),
        fun h => run1_ok (body := scalarResult g rd (pgetVal ps)) h (scalarResult_skips hbit),
        fun h => run1_ok (body := lmacBody .mac g w ad rs1 rs2) h (underGuard_skips (hnone _)),
        fun h => run1_ok (body := azeroBody g ad) h (underGuard_skips (hnone _))⟩

end Sys2Proof.Machine
end

section
/-!
# Lane functions (04_isa_stream R163 to R168)

A guarded lane function merges its result lanes with those of rd. `lane_mergeLanes` reads one lane of the merge back, `lwrite_writes` says what
every such instruction comes to, and what remains of a function is its value on one pair of lanes.
-/

namespace Sys2Proof.Machine

open Sys2Proof

/-! ## Registers built from lanes -/

theorem lane_lt (x : Quad) (w i : Nat) : lane x w i < 2 ^ w := Nat.mod_lt _ (Nat.two_pow_pos w)

/-- The number that `fromLanes` builds, lane 0 lowest. -/
def laneSum (w : Nat) (l : List Nat) : Nat := l.foldr (fun v acc => v % 2 ^ w + 2 ^ w * acc) 0

theorem laneSum_lt (w : Nat) (l : List Nat) : laneSum w l < 2 ^ (w * l.length) := by
  induction l with
  | nil => simp [laneSum]
  | cons v l ih =>
    have hv := Nat.mod_lt v (Nat.two_pow_pos w)
    have hstep : 2 ^ w * (laneSum w l + 1) ≤ 2 ^ w * 2 ^ (w * l.length) := Nat.mul_le_mul_left _ ih
    have hlen : 2 ^ (w * (v :: l).length) = 2 ^ w * 2 ^ (w * l.length) := by rw [List.length_cons, Nat.mul_succ, Nat.add_comm, Nat.pow_add]
    have hcons : laneSum w (v :: l) = v % 2 ^ w + 2 ^ w * laneSum w l := rfl
    rw [hcons, hlen]
    rw [Nat.mul_succ] at hstep
    omega

theorem laneSum_lane (w : Nat) (l : List Nat) (i : Nat) : laneSum w l / 2 ^ (w * i) % 2 ^ w = l.getD i 0 % 2 ^ w := by
  induction l generalizing i with
  | nil => simp [laneSum]
  | cons v l ih =>
    have hcons : laneSum w (v :: l) = v % 2 ^ w + 2 ^ w * laneSum w l := rfl
    cases i with
    | zero => simp [hcons]
    | succ i =>
      have hrest : (v % 2 ^ w + 2 ^ w * laneSum w l) / 2 ^ w = laneSum w l := by
        rw [Nat.add_mul_div_left _ _ (Nat.two_pow_pos w), Nat.div_eq_of_lt (Nat.mod_lt v (Nat.two_pow_pos w)), Nat.zero_add]
      rw [hcons, Nat.mul_succ, Nat.add_comm (w * i), Nat.pow_add, ← Nat.div_div_eq_div_mul, hrest, ih, List.getD_cons_succ]

theorem lane_fromLanes {w : Nat} {l : List Nat} (h : w * l.length ≤ 128) (i : Nat) : lane (fromLanes w l) w i = l.getD i 0 % 2 ^ w := by
  have hlt : laneSum w l < 2 ^ 128 := (laneSum_lt w l).trans_le (Nat.pow_le_pow_right (by decide) h)
  have hnum : (fromLanes w l).toNat = laneSum w l := (BitVec.toNat_ofNat ..).trans (Nat.mod_eq_of_lt hlt)
  rw [lane, Nat.shiftRight_eq_div_pow, hnum, laneSum_lane]

/-- A merge takes the result's lane under a guard bit that is 1 (R165). -/
theorem lane_mergeLanes {m : BitVec 16} {w n : Nat} {f : Nat → Nat} {old : Quad} (h : w * n ≤ 128) {i : Nat} (hi : i < n) :
    lane (mergeLanes m w ((List.range n).map f) old) w i = if bit m i then f i % 2 ^ w else lane old w i := by
  have hlen : w * (((List.range n).map f).mapIdx fun i v => if bit m i then v else lane old w i).length ≤ 128 := by simpa using h
  have hget : (((List.range n).map f).mapIdx fun i v => if bit m i then v else lane old w i).getD i 0 = if bit m i then f i else lane old w i := by
    simp [List.getD_eq_getElem?_getD, hi]
  rw [mergeLanes, lane_fromLanes hlen, hget]
  split_ifs
  · rfl
  · exact Nat.mod_eq_of_lt (lane_lt ..)

/-- Where the first `n` bits of a mask are all 1, each is. -/
theorem bit_of_all {m : BitVec 16} {n i : Nat} (h : m.toNat % 2 ^ n = 2 ^ n - 1) (hi : i < n) : bit m i = true := by
  have hbit := congrArg (Nat.testBit · i) h
  simpa [bit, BitVec.getLsbD, Nat.testBit_mod_two_pow, Nat.testBit_two_pow_sub_one, hi] using hbit

/-! ## What a guarded lane instruction comes to -/

section
variable {s t : State} {e : Eid} {g : Grd} {w : BitVec 2} {rd rs1 rs2 : Reg} {x y o : Quad} {word : Word}
  {v f : Nat → Nat}

theorem lwrite_runs {w n : Nat} {res : EM (List Nat)} (hfit : w * n ≤ 128) (hres : res.run t = .ok ((List.range n).map f) t)
    (hm : ((t.chuck e.toNat).pred g.toNat).toNat % 2 ^ n ≠ 0) (ho : Merges t e rd ((t.chuck e.toNat).pred g.toNat) n o) :
    ∃ q, (lwrite e.toNat g rd w n res).run t = .ok .seq (setR t e rd { bits := q, kind := .int }) ∧
      ∀ j, j < n → lane q w j = if bit ((t.chuck e.toNat).pred g.toNat) j then f j % 2 ^ w else lane o w j := by
  generalize hmask : (t.chuck e.toNat).pred g.toNat = m at hm ho
  have hguard : (guardMask e.toNat g).run t = .ok m t := by rw [guardMask_run, hmask]
  have hsome : ¬maskNone m n = true := fun h => hm ((maskNone_iff m n).1 h)
  rw [lwrite, em_bind_of_ok hguard, if_neg hsome, em_bind_of_ok hres]
  by_cases hall : m.toNat % 2 ^ n = 2 ^ n - 1
  · have hkeep : maskAll m n = true := by rw [maskAll, hall, beq_self_eq_true]
    rw [if_pos hkeep, em_bind_of_ok (em_pure ..), em_bind_of_ok (putReg_run ..), em_pure]
    refine ⟨_, rfl, fun j hj => ?_⟩
    rw [lane_mergeLanes hfit hj, if_pos (bit_of_all hall hj), if_pos (bit_of_all hall hj)]
  · have hkeep : ¬maskAll m n = true := by simpa [maskAll] using hall
    rw [if_neg hkeep, em_bind_of_ok (ival128_of (ho.resolve_left hall)), em_bind_of_ok (putReg_run ..), em_pure]
    exact ⟨_, rfl, fun j hj => lane_mergeLanes hfit hj⟩

theorem read1_run {α : Type} (f : Quad → α) (hx : QuadOp t e rs1 x) : (do let x ← ival128 e.toNat rs1.toNat; pure (f x) : EM α).run t = .ok (f x) t := by
  rw [em_bind_of_ok (ival128_of hx), em_pure]

theorem read2_run {α : Type} (f : Quad → Quad → α) (hx : QuadOp t e rs1 x) (hy : QuadOp t e rs2 y) :
    (do let x ← ival128 e.toNat rs1.toNat; let y ← ival128 e.toNat rs2.toNat; pure (f x y) : EM α).run t = .ok (f x y) t := by
  rw [em_bind_of_ok (ival128_of hx), em_bind_of_ok (ival128_of hy), em_pure]

/-- What a lane instruction comes to whose body is `body`: nothing where no guard bit is 1, and else the lanes `v` of width `n`. -/
def Writes (s t : State) (e : Eid) (g : Grd) (rd : Reg) (o : Quad) (word : Word) (body : Nat → EM Next) (n c : Nat) (v : Nat → Nat) : Prop :=
  (((t.chuck e.toNat).pred g.toNat).toNat % 2 ^ c = 0 → run1 s e word body = .next (t.retire e.toNat .seq)) ∧
  (((t.chuck e.toNat).pred g.toNat).toNat % 2 ^ c ≠ 0 → Merges t e rd ((t.chuck e.toNat).pred g.toNat) c o →
    ∃ q, run1 s e word body = .next ((setR t e rd { bits := q, kind := .int }).retire e.toNat .seq) ∧
      ∀ j, j < c → lane q n j = if bit ((t.chuck e.toNat).pred g.toNat) j then v j else lane o n j)

theorem lwrite_writes {body : Nat → EM Next} {n c : Nat} {res : EM (List Nat)} {l : List Nat} (h : Runs s e word t)
    (hbody : body e.toNat = lwrite e.toNat g rd n c res) (hres : res.run t = .ok l t) (hl : l = (List.range c).map f)
    (hv : ∀ j, j < c → f j % 2 ^ n = v j) (hfit : n * c ≤ 128) : Writes s t e g rd o word body n c v :=
  ⟨fun hm => run1_ok h (by rw [hbody, lwrite_skips hm]), fun hm ho => by
    obtain ⟨q, hq, hlanes⟩ := lwrite_runs hfit (hl ▸ hres) hm ho
    exact ⟨q, run1_ok h (by rw [hbody, hq]), fun j hj => by rw [hlanes j hj, hv j hj]⟩⟩

theorem lane1_writes {r : BitVec 2 → Quad → List Nat} (h : Runs s e word t) (hx : QuadOp t e rs1 x) (hl : r w x = (List.range (laneCount w)).map f)
    (hv : ∀ j, j < laneCount w → f j % 2 ^ laneWidth w = v j) : Writes s t e g rd o word (lane1 r g w rd rs1) (laneWidth w) (laneCount w) v :=
  lwrite_writes h rfl (read1_run _ hx) hl hv (laneWidth_mul_laneCount w).le

theorem lane2_writes {r : BitVec 2 → Quad → Quad → List Nat} (h : Runs s e word t) (hx : QuadOp t e rs1 x) (hy : QuadOp t e rs2 y)
    (hl : r w x y = (List.range (laneCount w)).map f) (hv : ∀ j, j < laneCount w → f j % 2 ^ laneWidth w = v j) :
    Writes s t e g rd o word (lane2 r g w rd rs1 rs2) (laneWidth w) (laneCount w) v :=
  lwrite_writes h rfl (read2_run _ hx hy) hl hv (laneWidth_mul_laneCount w).le

end

/-! ## Values of one lane -/

theorem intCast_two_pow (n : Nat) : (2 : Int) ^ n = ((2 ^ n : Nat) : Int) := by push_cast; rfl

theorem wrap_lt (n : Nat) (z : Int) : wrap n z < 2 ^ n := by
  have hpos : (0 : Int) < 2 ^ n := Int.pow_pos (by decide)
  have hlt := Int.emod_lt_of_pos z hpos
  have hnonneg := Int.emod_nonneg z hpos.ne'
  rw [wrap, Int.toNat_lt hnonneg]
  exact_mod_cast hlt

@[simp] theorem wrap_mod (n : Nat) (z : Int) : wrap n z % 2 ^ n = wrap n z := Nat.mod_eq_of_lt (wrap_lt n z)

theorem wrap_natCast (n v : Nat) : wrap n (v : Int) = v % 2 ^ n := by
  have hmod : ((v : Int) % (2 ^ n : Int)) = ((v % 2 ^ n : Nat) : Int) := by push_cast; rfl
  rw [wrap, hmod, Int.toNat_natCast]

theorem wrap_of_lt {n v : Nat} (h : v < 2 ^ n) : wrap n (v : Int) = v := (wrap_natCast n v).trans (Nat.mod_eq_of_lt h)

theorem wrap_sub_pow (n : Nat) (z : Int) : wrap n (z - 2 ^ n) = wrap n z := by rw [wrap, wrap, Int.sub_emod_right]

theorem signed_of_lt {n x : Nat} (hx : x < 2 ^ n) : signed n x = if 2 * x < 2 ^ n then (x : Int) else (x : Int) - 2 ^ n := by
  have hmod : ((x : Int) % (2 ^ n : Int)) = x := by exact_mod_cast congrArg Nat.cast (Nat.mod_eq_of_lt hx)
  rw [signed, Nat.mod_eq_of_lt hx, hmod]

/-! ## The LANE functions of two sources (Table 04-2) -/

/-- What a LANE function gives of two lanes of `n` bits. -/
def LaneFn.Gives (f : LaneFn) (v : Nat → Nat → Nat → Nat) : Prop := ∀ n x y, 0 < n → x < 2 ^ n → y < 2 ^ n → f.eval n x y % 2 ^ n = v n x y

theorem satU_natCast (n v : Nat) : satU n (v : Int) = ((min v (2 ^ n - 1) : Nat) : Int) := by
  have hpow := intCast_two_pow n
  have hpos := Nat.two_pow_pos n
  rw [satU, hpow]
  split_ifs <;> omega

theorem addus_gives : LaneFn.Gives .addus fun n x y => min (x + y) (2 ^ n - 1) := by
  intro n x y _ _ _
  have hpos := Nat.two_pow_pos n
  have hsum : (x : Int) + y = ((x + y : Nat) : Int) := by push_cast; rfl
  simp only [LaneFn.eval, wrap_mod, hsum, satU_natCast]
  exact wrap_of_lt (by omega)

theorem sub_gives : LaneFn.Gives .sub fun n x y => (x + 2 ^ n - y) % 2 ^ n := by
  intro n x y _ _ hy
  have hpow := intCast_two_pow n
  have hdiff : (x : Int) - y = ((x + 2 ^ n - y : Nat) : Int) - 2 ^ n := by
    rw [hpow]
    omega
  simp only [LaneFn.eval, hdiff, wrap_sub_pow, wrap_natCast, Nat.mod_mod]

theorem subus_gives : LaneFn.Gives .subus fun _ x y => x - y := by
  intro n x y _ hx _
  have hdiff : satU n ((x : Int) - y) = ((x - y : Nat) : Int) := by
    have hpow := intCast_two_pow n
    rw [satU, hpow]
    split_ifs <;> omega
  simp only [LaneFn.eval, wrap_mod, hdiff]
  exact wrap_of_lt (by omega)

theorem min_gives : LaneFn.Gives .min fun n x y => if signed n x ≤ signed n y then x else y := by
  intro n x y _ hx hy
  refine Nat.mod_eq_of_lt ?_
  simp only [LaneFn.eval]
  split_ifs <;> assumption

theorem max_gives : LaneFn.Gives .max fun n x y => if signed n x ≤ signed n y then y else x := by
  intro n x y _ hx hy
  refine Nat.mod_eq_of_lt ?_
  simp only [LaneFn.eval]
  split_ifs <;> assumption

theorem minu_gives : LaneFn.Gives .minu fun _ x y => min x y := by
  intro n x y _ hx _
  have hlt : min x y < 2 ^ n := by omega
  simp only [LaneFn.eval, ← Nat.min_def, Nat.mod_eq_of_lt hlt]

theorem maxu_gives : LaneFn.Gives .maxu fun _ x y => max x y := by
  intro n x y _ hx hy
  have hlt : max x y < 2 ^ n := by omega
  simp only [LaneFn.eval, ← Nat.max_def, Nat.mod_eq_of_lt hlt]

theorem sll_gives : LaneFn.Gives .sll fun n x y => x * 2 ^ y % 2 ^ n := by
  intro n x y _ _ _
  simp only [LaneFn.eval]
  split_ifs with h
  · have hdvd : 2 ^ n ∣ x * 2 ^ y := Dvd.dvd.mul_left (Nat.pow_dvd_pow 2 h) x
    rw [Nat.mod_eq_zero_of_dvd hdvd, Nat.zero_mod]
  · rw [Nat.shiftLeft_eq, Nat.mod_mod]

theorem srl_gives : LaneFn.Gives .srl fun _ x y => x / 2 ^ y := by
  intro n x y _ hx _
  simp only [LaneFn.eval]
  split_ifs with h
  · have hlt : x < 2 ^ y := hx.trans_le (Nat.pow_le_pow_right (by decide) h)
    rw [Nat.div_eq_of_lt hlt, Nat.zero_mod]
  · rw [Nat.shiftRight_eq_div_pow, Nat.mod_eq_of_lt ((Nat.div_le_self ..).trans_lt hx)]

/-- A right shift by the width or more leaves the sign alone. -/
theorem signed_div_of_ge {n x y : Nat} (hx : x < 2 ^ n) (h : n ≤ y) : signed n x / 2 ^ y = if signed n x < 0 then -1 else 0 := by
  have hle : 2 ^ n ≤ 2 ^ y := Nat.pow_le_pow_right (by decide) h
  rw [signed_of_lt hx, intCast_two_pow n, intCast_two_pow y]
  split_ifs with hneg
  · omega
  · exact Int.ediv_eq_zero_of_lt (by omega) (by omega)
  · exact Int.ediv_eq_neg_one_of_neg_of_le (by omega) (by omega)
  · omega

theorem sra_gives : LaneFn.Gives .sra fun n x y => wrap n (signed n x / 2 ^ y) := by
  intro n x y _ hx _
  have hpos := Nat.two_pow_pos n
  have hones : wrap n (-1) = 2 ^ n - 1 := by
    have hpow := intCast_two_pow n
    have hneg : (-1 : Int) = ((2 ^ n - 1 : Nat) : Int) - 2 ^ n := by rw [hpow]; omega
    rw [hneg, wrap_sub_pow, wrap_of_lt (by omega)]
  have hzero : wrap n 0 = 0 := wrap_of_lt (v := 0) hpos
  simp only [LaneFn.eval]
  split_ifs with h hneg
  · rw [signed_div_of_ge hx h, if_pos hneg, hones, Nat.mod_eq_of_lt (by omega)]
  · rw [signed_div_of_ge hx h, if_neg hneg, hzero, Nat.zero_mod]
  · exact wrap_mod ..

theorem lane2_results {f : LaneFn} {v : Nat → Nat → Nat → Nat} (hf : f.Gives v) {s t : State} {e : Eid} {g : Grd} {w : BitVec 2} {rd rs1 rs2 : Reg}
    {x y o : Quad} {word : Word} (h : Runs s e word t) :
    (((t.chuck e.toNat).pred g.toNat).toNat % 2 ^ laneCount w = 0 →
      run1 s e word (lane2 (laneMap f) g w rd rs1 rs2) = .next (t.retire e.toNat .seq)) ∧
    (((t.chuck e.toNat).pred g.toNat).toNat % 2 ^ laneCount w ≠ 0 → QuadOp t e rs1 x → QuadOp t e rs2 y →
      Merges t e rd ((t.chuck e.toNat).pred g.toNat) (laneCount w) o →
      ∃ q, run1 s e word (lane2 (laneMap f) g w rd rs1 rs2) = .next ((setR t e rd { bits := q, kind := .int }).retire e.toNat .seq) ∧
        ∀ i, i < laneCount w → lane q (laneWidth w) i = if bit ((t.chuck e.toNat).pred g.toNat) i
          then v (laneWidth w) (lane x (laneWidth w) i) (lane y (laneWidth w) i) else lane o (laneWidth w) i) :=
  ⟨fun hm => run1_ok h (lwrite_skips hm),
    fun hm hx hy ho => (lane2_writes h hx hy rfl fun _ _ => hf _ _ _ (laneWidth_pos w) (lane_lt ..) (lane_lt ..)).2 hm ho⟩

/-- Settles O28: a LANE function writes its lanes under the guard, and its value on two lanes is the table's. -/
theorem laneResults : Obligations.LaneResults := by
  unfold Obligations.LaneResults
  dsimp only
  simp only [List.forall_mem_cons]
  have hmod {n v : Nat} (h : v < 2 ^ n) : v % 2 ^ n = v := Nat.mod_eq_of_lt h
  refine ⟨?_, ?_, ?_, ?_, ?_, ?_, ?_, ?_, ?_, ?_, ?_, ?_, ?_, ?_, ?_, ?_, ?_, ?_, ?_, List.forall_mem_nil _⟩
  all_goals intro s t e g w rd rs1 rs2 x y o h
  · exact lane2_results (f := .add) (fun _ _ _ _ _ _ => Nat.mod_mod ..) h
  · exact lane2_results (f := .adds) (fun _ _ _ _ _ _ => wrap_mod ..) h
  · exact lane2_results addus_gives h
  · exact lane2_results sub_gives h
  · exact lane2_results (f := .subs) (fun _ _ _ _ _ _ => wrap_mod ..) h
  · exact lane2_results subus_gives h
  · exact lane2_results (f := .mul) (fun _ _ _ _ _ _ => Nat.mod_mod ..) h
  · exact lane2_results (f := .mulq) (fun _ _ _ _ _ _ => wrap_mod ..) h
  · exact lane2_results min_gives h
  · exact lane2_results max_gives h
  · exact lane2_results minu_gives h
  · exact lane2_results maxu_gives h
  · exact lane2_results (f := .and) (fun _ x _ _ _ hy => hmod (Nat.and_lt_two_pow x hy)) h
  · exact lane2_results (f := .or) (fun _ _ _ _ hx hy => hmod (Nat.or_lt_two_pow hx hy)) h
  · exact lane2_results (f := .xor) (fun _ _ _ _ hx hy => hmod (Nat.xor_lt_two_pow hx hy)) h
  · exact lane2_results (f := .andn) (fun n x y _ _ _ => hmod (Nat.and_lt_two_pow x (by have := Nat.two_pow_pos n; omega))) h
  · exact lane2_results sll_gives h
  · exact lane2_results srl_gives h
  · exact lane2_results sra_gives h

/-! ## LANE functions of one source, and shuffles (Tables 04-2, 04-3) -/

/-- The modulus of `n` bits is twice the sign bit's value. -/
theorem two_pow_pred {n : Nat} (hn : 0 < n) : 2 ^ n = 2 * 2 ^ (n - 1) := by rw [← Nat.pow_succ', Nat.succ_eq_add_one, Nat.sub_add_cancel hn]

/-- A number of no more than the sign bit's value saturates at the greatest. -/
theorem satS_natCast {n v : Nat} (hv : v ≤ 2 ^ (n - 1)) : satS n (v : Int) = ((if v = 2 ^ (n - 1) then 2 ^ (n - 1) - 1 else v : Nat) : Int) := by
  have hpos := Nat.two_pow_pos (n - 1)
  rw [satS, intCast_two_pow]
  split_ifs <;> omega

theorem abs_lane {n x : Nat} (hn : 0 < n) (hx : x < 2 ^ n) (y : Nat) :
    LaneFn.eval .abs n x y % 2 ^ n = if x = 2 ^ (n - 1) then 2 ^ (n - 1) - 1 else (signed n x).natAbs := by
  have hpow := two_pow_pred hn
  have hpos := Nat.two_pow_pos (n - 1)
  have hsigned := signed_of_lt hx
  rw [intCast_two_pow] at hsigned
  have habs : (if signed n x < 0 then -signed n x else signed n x) = ((signed n x).natAbs : Int) := by split_ifs <;> omega
  have hle : (signed n x).natAbs ≤ 2 ^ (n - 1) := by split_ifs at hsigned <;> omega
  have hleast : (signed n x).natAbs = 2 ^ (n - 1) ↔ x = 2 ^ (n - 1) := by split_ifs at hsigned <;> omega
  simp only [LaneFn.eval, wrap_mod, habs, satS_natCast hle, hleast]
  exact wrap_of_lt (by split_ifs <;> omega)

theorem negs_lane {n x : Nat} (hn : 0 < n) (hx : x < 2 ^ n) (y : Nat) :
    LaneFn.eval .negs n x y % 2 ^ n = if x = 2 ^ (n - 1) then 2 ^ (n - 1) - 1 else (2 ^ n - x) % 2 ^ n := by
  have hpow := two_pow_pred hn
  have hpos := Nat.two_pow_pos (n - 1)
  have hsigned := signed_of_lt hx
  rw [intCast_two_pow] at hsigned
  simp only [LaneFn.eval, wrap_mod]
  rcases Nat.lt_or_ge x (2 ^ (n - 1)) with hlt | hge
  · have hneg : satS n (-signed n x) = ((2 ^ n - x : Nat) : Int) - 2 ^ n := by
      rw [if_pos (by omega)] at hsigned
      rw [hsigned, satS, intCast_two_pow, intCast_two_pow]
      split_ifs <;> omega
    rw [hneg, wrap_sub_pow, wrap_natCast, if_neg (by omega)]
  · have hneg : -signed n x = ((2 ^ n - x : Nat) : Int) := by
      rw [if_neg (by omega)] at hsigned
      omega
    have hleast : 2 ^ n - x = 2 ^ (n - 1) ↔ x = 2 ^ (n - 1) := by omega
    rw [hneg, satS_natCast (by omega), wrap_natCast]
    simp only [hleast]
    split_ifs
    · exact Nat.mod_eq_of_lt (by omega)
    · rfl

/-- LREV as lanes by their number. -/
theorem lrev_eq (w : BitVec 2) (x : Quad) : lrev w x = (List.range (laneCount w)).map fun j => lane x (laneWidth w) (laneCount w - 1 - j) := by
  refine List.ext_getElem (by simp [lrev, lanes]) fun j _ _ => ?_
  simp [lrev, lanes]

theorem laneSplat_eq (w : BitVec 2) (x : Quad) : laneSplat w x = (List.range (laneCount w)).map fun _ => lane x (laneWidth w) 0 := by
  simp [laneSplat]

section
variable {s t : State} {e : Eid} {g : Grd} {w : BitVec 2} {rd rs1 rs2 : Reg} {x y o : Quad} {word : Word} {v f : Nat → Nat}

theorem lwiden_fits (hw : w ≠ 3) : 2 * laneWidth w * (laneCount w / 2) ≤ 128 := by
  have hall : ∀ w : BitVec 2, w ≠ 3 → 2 * laneWidth w * (laneCount w / 2) ≤ 128 := by decide
  exact hall w hw

theorem lwidenBody_writes (hi : Bool) (h : Runs s e word t) (hx : QuadOp t e rs1 x) (hw : w ≠ 3) :
    Writes s t e g rd o word (lwidenBody hi g w rd rs1) (2 * laneWidth w) (laneCount w / 2) fun j =>
      wrap (2 * laneWidth w) (signed (laneWidth w) (lane x (laneWidth w) ((if hi then laneCount w / 2 else 0) + j))) :=
  lwrite_writes h rfl (read1_run _ hx) rfl (fun _ _ => wrap_mod ..) (lwiden_fits hw)
end

/-- Settles O29: each function's list of lanes is its table's, read lane by lane under the guard. -/
theorem shuffleResults : Obligations.ShuffleResults := by
  unfold Obligations.ShuffleResults
  intro s t e g w rd rs1 rs2 x y o n c m hx gives runs
  have hlane (q : Quad) (i : Nat) : lane q n i % 2 ^ n = lane q n i := Nat.mod_eq_of_lt (lane_lt ..)
  refine ⟨fun h => ?_, fun h => ?_, fun h => ?_, fun h => ?_, fun hy => ⟨fun h => ?_, fun h => ?_, fun h => ?_, fun h => ?_, fun h hw => ?_,
    fun h hw => ?_, fun h => ?_⟩, fun hw => ⟨fun h => ?_, fun h => ?_⟩⟩
  · exact lane1_writes (r := fun w x => laneMap .abs w x 0) h hx rfl fun j _ => abs_lane (laneWidth_pos w) (lane_lt ..) _
  · exact lane1_writes (r := fun w x => laneMap .negs w x 0) h hx rfl fun j _ => negs_lane (laneWidth_pos w) (lane_lt ..) _
  · exact lane1_writes h hx (laneSplat_eq w x) fun _ _ => hlane ..
  · exact lane1_writes h hx (lrev_eq w x) fun _ _ => hlane ..
  · exact lane2_writes (r := fun w => lzip w 0) h hx hy rfl fun j _ => by rw [Nat.zero_add]; exact hlane ..
  · exact lane2_writes (r := fun w => lzip w (laneCount w / 2)) h hx hy rfl fun _ _ => hlane ..
  · exact lane2_writes (r := fun w => lunzip w 0) h hx hy rfl fun _ _ => by split_ifs <;> exact hlane ..
  · exact lane2_writes (r := fun w => lunzip w 1) h hx hy rfl fun _ _ => by split_ifs <;> exact hlane ..
  · exact lane2_writes (r := lpack satS) h hx hy rfl fun _ _ => wrap_mod ..
  · exact lane2_writes (r := lpack satU) h hx hy rfl fun _ _ => wrap_mod ..
  · refine lwrite_writes (body := lpermBody g rd rs1 rs2) h rfl (read2_run _ hx hy) rfl (fun j _ => ?_) (by decide)
    split_ifs
    · rfl
    · exact Nat.mod_eq_of_lt (lane_lt ..)
  · have hlo := lwidenBody_writes (g := g) (rd := rd) (o := o) false h hx hw
    simp only [Bool.false_eq_true, if_false, Nat.zero_add] at hlo
    exact hlo
  · exact lwidenBody_writes true h hx hw

end Sys2Proof.Machine
end

section
/-!
# The accumulator functions (04_isa_stream R172 to R176)

MAC and the setting functions go over the lanes of an accumulator one after another; `Accum.laneS_foldl` says once what a step on each lane's
number and S bit comes to on all four.
-/

namespace Sys2Proof.Machine

open Sys2Proof

/-! ## Lanes of an accumulator -/

/-- Lane `j` of an accumulator with its S bit. -/
def Accum.laneS (a : Accum) (j : Nat) : Dword × Bool := (a.lane j, bit a.s j)

section
variable {a : Accum} {i j : Nat}

theorem Accum.lane_setLane (hi : i < 4) (hj : j < 4) (v : Dword) : (a.setLane j v).lane i = if i = j then v else a.lane i := by
  interval_cases j <;> interval_cases i <;> rfl

theorem Accum.s_setLane (v : Dword) : (a.setLane j v).s = a.s := by
  unfold Accum.setLane
  split <;> rfl

theorem Accum.lane_setS (b : Bool) : (a.setS j b).lane i = a.lane i := rfl

theorem bit_setBit {n : Nat} (x : BitVec n) (hj : j < n) (b : Bool) (i : Nat) : bit (setBit x j b) i = if i = j then b else bit x i := by
  rw [bit, setBit, getLsbD_setBits x le_rfl hj, bit]
  by_cases hij : i = j
  · subst hij
    rw [if_pos ⟨le_rfl, le_rfl⟩, if_pos rfl, Nat.sub_self]
    cases b <;> rfl
  · rw [if_neg (by omega), if_neg hij]

theorem Accum.laneS_setLane (hi : i < 4) (hj : j < 4) (v : Dword) : (a.setLane j v).laneS i = if i = j then (v, bit a.s i) else a.laneS i := by
  rw [Accum.laneS, Accum.lane_setLane hi hj, Accum.s_setLane]
  split_ifs <;> rfl

theorem Accum.laneS_setS (hj : j < 4) (b : Bool) (i : Nat) : (a.setS j b).laneS i = if i = j then (a.lane i, b) else a.laneS i := by
  rw [Accum.laneS, Accum.lane_setS, Accum.setS, bit_setBit a.s hj]
  split_ifs <;> rfl

/-- What steps, each on the lane of its number, come to. -/
theorem Accum.laneS_foldl {f : Accum → Nat → Accum} {p : Nat → Dword × Bool → Dword × Bool}
    (hf : ∀ a j i, j < 4 → i < 4 → (f a j).laneS i = if i = j then p j (a.laneS j) else a.laneS i) {l : List Nat} (hl : ∀ j ∈ l, j < 4) (hnodup : l.Nodup)
    (a : Accum) (hi : i < 4) : (l.foldl f a).laneS i = if i ∈ l then p i (a.laneS i) else a.laneS i := by
  induction l generalizing a with
  | nil => simp
  | cons j l ih =>
    have hstep := hf a j i (hl j List.mem_cons_self) hi
    rw [List.foldl_cons, ih (fun k hk => hl k (List.mem_cons_of_mem j hk)) hnodup.of_cons, hstep]
    by_cases hij : i = j
    · subst hij
      rw [if_neg (List.nodup_cons.1 hnodup).1, if_pos rfl, if_pos List.mem_cons_self]
    · simp [hij]
end

/-- A number saturated at 64 bits. -/
theorem satS_64 (z : Int) : satS 64 z = max (-(2 ^ 63)) (min (2 ^ 63 - 1) z) := by
  rw [satS]
  split_ifs <;> omega

theorem toInt_satS (z : Int) : (BitVec.ofInt 64 (satS 64 z)).toInt = satS 64 z := by
  have hsat := satS_64 z
  exact BitVec.toInt_ofInt_eq_self (by decide) (by omega) (by omega)

/-- A number summed into a lane with saturation, its S bit set where the sum saturates (R173). -/
def satInto (v : Int) (p : Dword × Bool) : Dword × Bool :=
  (BitVec.ofInt 64 (satS 64 (p.1.toInt + v)), p.2 || decide (p.1.toInt + v < -(2 ^ 63) ∨ 2 ^ 63 - 1 < p.1.toInt + v))

theorem Accum.laneS_addSat (a : Accum) {i j : Nat} (hj : j < 4) (hi : i < 4) (v : Int) :
    (a.addSat j v).laneS i = if i = j then satInto v (a.laneS j) else a.laneS i := by
  rw [Accum.addSat, Accum.laneS_setLane hi hj]
  by_cases hover : (a.lane j).toInt + v > 2 ^ 63 - 1 ∨ (a.lane j).toInt + v < -(2 ^ 63)
  · have hover' : (a.laneS j).1.toInt + v < -(2 ^ 63) ∨ 2 ^ 63 - 1 < (a.laneS j).1.toInt + v := hover.symm
    rw [if_pos hover, satInto, decide_eq_true hover', Bool.or_true, Accum.laneS_setS hj, Accum.setS, bit_setBit a.s hj]
    split_ifs <;> rfl
  · have hover' : ¬((a.laneS j).1.toInt + v < -(2 ^ 63) ∨ 2 ^ 63 - 1 < (a.laneS j).1.toInt + v) := fun h => hover h.symm
    rw [if_neg hover, satInto, decide_eq_false hover', Bool.or_false]
    split_ifs with hij
    · rw [hij]
      rfl
    · rfl

/-- A sum of the terms that `c` takes. -/
theorem foldl_if_add {c : Nat → Bool} {f : Nat → Int} (l : List Nat) (z : Int) :
    l.foldl (fun s i => if c i then s + f i else s) z = z + (l.map fun i => if c i then f i else 0).sum := by
  induction l generalizing z with
  | nil => simp
  | cons i l ih =>
    rw [List.foldl_cons, ih, List.map_cons, List.sum_cons]
    split_ifs <;> ring

/-- The guarded products of quarter `j` of the lanes. -/
def quarterSum (f : MacFn) (w : BitVec 2) (m : BitVec 16) (x y : Quad) (j : Nat) : Int :=
  ((List.range (laneCount w / 4)).map fun i => if bit m (j * (laneCount w / 4) + i)
    then f.product (laneWidth w) (lane x (laneWidth w) (j * (laneCount w / 4) + i)) (lane y (laneWidth w) (j * (laneCount w / 4) + i)) else 0).sum

theorem lmac_eq (f : MacFn) (w : BitVec 2) (m : BitVec 16) (x y : Quad) (a : Accum) :
    lmac f w m x y a = (List.range 4).foldl (fun acc j => acc.addSat j (quarterSum f w m x y j)) a := by
  have hpart (j : Nat) := foldl_if_add (c := fun i => bit m (j * (laneCount w / 4) + i))
    (f := fun i => f.product (laneWidth w) (lane x (laneWidth w) (j * (laneCount w / 4) + i)) (lane y (laneWidth w) (j * (laneCount w / 4) + i)))
    (List.range (laneCount w / 4)) 0
  simp only [lmac, hpart, zero_add, quarterSum]

theorem lmac_laneS (f : MacFn) (w : BitVec 2) (m : BitVec 16) (x y : Quad) (a : Accum) {i : Nat} (hi : i < 4) :
    (lmac f w m x y a).laneS i = satInto (quarterSum f w m x y i) (a.laneS i) := by
  rw [lmac_eq, Accum.laneS_foldl (p := fun j => satInto (quarterSum f w m x y j)) (fun a j i hj hi => a.laneS_addSat hj hi _)
    (fun j hj => List.mem_range.1 hj) List.nodup_range a hi, if_pos (List.mem_range.2 hi)]

/-- The lanes that are set, each under its guard bit. -/
theorem setLanes_laneS {m : BitVec 16} {js : List Nat} (hjs : ∀ j ∈ js, j < 4) (hnodup : js.Nodup) (v : Nat → Dword) (sat : Nat → Bool) (a : Accum)
    {i : Nat} (hi : i < 4) : (setLanes m js v sat a).laneS i = if i ∈ js ∧ bit m i = true then (v i, sat i) else a.laneS i := by
  have hstep (a : Accum) (j i : Nat) (hj : j < 4) (hi : i < 4) : (if bit m j then (a.setLane j (v j)).setS j (sat j) else a).laneS i =
      if i = j then (if bit m j then (v j, sat j) else a.laneS j) else a.laneS i := by
    by_cases hij : i = j
    · subst hij
      rw [if_pos rfl]
      split_ifs
      · rw [Accum.laneS_setS hj, if_pos rfl, Accum.lane_setLane hi hi, if_pos rfl]
      · rfl
    · rw [if_neg hij]
      split_ifs
      · rw [Accum.laneS_setS hj, if_neg hij, Accum.laneS_setLane hi hj, if_neg hij]
      · rfl
  rw [setLanes, Accum.laneS_foldl (p := fun j q => if bit m j then (v j, sat j) else q) hstep hjs hnodup a hi, ← ite_and]

/-! ## Writes of an accumulator under a guard -/

section
variable {s t : State} {e : Eid} {g : Grd} {ad src w : BitVec 2} {rd rs1 rs2 : Reg} {x y o : Quad} {v : Dword} {word : Word} {body : Nat → EM Next}

/-- The state with accumulator `ad` of the running chuck written. -/
def setA (t : State) (e : Eid) (ad : BitVec 2) (a : Accum) : State := t.updChuck e.toNat fun k => k.setAcc ad.toNat a

theorem updAcc_run (t : State) (e : Eid) (ad : BitVec 2) (f : Accum → Accum) :
    (updAcc e.toNat ad f).run t = .ok () (setA t e ad (f ((t.chuck e.toNat).acc ad.toNat))) := by
  rw [updAcc, em_modify, setA]
  exact congrArg (EStateM.Result.ok ()) (t.updChuck_congr e.toNat rfl)

theorem run_underGuard {n : Nat} {f : BitVec 16 → EM Unit} {u : State} (h : Runs s e word t) (hbody : body e.toNat = underGuard e.toNat g n f)
    (hm : ((t.chuck e.toNat).pred g.toNat).toNat % 2 ^ n ≠ 0) (hf : (f ((t.chuck e.toNat).pred g.toNat)).run t = .ok () u) :
    run1 s e word body = .next (u.retire e.toNat .seq) := run1_ok h (by rw [hbody, underGuard_runs hm hf])

/-- Bits `lo` and `lo + 1` of a mask are both 0. -/
theorem pair_none_iff (m : BitVec 16) (lo : Nat) : m.toNat / 2 ^ lo % 2 ^ 2 = 0 ↔ (!bit m lo && !bit m (lo + 1)) = true := by
  have hlow : bit m lo = decide (m.toNat / 2 ^ lo % 2 = 1) := by rw [bit, BitVec.getLsbD, Nat.testBit_eq_decide_div_mod_eq]
  have hhigh : bit m (lo + 1) = decide (m.toNat / 2 ^ lo / 2 % 2 = 1) := by
    rw [bit, BitVec.getLsbD, Nat.testBit_eq_decide_div_mod_eq, Nat.pow_succ, Nat.div_div_eq_div_mul]
  rw [hlow, hhigh]
  simp only [Bool.and_eq_true, Bool.not_eq_true', decide_eq_false_iff_not]
  omega

theorem asetBody_skips {lo : Nat} (h : ((t.chuck e.toNat).pred g.toNat).toNat / 2 ^ lo % 2 ^ 2 = 0) :
    (asetBody lo g ad rs1 e.toNat).run t = .ok .seq t := by
  rw [asetBody, em_bind_of_ok (guardMask_run t e g), if_pos ((pair_none_iff _ lo).1 h), em_pure]

theorem asetBody_runs {lo : Nat} (hx : QuadOp t e rs1 x) (h : ((t.chuck e.toNat).pred g.toNat).toNat / 2 ^ lo % 2 ^ 2 ≠ 0) :
    (asetBody lo g ad rs1 e.toNat).run t = .ok .seq (setA t e ad (setLanes ((t.chuck e.toNat).pred g.toNat) [lo, lo + 1]
      (fun j => BitVec.ofNat 64 (lane x 64 (j - lo))) (fun _ => false) ((t.chuck e.toNat).acc ad.toNat))) := by
  rw [asetBody, em_bind_of_ok (guardMask_run t e g), if_neg fun hno => h ((pair_none_iff _ lo).2 hno), em_bind_of_ok (ival128_of hx),
    em_bind_of_ok (updAcc_run ..), em_pure]

theorem agetBody_writes (lo : Nat) (h : Runs s e word t) :
    Writes s t e g rd o word (agetBody lo g rd src) 64 2 fun j => (((t.chuck e.toNat).acc src.toNat).lane (lo + j)).toNat :=
  lwrite_writes h rfl ((em_bind_of_ok (em_get t)).trans (em_pure ..)) rfl (fun _ _ => Nat.mod_eq_of_lt (BitVec.isLt _)) (by decide)

theorem narrowed_fits (hw : w ≠ 3) : laneWidth w * 4 ≤ 128 := by
  have hall : ∀ w : BitVec 2, w ≠ 3 → laneWidth w * 4 ≤ 128 := by decide
  exact hall w hw

theorem anarrowBody_writes (h : Runs s e word t) (hv : IntOp t e rs1 v) (hw : w ≠ 3) :
    Writes s t e g rd o word (anarrowBody g w rd src rs1) (laneWidth w) 4 fun j =>
      wrap (laneWidth w) (satS (laneWidth w) (accRound (((t.chuck e.toNat).acc src.toNat).lane j).toInt (min v.toNat 63))) :=
  lwrite_writes h rfl ((em_bind_of_ok (ival_of hv)).trans ((em_bind_of_ok (em_get t)).trans (em_pure ..))) rfl (fun _ _ => wrap_mod ..) (narrowed_fits hw)

/-- The sum of the lanes whose guard bit is 1 (R176). -/
theorem areduce_eq (m : BitVec 16) (a : Accum) : areduce m a = ((List.range 4).map fun j => if bit m j then (a.lane j).toInt else 0).sum := by
  rw [areduce, foldl_if_add, zero_add]

theorem asatVal_run (t : State) (e : Eid) (src : BitVec 2) : (asatVal src e.toNat).run t =
    .ok (((t.chuck e.toNat).acc src.toNat).s.setWidth 64) (setA t e src { (t.chuck e.toNat).acc src.toNat with s := 0 }) := by
  rw [asatVal, em_bind_of_ok (em_get t)]
  dsimp only
  rw [em_bind_of_ok (updAcc_run ..), em_pure]

/-- A lane of an accumulator with its S bit, taken apart. -/
theorem Accum.lane_of_laneS {a b : Accum} {j : Nat} {c : Prop} [Decidable c] {d : Dword} {k : Bool} (h : a.laneS j = if c then (d, k) else b.laneS j) :
    a.lane j = (if c then d else b.lane j) ∧ bit a.s j = if c then k else bit b.s j := by
  split_ifs at h ⊢ <;> exact Prod.mk.inj h

theorem areduceBody_run (t : State) (e : Eid) (rd : Reg) (src : BitVec 2) {z r : Int} {m : BitVec 16} {b : Accum} (hm : (t.chuck e.toNat).pred g.toNat = m)
    (hb : (t.chuck e.toNat).acc src.toNat = b) (hz : areduce m b = z) (hr : satS 64 z = r) (hn : m.toNat % 2 ^ 4 ≠ 0) :
    (areduceBody g rd src e.toNat).run t =
      .ok .seq (setI (if r = z then t else setA t e src { b with s := setBit b.s 0 true }) e rd (BitVec.ofInt 64 r)) := by
  subst hm hb
  refine underGuard_runs hn ?_
  rw [em_bind_of_ok (em_get t)]
  dsimp only
  rw [hz, hr]
  by_cases hfits : r = z
  · rw [if_neg (not_not_intro hfits), if_pos hfits, wint_run]
  · rw [if_pos hfits, if_neg hfits, em_bind_of_ok (updAcc_run ..), wint_run]
    rfl

/-- What setting the lanes `js`, those that `on` names, comes to. -/
theorem run_sets {on : Nat → Bool} {val : Nat → Dword} {sat : Nat → Bool} {js : List Nat} {m : BitVec 16} {old : Accum} (hjs : ∀ j ∈ js, j < 4)
    (hnodup : js.Nodup) (hon : ∀ j < 4, j ∈ js ↔ on j = true)
    (hrun : run1 s e word body = .next ((setA t e ad (setLanes m js val sat old)).retire e.toNat .seq)) :
    ∃ a, run1 s e word body = .next ((setA t e ad a).retire e.toNat .seq) ∧
      ∀ j, j < 4 → a.lane j = (if on j = true ∧ bit m j = true then val j else old.lane j) ∧
        bit a.s j = if on j = true ∧ bit m j = true then sat j else bit old.s j := by
  refine ⟨_, hrun, fun j hj => ?_⟩
  have hat := setLanes_laneS hjs hnodup val sat old (m := m) hj
  simp only [hon j hj] at hat
  exact Accum.lane_of_laneS hat

theorem lmacBody_run (f : MacFn) (hm : ((t.chuck e.toNat).pred g.toNat).toNat % 2 ^ laneCount w ≠ 0) (hx : QuadOp t e rs1 x) (hy : QuadOp t e rs2 y) :
    (lmacBody f g w ad rs1 rs2 e.toNat).run t =
      .ok .seq (setA t e ad (lmac f w ((t.chuck e.toNat).pred g.toNat) x y ((t.chuck e.toNat).acc ad.toNat))) :=
  underGuard_runs hm (by rw [em_bind_of_ok (ival128_of hx), em_bind_of_ok (ival128_of hy), updAcc_run])

theorem run_lmac (f : MacFn) {p : Nat → Nat → Int} (hp : ∀ x y, p x y = f.product (laneWidth w) x y) (h : Runs s e word t) :
    (((t.chuck e.toNat).pred g.toNat).toNat % 2 ^ laneCount w = 0 → run1 s e word (lmacBody f g w ad rs1 rs2) = .next (t.retire e.toNat .seq)) ∧
    (((t.chuck e.toNat).pred g.toNat).toNat % 2 ^ laneCount w ≠ 0 → QuadOp t e rs1 x → QuadOp t e rs2 y →
      ∃ a, run1 s e word (lmacBody f g w ad rs1 rs2) = .next ((setA t e ad a).retire e.toNat .seq) ∧ ∀ j, j < 4 →
        let sum := (((t.chuck e.toNat).acc ad.toNat).lane j).toInt +
          ((List.range (laneCount w / 4)).map fun i => if bit ((t.chuck e.toNat).pred g.toNat) (j * (laneCount w / 4) + i)
            then p (lane x (laneWidth w) (j * (laneCount w / 4) + i)) (lane y (laneWidth w) (j * (laneCount w / 4) + i)) else 0).sum
        (a.lane j).toInt = max (-(2 ^ 63)) (min (2 ^ 63 - 1) sum) ∧
          bit a.s j = (bit ((t.chuck e.toNat).acc ad.toNat).s j || decide (sum < -(2 ^ 63) ∨ 2 ^ 63 - 1 < sum))) := by
  obtain rfl : p = f.product (laneWidth w) := funext₂ hp
  refine ⟨fun hm => run1_ok h (underGuard_skips hm), fun hm hx hy => ⟨_, run1_ok h (lmacBody_run f hm hx hy), fun j hj => ?_⟩⟩
  obtain ⟨hlane, hsat⟩ := Prod.mk.inj (lmac_laneS f w ((t.chuck e.toNat).pred g.toNat) x y ((t.chuck e.toNat).acc ad.toNat) hj)
  refine ⟨?_, hsat⟩
  rw [hlane, toInt_satS, satS_64]
  rfl
end

/-- Settles O32: each lane of an accumulator is summed into, set or read by itself under the guard. -/
theorem accumulators : Obligations.Accumulators := by
  unfold Obligations.Accumulators
  refine ⟨?_, ?_⟩
  · intro s t e g w ad rs1 rs2 x y hw n q m old p hp h
    simp only [List.mem_cons, List.not_mem_nil, or_false] at hp
    rcases hp with rfl | rfl | rfl | rfl
    · exact run_lmac .mac (fun _ _ => rfl) h
    · exact run_lmac .macu (fun x y => (Nat.cast_mul x y).symm) h
    · exact run_lmac .msu (fun _ _ => rfl) h
    · exact run_lmac .macq (fun _ _ => rfl) h
  · intro s t e g w ad src rd rs1 x o v n m old b sets gets sum sh round skips acc get
    have hlow {c : Nat} (hm : m.toNat / 2 ^ 0 % 2 ^ c = 0) : m.toNat % 2 ^ c = 0 := by rwa [pow_zero, Nat.div_one] at hm
    have hfour : ∀ j < 4, j ∈ [0, 1, 2, 3] ↔ true = true := by decide
    refine ⟨fun h hm => run1_ok h (underGuard_skips (hlow hm)), fun h hm => run1_ok h (asetBody_skips hm), fun h hm => run1_ok h (asetBody_skips hm),
      fun h hm => run1_ok h (underGuard_skips (hlow hm)), fun h hm => run1_ok h (lwrite_skips (hlow hm)), fun h hm => run1_ok h (lwrite_skips (hlow hm)),
      fun hw h hm => run1_ok h (lwrite_skips (hlow hm)), fun h hm => run1_ok h (underGuard_skips (hlow hm)),
      fun h hm => run1_ok h (scalarResult_skips (bit_zero_of_even (hlow hm))), fun hm h => ?_, fun hx => ⟨fun hm h => ?_, fun hm h => ?_⟩, fun hm h => ?_,
      ⟨fun h ho hm => ?_, fun h ho hm => ?_, fun hw hv h ho hm => ?_⟩, fun hm h => ?_, fun hm h => ?_⟩
    · exact run_sets (by decide) (by decide) hfour (run_underGuard (body := azeroBody g ad) h rfl hm (updAcc_run ..))
    · exact run_sets (by decide) (by decide) (by decide) (run1_ok (body := asetBody 0 g ad rs1) h (asetBody_runs hx (by rwa [pow_zero, Nat.div_one])))
    · exact run_sets (by decide) (by decide) (by decide) (run1_ok (body := asetBody 2 g ad rs1) h (asetBody_runs hx hm))
    · exact run_sets (by decide) (by decide) hfour (run_underGuard (body := amoveBody g ad src) h rfl hm
        ((em_bind_of_ok (em_get t)).trans (updAcc_run ..)))
    · have hlanes := (agetBody_writes (src := src) (o := o) 0 h).2 hm ho
      simp only [Nat.zero_add] at hlanes
      exact hlanes
    · exact (agetBody_writes 2 h).2 hm ho
    · exact (anarrowBody_writes h hv hw).2 hm ho
    · exact run1_ok h (areduceBody_run t e rd src rfl rfl (areduce_eq m b) (satS_64 sum) hm)
    · exact run1_ok h (scalarResult_runs hm (asatVal_run t e src))

end Sys2Proof.Machine
end

section
/-!
# Hardware loops (04_isa_stream R179 to R182)
-/

namespace Sys2Proof.Machine

open Sys2Proof

/-! ## The word of a loop instruction -/

section
variable {s t : State} {e : Eid} {g : Grd} {lvl : BitVec 2} {op : Nat} {rs1 : Reg} {end13 : Imm13}

theorem legalWord_of_runs {w : Word} (h : Runs s e w t) : legalWord w (t.stream e.toNat) (bit (t.esys e.toNat 0x10A) 4) = true := by
  have hdecoded := h.decoded
  rw [decodeWord, em_bind_of_ok (em_get t)] at hdecoded
  by_contra hno
  rw [if_pos (by simpa using hno), em_fault] at hdecoded
  cases hdecoded

theorem wMajor_encL (hop : op < 8) : wMajor (encL g lvl op rs1 end13) = 0x28 := by
  rw [wMajor, bits_eq_div, encL, BitVec.toNat_ofNat]
  omega

theorem bits_encL_level (hop : op < 8) : bits (encL g lvl op rs1 end13) 22 21 = lvl.toNat := by
  rw [bits_eq_div, encL, BitVec.toNat_ofNat]
  omega

/-- No word names level 3 (R179). -/
theorem level_of_runs (hop : op < 8) (h : Runs s e (encL g lvl op rs1 end13) t) : lvl.toNat ≤ 2 := by
  have hlegal := legalWord_of_runs h
  rw [legalWord, wMajor_encL hop] at hlegal
  have hok : okLoop (encL g lvl op rs1 end13) = true := (Bool.and_eq_true_iff.1 hlegal).2
  have hlevel : bits (encL g lvl op rs1 end13) 22 21 ≠ 3 := of_decide_eq_true (Bool.and_eq_true_iff.1 hok).1
  rw [bits_encL_level hop] at hlevel
  omega
end

/-! ## The start of a loop (R180) -/

section
variable {t : State} {e : Eid} {lvl : BitVec 2} {end13 : Imm13} {w : Word} {n : Nat} {count : Nat → EM Nat}

/-- A level may start: it and those inside it are idle, and the level around it runs to no nearer an end. -/
def Chuck.Nests (c : Chuck) (k : Nat) (end13 : Imm13) : Prop :=
  (∀ j, k ≤ j → j ≤ 2 → c.lcount j = 0) ∧ (0 < k → c.lcount (k - 1) ≠ 0 ∧ loopLast c end13 ≤ bits (c.sysr (0x14 + k - 1)) 55 0)

theorem loopNest_of_nests {c : Chuck} {k : Nat} (hk : k ≤ 2) (h : c.Nests k end13) : loopNest c k end13 = false := by
  obtain ⟨hidle, houter⟩ := h
  refine decide_eq_false ?_
  rintro (hself | ⟨hlt, hone⟩ | ⟨hlt, htwo⟩ | ⟨hpos, hzero⟩ | ⟨hpos, hnear⟩)
  · exact hself (hidle k le_rfl hk)
  · exact hone (hidle 1 hlt.le (by decide))
  · exact htwo (hidle 2 hlt.le le_rfl)
  · exact (houter hpos).1 hzero
  · exact Nat.not_lt.2 (houter hpos).2 hnear

/-- `t` with a loop of count `n` begun at level `k`. -/
def loopBegun (t : State) (e : Eid) (k n : Nat) (end13 : Imm13) : State :=
  t.updChuck e.toNat fun c => ((c.setSysr (0x10 + k) (BitVec.ofNat 64 (capCursor (t.chuck e.toNat).pcc + 4))).setSysr (0x14 + k)
    (BitVec.ofNat 64 (loopLast (t.chuck e.toNat) end13))).setSysr (0x18 + k)
      (BitVec.ofNat 64 (n + if (t.engine e.toNat).level = .k then 2 ^ 63 else 0))

theorem loopRun_begins (hk : lvl.toNat ≤ 2) (hnests : (t.chuck e.toNat).Nests lvl.toNat end13) (hcount : (count e.toNat).run t = .ok n t) (hn : 0 < n)
    (hbase : capBase (t.chuck e.toNat).pcc ≤ loopLast (t.chuck e.toNat) end13)
    (htop : loopLast (t.chuck e.toNat) end13 + 4 ≤ capTop (t.chuck e.toNat).pcc) :
    (loopRun lvl count end13 w e.toNat).run t = .ok .seq (loopBegun t e lvl.toNat n end13) := by
  have hnest : ¬loopNest (t.chuck e.toNat) lvl.toNat end13 = true := by rw [loopNest_of_nests hk hnests]; decide
  rw [loopRun, em_bind_of_ok (em_get t)]
  dsimp only
  rw [if_neg hnest, em_bind_of_ok hcount, if_neg hn.ne', if_neg (by omega), em_bind_of_ok (em_modify ..), em_pure]
  exact congrArg (EStateM.Result.ok Next.seq) (t.updChuck_congr e.toNat rfl)

theorem loopRun_skips (hk : lvl.toNat ≤ 2) (hnests : (t.chuck e.toNat).Nests lvl.toNat end13) (hcount : (count e.toNat).run t = .ok 0 t)
    (hbase : capBase (t.chuck e.toNat).pcc ≤ loopLast (t.chuck e.toNat) end13 + 4)
    (htop : loopLast (t.chuck e.toNat) end13 + 8 ≤ capTop (t.chuck e.toNat).pcc) :
    (loopRun lvl count end13 w e.toNat).run t = .ok (.skip (withCursor (t.chuck e.toNat).pcc (loopLast (t.chuck e.toNat) end13 + 4))) t := by
  have hnest : ¬loopNest (t.chuck e.toNat) lvl.toNat end13 = true := by rw [loopNest_of_nests hk hnests]; decide
  rw [loopRun, em_bind_of_ok (em_get t)]
  dsimp only
  rw [if_neg hnest, em_bind_of_ok hcount, if_pos rfl, if_neg (by omega), em_pure]

/-- What LOOP and LOOPI come to. -/
theorem run_loop {s : State} (h : Runs s e w t) (hk : lvl.toNat ≤ 2) (hcount : (count e.toNat).run t = .ok n t)
    (hnests : (t.chuck e.toNat).Nests lvl.toNat end13) :
    (0 < n → capBase (t.chuck e.toNat).pcc ≤ loopLast (t.chuck e.toNat) end13 →
      loopLast (t.chuck e.toNat) end13 + 4 ≤ capTop (t.chuck e.toNat).pcc →
      run1 s e w (loopRun lvl count end13 w) = .next ((loopBegun t e lvl.toNat n end13).retire e.toNat .seq)) ∧
    (n = 0 → capBase (t.chuck e.toNat).pcc ≤ loopLast (t.chuck e.toNat) end13 + 4 →
      loopLast (t.chuck e.toNat) end13 + 8 ≤ capTop (t.chuck e.toNat).pcc →
      run1 s e w (loopRun lvl count end13 w) =
        .next (t.retire e.toNat (.skip (withCursor (t.chuck e.toNat).pcc (loopLast (t.chuck e.toNat) end13 + 4))))) :=
  ⟨fun hn hbase htop => run1_ok h (loopRun_begins hk hnests hcount hn hbase htop), fun hn hbase htop =>
    run1_ok h (loopRun_skips hk hnests (hn ▸ hcount) hbase htop)⟩

theorem loopCount_run {rs1 : Reg} {x : Dword} (hx : IntOp t e rs1 x) : (loopCount rs1 e.toNat).run t = .ok (x.toNat % 2 ^ 63) t := by
  have hlow : bits x 62 0 = x.toNat % 2 ^ 63 := by rw [bits_eq_div, pow_zero, Nat.div_one]
  rw [loopCount, em_bind_of_ok (ival_of hx), em_pure, hlow]
end

/-! ## The end of loops (R182) -/

/-- A chuck with the levels from `k` to 2 of `l` ended. -/
def Chuck.endLoops (c : Chuck) (k : Nat) (l : List Nat) : Chuck := l.foldl (fun c j => if k ≤ j then c.setSysr (0x18 + j) 0 else c) c

theorem Chuck.sysr_endLoops (c : Chuck) (k : Nat) (l : List Nat) (n : Nat) :
    (c.endLoops k l).sysr n = if ∃ j ∈ l, k ≤ j ∧ n = 0x18 + j then 0 else c.sysr n := by
  induction l generalizing c with
  | nil => simp [Chuck.endLoops]
  | cons j l ih =>
    have hstep : c.endLoops k (j :: l) = (if k ≤ j then c.setSysr (0x18 + j) 0 else c).endLoops k l := rfl
    rw [hstep, ih]
    by_cases hk : k ≤ j
    · rw [if_pos hk, Chuck.sysr_setSysr]
      by_cases hn : n = 0x18 + j <;> simp [hk, hn]
    · simp [hk]

theorem Chuck.regs_endLoops (c : Chuck) (k : Nat) (l : List Nat) : (c.endLoops k l).regs = c.regs := by
  induction l generalizing c with
  | nil => rfl
  | cons j l ih =>
    refine (ih _).trans ?_
    dsimp only
    split_ifs <;> rfl

theorem lclrBody_run (t : State) (e : Eid) (lvl : BitVec 2) :
    (lclrBody lvl e.toNat).run t = .ok .seq (t.updChuck e.toNat fun c => c.endLoops lvl.toNat [0, 1, 2]) :=
  (em_bind_of_ok (em_modify ..)).trans (em_pure ..)

/-! ## PCC at the end of a body (R181) -/

/-- Level `j` ends its body at `x`. -/
def Chuck.LoopLive (c : Chuck) (x : Nat) (atK : Bool) (j : Nat) : Prop :=
  bits (c.sysr (0x18 + j)) 62 0 ≠ 0 ∧ (c.sysr (0x14 + j)).toNat = x ∧ bit (c.sysr (0x18 + j)) 63 = atK

section
variable {c : Chuck} {x k n : Nat} {atK : Bool}

theorem loopEnd_dead (h : ¬c.LoopLive x atK k) : loopEnd x atK (k + 1) c = loopEnd x atK k c := if_neg h

theorem loopEnd_back (h : c.LoopLive x atK k) (hcount : 1 < bits (c.sysr (0x18 + k)) 62 0) :
    loopEnd x atK (k + 1) c = (some (c.sysr (0x10 + k)).toNat, c.setSysr (0x18 + k) (c.sysr (0x18 + k) - 1)) := (if_pos h).trans (if_pos hcount)

theorem loopEnd_last (h : c.LoopLive x atK k) (hcount : bits (c.sysr (0x18 + k)) 62 0 = 1) :
    loopEnd x atK (k + 1) c = loopEnd x atK k (c.setSysr (0x18 + k) 0) := (if_pos h).trans (if_neg (by omega))

/-- Levels that do not end at `x` are passed over. -/
theorem loopEnd_skip (hkn : k ≤ n) (h : ∀ j, k ≤ j → j < n → ¬c.LoopLive x atK j) : loopEnd x atK n c = loopEnd x atK k c := by
  induction n, hkn using Nat.le_induction with
  | base => rfl
  | succ n hkn ih => rw [loopEnd_dead (h n hkn n.lt_succ_self), ih fun j hj hlt => h j hj (hlt.trans n.lt_succ_self)]

theorem loopEnd_none (h : ∀ j, j < n → ¬c.LoopLive x atK j) : loopEnd x atK n c = (none, c) := loopEnd_skip (Nat.zero_le n) fun j _ hj => h j hj

/-- A level's end leaves the levels around it as they were. -/
theorem loopLive_setCount (v : Dword) {j : Nat} (hj : j < k) : (c.setSysr (0x18 + k) v).LoopLive x atK j ↔ c.LoopLive x atK j := by
  rw [Chuck.LoopLive, Chuck.LoopLive, Chuck.sysr_setSysr, Chuck.sysr_setSysr, if_neg (by omega), if_neg (by omega)]

/-- PCC after an instruction, by what the loop-end test answers. -/
def pccAfter (pcc : Cell) : Option Nat → Cell
  | none => withCursor pcc (capCursor pcc + 4)
  | some a => alignPcc (withCursor pcc a)

theorem State.chuck_advance (u : State) (e : Nat) {r : Option Nat × Chuck} (hlevel : (u.engine e).level ≠ .rest)
    (hr : loopEnd (capCursor (u.chuck e).pcc) (decide ((u.engine e).level = .k)) 3 (u.chuck e) = r) :
    (u.advance e).chuck e = { r.2 with pcc := pccAfter (u.chuck e).pcc r.1 } := by
  have hbeq : ((u.engine e).level == .k) = decide ((u.engine e).level = .k) := beq_eq_decide ..
  rw [State.advance]
  dsimp only
  rw [if_neg hlevel, hbeq, hr]
  obtain ⟨back, d⟩ := r
  cases back with
  | none => exact State.chuck_updChuck_self ..
  | some a => exact ((State.regsStand_flow (p := True) _ e a).chuck e).trans (State.chuck_updChuck_self ..)
end

/-- Settles O15: a start by R180's tests, and an end by passing over the levels that do not end there. -/
theorem hardwareLoops : Obligations.HardwareLoops := by
  unfold Obligations.HardwareLoops
  refine ⟨?_, ?_⟩
  · intro s t e g lvl rs1 cnt end13 x k c a le count nests begun runs
    refine ⟨fun h hx hnests => run_loop h (level_of_runs (by decide) h) (loopCount_run hx) hnests,
      fun h hnests => run_loop h (level_of_runs (by decide) h) (em_pure ..) hnests, fun h => ?_⟩
    refine ⟨_, run1_ok (body := lclrBody lvl) h (lclrBody_run t e lvl), ?_, ?_, ?_⟩
    all_goals rw [State.chuck_updChuck_self]
    · intro j hkj hj
      exact (Chuck.sysr_endLoops ..).trans (if_pos ⟨j, by simp; omega, hkj, rfl⟩)
    · intro n hn
      refine (Chuck.sysr_endLoops ..).trans (if_neg ?_)
      rintro ⟨j, hj, hkj, rfl⟩
      simp only [List.mem_cons, List.not_mem_nil, or_false] at hj
      exact hn (by omega)
    · exact Chuck.regs_endLoops ..
  · intro u e k hk c a live hlevel
    refine ⟨fun hdead => ?_, fun hlive hothers hcount => ?_, fun hlive hothers hcount => ?_⟩
    · exact u.chuck_advance e hlevel (loopEnd_none fun j hj => hdead j (by omega))
    · have hskip := loopEnd_skip (c := c) (x := a) (atK := decide ((u.engine e).level = .k)) (show k + 1 ≤ 3 by omega)
        fun j hkj hj => hothers j (by omega) (by omega)
      exact u.chuck_advance e hlevel (hskip.trans (loopEnd_back hlive hcount))
    · have hskip := loopEnd_skip (c := c) (x := a) (atK := decide ((u.engine e).level = .k)) (show k + 1 ≤ 3 by omega)
        fun j hkj hj => hothers j (by omega) (by omega)
      have hrest := loopEnd_none (c := c.setSysr (0x18 + k) 0) (x := a) (atK := decide ((u.engine e).level = .k)) (n := k)
        fun j hj => (loopLive_setCount 0 hj).not.2 (hothers j (by omega) (by omega))
      exact u.chuck_advance e hlevel (hskip.trans ((loopEnd_last hlive hcount).trans hrest))

end Sys2Proof.Machine
end

section
/-!
# The start of a long instruction (04_isa_stream R185, R186, R188, R191)
-/

namespace Sys2Proof.Machine

open Sys2Proof

section
variable {s t : State} {e : Eid} {rd rs1 rs2 : Reg} {len : Dword} {fn : LongFn} {word : Word}

/-- The operands a long instruction takes up. -/
def longOp (t : State) (e : Eid) (fn : LongFn) (rd rs1 : Reg) (len : Dword) : LongOp :=
  { fn := fn, dst := regOf t e rd, src := regOf t e rs1, rdN := rd.toNat, rs1N := rs1.toNat, len := len.toNat
    down := fn == .cpyb && decide (capCursor (regOf t e rs1) < capCursor (regOf t e rd) ∧ capCursor (regOf t e rd) < capCursor (regOf t e rs1) + len.toNat)
    done := t.longFrom e.toNat len.toNat }

theorem longBody_zero (hlen : IntOp t e rs2 len) (hsrc : fn = .fillb → kindInt (regOf t e rs1).kind = true) (hzero : len.toNat = 0) :
    (longBody fn rd rs1 rs2 e.toNat).run t = .ok .seq (t.updChuck e.toNat fun c => c.setSysr 8 0) := by
  have hkind : ¬(fn = .fillb ∧ kindInt (regOf t e rs1).kind = false) := fun ⟨hfn, hno⟩ => Bool.noConfusion ((hsrc hfn).symm.trans hno)
  unfold longBody
  rw [em_bind_of_ok (ival_of hlen), em_bind_of_ok (getReg_run ..), if_neg hkind, em_bind_of_ok (getReg_run ..)]
  dsimp only
  rw [if_neg (by omega), if_pos hzero, em_bind_of_ok (em_modify ..), em_pure]

theorem longBody_starts (hlen : IntOp t e rs2 len) (hsrc : fn = .fillb → kindInt (regOf t e rs1).kind = true) (hpos : len ≠ 0) (hlt : len.toNat < 2 ^ 40)
    (hdst : capCursor (regOf t e rd) % fn.granule = 0) (hwhole : len.toNat % fn.granule = 0)
    (htwo : fn.two = true → capCursor (regOf t e rs1) % fn.granule = 0) :
    (longBody fn rd rs1 rs2 e.toNat).run t =
      .ok .hold (t.updEngine e.toNat fun x => { x with long := some (longOp t e fn rd rs1 len), lchk := [] }) := by
  have hkind : ¬(fn = .fillb ∧ kindInt (regOf t e rs1).kind = false) := fun ⟨hfn, hno⟩ => Bool.noConfusion ((hsrc hfn).symm.trans hno)
  have hpos' : len.toNat ≠ 0 := fun hz => hpos (BitVec.eq_of_toNat_eq hz)
  have haligned : ¬(capCursor (regOf t e rd) % fn.granule ≠ 0 ∨ len.toNat % fn.granule ≠ 0) := by simp [hdst, hwhole]
  have hsecond : ¬(fn.two = true ∧ capCursor (regOf t e rs1) % fn.granule ≠ 0) := fun ⟨h2, hno⟩ => hno (htwo h2)
  unfold longBody
  rw [em_bind_of_ok (ival_of hlen), em_bind_of_ok (getReg_run ..), if_neg hkind, em_bind_of_ok (getReg_run ..)]
  dsimp only
  rw [if_neg (by omega), if_neg hpos', if_neg haligned, if_neg hsecond, em_bind_of_ok (em_modify ..), em_pure]
  rfl

/-- What the start of a long instruction comes to. -/
theorem run_long (h : Runs s e word t) (hlen : IntOp t e rs2 len) (hsrc : fn = .fillb → kindInt (regOf t e rs1).kind = true) {step : Nat} {l : LongOp}
    (hstep : fn.granule = step) (hl : longOp t e fn rd rs1 len = l) :
    (len = 0 → run1 s e word (longBody fn rd rs1 rs2) = .next ((t.updChuck e.toNat fun c => c.setSysr 8 0).retire e.toNat .seq)) ∧
    (len ≠ 0 → len.toNat < 2 ^ 40 → capCursor (regOf t e rd) % step = 0 → len.toNat % step = 0 →
      (fn.two = true → capCursor (regOf t e rs1) % step = 0) →
      run1 s e word (longBody fn rd rs1 rs2) = .next (t.updEngine e.toNat fun x => { x with long := some l, lchk := [] })) := by
  subst hstep hl
  refine ⟨fun hz => ?_, fun hpos hlt hdst hwhole htwo => run1_ok h (longBody_starts hlen hsrc hpos hlt hdst hwhole htwo)⟩
  exact run1_ok h (longBody_zero hlen hsrc (congrArg BitVec.toNat hz))
end

end Sys2Proof.Machine
end

section
/-!
# A chunk of a fill (04_isa_stream R187, R189, R191)

The checks of a chunk leave memory and the chucks as they were; a fill writes cell after cell, and the end of the instruction commits.
-/

namespace Sys2Proof.Machine

open Sys2Proof

/-! ## What the checks of a chunk leave (R148, R187) -/

/-- An engine keeps its chucks and its debug registers. -/
structure Engine.Keeps (x y : Engine) : Prop where
  chucks : y.chucks = x.chucks
  cur : y.cur = x.cur
  dbg : y.dbg = x.dbg

theorem Engine.Keeps.refl (x : Engine) : x.Keeps x := ⟨rfl, rfl, rfl⟩

theorem Engine.Keeps.trans {x y z : Engine} (h : x.Keeps y) (h' : y.Keeps z) : x.Keeps z :=
  ⟨h'.chucks.trans h.chucks, h'.cur.trans h.cur, h'.dbg.trans h.dbg⟩

/-- Memory stands, and every engine keeps its chucks and its debug registers. -/
structure Checked (s t : State) : Prop where
  mem : t.mem = s.mem
  eng : ∀ i, (s.engine i).Keeps (t.engine i)

theorem State.keeps_updEngine (s : State) (e : Nat) {f : Engine → Engine} (hf : ∀ x : Engine, x.Keeps (f x)) (i : Nat) :
    (s.engine i).Keeps ((s.updEngine e f).engine i) := by
  rcases eq_or_ne i e with rfl | hne
  · rw [State.engine_updEngine_self]
    exact hf _
  · rw [State.engine_updEngine_ne _ _ hne]
    exact .refl _

section
variable {s t u : State}

theorem Checked.refl (s : State) : Checked s s := ⟨rfl, fun _ => .refl _⟩

theorem Checked.trans (h : Checked s t) (h' : Checked t u) : Checked s u := ⟨h'.mem.trans h.mem, fun i => (h.eng i).trans (h'.eng i)⟩
end

section
variable {α β γ : Type} {s : State}

theorem Checked.ends_pure {a : α} : EndsIn (Checked s) (Pure.pure a) s := .pure (.refl s)

theorem Checked.ends_bind {x : EM α} {f : α → EM β} (hx : EndsIn (Checked s) x s) (hf : ∀ a t, EndsIn (Checked t) (f a) t) :
    EndsIn (Checked s) (x >>= f) s :=
  .bind fun a t hrun => (hf a t).mono fun _ h => (hx.ends a t hrun).trans h

theorem Checked.ends_get {f : State → EM β} (hf : EndsIn (Checked s) (f s) s) : EndsIn (Checked s) (get >>= f) s := .get hf

theorem Checked.ends_test {c : Prop} [Decidable c] {code val acc : Nat} {reg : Option Nat} {y : EM α} (h : EndsIn (Checked s) y s) :
    EndsIn (Checked s) (if c then Sys2Proof.Machine.fault code val reg acc else y) s := .ite (fun _ => .fault) fun _ => h

theorem Checked.ends_forM {f : α → EM PUnit} (hf : ∀ a t, EndsIn (Checked t) (f a) t) (l : List α) (s : State) : EndsIn (Checked s) (l.forM f) s := by
  induction l generalizing s with
  | nil => exact Checked.ends_pure
  | cons a l ih => exact Checked.ends_bind (hf a s) fun _ t => ih t

theorem Checked.ends_mapM {f : α → EM β} (hf : ∀ a t, EndsIn (Checked t) (f a) t) (l : List α) (s : State) : EndsIn (Checked s) (l.mapM f) s := by
  induction l generalizing s with
  | nil => exact Checked.ends_pure
  | cons a l ih =>
    rw [List.mapM_cons]
    exact Checked.ends_bind (hf a s) fun _ t => Checked.ends_bind (ih t) fun _ _ => Checked.ends_pure
end

section
variable (s : State) (e : Nat)

theorem linkOk_passes (c : Cell) : EndsIn (Checked s) (linkOk e c false) s := ⟨fun b t h => by
  rcases linkOk_state h with rfl | ⟨x, rfl⟩
  · exact .refl t
  · exact ⟨rfl, s.keeps_updEngine e fun _ => ⟨rfl, rfl, rfl⟩⟩⟩

theorem capTests_passes (c : Cell) (a n : Nat) (need : List Perm) (reg : Option Nat) (acc : Nat) :
    EndsIn (Checked s) (capTests e c a n need reg acc false) s := by
  have hsource : EndsIn (Checked s) (capSource e c a reg acc false) s :=
    Checked.ends_test (Checked.ends_test (Checked.ends_test (Checked.ends_bind (linkOk_passes s e c) fun _ _ => Checked.ends_test Checked.ends_pure)))
  exact Checked.ends_bind hsource fun _ _ => Checked.ends_test (Checked.ends_test Checked.ends_pure)

/-- A translation that need not wait hits the TLB. -/
theorem translate_passes (r : XReq) (h : r.inl = false) : EndsIn (Checked s) (translate e r) s := by
  refine Checked.ends_get (.ite (fun _ => Checked.ends_pure) fun _ => ?_)
  split
  · exact .fault
  · split
    · split
      · exact .set (tlbMiss_waits _ e r h)
      · exact .fault
      · exact Checked.ends_pure
    · exact tlbMiss_waits s e r h
    · exact .set (tlbMiss_waits _ e r h)

theorem sysTest_passes (c : Cell) (a pa : Nat) (reg : Option Nat) (acc : Nat) : EndsIn (Checked s) (sysTest c a pa reg acc) s := by
  refine Checked.ends_get ?_
  split
  · exact Checked.ends_test Checked.ends_pure
  · exact Checked.ends_pure

theorem State.mpuCheck_pass {u : MpuUnit} {pa : Nat} {acc : Access} {atK paired : Bool} {mt : MemType} {lvl src : Nat}
    (h : (s.mpuCheck u pa acc atK paired mt lvl src).1 = 0) : (s.mpuCheck u pa acc atK paired mt lvl src).2 = s := by
  unfold State.mpuCheck at h ⊢
  split at h
  next => rfl
  next hrefused _ => exact (hrefused h).elim

/-- An access that the MPU lets through leaves no capture. -/
theorem mpuE_passes (pa : Nat) (acc : Access) (lvl : Level) (paired : Bool) (mt : MemType) (reg : Option Nat) (code : Nat) :
    EndsIn (Checked s) (mpuE e pa acc lvl paired mt reg code) s :=
  Checked.ends_get (.set (.ite (fun _ => .fault) fun hpass => .pure (by rw [s.mpuCheck_pass (not_not.1 hpass)]; exact .refl s)))

theorem bpData_passes (a n : Nat) (rd wr : Bool) (acc : Nat) : EndsIn (Checked s) (bpData e a n rd wr acc) s := by
  have htake : ∀ hits val reason, EndsIn (Checked s) (bpTake e hits val reason acc) s := fun hits val reason => by
    cases hits with
    | nil => exact Checked.ends_pure
    | cons k l => exact Checked.ends_get (.ite (fun _ => .throw) fun _ => .fault)
  exact Checked.ends_get (htake ..)

theorem checkRanges_passes (k : Nat) (l : List Range) : EndsIn (Checked s) (checkRanges e k l) s := by
  unfold checkRanges
  refine Checked.ends_bind (Checked.ends_forM (fun r t => capTests_passes t ..) l s) fun _ t => Checked.ends_get (Checked.ends_get ?_)
  refine Checked.ends_bind (Checked.ends_mapM (fun r u => translate_passes u e _ rfl) l t) fun ps u => ?_
  refine Checked.ends_bind (Checked.ends_forM (fun z v => sysTest_passes v ..) _ u) fun _ v => Checked.ends_get ?_
  refine Checked.ends_bind (Checked.ends_forM (fun z w => ?_) _ v) fun _ w => ?_
  · refine .ite (fun _ => Checked.ends_bind (mpuE_passes w ..) fun _ x => ?_) fun _ => ?_
    · exact .ite (fun _ => mpuE_passes x ..) fun _ => Checked.ends_pure
    · exact .ite (fun _ => mpuE_passes w ..) fun _ => Checked.ends_pure
  refine Checked.ends_bind (Checked.ends_forM (fun z x => bpData_passes x ..) _ w) fun _ x => ?_
  refine Checked.ends_bind (Checked.ends_forM (fun z y => Checked.ends_get ?_) _ x) fun _ _ => Checked.ends_pure
  split
  · exact .fault
  · exact Checked.ends_get (Checked.ends_test Checked.ends_pure)
end

/-! ## Cells written one after another -/

theorem getElem_toBytes (n v i : Nat) (h : i < (toBytes n v).length) : (toBytes n v)[i] = BitVec.ofNat 8 (v / 2 ^ (8 * i)) := by
  induction n generalizing v i with
  | zero => simp [toBytes] at h
  | succ n ih =>
    cases i with
    | zero => simp [toBytes]
    | succ i =>
      have hpow : 256 * 2 ^ (8 * i) = 2 ^ (8 * (i + 1)) := by rw [Nat.mul_succ, Nat.pow_add, Nat.mul_comm]
      simp only [toBytes, List.getElem_cons_succ, ih, Nat.div_div_eq_div_mul, hpow]

theorem Memory.byte_write_in (m : Memory) (k : Nat) (l : List Byte) (h : m.wf = true) (i : Nat) (hi : i < l.length) : (m.write k l).byte (k + i) = l[i] := by
  induction l generalizing m k i with
  | nil => simp at hi
  | cons b l ih =>
    have hwf := m.wf_setByte k b h
    cases i with
    | zero =>
      have hlater : ((m.setByte k b).write (k + 1) l).byte k = (m.setByte k b).byte k := Memory.byte_write_out _ _ _ _ hwf (.inl k.lt_succ_self)
      exact hlater.trans ((m.byte_setByte k k b h).trans (if_pos rfl))
    | succ i =>
      have hnext : k + (i + 1) = k + 1 + i := by omega
      rw [Memory.write, hnext, ih _ _ hwf i (Nat.lt_of_succ_lt_succ hi), List.getElem_cons_succ]

section
variable {m : Memory} {key : Nat} {c : MCell}

theorem Memory.byte_setCell_in (hwf : m.wf = true) (hkey : key % 16 = 0) {i : Nat} (hi : i < 16) :
    (m.setCell key c).byte (key + i) = BitVec.ofNat 8 (c.bits.toNat / 2 ^ (8 * i)) := by
  have hlen : i < (toBytes 16 c.bits.toNat).length := by rwa [length_toBytes]
  rw [Memory.setCell, Memory.byte_setErr, Memory.byte_setTag, alignDown, hkey, Nat.sub_zero, m.byte_write_in _ _ hwf i hlen, getElem_toBytes]

theorem Memory.tag_write (m : Memory) (k : Nat) (l : List Byte) (i : Nat) : (m.write k l).tag i = m.tag i := by
  induction l generalizing m k with
  | nil => rfl
  | cons b l ih => exact ih ..

theorem Memory.tag_setCell (hwf : m.wf = true) (hkey : key % 16 = 0) (i : Nat) : (m.setCell key c).tag i = if i = key then c.tag else m.tag i := by
  rw [Memory.setCell, Memory.tag_setErr, Memory.tag_setTag _ _ _ _ (m.wf_write _ _ hwf), Memory.tag_write, alignDown, hkey, Nat.sub_zero]

/-- Memory with `n` cells from `key` on written. -/
def Memory.fill (m : Memory) (key : Nat) (c : MCell) (n : Nat) : Memory := (List.range n).foldl (fun m i => m.setCell (key + 16 * i) c) m

theorem Memory.fill_succ (m : Memory) (key : Nat) (c : MCell) (n : Nat) : m.fill key c (n + 1) = (m.fill key c n).setCell (key + 16 * n) c := by
  rw [Memory.fill, List.range_succ, List.foldl_append]
  rfl

theorem Memory.wf_fill (hwf : m.wf = true) (n : Nat) : (m.fill key c n).wf = true := by
  induction n with
  | zero => exact hwf
  | succ n ih => rw [Memory.fill_succ]; exact Memory.wf_setCell _ _ _ ih

theorem Memory.byte_fill (hwf : m.wf = true) (hkey : key % 16 = 0) (n a : Nat) :
    (m.fill key c n).byte a = if key ≤ a ∧ a < key + 16 * n then BitVec.ofNat 8 (c.bits.toNat / 2 ^ (8 * ((a - key) % 16))) else m.byte a := by
  induction n with
  | zero => rw [if_neg (by omega)]; rfl
  | succ n ih =>
    have hcell : (key + 16 * n) % 16 = 0 := by omega
    rw [Memory.fill_succ]
    by_cases hin : key + 16 * n ≤ a ∧ a < key + 16 * n + 16
    · have hofs : a = key + 16 * n + (a - key) % 16 := by omega
      rw [if_pos (by omega), hofs, Memory.byte_setCell_in (Memory.wf_fill hwf n) hcell (Nat.mod_lt _ (by decide)), ← hofs]
    · have hout : a < alignDown (key + 16 * n) 16 ∨ alignDown (key + 16 * n) 16 + 16 ≤ a := by rw [alignDown, hcell]; omega
      rw [Memory.byte_setCell_out _ _ _ _ (Memory.wf_fill hwf n) hout, ih]
      exact if_congr (by omega) rfl rfl

theorem Memory.tag_fill (hwf : m.wf = true) (hkey : key % 16 = 0) (n i : Nat) (hi : i < n) : (m.fill key c n).tag (key + 16 * i) = c.tag := by
  induction n with
  | zero => omega
  | succ n ih =>
    rw [Memory.fill_succ, Memory.tag_setCell (Memory.wf_fill hwf n) (by omega)]
    split_ifs with hlast
    · rfl
    · exact ih (by omega)
end

/-! ## The chunk of a fill (R187, R189) -/

/-- The cell that a fill writes. -/
def LongOp.fillCell (l : LongOp) : Cell := if l.fn = .fillb then l.src else { bits := 0, kind := .poison }

/-- The writes of `n` equal cells. -/
def fillWrites (pa va n : Nat) (c : Cell) : List ChunkWrite := (List.range n).map fun i => { pa := pa + 16 * i, va := va + 16 * i, n := 16, cell := c }

/-- The length of the next chunk of a fill: up to the end of a line of 64 bytes. -/
def LongOp.fillLen (l : LongOp) : Nat := min (l.len - l.done) (64 - (capCursor l.dst + l.done) % 64)

section
variable {l : LongOp} {s v : State} {e pa : Nat}

theorem LongOp.next_fill (hfn : l.fn = .fillb ∨ l.fn = .fillbP) (hdown : l.down = false) : l.next = (l.done, l.fillLen) := by
  have htwo : l.fn.two = false := by rcases hfn with hfn | hfn <;> rw [hfn] <;> rfl
  rw [LongOp.next, hdown, htwo]
  rfl

theorem chunkRun_fill (hfn : l.fn = .fillb ∨ l.fn = .fillbP) (hdown : l.down = false)
    (hcheck : (checkRanges e l.fillLen (l.ranges l.done)).run s = .ok [pa] v) : (chunkRun e l).run s =
      .ok () ((fillWrites pa ((capCursor l.dst + l.done) % 2 ^ 56) (l.fillLen / 16) l.fillCell).foldl (fun s w => s.chunkWrite e w) v) := by
  unfold chunkRun
  rw [l.next_fill hfn hdown]
  dsimp only
  rw [em_bind_of_ok hcheck]
  rcases hfn with hfn | hfn
  · simp only [hfn, LongOp.ranges, LongOp.fillCell, fillWrites, em_bind, em_pure, em_modify]
    rfl
  · simp only [hfn, LongOp.ranges, LongOp.fillCell, fillWrites, em_bind, em_pure, em_modify]
    rfl

/-- A write of a chunk leaves the chucks. -/
theorem State.keeps_chunkWrite (s : State) (e : Nat) (w : ChunkWrite) (i : Nat) : (s.engine i).Keeps ((s.chunkWrite e w).engine i) := by
  have hwrite (c : MCell) : (s.engine i).Keeps ((s.writeCell (keyOf e w.pa) c).engine i) := by
    obtain ⟨r, hr⟩ := (s.engine i).unreserved_eq (alignDown (keyOf e w.pa) 16)
    rw [State.engine_writeCell, hr]
    exact ⟨rfl, rfl, rfl⟩
  have hsig (t : State) (a n d : Nat) (k : Kind) : (t.engine i).Keeps ((t.sigWrite e a n d k).engine i) := by
    rw [State.sigWrite, State.sigTake]
    split_ifs
    · refine State.keeps_updEngine _ e (fun _ => ?_) i
      exact ⟨rfl, rfl, rfl⟩
    · exact .refl _
  refine Engine.Keeps.trans ?_ (hsig ..)
  refine Engine.Keeps.trans (hwrite _) (State.keeps_updEngine _ e (fun _ => ?_) i)
  exact ⟨rfl, rfl, rfl⟩

theorem State.mem_chunkWrite (s : State) (e : Nat) (w : ChunkWrite) :
    (s.chunkWrite e w).mem = s.mem.setCell (keyOf e w.pa) { bits := w.cell.bits, tag := kindTag w.cell.kind } := by
  rw [State.chunkWrite, State.sigWrite, State.sigTake_mem]
  rfl

theorem State.keeps_fill (s : State) (ws : List ChunkWrite) (i : Nat) : (s.engine i).Keeps ((ws.foldl (fun s w => s.chunkWrite e w) s).engine i) := by
  induction ws generalizing s with
  | nil => exact .refl _
  | cons w ws ih => exact (s.keeps_chunkWrite e w i).trans (ih _)

/-- A fill whose addresses have consecutive keys writes the cells there. -/
theorem State.mem_fill (s : State) (va n : Nat) (c : Cell) (hkey : ∀ i, i < n → keyOf e (pa + 16 * i) = keyOf e pa + 16 * i) :
    ((fillWrites pa va n c).foldl (fun s w => s.chunkWrite e w) s).mem = s.mem.fill (keyOf e pa) { bits := c.bits, tag := kindTag c.kind } n := by
  induction n with
  | zero => rfl
  | succ n ih =>
    rw [fillWrites, List.range_succ, List.map_append, List.foldl_append, Memory.fill_succ, ← ih fun i hi => hkey i (hi.trans n.lt_succ_self),
      ← hkey n n.lt_succ_self]
    exact State.mem_chunkWrite ..
end

/-! ## The end of a long instruction (R191) -/

/-- No engine takes up a long instruction. -/
structure NoLong (s u : State) : Prop where
  long : ∀ i, (s.engine i).long = none → (u.engine i).long = none

section
variable {s t u : State}

theorem NoLong.refl (s : State) : NoLong s s := ⟨fun _ => id⟩

theorem NoLong.trans (h : NoLong s t) (h' : NoLong t u) : NoLong s u := ⟨fun i hi => h'.long i (h.long i hi)⟩

theorem NoLong.of_eng (h : u.eng = s.eng) : NoLong s u := ⟨fun i hi => by rwa [State.engine, h]⟩

theorem NoLong.ite (c : Prop) [Decidable c] (h : c → NoLong s t) (h' : ¬c → NoLong s u) : NoLong s (if c then t else u) := by
  split_ifs with hc
  · exact h hc
  · exact h' hc

theorem NoLong.foldl {α : Type} {f : State → α → State} (hf : ∀ s a, NoLong s (f s a)) (l : List α) (s : State) : NoLong s (l.foldl f s) := by
  induction l generalizing s with
  | nil => exact .refl s
  | cons a l ih => exact (hf s a).trans (ih _)

theorem NoLong.setEngine {e : Nat} {x : Engine} (h : (s.engine e).long = none → x.long = none) : NoLong s (s.setEngine e x) := ⟨fun i hi => by
  rcases eq_or_ne i e with rfl | hne
  · rw [State.engine_setEngine_self]
    exact h hi
  · rwa [State.engine_setEngine_ne _ _ hne]⟩

theorem NoLong.updEngine (s : State) (e : Nat) {f : Engine → Engine} (h : ∀ x : Engine, x.long = none → (f x).long = none) :
    NoLong s (s.updEngine e f) := .setEngine (h _)
end

section
variable (s : State)

theorem State.noLong_raise (id : Nat) : NoLong s (s.raise id) := .of_eng rfl

theorem State.noLong_setFld (b o hi lo v : Nat) : NoLong s (s.setFld b o hi lo v) := .of_eng rfl

theorem State.noLong_updPair (p : Nat) (f : Pair → Pair) : NoLong s (s.updPair p f) := .of_eng rfl

theorem State.noLong_addPoint (p : Nat) (k : PointKind) : NoLong s (s.addPoint p k) := by
  unfold State.addPoint
  exact State.noLong_updPair ..

theorem State.noLong_react (cls unit : Nat) : NoLong s (s.react cls unit) := .of_eng (s.reacts_react cls unit).eng

theorem State.noLong_tracePut (k ty : Nat) (body : List Byte) : NoLong s (s.tracePut k ty body) := by
  unfold State.tracePut
  dsimp only
  split_ifs <;> exact .of_eng rfl

theorem State.noLong_traceEv (e ty : Nat) (body : List Byte) : NoLong s (s.traceEv e ty body) :=
  .ite _ (fun _ => .foldl (fun _ _ => .ite _ (fun _ => State.noLong_tracePut ..) fun _ => .refl _) _ s) fun _ => .refl s

theorem State.noLong_sigTake (e : Nat) (l : List Byte) : NoLong s (s.sigTake e l) := .ite _ (fun _ => .updEngine s e fun _ => id) fun _ => .refl s

theorem State.noLong_flow (e target : Nat) : NoLong s (s.flow e target) := (s.noLong_sigTake e _).trans (State.noLong_traceEv ..)

theorem State.noLong_updChuck (e : Nat) (f : Chuck → Chuck) : NoLong s (s.updChuck e f) := .updEngine s e fun _ => id

theorem State.noLong_advance (e : Nat) : NoLong s (s.advance e) := by
  unfold State.advance
  dsimp only
  split
  · exact (s.noLong_updChuck e _).trans (State.noLong_flow ..)
  · exact s.noLong_updChuck e _

theorem State.noLong_haltEngine (e reason : Nat) (bp : Option Nat) : NoLong s (s.haltEngine e reason bp) := by
  unfold State.haltEngine
  dsimp only
  generalize hx : ({ s.engine e with dbg := _, lchk := [] } : Engine) = x
  have hkept : NoLong s (s.setEngine e x) := .setEngine fun h => by rw [← hx]; exact h
  have hhalted : NoLong s (((s.setEngine e x).raise 1920).traceEv e 5 []) := (hkept.trans (State.noLong_raise ..)).trans (State.noLong_traceEv ..)
  exact .ite _ (fun _ => hhalted.trans (State.noLong_updPair ..)) fun _ => hhalted

theorem State.noLong_stopEngine (e orig : Nat) (val : Dword) : NoLong s (s.stopEngine e orig val) := by
  unfold State.stopEngine
  dsimp only
  refine .ite _ (fun _ => .refl s) fun _ => NoLong.trans (.setEngine fun _ => ?_) (State.noLong_setFld ..)
  rfl

theorem State.noLong_dropActs (q : Nat) : NoLong s (s.dropActs q) := by
  have hdrop (t : State) (e : Nat) : NoLong t (t.updEngine e fun x => { x with act := none }) := .updEngine t e fun _ => id
  exact ((State.noLong_updPair ..).trans (hdrop _ q)).trans (hdrop _ (twinOf q))

theorem State.noLong_captureDiv (q reason cnt : Nat) (a b : Word) : NoLong s (s.captureDiv q reason cnt a b) :=
  .ite _ (fun _ => State.noLong_setFld ..) fun _ => .of_eng rfl

theorem State.noLong_diverge (q reason cnt : Nat) (a b : Word) : NoLong s (s.diverge q reason cnt a b) := by
  unfold State.diverge
  dsimp only
  refine NoLong.trans ?_ (State.noLong_react ..)
  refine NoLong.trans ?_ (State.noLong_raise ..)
  refine NoLong.trans ?_ (State.noLong_updPair ..)
  refine NoLong.trans ?_ (State.noLong_setFld ..)
  refine NoLong.trans ?_ (State.noLong_setFld ..)
  refine NoLong.trans ?_ (State.noLong_stopEngine ..)
  refine NoLong.trans ?_ (State.noLong_stopEngine ..)
  exact (s.noLong_captureDiv ..).trans (State.noLong_dropActs ..)

theorem State.noLong_commits (e : Nat) : NoLong s (s.updEngine e fun x => { x with commits := x.commits + 1 }) := .updEngine s e fun _ => id

theorem State.noLong_commitPair (e : Nat) : NoLong s (s.commitPair e) := by
  unfold State.commitPair
  dsimp only
  generalize ht : State.updPair (s.updEngine e fun x => { x with commits := x.commits + 1 }) _ _ = t
  have hcount : NoLong s t := by
    subst ht
    exact (s.noLong_commits e).trans (State.noLong_updPair ..)
  split
  · exact hcount.trans (.ite _ (fun _ => .refl _) fun _ => State.noLong_diverge ..)
  · exact .ite _ (fun _ => hcount.trans (State.noLong_addPoint ..)) fun _ => hcount

theorem State.noLong_perf (e code : Nat) : NoLong s (s.perf e code) := .updEngine s e fun _ => id

theorem State.noLong_commit (e : Nat) : NoLong s (s.commit e) := by
  have hslot : NoLong s (if (s.engine e).level = .t then s.updSlot e (s.engine e).slot (fun t => { t with used := t.used + 1 }) else s) :=
    .ite _ (fun _ => .updEngine s e fun _ => id) fun _ => .refl s
  have hdone (t : State) : NoLong t (t.updEngine e fun x => { x with lchk := [], dbg := { x.dbg with skip := none } }) := .updEngine t e fun _ => id
  unfold State.commit
  dsimp only
  generalize (if (s.engine e).level = .t then s.updSlot e (s.engine e).slot (fun t => { t with used := t.used + 1 }) else s) = s0 at *
  have hcounted := (hslot.trans (s0.noLong_perf e 1)).trans (hdone _)
  generalize (s0.perf e 1).updEngine e (fun x => { x with lchk := [], dbg := { x.dbg with skip := none } }) = t at *
  have hcommitted : NoLong s (if t.pairedEng e then t.commitPair e else t) :=
    .ite _ (fun _ => hcounted.trans (State.noLong_commitPair ..)) fun _ => hcounted
  exact .ite _ (fun _ => hcommitted.trans (State.noLong_haltEngine ..)) fun _ => hcommitted

/-- An instruction that retires in sequence takes up no long instruction. -/
theorem State.long_retire_seq {e i : Nat} (h : (s.engine i).long = none) : ((s.retire e .seq).engine i).long = none :=
  ((s.noLong_advance e).trans (State.noLong_commit _ e)).long i h
end

/-! ## LONG_CHUNK of a fill -/

section
variable {s u v : State} {e : Eid} {l : LongOp} {pa : Nat}

/-- A chunk that is performed, and is not the last. -/
theorem execLongChunk_goes_on (hlong : (s.engine e.toNat).long = some l) (hready : s.ready e.toNat = true) (hsb : (s.engine e.toNat).sb = [])
    (hrun : (chunkRun e.toNat l).run s = .ok () u) (hmore : l.done + l.next.2 < l.len) (hstep : (u.engine e.toNat).dbg.stepping = false) :
    execLongChunk e s = .next (u.updEngine e.toNat fun x => { x with long := some { l with done := l.done + l.next.2 }, lchk := [] }) := by
  simp [execLongChunk, hlong, hready, hsb, hrun, hmore, hstep]

/-- The last chunk. -/
theorem execLongChunk_ends (hlong : (s.engine e.toNat).long = some l) (hready : s.ready e.toNat = true) (hsb : (s.engine e.toNat).sb = [])
    (hrun : (chunkRun e.toNat l).run s = .ok () u) (hlast : l.len ≤ l.done + l.next.2) :
    execLongChunk e s =
      .next (((u.updChuck e.toNat fun c => c.setSysr 8 0).updEngine e.toNat fun x => { x with long := none }).retire e.toNat .seq) := by
  simp [execLongChunk, hlong, hready, hsb, hrun, Nat.not_lt.2 hlast]

theorem execLongChunk_fill (hlong : (s.engine e.toNat).long = some l) (hready : s.ready e.toNat = true) (hsb : (s.engine e.toNat).sb = [])
    (hfn : l.fn = .fillb ∨ l.fn = .fillbP) (hdown : l.down = false) (hcheck : (checkRanges e.toNat l.fillLen (l.ranges l.done)).run s = .ok [pa] v)
    (hkey : ∀ i, i < l.fillLen / 16 → keyOf e.toNat (pa + 16 * i) = keyOf e.toNat pa + 16 * i) (hstep : (s.engine e.toNat).dbg.stepping = false) :
    ∃ u, execLongChunk e s = .next u ∧
      u.mem = s.mem.fill (keyOf e.toNat pa) { bits := l.fillCell.bits, tag := kindTag l.fillCell.kind } (l.fillLen / 16) ∧
      (l.done + l.fillLen < l.len → (u.engine e.toNat).long = some { l with done := l.done + l.fillLen } ∧ (u.chuck e.toNat).pcc = (s.chuck e.toNat).pcc) ∧
      (l.len ≤ l.done + l.fillLen → (u.engine e.toNat).long = none ∧ (u.chuck e.toNat).sysr 8 = 0) := by
  have hrun := chunkRun_fill hfn hdown hcheck
  have hnext : l.next.2 = l.fillLen := congrArg Prod.snd (l.next_fill hfn hdown)
  have hchecked := (checkRanges_passes s e.toNat l.fillLen (l.ranges l.done)).ends _ _ hcheck
  have hmem := v.mem_fill ((capCursor l.dst + l.done) % 2 ^ 56) (l.fillLen / 16) l.fillCell hkey
  rw [hchecked.mem] at hmem
  generalize fillWrites pa ((capCursor l.dst + l.done) % 2 ^ 56) (l.fillLen / 16) l.fillCell = ws at hrun hmem
  have hkept := (hchecked.eng e.toNat).trans (v.keeps_fill (e := e.toNat) ws e.toNat)
  generalize ws.foldl (fun s w => s.chunkWrite e.toNat w) v = w at hrun hmem hkept
  have hchuck : w.chuck e.toNat = s.chuck e.toNat := by rw [State.chuck, State.chuck, hkept.chucks, hkept.cur]
  rcases Nat.lt_or_ge (l.done + l.fillLen) l.len with hmore | hlast
  · have hexec := execLongChunk_goes_on hlong hready hsb hrun (hnext ▸ hmore) (by rw [hkept.dbg, hstep])
    refine ⟨_, hexec, hmem, fun _ => ⟨?_, ?_⟩, fun hno => absurd hno (Nat.not_le.2 hmore)⟩
    · rw [State.engine_updEngine_self, hnext]
    · rw [State.chuck, State.engine_updEngine_self]
      exact congrArg Chuck.pcc hchuck
  · have hexec := execLongChunk_ends hlong hready hsb hrun (hnext ▸ hlast)
    refine ⟨_, hexec, ?_, fun hno => absurd hno (Nat.not_lt.2 hlast), fun _ => ⟨?_, ?_⟩⟩
    · rw [State.retire_seq_mem]
      exact hmem
    · exact State.long_retire_seq _ (by rw [State.engine_updEngine_self])
    · rw [((State.leaves_seq (e := e) (rd := none) _).own).sysr 8 (by omega), State.chuck, State.engine_updEngine_self]
      exact (congrArg (fun c => Chuck.sysr c 8) (w.chuck_updChuck_self e.toNat _)).trans ((Chuck.sysr_setSysr ..).trans (if_pos rfl))
end

/-- Settles O27: a start takes up its operands, and a fill's chunk writes its cells one after another. -/
theorem longInstructions : Obligations.LongInstructions := by
  unfold Obligations.LongInstructions
  refine ⟨?_, ?_⟩
  · intro s t e g w a rd rs1 rs2 len n dst src lane prog from_ starts hlen
    have hgranule (f : MacFn) : LongFn.granule (.mac f w a) = lane := Nat.mul_div_cancel_left _ (by decide)
    refine ⟨fun h => run_long (fn := .cpyb) h hlen nofun rfl rfl, fun h hkind => run_long (fn := .fillb) h hlen (fun _ => (kindInt_iff _).2 hkind) rfl rfl,
      fun h => run_long (fn := .fillbP) h hlen nofun rfl rfl, fun h => run_long (fn := .sweep) h hlen nofun rfl rfl,
      fun _ => ⟨fun h => ?_, fun h => ?_, fun h => ?_⟩⟩
    · exact run_long (fn := .mac .mac w a) h hlen nofun (hgranule .mac) rfl
    · exact run_long (fn := .mac .macu w a) h hlen nofun (hgranule .macu) rfl
    · exact run_long (fn := .mac .macq w a) h hlen nofun (hgranule .macq) rfl
  · intro s v e l pa hwf n o k key hlong hready hsb hfn hdown hmore hdst hlen hdone hkey hcheck hkeys hstep
    have hfill : l.fn = .fillb ∨ l.fn = .fillbP := hfn.imp_left And.left
    have hk : k = l.fillLen := rfl
    have hcells : 16 * (k / 16) = k := by
      have hdef : k = min (l.len - l.done) (64 - (capCursor l.dst + l.done) % 64) := rfl
      omega
    obtain ⟨u, hexec, hmem, hgoes, hends⟩ :=
      execLongChunk_fill hlong hready hsb hfill hdown hcheck (fun i hi => hkeys (16 * i) (by omega)) hstep
    have hbyte (a : Nat) := (congrArg (Memory.byte · a) hmem).trans (Memory.byte_fill hwf hkey (l.fillLen / 16) a)
    simp only [← hk, hcells] at hbyte
    refine ⟨u, hexec, fun a hout => (hbyte a).trans (if_neg hout), fun i hi => ?_, fun i hi => ?_, hgoes, hends⟩
    · rw [hbyte, if_pos (by omega), Nat.add_sub_cancel_left, LongOp.fillCell]
      split_ifs
      · rfl
      · exact congrArg (BitVec.ofNat 8) (Nat.zero_div _)
    · refine (congrArg (Memory.tag · (key + 16 * i)) hmem).trans ((Memory.tag_fill hwf hkey _ i hi).trans ?_)
      dsimp only
      rw [LongOp.fillCell]
      split_ifs <;> rfl

end Sys2Proof.Machine
end

section
/-!
# The path of a load (05_engine_pipeline R206, R208)

`Obligations.LoadPath` speaks of every load that waits for a line, so also of one of 0 bytes, which no instruction makes. The completion of
such a load takes the field of its bytes from bit 8(a + 0) - 1 down to bit 8a; at a multiple of 16 the high end is bit 0 and no bit below it,
so one bit is taken where the statement asks for none.
-/

namespace Sys2Proof.Machine

open Sys2Proof

/-- A load of 0 bytes at 0x1800 into c2, through the capability in c1. -/
def emptyLoad : LoadReq :=
  { rd := 2, n := 0, sx := false, base := skewData, rs1 := 1, wb := none, va := 0x1800, pa := 0x1800, refetch := false, sync := false }
/-- Engine 0 waits for the line of `emptyLoad`, whose first byte in memory is 1. -/
def emptyLoadState : State :=
  { skewState with
    eng := [(0, { skewEngine with load := some emptyLoad })], mem := (State.reset.mem.setByte 0x1800 1).setTag 0x1800 0 }

/-- The load completes with a bit of memory. -/
theorem exec_fill_emptyLoad : ∃ t, exec (.l1dLineFill 0 []) emptyLoadState = .next t ∧ (t.chuck 0).reg 2 = intCell 1 := by
  refine ⟨_, rfl, ?_⟩
  decide +kernel

/-- Refutes O17: in `emptyLoadState` a load of 0 bytes completes with the integer 1, where the statement asks for 0, the number that no bytes
hold. -/
theorem not_loadPath : ¬ Obligations.LoadPath := by
  unfold Obligations.LoadPath
  rintro ⟨-, h⟩
  obtain ⟨u, hu, -, -, hreg, -⟩ := h emptyLoadState 0 [] emptyLoad .raw rfl
    (fun _ _ _ => rfl) (by decide +kernel) (by decide) (by decide) (by decide) (by decide)
  obtain ⟨t, ht, hone⟩ := exec_fill_emptyLoad
  obtain rfl : u = t := Host.Outcome.next.inj (hu.symm.trans ht)
  have hzero : ∀ m : MCell, loadedCell emptyLoad.n emptyLoad.sx emptyLoad.va m .raw = intCell 0 := fun m => by
    simp [loadedCell, emptyLoad, partOf, Nat.mod_one, intCell]
  rw [hzero] at hreg
  exact absurd (hone.symm.trans hreg) (by decide)

end Sys2Proof.Machine
end

section
/-!
# TLB maintenance (05_engine_pipeline R205, 08_translation R329 to R334, Table 08-8)

Every form of TINV rests on `State.tlbInv`, and TINV.BCAST on a run of `State.bcastInv` over the engines that acknowledge at once.
-/

namespace Sys2Proof.Machine

open Sys2Proof

/-! ## The invalidation of one engine -/

/-- The cluster of engine `n` caches no walk of that engine. -/
def State.NoWalks (s : State) (n : Nat) : Prop := ∀ w ∈ Map.get [] s.wcache (clusterOf n), w.owner ≠ n

section
variable (s : State) (n : Nat) (f : TlbEntry → Bool)

theorem State.engine_tlbInv (i : Nat) :
    (s.tlbInv n f).engine i = (s.updEngine n (fun x => { x with tlb := x.tlb.filter (fun q => !f q) })).engine i := rfl

theorem State.engine_tlbInv_self : (s.tlbInv n f).engine n = { s.engine n with tlb := (s.engine n).tlb.filter (fun q => !f q) } := by
  rw [State.engine_tlbInv, State.engine_updEngine_self]

theorem State.engine_tlbInv_ne {i : Nat} (h : i ≠ n) : (s.tlbInv n f).engine i = s.engine i := by
  rw [State.engine_tlbInv, State.engine_updEngine_ne _ _ h]

theorem State.noWalks_tlbInv_self : (s.tlbInv n f).NoWalks n := by
  intro w hw
  rw [State.tlbInv, Map.upd, Map.get_put_self] at hw
  simpa using List.of_mem_filter hw

/-- An invalidation drops walks and makes none. -/
theorem State.NoWalks.tlbInv {s : State} {k : Nat} (h : s.NoWalks k) : (s.tlbInv n f).NoWalks k := by
  intro w hw
  rw [State.tlbInv, Map.upd, Map.get_put] at hw
  split at hw
  next hc => exact h w (hc ▸ List.mem_of_mem_filter hw)
  next => exact h w hw
end

/-! ## The invalidations of a broadcast -/

section
variable (s : State) (n va asid : Nat)

theorem State.bcasts_bcastInv : (s.bcastInv n va asid).bcasts = s.bcasts := rfl

theorem State.bcast_bcastInv (i : Nat) : ((s.bcastInv n va asid).engine i).bcast = (s.engine i).bcast := by
  rcases eq_or_ne i n with rfl | hne
  · rw [State.bcastInv, State.engine_updEngine_self, State.engine_tlbInv_self]
  · rw [State.bcastInv, State.engine_updEngine_ne _ _ hne, State.engine_tlbInv_ne _ _ _ hne]

theorem State.tlb_bcastInv (i : Nat) : ((s.bcastInv n va asid).engine i).tlb =
    if i = n then (s.engine i).tlb.filter (fun q => !q.hit va asid) else (s.engine i).tlb := by
  split
  next h =>
    subst h
    rw [State.bcastInv, State.engine_updEngine_self, State.engine_tlbInv_self]
  next hne => rw [State.bcastInv, State.engine_updEngine_ne _ _ hne, State.engine_tlbInv_ne _ _ _ hne]

theorem State.NoWalks.bcastInv {s : State} {k : Nat} (h : s.NoWalks k) : (s.bcastInv n va asid).NoWalks k := State.NoWalks.tlbInv n _ h
end

/-- The engines of `l` invalidate for a broadcast, in turn. -/
def State.bcastInvAll (s : State) (l : List Nat) (va asid : Nat) : State := l.foldl (fun u n => u.bcastInv n va asid) s

section
variable {s : State} {va asid : Nat} (l : List Nat)

theorem State.bcasts_bcastInvAll : (s.bcastInvAll l va asid).bcasts = s.bcasts := by
  induction l generalizing s with
  | nil => rfl
  | cons n l ih => exact ih.trans (State.bcasts_bcastInv ..)

theorem State.bcast_bcastInvAll (i : Nat) : ((s.bcastInvAll l va asid).engine i).bcast = (s.engine i).bcast := by
  induction l generalizing s with
  | nil => rfl
  | cons n l ih => exact ih.trans (State.bcast_bcastInv ..)

theorem State.tlb_bcastInvAll (i : Nat) : ((s.bcastInvAll l va asid).engine i).tlb =
    if i ∈ l then (s.engine i).tlb.filter (fun q => !q.hit va asid) else (s.engine i).tlb := by
  induction l generalizing s with
  | nil => simp [State.bcastInvAll]
  | cons n l ih =>
    refine ih.trans ?_
    rw [State.tlb_bcastInv]
    by_cases hn : i = n <;> by_cases hl : i ∈ l <;> simp [hn, hl]

theorem State.NoWalks.bcastInvAll {k : Nat} (h : s.NoWalks k) : (s.bcastInvAll l va asid).NoWalks k := by
  induction l generalizing s with
  | nil => exact h
  | cons n l ih => exact ih (h.bcastInv n va asid)
end

/-! ## The end of broadcasts -/

theorem State.bcastSettle_waiting {s : State} (h : ∀ b ∈ s.bcasts, b.pend ≠ []) : s.bcastSettle = s := by
  have hend : s.bcastEnd = s := by
    rw [State.bcastEnd]
    split
    · rfl
    next b l hb => rw [if_neg (by simpa using h b (by simp [hb]))]
  exact List.foldl_fixed' (fun _ => hend) _

/-- The queue of broadcasts is empty, and engine `n` waits no more. -/
def State.lastBcast (s : State) (n : Nat) : State := { s with bcasts := [] }.updEngine n (fun x => { x with bcast := false })

theorem State.bcastSettle_last {s : State} {b : TlbBcast} (h : s.bcasts = [b]) (hpend : b.pend = []) :
    s.bcastSettle = (s.lastBcast b.issuer).retire b.issuer .seq := by
  simp [State.bcastSettle, State.bcastEnd, State.lastBcast, h, hpend]

theorem State.NoWalks.lastBcast {s : State} {k : Nat} (h : s.NoWalks k) (n : Nat) : (s.lastBcast n).NoWalks k := h
theorem State.bcasts_lastBcast (s : State) (n : Nat) : (s.lastBcast n).bcasts = [] := rfl

theorem State.engine_lastBcast_self (s : State) (n : Nat) : (s.lastBcast n).engine n = { s.engine n with bcast := false } := by
  rw [State.lastBcast, State.engine_updEngine_self]
  rfl

theorem State.engine_lastBcast_ne (s : State) {n i : Nat} (h : i ≠ n) : (s.lastBcast n).engine i = s.engine i := by
  rw [State.lastBcast, State.engine_updEngine_ne _ _ h]
  rfl

/-- A broadcast of engine `n`, which is to wait for the engines `l`, joins the queue. -/
def State.queueBcast (s : State) (n va asid : Nat) (l : List Nat) : State :=
  { s with bcasts := s.bcasts ++ [{ issuer := n, va := va, asid := asid, pend := l }] }

section
variable {s : State} {n va asid : Nat} {l : List Nat}

theorem State.bcasts_queueBcast : (s.queueBcast n va asid l).bcasts = s.bcasts ++ [{ issuer := n, va := va, asid := asid, pend := l }] := rfl

theorem State.engine_queueBcast (i : Nat) : (s.queueBcast n va asid l).engine i = s.engine i := rfl
theorem State.NoWalks.queueBcast {k : Nat} (h : s.NoWalks k) : (s.queueBcast n va asid l).NoWalks k := h

theorem State.settle_queueBcast_waiting (hqueue : ∀ b ∈ s.bcasts, b.pend ≠ []) (hl : l ≠ []) :
    (s.queueBcast n va asid l).bcastSettle = s.queueBcast n va asid l :=
  State.bcastSettle_waiting (List.forall_mem_append.2 ⟨hqueue, List.forall_mem_singleton.2 hl⟩)

theorem State.settle_queueBcast_last (hqueue : s.bcasts = []) (hl : l = []) :
    (s.queueBcast n va asid l).bcastSettle = ((s.queueBcast n va asid l).lastBcast n).retire n .seq :=
  State.bcastSettle_last (b := { issuer := n, va := va, asid := asid, pend := l }) (by rw [State.bcasts_queueBcast, hqueue, List.nil_append]) hl
end

/-! ## The bodies -/

theorem bits_va (v : Dword) : bits v 55 0 = v.toNat % 2 ^ 56 := by simp [bits]
theorem bits_asid (v : Dword) : bits v 11 0 = v.toNat % 2 ^ 12 := by simp [bits]

/-- The engines other than `n` that acknowledge its broadcast at once (R511). -/
def State.prompt (t : State) (n : Nat) : List Nat := (List.range 1024).filter (fun i => i != n && t.acksAtOnce i)

theorem State.mem_prompt {t : State} {n i : Nat} : i ∈ t.prompt n ↔ i < 1024 ∧ i ≠ n ∧ t.acksAtOnce i = true := by simp [State.prompt]

/-- The engines other than `n` whose acknowledgement its broadcast waits for. -/
def State.awaited (t : State) (n : Nat) : List Nat := (List.range 1024).filter (fun i => i != n && !t.acksAtOnce i)

/-- What TINV.BCAST leaves before it joins the queue of broadcasts: TINV.VA on engine `n`, which then waits, and the invalidations of the
engines that acknowledge at once (R333). -/
def State.swept (t : State) (n va asid : Nat) : State :=
  ((t.tlbInv n (fun q => q.hit va asid)).updEngine n (fun x => { x with bcast := true })).bcastInvAll (t.prompt n) va asid

section
variable {t : State} {n : Nat}

theorem tinvL1i_run (f : TlbEntry → Bool) (hsb : (t.engine n).sb = []) :
    (tinvL1i f n).run t = .ok .seq ((t.tlbInv n f).updEngine n (fun x => { x with l1i := [] })) := by
  rw [tinvL1i, em_bind_of_ok (sbEmpty_run hsb), em_bind_of_ok (em_modify ..), em_pure]

/-- TINV.ALL and TINV.ASID leave the entries that are not named, no line of L1I and no cached walk. -/
theorem tinvL1i_leaves (t : State) (n : Nat) (f : TlbEntry → Bool) :
    let u := (t.tlbInv n f).updEngine n (fun x => { x with l1i := [] })
    (u.engine n).tlb = (t.engine n).tlb.filter (fun q => !f q) ∧ (u.engine n).l1i = [] ∧ u.NoWalks n := by
  dsimp only
  rw [State.engine_updEngine_self, State.engine_tlbInv_self]
  exact ⟨rfl, rfl, State.noWalks_tlbInv_self t n f⟩

theorem State.acksAtOnce_tlbInv (f : TlbEntry → Bool) (i : Nat) :
    ((t.tlbInv n f).updEngine n (fun x => { x with bcast := true })).acksAtOnce i = t.acksAtOnce i := by
  have hheld : (((t.tlbInv n f).updEngine n (fun x => { x with bcast := true })).engine i).held = (t.engine i).held := by
    rcases eq_or_ne i n with rfl | hne
    · rw [State.engine_updEngine_self, State.engine_tlbInv_self]
    · rw [State.engine_updEngine_ne _ _ hne, State.engine_tlbInv_ne _ _ _ hne]
  exact congrArg (· || decide (1 ≤ t.tileCur (tileOf i))) hheld

/-- Every engine that acknowledges at once has invalidated, and so has the issuer, which waits. -/
theorem State.swept_leaves (t : State) (n va asid : Nat) :
    (t.swept n va asid).NoWalks n ∧ ((t.swept n va asid).engine n).tlb = (t.engine n).tlb.filter (fun q => !q.hit va asid) ∧
      (∀ i, i < 1024 → i ≠ n → t.acksAtOnce i = true → ((t.swept n va asid).engine i).tlb = (t.engine i).tlb.filter (fun q => !q.hit va asid)) ∧
      ((t.swept n va asid).engine n).bcast = true ∧ (t.swept n va asid).bcasts = t.bcasts := by
  have hwalks : ((t.tlbInv n (fun q => q.hit va asid)).updEngine n (fun x => { x with bcast := true })).NoWalks n := State.noWalks_tlbInv_self _ _ _
  refine ⟨hwalks.bcastInvAll _, ?_, fun i hi hne hack => ?_, ?_, State.bcasts_bcastInvAll _⟩ <;> rw [State.swept]
  · rw [State.tlb_bcastInvAll, if_neg fun h => (State.mem_prompt.1 h).2.1 rfl, State.engine_updEngine_self, State.engine_tlbInv_self]
  · rw [State.tlb_bcastInvAll, if_pos (State.mem_prompt.2 ⟨hi, hne, hack⟩), State.engine_updEngine_ne _ _ hne, State.engine_tlbInv_ne _ _ _ hne]
  · rw [State.bcast_bcastInvAll, State.engine_updEngine_self]
end

section
variable {t : State} {e : Eid} {rs1 rs2 : Reg} {v a : Dword}

theorem tinvAsidBody_run (hv : IntOp t e rs1 v) (hsb : (t.engine e.toNat).sb = []) :
    (tinvAsidBody rs1 e.toNat).run t =
      .ok .seq ((t.tlbInv e.toNat (fun q => !q.g && q.asid == bits v 11 0)).updEngine e.toNat (fun x => { x with l1i := [] })) := by
  rw [tinvAsidBody, em_bind_of_ok (ival_of hv), tinvL1i_run _ hsb]

theorem tinvVaBody_run (hv : IntOp t e rs1 v) (ha : IntOp t e rs2 a) (hsb : (t.engine e.toNat).sb = []) :
    (tinvVaBody rs1 rs2 e.toNat).run t = .ok .seq (t.tlbInv e.toNat (fun q => q.hit (v.toNat % 2 ^ 56) (a.toNat % 2 ^ 12))) := by
  rw [tinvVaBody, em_bind_of_ok (ival_of hv), em_bind_of_ok (ival_of ha), em_bind_of_ok (sbEmpty_run hsb), em_bind_of_ok (em_modify ..), em_pure,
    bits_va, bits_asid]

theorem tinvBcastBody_run (hv : IntOp t e rs1 v) (ha : IntOp t e rs2 a) (hsb : (t.engine e.toNat).sb = []) :
    (tinvBcastBody rs1 rs2 e.toNat).run t = .ok .hold
      ((t.swept e.toNat (v.toNat % 2 ^ 56) (a.toNat % 2 ^ 12)).queueBcast e.toNat (v.toNat % 2 ^ 56) (a.toNat % 2 ^ 12) (t.awaited e.toNat)).bcastSettle := by
  rw [tinvBcastBody, em_bind_of_ok (ival_of hv), em_bind_of_ok (ival_of ha), em_bind_of_ok (sbEmpty_run hsb), em_bind_of_ok (em_modify ..), em_pure,
    bits_va, bits_asid]
  unfold State.queueBcast State.swept State.bcastInvAll State.prompt State.awaited
  simp only [State.acksAtOnce_tlbInv]
end

/-- Settles O26: each form's body drops what it names, and a broadcast waits in the queue or, with every engine's acknowledgement, ends. -/
theorem tlbInvalidation : Obligations.TlbInvalidation := by
  unfold Obligations.TlbInvalidation
  intro s t e g rs1 rs2 v a hsb
  refine ⟨fun h => ⟨_, run1_ok (body := tinvAllBody) h (tinvL1i_run _ hsb), ?_⟩, fun hv =>
    ⟨fun h => ⟨_, run1_ok (body := tinvAsidBody rs1) h (tinvAsidBody_run hv hsb), ?_⟩, fun ha =>
      ⟨fun h => ⟨_, run1_ok (body := tinvVaBody rs1 rs2) h (tinvVaBody_run hv ha hsb), ?_⟩, fun h => ?_⟩⟩⟩
  · obtain ⟨htlb, hl1i, hwalks⟩ := tinvL1i_leaves t e.toNat fun _ => true
    exact ⟨htlb.trans (by simp), hl1i, hwalks⟩
  · obtain ⟨htlb, hl1i, hwalks⟩ := tinvL1i_leaves t e.toNat fun q => !q.g && q.asid == bits v 11 0
    exact ⟨htlb.trans (by simp [bits_asid, bne]), hl1i, hwalks⟩
  · exact ⟨congrArg Engine.tlb (State.engine_tlbInv_self ..), State.noWalks_tlbInv_self _ _ _⟩
  · have hrun := run1_ok (body := tinvBcastBody rs1 rs2) h (tinvBcastBody_run hv ha hsb)
    obtain ⟨hwalks, htlb, hothers, hbcast, hbcasts⟩ := t.swept_leaves e.toNat (v.toNat % 2 ^ 56) (a.toNat % 2 ^ 12)
    generalize t.swept e.toNat (v.toNat % 2 ^ 56) (a.toNat % 2 ^ 12) = u at hrun hwalks htlb hothers hbcast hbcasts
    refine ⟨fun (hpend : t.awaited e.toNat ≠ []) hqueue => ?_, fun (hpend : t.awaited e.toNat = []) hqueue => ?_⟩
    · rw [State.retire_hold, State.settle_queueBcast_waiting (hbcasts ▸ hqueue) hpend] at hrun
      exact ⟨_, hrun, ⟨hwalks.queueBcast, htlb, hothers⟩, hbcast, by rw [State.bcasts_queueBcast, hbcasts, State.awaited]⟩
    · rw [State.retire_hold, State.settle_queueBcast_last (hbcasts.trans hqueue) hpend] at hrun
      refine ⟨_, hrun, ⟨hwalks.queueBcast.lastBcast _, ?_, fun i hi hne hack => ?_⟩, ?_, State.bcasts_lastBcast ..⟩
      · rw [State.engine_lastBcast_self, ← htlb, State.engine_queueBcast]
      · rw [State.engine_lastBcast_ne _ hne, ← hothers i hi hne hack, State.engine_queueBcast]
      · rw [State.engine_lastBcast_self]

end Sys2Proof.Machine
end

section
/-!
# A walk that meets an invalid descriptor (08_translation R316, R324)

The subtype of a Translation Fault holds the level in bits [7:4] and the code in bits [3:0] (R324), so that an invalid descriptor at level 3
is subtype 0x33. `Obligations.EngineBackground` asks for subtype 3.
-/

namespace Sys2Proof.Machine

open Sys2Proof

/-- The walk of a read at 0x5008 by level T, under way. -/
def deadWalk : WalkReq := { va := 0x5008, acc := .read, lvl := .t, user := false, reg := some 1, accCode := 1, started := true, discard := false }
/-- The page of the exception handlers. -/
def handlerPage : TlbEntry :=
  { half := false, vbase := 0, shift := 12, asid := 0, g := true, u := false, xt := false, xk := true, w := false, df := false, mt := .normal, pbase := 0 }
/-- Engine 0 in a task at level T waits for `deadWalk`: its table is at 0x1000, and its handlers, from address 0 on, are in the TLB and L1I. -/
def deadEngine : Engine :=
  { Engine.reset with
    held := false, level := .t, cur := 0, running := true, sys := [(0x108, 0x1000), (0x10A, 0)], csys := [(0x105, skewCode)]
    tlb := [handlerPage], walk := some deadWalk, l1i := [.filled 20 [{ bits := 0, tag := 0 }]] }
/-- The first descriptor of the table is 0, which is invalid. -/
def deadState : State := { skewState with eng := [(0, deadEngine)], mem := State.reset.mem.setTag 0x1000 0 }

/-- EVAL names level 3 and code 3. -/
theorem exec_tableWalk_dead : ∃ t, exec (.tableWalk 0) deadState = .next t ∧ t.esys 0 0x103 = 0x3300000000005008 := by
  refine ⟨_, rfl, ?_⟩
  decide +kernel

/-- Refutes O38: in `deadState` the walk of 0x5008 meets an invalid descriptor at level 3, and the Translation Fault has subtype 0x33 in EVAL, as
R324 says, where the statement asks for 3. -/
theorem not_engineBackground : ¬ Obligations.EngineBackground := by
  unfold Obligations.EngineBackground
  rintro ⟨h, -⟩
  obtain ⟨-, hwalks⟩ := h deadState 0 deadWalk 0 0 0 0 (by decide +kernel) rfl
  obtain ⟨hinvalid, -⟩ := hwalks rfl (by decide) (by decide +kernel) rfl (by decide) (by decide +kernel)
  obtain ⟨t, ht, heval⟩ := exec_tableWalk_dead
  have hclaim := Host.Outcome.next.inj (ht.symm.trans (hinvalid (by decide) rfl))
  rw [hclaim] at heval
  exact absurd heval (by decide +kernel)

end Sys2Proof.Machine
end

section
/-!
# Scheduler commands (06_tasks_scheduler, R226 to R232, R254, R261 to R264)

A command is taken with one write of SCHED_CMDn and SCHED_STATn; a refused one ends there. What BIND, WAKE and RESUME do beyond the slot goes
through the power state: it leaves the engines, memory, the values in force, and the registers of every block but CLK, PWR and THERM.
-/

namespace Sys2Proof.Machine

open Sys2Proof

/-! ## Fields of registers apart -/

theorem State.fld_setFld_apart (s : State) (b o : Nat) {hi lo hi' lo' : Nat} (hl : lo ≤ hi) (hn : hi < 32) (h : hi < lo' ∨ hi' < lo) (v : Nat) :
    (s.setFld b o hi lo v).fld b o hi' lo' = s.fld b o hi' lo' := by
  rw [State.fld, State.setFld, State.reg_setReg_self, bits_setBits_apart _ hl hn h, State.fld]

theorem State.fld_setFld_ne (s : State) {b o c p : Nat} (hi lo v hi' lo' : Nat) (h : regKey c p ≠ regKey b o) :
    (s.setFld b o hi lo v).fld c p hi' lo' = s.fld c p hi' lo' := by
  rw [State.fld, State.reg_setFld_ne _ _ _ _ h, State.fld]

theorem State.fld_setFld_mod (s : State) (b o : Nat) {hi lo : Nat} (hl : lo ≤ hi) (hn : hi < 32) (v : Nat) :
    (s.setFld b o hi lo v).fld b o hi lo = v % 2 ^ (hi + 1 - lo) := by
  rw [State.setFld, ← setBits_mod, State.fld, State.reg_setReg_self, bits_setBits_self _ hl hn (Nat.mod_lt _ (Nat.two_pow_pos _))]

theorem regKey_ne_of_ofs (b : Nat) {o p : Nat} (h : p ≠ o) : regKey b p ≠ regKey b o := by
  unfold regKey
  omega

theorem regKey_ne_of_blk {b c o p : Nat} (h : c ≠ b) (ho : o < 0x10000) (hp : p < 0x10000) : regKey c p ≠ regKey b o := by
  unfold regKey
  omega

/-! ## What power management leaves (R528 to R540) -/

/-- Of all that a scheduler reads, `u` differs from `s` in registers of the blocks CLK, PWR and THERM alone. -/
structure State.PowerOnly (s u : State) : Prop where
  eng : u.eng = s.eng
  mem : u.mem = s.mem
  eff : u.eff = s.eff
  applying : u.applying = s.applying
  reg : ∀ b o, b ≠ 1 → b ≠ 2 → b ≠ 0x0D → o < 0x10000 → u.reg b o = s.reg b o

theorem State.PowerOnly.refl (s : State) : s.PowerOnly s := ⟨rfl, rfl, rfl, rfl, fun _ _ _ _ _ _ => rfl⟩

theorem State.PowerOnly.trans {s t u : State} (h : s.PowerOnly t) (h' : t.PowerOnly u) : s.PowerOnly u where
  eng := h'.eng.trans h.eng
  mem := h'.mem.trans h.mem
  eff := h'.eff.trans h.eff
  applying := h'.applying.trans h.applying
  reg b o h1 h2 h3 ho := (h'.reg b o h1 h2 h3 ho).trans (h.reg b o h1 h2 h3 ho)

theorem State.PowerOnly.foldl {α : Type} {f : State → α → State} {l : List α} (s : State) (hf : ∀ t : State, ∀ a ∈ l, t.PowerOnly (f t a)) :
    s.PowerOnly (l.foldl f s) := by
  induction l generalizing s with
  | nil => exact .refl s
  | cons a l ih => exact (hf s a List.mem_cons_self).trans (ih _ fun t b hb => hf t b (List.mem_cons_of_mem a hb))

theorem State.powerOnly_setReg (s : State) {b o : Nat} (w : Word) (hb : b = 1 ∨ b = 2 ∨ b = 0x0D) (ho : o < 0x10000) : s.PowerOnly (s.setReg b o w) :=
  ⟨rfl, rfl, rfl, rfl, fun _ _ h1 h2 h3 hp => State.reg_setReg_ne s w (regKey_ne_of_blk (by omega) ho hp)⟩

theorem State.powerOnly_setFld (s : State) {b o : Nat} (hi lo v : Nat) (hb : b = 1 ∨ b = 2 ∨ b = 0x0D) (ho : o < 0x10000) :
    s.PowerOnly (s.setFld b o hi lo v) := s.powerOnly_setReg _ hb ho

theorem State.powerOnly_raise (s : State) (id : Nat) : s.PowerOnly (s.raise id) := ⟨rfl, rfl, rfl, rfl, fun _ _ _ _ _ _ => rfl⟩

theorem State.powerOnly_updPw (s : State) (f : Power → Power) : s.PowerOnly (s.updPw f) := ⟨rfl, rfl, rfl, rfl, fun _ _ _ _ _ _ => rfl⟩

theorem State.powerOnly_wakeTile (s : State) {t : Nat} (ht : t < 32) : s.PowerOnly (s.wakeTile t) := by
  unfold State.wakeTile
  split_ifs
  · exact .refl s
  · exact (s.powerOnly_updPw _).trans (State.powerOnly_setFld _ _ _ _ (by decide) (by omega))

theorem State.powerOnly_wakeTiles (s : State) {l : List Nat} (hl : ∀ t ∈ l, t < 32) :
    s.PowerOnly (l.foldl (fun u x => (u.setFld 2 (0x100 + 4 * x) 1 0 0).wakeTile x) s) :=
  .foldl s fun u x hx => by
    have hx32 := hl x hx
    exact (u.powerOnly_setFld _ _ _ (by decide) (by omega)).trans (State.powerOnly_wakeTile _ hx32)

theorem State.powerOnly_touchTile (s : State) {t : Nat} (ht : t < 32) : s.PowerOnly (s.touchTile t) := by
  unfold State.touchTile
  split_ifs
  · exact s.powerOnly_wakeTile ht
  · exact s.powerOnly_wakeTiles fun x hx => s.withTwin_lt ht hx
  · exact .refl s

theorem State.powerOnly_wakeForDelivery (s : State) {t : Nat} (ht : t < 32) : s.PowerOnly (s.wakeForDelivery t) := by
  unfold State.wakeForDelivery
  split_ifs
  · exact s.powerOnly_wakeTiles fun x hx => s.withTwin_lt ht hx
  · exact s.powerOnly_touchTile ht

theorem State.powerOnly_refreshClk (s : State) : s.PowerOnly s.refreshClk := by
  refine (State.PowerOnly.foldl (l := List.range 32) s fun u t ht => ?_).trans (State.powerOnly_setReg _ _ (by decide) (by decide))
  have ht32 := List.mem_range.mp ht
  exact u.powerOnly_setFld _ _ _ (by decide) (by omega)

theorem State.powerOnly_throttle (s : State) (n : Nat) : s.PowerOnly (s.throttle n) := by
  induction n generalizing s with
  | zero => exact .refl s
  | succ n ih =>
    unfold State.throttle
    split
    · exact .refl s
    · split
      · exact .refl s
      · exact (s.powerOnly_updPw _).trans (ih _)

theorem State.powerOnly_unthrottle (s : State) (t n : Nat) : s.PowerOnly (s.unthrottle t n) := by
  induction n generalizing s with
  | zero => exact .refl s
  | succ n ih =>
    unfold State.unthrottle
    dsimp only
    split_ifs
    · exact .refl s
    · exact (s.powerOnly_updPw _).trans (ih _)
    · exact .refl s

theorem State.powerOnly_arbitrate (s : State) : s.PowerOnly s.arbitrate := by
  unfold State.arbitrate
  dsimp only
  split
  · refine State.PowerOnly.trans ?_ (State.powerOnly_refreshClk _)
    split
    · exact s.powerOnly_throttle 256
    · exact (s.powerOnly_throttle 256).trans (State.powerOnly_raise _ _)
  · refine State.PowerOnly.trans (.foldl s fun u t _ => ?_) (State.powerOnly_refreshClk _)
    split
    · exact .refl u
    · exact u.powerOnly_unthrottle t 5

theorem State.PowerOnly.engine {s u : State} (h : s.PowerOnly u) (e : Nat) : u.engine e = s.engine e := by rw [State.engine, h.eng, State.engine]

theorem State.PowerOnly.slotAt {s u : State} (h : s.PowerOnly u) (e n : Nat) : u.slotAt e n = s.slotAt e n := by
  rw [State.slotAt, h.engine, State.slotAt]

/-- The registers of a TILE block stand. -/
theorem State.PowerOnly.fld {s u : State} (h : s.PowerOnly u) (t : Nat) {o : Nat} (ho : o < 0x10000) (hi lo : Nat) :
    u.fld (tileBlk t) o hi lo = s.fld (tileBlk t) o hi lo := by
  have hb : 0x20 ≤ tileBlk t := Nat.le_add_right ..
  rw [State.fld, h.reg _ _ (by omega) (by omega) (by omega) ho, State.fld]

theorem tileOf_lt (e : Eid) : tileOf e.toNat < 32 := by
  unfold tileOf
  omega

/-! ## Taking a command (R261, R262) -/

/-- The offset of SCHED_CMDn. -/
def cmdOfs (e : Nat) : Nat := 0x200 + 8 * (e % 32)
/-- The offset of SCHED_STATn. -/
def statOfs (e : Nat) : Nat := 0x204 + 8 * (e % 32)

theorem statOfs_ne_cmdOfs (e : Nat) : statOfs e ≠ cmdOfs e := by
  unfold statOfs cmdOfs
  omega

theorem statOfs_lt (e : Nat) : statOfs e < 0x10000 := by
  unfold statOfs
  omega

/-- The fields SLOT, CHUCK and VEC of SCHED_CMDn written. -/
def State.cmdFields (s : State) (e n c vec : Nat) : State :=
  ((s.setFld (tileBlk (tileOf e)) (cmdOfs e) 21 16 n).setFld (tileBlk (tileOf e)) (cmdOfs e) 14 12 c).setFld (tileBlk (tileOf e)) (cmdOfs e) 11 8 vec

/-- A command taken: its fields written and BUSY set. -/
def State.cmdTaken (s : State) (e n c vec : Nat) : State := (s.cmdFields e n c vec).setFld (tileBlk (tileOf e)) (statOfs e) 0 0 1

/-- A command's effect made; its RESULT waits for completion. -/
def State.cmdEnds (s : State) (e r : Nat) : State := s.updEngine e (fun x => { x with cmd := some r })

@[simp] theorem State.cmdTaken_eng (s : State) (e n c vec : Nat) : (s.cmdTaken e n c vec).eng = s.eng := rfl
@[simp] theorem State.cmdTaken_engine (s : State) (e n c vec i : Nat) : (s.cmdTaken e n c vec).engine i = s.engine i := rfl
@[simp] theorem State.cmdTaken_slotAt (s : State) (e n c vec i k : Nat) : (s.cmdTaken e n c vec).slotAt i k = s.slotAt i k := rfl
@[simp] theorem State.cmdTaken_mem (s : State) (e n c vec : Nat) : (s.cmdTaken e n c vec).mem = s.mem := rfl
@[simp] theorem State.cmdTaken_eff (s : State) (e n c vec : Nat) : (s.cmdTaken e n c vec).eff = s.eff := rfl
@[simp] theorem State.cmdTaken_applying (s : State) (e n c vec : Nat) : (s.cmdTaken e n c vec).applying = s.applying := rfl
@[simp] theorem State.cmdTaken_effFld (s : State) (e n c vec b o hi lo : Nat) : (s.cmdTaken e n c vec).effFld b o hi lo = s.effFld b o hi lo := rfl
@[simp] theorem State.cmdTaken_pairedEng (s : State) (e n c vec i : Nat) : (s.cmdTaken e n c vec).pairedEng i = s.pairedEng i := rfl

theorem State.cmdTaken_reg (s : State) (e n c vec : Nat) {b o : Nat} (hcmd : regKey b o ≠ regKey (tileBlk (tileOf e)) (cmdOfs e))
    (hstat : regKey b o ≠ regKey (tileBlk (tileOf e)) (statOfs e)) : (s.cmdTaken e n c vec).reg b o = s.reg b o := by
  simp only [State.cmdTaken, State.cmdFields, State.reg_setFld_ne _ _ _ _ hcmd, State.reg_setFld_ne _ _ _ _ hstat]

theorem State.cmdTaken_busy (s : State) (e n c vec : Nat) : (s.cmdTaken e n c vec).fld (tileBlk (tileOf e)) (statOfs e) 0 0 = 1 :=
  State.fld_setFld_self _ _ _ (le_refl _) (by decide) (by decide)

theorem State.cmdTaken_chuck (s : State) (e n vec : Nat) {c : Nat} (hc : c < 8) : (s.cmdTaken e n c vec).fld (tileBlk (tileOf e)) (cmdOfs e) 14 12 = c := by
  rw [State.cmdTaken, State.fld_setFld_ne _ _ _ _ _ _ (regKey_ne_of_ofs _ (statOfs_ne_cmdOfs e).symm), State.cmdFields,
    State.fld_setFld_apart _ _ _ (by decide) (by decide) (by decide), State.fld_setFld_self _ _ _ (by decide) (by decide) hc]

/-- R264 asks nothing that the taking of a command changes. -/
theorem State.cmdTaken_schedDenied (s : State) (m : Master) (e op n c k c' vec : Nat) :
    (s.cmdTaken e n c vec).schedDenied m e op k c' = s.schedDenied m e op k c' := by
  have hpaired : (s.cmdTaken e n c vec).fld (tileBlk (tileOf e)) (0x100 + 4 * (e % 32)) 1 1 = s.fld (tileBlk (tileOf e)) (0x100 + 4 * (e % 32)) 1 1 := by
    rw [State.fld, State.cmdTaken_reg, State.fld] <;> exact regKey_ne_of_ofs _ (by simp only [cmdOfs, statOfs]; omega)
  have hcmd : (s.cmdTaken e n c vec).cmdPaired e op k c' = s.cmdPaired e op k c' := by
    simp only [State.cmdPaired, hpaired, State.cmdTaken_engine, State.cmdTaken_pairedEng]
  simp only [State.schedDenied, hcmd, State.cmdTaken_engine]

/-- A master that may give a command of an engine: Cretal, the debug port, the engine itself (R261). -/
def ownsCmd (m : Master) (e : Eid) : Prop := m = .cretal ∨ m = .debug ∨ m = .engine e

/-- A write of SCHED_CMDn by a master that may give commands: the fields, and a command with no other under way (R261, R262). -/
theorem State.schedCmd_own {s : State} {m : Master} {e : Eid} {op c : Nat} (n vec : Nat) (hm : ownsCmd m e) (hop : op ≤ 8) (hc : c < 7) :
    s.schedCmd m e.toNat op n c vec =
      let f := s.cmdFields e.toNat n c vec
      let t := s.cmdTaken e.toNat n c vec
      let k := t.fld (tileBlk (tileOf e.toNat)) (cmdOfs e.toNat) 14 12
      let r := if t.schedDenied m e.toNat op n k then (2, t) else t.schedPerform e.toNat op n k vec
      if op = 0 then f
      else if f.fld (tileBlk (tileOf e.toNat)) (statOfs e.toNat) 0 0 = 1 then f.setFld (tileBlk (tileOf e.toNat)) (statOfs e.toNat) 1 1 1
      else r.2.cmdEnds e.toNat r.1 := by
  have h7 : ¬c = 7 := by omega
  have h8 : ¬8 < op := by omega
  have hofs : 0x200 + 8 * (e.toNat % 32) + 4 = statOfs e.toNat := by
    unfold statOfs
    omega
  rcases hm with rfl | rfl | rfl <;>
    simp only [State.schedCmd, beq_self_eq_true, Bool.not_true, Bool.false_eq_true, if_false, h7, h8, or_self, hofs] <;> rfl

/-- R261, R262: a command with no other under way has its effect, or ends with DENIED. -/
theorem State.schedCmd_taken {s : State} {m : Master} {e : Eid} {op c : Nat} (n vec : Nat) (hm : ownsCmd m e) (hop : 1 ≤ op ∧ op ≤ 8) (hc : c < 7)
    (hfree : s.fld (tileBlk (tileOf e.toNat)) (statOfs e.toNat) 0 0 = 0) :
    s.schedCmd m e.toNat op n c vec =
      let t := s.cmdTaken e.toNat n c vec
      let r := if s.schedDenied m e.toNat op n c then (2, t) else t.schedPerform e.toNat op n c vec
      r.2.cmdEnds e.toNat r.1 := by
  have hfree' : (s.cmdFields e.toNat n c vec).fld (tileBlk (tileOf e.toNat)) (statOfs e.toNat) 0 0 = 0 := by
    simp only [State.cmdFields, State.fld_setFld_ne _ _ _ _ _ _ (regKey_ne_of_ofs _ (statOfs_ne_cmdOfs e.toNat)), hfree]
  rw [State.schedCmd_own n vec hm hop.2 hc]
  dsimp only
  rw [if_neg (by omega), hfree', if_neg (by decide), s.cmdTaken_chuck _ _ _ (by omega), s.cmdTaken_schedDenied]

end Sys2Proof.Machine
end

section
/-!
# What each scheduler command does (06_tasks_scheduler, Table 06-9)

Every command acts on a state that has taken it, which holds the engines, memory and the memory map of the state before.
-/

namespace Sys2Proof.Machine

open Sys2Proof

/-! ## The effect of a command taken -/

@[simp] theorem State.cmdEnds_cmd (s : State) (e r : Nat) : ((s.cmdEnds e r).engine e).cmd = some r := by simp [State.cmdEnds]
@[simp] theorem State.cmdEnds_slots (s : State) (e r : Nat) : ((s.cmdEnds e r).engine e).slots = (s.engine e).slots := by simp [State.cmdEnds]
@[simp] theorem State.cmdEnds_chucks (s : State) (e r : Nat) : ((s.cmdEnds e r).engine e).chucks = (s.engine e).chucks := by simp [State.cmdEnds]
@[simp] theorem State.cmdEnds_slotAt (s : State) (e r k : Nat) : (s.cmdEnds e r).slotAt e k = s.slotAt e k := by simp [State.slotAt]
@[simp] theorem State.cmdEnds_fld (s : State) (e r b o hi lo : Nat) : (s.cmdEnds e r).fld b o hi lo = s.fld b o hi lo := by
  rw [State.cmdEnds, State.fld, State.reg_updEngine, State.fld]

@[simp] theorem State.fld_updSlot (s : State) (e n : Nat) (f : Slot → Slot) (b o hi lo : Nat) : (s.updSlot e n f).fld b o hi lo = s.fld b o hi lo := by
  rw [State.updSlot, State.fld, State.reg_updEngine, State.fld]
@[simp] theorem State.fld_makeReady (s : State) (e n b o hi lo : Nat) : (s.makeReady e n).fld b o hi lo = s.fld b o hi lo := by
  rw [State.makeReady, State.fld, State.reg_updEngine, ← State.fld, State.fld_updSlot]

/-- The command of a master that may write SCHED_CMDn, with none under way. -/
structure TakesCmd (s : State) (m : Master) (e : Eid) : Prop where
  owns : ownsCmd m e
  lets : s.lets m (tileBlk (tileOf e.toNat)) (cmdOfs e.toNat) .write = true
  free : s.fld (tileBlk (tileOf e.toNat)) (statOfs e.toNat) 0 0 = 0

section
variable {s : State} {m : Master} {e : Eid} {i : Instr} {op n c vec : Nat}

theorem exec_command (h : TakesCmd s m e) (hop : 1 ≤ op ∧ op ≤ 8) (hc : c < 7) (hi : exec i s = s.schedReg m e.toNat op n c vec) :
    exec i s = .next (
      let t := s.cmdTaken e.toNat n c vec
      let r := if s.schedDenied m e.toNat op n c then (2, t) else t.schedPerform e.toNat op n c vec
      r.2.cmdEnds e.toNat r.1) := by
  rw [hi]
  exact congrArg Host.Outcome.next ((admits_of _ _ _ _ _ h.lets).trans (State.schedCmd_taken n vec h.owns hop hc h.free))

/-- The command `i`, of operation `op` on slot `k`, ends with OK and leaves a state of which `p` holds, where it may be given, and otherwise
ends with DENIED and no other effect (R262, R264). -/
def Starts (s : State) (m : Master) (e : Eid) (op k : Nat) (i : Instr) (p : State → Prop) : Prop :=
  (s.schedDenied m e.toNat op k 0 = false → ∃ u, exec i s = .next u ∧ (u.engine e.toNat).cmd = some 0 ∧
    u.fld (tileBlk (tileOf e.toNat)) (statOfs e.toNat) 0 0 = 1 ∧ p u) ∧
  (s.schedDenied m e.toNat op k 0 = true → ∃ u, exec i s = .next u ∧ (u.engine e.toNat).cmd = some 2 ∧
    (u.engine e.toNat).slots = (s.engine e.toNat).slots)

theorem starts_of_performs (h : TakesCmd s m e) (hop : 1 ≤ op ∧ op ≤ 8) (hi : exec i s = s.schedReg m e.toNat op n 0 vec) {v : State} {p : State → Prop}
    (hv : (s.cmdTaken e.toNat n 0 vec).schedPerform e.toNat op n 0 vec = (0, v))
    (hbusy : v.fld (tileBlk (tileOf e.toNat)) (statOfs e.toNat) 0 0 = (s.cmdTaken e.toNat n 0 vec).fld (tileBlk (tileOf e.toNat)) (statOfs e.toNat) 0 0)
    (hp : p (v.cmdEnds e.toNat 0)) : Starts s m e op n i p := by
  have hexec := exec_command h hop (by decide) hi
  refine ⟨fun hd => ?_, fun hd => ?_⟩
  · simp only [hd, Bool.false_eq_true, if_false, hv] at hexec
    exact ⟨_, hexec, State.cmdEnds_cmd .., hbusy.trans (State.cmdTaken_busy ..), hp⟩
  · simp only [hd, if_true] at hexec
    exact ⟨_, hexec, State.cmdEnds_cmd .., State.cmdEnds_slots ..⟩

end

/-! ## SUSPEND, RESUME, UNBIND (R227, Table 06-2) -/

theorem State.suspendTask_waits {s : State} {e n : Nat} (h : (s.slotAt e n).st = .ready ∨ (s.slotAt e n).st = .waiting) :
    s.suspendTask e n = (0, s.updSlot e n (fun q => { q with st := .suspended, wasWaiting := (s.slotAt e n).st == .waiting })) := by
  unfold State.suspendTask
  change (match (s.slotAt e n).st with | .ready => _ | .waiting => _ | .running => _ | .free | .suspended | .stopped => _) = _
  rcases h with h | h <;> rw [h] <;> rfl

theorem State.suspendTask_running {s : State} {e n : Nat} (h : (s.slotAt e n).st = .running) :
    s.suspendTask e n = (0, s.updSlot e n (fun q => { q with suspendReq := true })) := by
  unfold State.suspendTask
  change (match (s.slotAt e n).st with | .ready => _ | .waiting => _ | .running => _ | .free | .suspended | .stopped => _) = _
  rw [h]

theorem State.resumeTask_suspended {s : State} {e n : Nat} (h : (s.slotAt e n).st = .suspended) :
    s.resumeTask e n = (0, if (s.slotAt e n).wasWaiting = true ∧ (s.slotAt e n).pend = 0 then s.updSlot e n (fun q => { q with st := .waiting })
      else (s.makeReady e n).touchTile (tileOf e)) := by
  have hst : Map.get Slot.free (s.engine e).slots n = s.slotAt e n := rfl
  simp only [State.resumeTask, hst, h, ne_eq, not_true_eq_false, if_false, Bool.and_eq_true, beq_iff_eq]
  split_ifs <;> rfl

theorem State.slotAt_freeSlot (s : State) (e n : Nat) : (s.freeSlot e n).slotAt e n = Slot.free := by
  unfold State.freeSlot
  exact State.slotAt_updSlot ..

theorem State.fld_freeSlot (s : State) (e n b o hi lo : Nat) : (s.freeSlot e n).fld b o hi lo = s.fld b o hi lo := by
  unfold State.freeSlot
  dsimp only
  split <;> rfl

/-- The chuck of a task unbound is empty. -/
theorem State.chuck_freeSlot {s : State} {e n c : Nat} (h : (s.slotAt e n).chuck = some c) :
    Map.get Chuck.empty ((s.freeSlot e n).engine e).chucks c = Chuck.empty := by
  unfold State.freeSlot
  change Map.get Chuck.empty (((match (s.slotAt e n).chuck with | some c => s.emptyChuck e c | none => s).updSlot e n _).engine e).chucks c = _
  rw [h]
  simp [State.updSlot, State.emptyChuck]

theorem State.unbindTask_apart {s : State} {e n : Nat} (hfree : (s.slotAt e n).st ≠ .free) (hrun : (s.slotAt e n).st ≠ .running) :
    s.unbindTask e n = (0, s.freeSlot e n) := by
  have hst : Map.get Slot.free (s.engine e).slots n = s.slotAt e n := rfl
  simp only [State.unbindTask, hst, hfree, hrun, if_false]

theorem State.unbindTask_running {s : State} {e n : Nat} (h : (s.slotAt e n).st = .running) :
    s.unbindTask e n = (0, s.updSlot e n (fun q => { q with unbindReq := true })) := by
  have hst : Map.get Slot.free (s.engine e).slots n = s.slotAt e n := rfl
  simp only [State.unbindTask, hst, h, reduceCtorEq, if_false, if_true]

/-! ## WAKE (R254) and QUERY (R262) -/

theorem State.slotFree_eq_false {s : State} {e n : Nat} (h : (s.slotAt e n).st ≠ .free) : s.slotFree e n = false :=
  Bool.eq_false_iff.mpr fun hf => h ((s.slotFree_iff e n).mp hf)

theorem State.fld_deliver (s : State) {e : Nat} (n vec id t : Nat) {o : Nat} (he : tileOf e < 32) (ho : o < 0x10000) (hi lo : Nat) :
    (s.deliver e n vec id).fld (tileBlk t) o hi lo = s.fld (tileBlk t) o hi lo := by
  unfold State.deliver
  dsimp only
  rw [(State.powerOnly_wakeForDelivery _ he).fld t ho]
  split <;> rfl

theorem State.fld_querySlot (s : State) (e n : Nat) :
    let u := s.querySlot e n
    let t := s.slotAt e n
    u.fld (tileBlk (tileOf e)) (statOfs e) 31 16 = t.pend.toNat ∧ u.fld (tileBlk (tileOf e)) (statOfs e) 15 15 = t.chuck.isSome.toNat ∧
      u.fld (tileBlk (tileOf e)) (statOfs e) 11 9 = t.st.code ∧
      u.fld (tileBlk (tileOf e)) (statOfs e) 0 0 = s.fld (tileBlk (tileOf e)) (statOfs e) 0 0 := by
  intro u t
  have hcode : t.st.code < 8 := by cases t.st <;> decide
  have hu : u = (((s.setFld (tileBlk (tileOf e)) (statOfs e) 31 16 t.pend.toNat).setFld (tileBlk (tileOf e)) (statOfs e) 15 15
    t.chuck.isSome.toNat).setFld (tileBlk (tileOf e)) (statOfs e) 14 12 (t.chuck.getD 0)).setFld (tileBlk (tileOf e)) (statOfs e) 11 9 t.st.code := rfl
  rw [hu]
  refine ⟨?_, ?_, State.fld_setFld_self _ _ _ (by decide) (by decide) hcode, ?_⟩
  · iterate 3 rw [State.fld_setFld_apart _ _ _ (by decide) (by decide) (by decide)]
    exact State.fld_setFld_self _ _ _ (by decide) (by decide) t.pend.isLt
  · iterate 2 rw [State.fld_setFld_apart _ _ _ (by decide) (by decide) (by decide)]
    exact State.fld_setFld_self _ _ _ (by decide) (by decide) (Bool.toNat_lt _)
  · iterate 4 rw [State.fld_setFld_apart _ _ _ (by decide) (by decide) (by decide)]

/-! ## SPILL (R263) -/

/-- A chuck whose task does not run, spilled to its save area, is empty, and its task holds no chuck. -/
theorem State.spillChuck_spilled {s u : State} {e c r : Nat} (hocc : (Map.get Chuck.empty (s.engine e).chucks c).occ = some r)
    (hrun : (s.slotAt e r).st ≠ .running) (hspill : (spill e (s.slotAt e r) (Map.get Chuck.empty (s.engine e).chucks c)).run (s.sbDrain e) = .ok () u) :
    s.spillChuck e c = (0, (u.updSlot e r (fun q => { q with chuck := none })).emptyChuck e c) := by
  have hst : Map.get Slot.free (s.engine e).slots r = s.slotAt e r := rfl
  unfold State.spillChuck
  dsimp only
  rw [hocc]
  dsimp only
  rw [hst, if_neg hrun, hspill]

theorem State.emptyChuck_chuck (s : State) (e c : Nat) : Map.get Chuck.empty ((s.emptyChuck e c).engine e).chucks c = Chuck.empty := by
  simp [State.emptyChuck]

theorem State.slotAt_emptyChuck (s : State) (e c n : Nat) : (s.emptyChuck e c).slotAt e n = s.slotAt e n := by
  simp [State.emptyChuck, State.slotAt]

/-- A command of no operation writes the fields alone. -/
theorem State.schedCmd_zero {s : State} {m : Master} {e : Eid} {c : Nat} (n vec : Nat) (hm : ownsCmd m e) (hc : c < 7) :
    s.schedCmd m e.toNat 0 n c vec = s.cmdFields e.toNat n c vec := by
  rw [State.schedCmd_own n vec hm (by omega) hc]
  dsimp only
  rw [if_pos rfl]

/-! ## Completion (R262) -/

theorem State.fld_schedDone (s : State) (e c hi lo : Nat) : (s.schedDone e c).fld (tileBlk (tileOf e)) (statOfs e) hi lo =
    ((s.setFld (tileBlk (tileOf e)) (statOfs e) 0 0 0).setFld (tileBlk (tileOf e)) (statOfs e) 8 5 c).fld (tileBlk (tileOf e)) (statOfs e) hi lo := rfl

theorem exec_schedCommandComplete {s : State} {e : Eid} {c : Nat} (h : (s.engine e.toNat).cmd = some c) :
    ∃ u, exec (.schedCommandComplete e) s = .next u ∧ (u.engine e.toNat).cmd = none ∧
      u.fld (tileBlk (tileOf e.toNat)) (statOfs e.toNat) 0 0 = 0 ∧ u.fld (tileBlk (tileOf e.toNat)) (statOfs e.toNat) 8 5 = c % 16 ∧
      u.events.map (·.1) = s.events.map (·.1) ++ [1024 + 8 * tileOf e.toNat + 2] := by
  have hexec : exec (.schedCommandComplete e) s = .next (s.schedDone e.toNat c) := by
    change execSchedCommandComplete e s = _
    rw [execSchedCommandComplete, h]
  refine ⟨_, hexec, ?_, ?_, ?_, ?_⟩
  · simp [State.schedDone]
  · rw [State.fld_schedDone, State.fld_setFld_apart _ _ _ (by decide) (by decide) (by decide),
      State.fld_setFld_self _ _ _ (le_refl _) (by decide) (by decide)]
  · rw [State.fld_schedDone, State.fld_setFld_mod _ _ _ (by decide) (by decide)]
    norm_num
  · simp [State.schedDone, State.raise]

end Sys2Proof.Machine
end

section
/-!
# BIND and RELOAD: the descriptor of a slot (06_tasks_scheduler, R229 to R232)

A descriptor is 16 cells. The scheduler reads it through a memory map that neither the taking of the command nor what BIND brings into force
(R265) changes.
-/

namespace Sys2Proof.Machine

open Sys2Proof

/-! ## The memory map -/

/-- What the memory map reads (Table 01-6): cache sizes, and registers of MEMA, MEMB and XSPI. -/
theorem State.isMemory_of_map {s t : State} (hcache : ∀ c, t.cacheOf c = s.cacheOf c)
    (hreg : ∀ b o, b = 0x0A ∨ b = 0x0B ∨ b = 0x1C → o = 0x10 ∨ o = 0x14 → t.reg b o = s.reg b o) (a : Nat) : t.isMemory a = s.isMemory a := by
  have hfld : ∀ b o hi lo, b = 0x0A ∨ b = 0x0B ∨ b = 0x1C → o = 0x10 ∨ o = 0x14 → t.fld b o hi lo = s.fld b o hi lo := fun b o hi lo hb ho => by
    rw [State.fld, State.fld, hreg b o hb ho]
  have hdram : ∀ chB ofs, t.dramOk chB ofs = s.dramOk chB ofs := fun chB ofs => by
    have hblk : (if chB then 0x0B else 0x0A) = 0x0A ∨ (if chB then 0x0B else 0x0A) = 0x0B ∨ (if chB then 0x0B else 0x0A) = 0x1C := by cases chB <;> decide
    simp only [State.dramOk, hfld _ 0x14 _ _ hblk (.inr rfl), hfld _ 0x10 _ _ hblk (.inl rfl)]
  refine State.isMemory_congr ?_
  simp only [State.region, hcache, hdram, hfld 0x1C 0x10 _ _ (.inr (.inr rfl)) (.inl rfl)]

theorem State.cacheOf_of_regs {s t : State} {c : Nat}
    (hreg : t.reg (tileBlk (c / 4)) (0x400 + 4 * (c % 4)) = s.reg (tileBlk (c / 4)) (0x400 + 4 * (c % 4)))
    (heff : t.effReg (tileBlk (c / 4)) (0x400 + 4 * (c % 4)) = s.effReg (tileBlk (c / 4)) (0x400 + 4 * (c % 4)))
    (happ : t.applying = s.applying) : t.cacheOf c = s.cacheOf c := by
  have hfld : ∀ hi lo, t.fld (tileBlk (c / 4)) (0x400 + 4 * (c % 4)) hi lo = s.fld (tileBlk (c / 4)) (0x400 + 4 * (c % 4)) hi lo := fun hi lo => by
    rw [State.fld, hreg, State.fld]
  have heffFld : ∀ hi lo, t.effFld (tileBlk (c / 4)) (0x400 + 4 * (c % 4)) hi lo = s.effFld (tileBlk (c / 4)) (0x400 + 4 * (c % 4)) hi lo :=
    fun hi lo => by rw [State.effFld, heff, State.effFld]
  simp only [State.cacheOf, hfld, heffFld, happ]

theorem State.cmdTaken_isMemory (s : State) (e : Eid) (n c vec a : Nat) : (s.cmdTaken e.toNat n c vec).isMemory a = s.isMemory a := by
  have he := tileOf_lt e
  refine State.isMemory_of_map (fun k => State.cacheOf_of_regs (s.cmdTaken_reg _ _ _ _ ?_ ?_) rfl rfl) (fun b p hb hp => s.cmdTaken_reg _ _ _ _ ?_ ?_) a
  all_goals simp only [regKey, tileBlk, cmdOfs, statOfs]; omega

/-! ## What BIND brings into force (R265) -/

/-- The state in which BIND reads its descriptor: with every slot FREE the written class B fields of the engine have come into force, and
SCHED_ECFGn.SPILL has in any case. -/
def State.bindStart (s : State) (e : Nat) : State :=
  let b := tileBlk (tileOf e)
  let u := if (s.engine e).allFree then ((s.boundary b (0x180 + 4 * (e % 32))).boundary b (0x100 + 4 * (e % 32))).arbitrate else s
  { u with eff := Map.put (setBits (u.effReg b (0x100 + 4 * (e % 32))) 0 0 (s.effFld b (0x100 + 4 * (e % 32)) 0 0)) u.eff (regKey b (0x100 + 4 * (e % 32))) }

theorem State.effReg_boundary_self (s : State) (b o : Nat) : (s.boundary b o).effReg b o = s.reg b o := by simp [State.effReg, State.boundary]

theorem State.effReg_boundary_ne (s : State) {b o c p : Nat} (h : regKey c p ≠ regKey b o) : (s.boundary b o).effReg c p = s.effReg c p := by
  simp [State.effReg, State.boundary, Map.get_put_ne _ _ _ h]

theorem State.PowerOnly.effReg {s u : State} (h : s.PowerOnly u) (b o : Nat) : u.effReg b o = s.effReg b o := by rw [State.effReg, h.eff, State.effReg]

section
variable (s : State) (e : Nat)

/-- With every slot FREE: written values in force, and the arbiter run. -/
def State.bindFresh : State :=
  ((s.boundary (tileBlk (tileOf e)) (0x180 + 4 * (e % 32))).boundary (tileBlk (tileOf e)) (0x100 + 4 * (e % 32))).arbitrate

/-- The state whose engines, memory and registers BIND reads, before SPILL comes into force. -/
def State.bindBase : State := if (s.engine e).allFree then s.bindFresh e else s

theorem State.bindFresh_powerOnly :
    ((s.boundary (tileBlk (tileOf e)) (0x180 + 4 * (e % 32))).boundary (tileBlk (tileOf e)) (0x100 + 4 * (e % 32))).PowerOnly (s.bindFresh e) :=
  State.powerOnly_arbitrate _

theorem State.bindStart_eng : (s.bindStart e).eng = s.eng := by
  change (s.bindBase e).eng = s.eng
  unfold State.bindBase
  split
  · exact (s.bindFresh_powerOnly e).eng
  · rfl

theorem State.bindStart_mem : (s.bindStart e).mem = s.mem := by
  change (s.bindBase e).mem = s.mem
  unfold State.bindBase
  split
  · exact (s.bindFresh_powerOnly e).mem
  · rfl

theorem State.bindStart_applying : (s.bindStart e).applying = s.applying := by
  change (s.bindBase e).applying = s.applying
  unfold State.bindBase
  split
  · exact (s.bindFresh_powerOnly e).applying
  · rfl

theorem State.bindStart_reg {b o : Nat} (h1 : b ≠ 1) (h2 : b ≠ 2) (h3 : b ≠ 0x0D) (ho : o < 0x10000) : (s.bindStart e).reg b o = s.reg b o := by
  change (s.bindBase e).reg b o = s.reg b o
  unfold State.bindBase
  split
  · exact (s.bindFresh_powerOnly e).reg b o h1 h2 h3 ho
  · rfl

/-- The value in force of a register other than SCHED_ECFGn and SCHED_DTBn of the engine. -/
theorem State.bindStart_effReg_ne {b o : Nat} (h180 : regKey b o ≠ regKey (tileBlk (tileOf e)) (0x180 + 4 * (e % 32)))
    (h100 : regKey b o ≠ regKey (tileBlk (tileOf e)) (0x100 + 4 * (e % 32))) : (s.bindStart e).effReg b o = s.effReg b o := by
  have hput : (s.bindStart e).effReg b o = (s.bindBase e).effReg b o := Map.get_put_ne _ _ _ h100
  rw [hput]
  unfold State.bindBase
  split
  · rw [(s.bindFresh_powerOnly e).effReg, State.effReg_boundary_ne _ h100, State.effReg_boundary_ne _ h180]
  · rfl

theorem State.bindStart_dtb : (s.bindStart e).effFld (tileBlk (tileOf e)) (0x180 + 4 * (e % 32)) 29 0 =
    if (s.engine e).allFree then s.fld (tileBlk (tileOf e)) (0x180 + 4 * (e % 32)) 29 0 else s.effFld (tileBlk (tileOf e)) (0x180 + 4 * (e % 32)) 29 0 := by
  have hkey : regKey (tileBlk (tileOf e)) (0x180 + 4 * (e % 32)) ≠ regKey (tileBlk (tileOf e)) (0x100 + 4 * (e % 32)) := regKey_ne_of_ofs _ (by omega)
  have hput : (s.bindStart e).effReg (tileBlk (tileOf e)) (0x180 + 4 * (e % 32)) = (s.bindBase e).effReg (tileBlk (tileOf e)) (0x180 + 4 * (e % 32)) :=
    Map.get_put_ne _ _ _ hkey
  rw [State.effFld, hput]
  unfold State.bindBase
  split
  · rw [(s.bindFresh_powerOnly e).effReg, State.effReg_boundary_ne _ hkey, State.effReg_boundary_self, State.fld]
  · rfl

theorem State.bindStart_pairedEng : (s.bindStart e).pairedEng e =
    ((if (s.engine e).allFree then s.fld (tileBlk (tileOf e)) (0x100 + 4 * (e % 32)) 1 1 else s.effFld (tileBlk (tileOf e)) (0x100 + 4 * (e % 32)) 1 1) == 1) := by
  have hput : (s.bindStart e).effReg (tileBlk (tileOf e)) (0x100 + 4 * (e % 32)) =
      setBits ((s.bindBase e).effReg (tileBlk (tileOf e)) (0x100 + 4 * (e % 32))) 0 0 (s.effFld (tileBlk (tileOf e)) (0x100 + 4 * (e % 32)) 0 0) :=
    Map.get_put_self ..
  rw [State.pairedEng, State.effFld, hput, bits_setBits_apart _ (le_refl _) (by decide) (by decide)]
  unfold State.bindBase
  split
  · rw [(s.bindFresh_powerOnly e).effReg, State.effReg_boundary_self]
    rfl
  · rfl

theorem State.bindStart_engine (i : Nat) : (s.bindStart e).engine i = s.engine i := by rw [State.engine, s.bindStart_eng, State.engine]

theorem State.bindStart_isMemory (a : Nat) : (s.bindStart e).isMemory a = s.isMemory a := by
  refine State.isMemory_of_map (fun k => State.cacheOf_of_regs ?_ ?_ (s.bindStart_applying e)) (fun b p hb hp => s.bindStart_reg e ?_ ?_ ?_ ?_) a
  · exact s.bindStart_reg e (by simp only [tileBlk]; omega) (by simp only [tileBlk]; omega) (by simp only [tileBlk]; omega) (by omega)
  · exact s.bindStart_effReg_ne e (by simp only [regKey, tileBlk]; omega) (by simp only [regKey, tileBlk]; omega)
  all_goals omega

end

/-! ## Reading the descriptor -/

/-- The 16 cells from an address on. -/
def State.cells16 (s : State) (a : Nat) : List MCell := (List.range 16).map (fun i => s.mem.cell (a + 16 * i))

/-- A descriptor in memory without an error reads as it is (R231). -/
theorem State.read256_sound {s : State} {a : Nat} (e : Nat) (hal : a % 16 = 0) (hlo : s.isMemory a = true) (hhi : s.isMemory (a + 255) = true)
    (herr : ∀ i, i < 16 → s.mem.err (a + 16 * i) = 0) : s.read256 a e = (some (s.cells16 a), s) := by
  have hcell : ∀ i, i < 16 → s.readCell (a + 16 * i) (a + 16 * i) 0xC e = (some (s.mem.cell (a + 16 * i)), s) := fun i hi => by
    refine s.readCell_clean _ _ _ ?_
    rw [alignDown, show a + 16 * i - (a + 16 * i) % 16 = a + 16 * i by omega]
    exact herr i hi
  have hfold : ∀ (l : List Nat) (acc : List MCell), (∀ i ∈ l, i < 16) → l.foldl (fun (r : Option (List MCell) × State) i =>
      match r with
      | (none, t) => (none, t)
      | (some l, t) =>
        match t.readCell (a + 16 * i) (a + 16 * i) 0xC e with
        | (some c, u) => (some (l ++ [c]), u)
        | (none, u) => (none, u)) (some acc, s) = (some (acc ++ l.map (fun i => s.mem.cell (a + 16 * i))), s) := by
    intro l
    induction l with
    | nil => simp
    | cons i l ih =>
      intro acc hl
      rw [List.foldl_cons]
      dsimp only
      rw [hcell i (hl i List.mem_cons_self)]
      dsimp only
      rw [ih _ fun j hj => hl j (List.mem_cons_of_mem i hj), List.map_cons, List.append_assoc, List.singleton_append]
  unfold State.read256
  rw [hlo, hhi, if_neg (by decide)]
  exact (hfold _ [] fun i hi => List.mem_range.mp hi).trans (by rw [List.nil_append, State.cells16])

/-- The descriptor at an address lies in memory, holds no error, and describes the slot `d` (Tables 06-3, 06-4). -/
structure State.Describes (s : State) (a : Nat) (d : Slot) : Prop where
  lo : s.isMemory a = true
  hi : s.isMemory (a + 255) = true
  err : ∀ i, i < 16 → s.mem.err (a + 16 * i) = 0
  slot : descSlot (s.cells16 a) = some d

theorem State.Describes.congr {s t : State} {a : Nat} {d : Slot} (h : s.Describes a d) (hmap : ∀ a, t.isMemory a = s.isMemory a) (hmem : t.mem = s.mem) :
    t.Describes a d where
  lo := (hmap a).trans h.lo
  hi := (hmap _).trans h.hi
  err := hmem ▸ h.err
  slot := by rw [State.cells16, hmem]; exact h.slot

theorem descAddr_mod (s : State) (e k : Nat) : s.descAddr e k % 16 = 0 := by
  unfold State.descAddr
  omega

/-- RELOAD takes PRIO, EMASK and SLICE from the descriptor (R232). -/
theorem State.reloadTask_described {s : State} {e k : Nat} {d : Slot} (hbound : (s.slotAt e k).st ≠ .free) (h : s.Describes (s.descAddr e k) d) :
    s.reloadTask e k = (0, s.updSlot e k (fun q => { q with prio := d.prio, emask := d.emask, slice := d.slice })) := by
  obtain ⟨hlo, hhi, herr, hslot⟩ := h
  unfold State.reloadTask
  rw [State.slotFree_eq_false hbound, if_neg (by decide), State.read256_sound e (descAddr_mod s e k) hlo hhi herr]
  dsimp only
  rw [hslot]

/-- The slot that BIND makes, last of its priority (R231, R247). -/
def State.bound (s : State) (e k : Nat) (d : Slot) : State :=
  ((s.updSlot e k (fun _ => { d with readyAt := (s.engine e).readyCtr })).updEngine e Engine.tick).touchTile (tileOf e)

/-- BIND of a FREE slot by a descriptor of the engine's own kind (R231). -/
theorem State.bindTask_described {s : State} {e k : Nat} {d : Slot} (hfree : (s.slotAt e k).st = .free)
    (h : (s.bindStart e).Describes ((s.bindStart e).descAddr e k) d) (hpaired : d.paired = (s.bindStart e).pairedEng e) :
    s.bindTask e k = (0, (s.bindStart e).bound e k d) := by
  obtain ⟨hlo, hhi, herr, hslot⟩ := h
  unfold State.bindTask
  rw [(s.slotFree_iff e k).mpr hfree, if_neg (by decide)]
  change (match (s.bindStart e).read256 ((s.bindStart e).descAddr e k) e with | (none, t) => _ | (some l, t) => _) = _
  rw [State.read256_sound e (descAddr_mod _ e k) hlo hhi herr]
  dsimp only
  rw [hslot]
  dsimp only
  rw [if_neg (by simp [hpaired])]
  rfl

theorem State.slotAt_bound (s : State) {e : Nat} (k : Nat) (d : Slot) (he : tileOf e < 32) :
    (s.bound e k d).slotAt e k = { d with readyAt := (s.engine e).readyCtr } := by
  rw [State.bound, (State.powerOnly_touchTile _ he).slotAt]
  simp [State.slotAt, State.updSlot, Map.upd, Engine.tick]

theorem State.fld_bound (s : State) {e : Nat} (k : Nat) (d : Slot) (he : tileOf e < 32) (t : Nat) {o : Nat} (ho : o < 0x10000) (hi lo : Nat) :
    (s.bound e k d).fld (tileBlk t) o hi lo = s.fld (tileBlk t) o hi lo := by
  rw [State.bound, (State.powerOnly_touchTile _ he).fld t ho]
  rfl

/-! ## The two commands -/

section
variable {s : State} {e : Eid} {k : Nat} {d : Slot}

theorem State.schedPerform_reload {c vec : Nat} (hbound : (s.slotAt e.toNat k).st ≠ .free) (h : s.Describes (s.descAddr e.toNat k) d) :
    (s.cmdTaken e.toNat k c vec).schedPerform e.toNat 8 k c vec =
      (0, (s.cmdTaken e.toNat k c vec).updSlot e.toNat k (fun q => { q with prio := d.prio, emask := d.emask, slice := d.slice })) :=
  State.reloadTask_described hbound (h.congr (s.cmdTaken_isMemory e k c vec) rfl)

/-- The start of BIND from a command taken, in terms of the state before it. -/
theorem State.schedPerform_bind {c vec : Nat} (hfree : (s.slotAt e.toNat k).st = .free)
    (h : s.Describes ((if (s.engine e.toNat).allFree then s.fld (tileBlk (tileOf e.toNat)) (0x180 + 4 * (e.toNat % 32)) 29 0
      else s.effFld (tileBlk (tileOf e.toNat)) (0x180 + 4 * (e.toNat % 32)) 29 0) * 2 ^ 14 + 256 * k) d)
    (hpaired : d.paired = ((if (s.engine e.toNat).allFree then s.fld (tileBlk (tileOf e.toNat)) (0x100 + 4 * (e.toNat % 32)) 1 1
      else s.effFld (tileBlk (tileOf e.toNat)) (0x100 + 4 * (e.toNat % 32)) 1 1) == 1)) :
    (s.cmdTaken e.toNat k c vec).schedPerform e.toNat 1 k c vec = (0, ((s.cmdTaken e.toNat k c vec).bindStart e.toNat).bound e.toNat k d) := by
  have hcfg : ∀ o hi lo, o < 0x200 → (s.cmdTaken e.toNat k c vec).fld (tileBlk (tileOf e.toNat)) o hi lo = s.fld (tileBlk (tileOf e.toNat)) o hi lo := by
    intro o hi lo ho
    rw [State.fld, State.cmdTaken_reg, State.fld] <;> exact regKey_ne_of_ofs _ (by simp only [cmdOfs, statOfs]; omega)
  refine State.bindTask_described hfree ?_ ?_
  · rw [State.descAddr, State.bindStart_dtb, hcfg _ _ _ (by omega), State.cmdTaken_engine, State.cmdTaken_effFld]
    refine h.congr (fun a => ?_) (State.bindStart_mem ..)
    rw [State.bindStart_isMemory, State.cmdTaken_isMemory]
  · rw [State.bindStart_pairedEng, hcfg _ _ _ (by omega), State.cmdTaken_engine, State.cmdTaken_effFld, hpaired]

end

end Sys2Proof.Machine
end

section
/-!
# The scheduler commands as commands (06_tasks_scheduler, Table 06-9)
-/

namespace Sys2Proof.Machine

open Sys2Proof

section
variable {s : State} {m : Master} {e : Eid} (h : TakesCmd s m e) (slot : BitVec 6)
include h

theorem suspend_starts_waits (hst : (s.slotAt e.toNat slot.toNat).st = .ready ∨ (s.slotAt e.toNat slot.toNat).st = .waiting) :
    Starts s m e 3 slot.toNat (.suspend m e slot) (fun u => (u.slotAt e.toNat slot.toNat).st = .suspended ∧
      (u.slotAt e.toNat slot.toNat).wasWaiting = ((s.slotAt e.toNat slot.toNat).st == .waiting)) := by
  refine starts_of_performs h (by decide) rfl (State.suspendTask_waits hst) (State.fld_updSlot ..) ?_
  rw [State.cmdEnds_slotAt, State.slotAt_updSlot]
  exact ⟨rfl, rfl⟩

theorem suspend_starts_running (hst : (s.slotAt e.toNat slot.toNat).st = .running) :
    Starts s m e 3 slot.toNat (.suspend m e slot) (fun u => (u.slotAt e.toNat slot.toNat).st = .running ∧
      (u.slotAt e.toNat slot.toNat).suspendReq = true) := by
  refine starts_of_performs h (by decide) rfl (State.suspendTask_running hst) (State.fld_updSlot ..) ?_
  rw [State.cmdEnds_slotAt, State.slotAt_updSlot]
  exact ⟨hst, rfl⟩

theorem resume_starts (hst : (s.slotAt e.toNat slot.toNat).st = .suspended) :
    Starts s m e 4 slot.toNat (.resume m e slot) (fun u => (u.slotAt e.toNat slot.toNat).st =
      if (s.slotAt e.toNat slot.toNat).wasWaiting = true ∧ (s.slotAt e.toNat slot.toNat).pend = 0 then .waiting else .ready) := by
  have htouch := State.powerOnly_touchTile ((s.cmdTaken e.toNat slot.toNat 0 0).makeReady e.toNat slot.toNat) (tileOf_lt e)
  refine starts_of_performs h (by decide) rfl (State.resumeTask_suspended hst) ?_ ?_
  · split
    · exact State.fld_updSlot ..
    · rw [htouch.fld _ (statOfs_lt _) 0 0, State.fld_makeReady]
  · rw [State.cmdEnds_slotAt, State.cmdTaken_slotAt]
    split
    · rw [State.slotAt_updSlot]
    · rw [htouch.slotAt, State.slotAt_makeReady]

theorem unbind_starts_apart (hfree : (s.slotAt e.toNat slot.toNat).st ≠ .free) (hrun : (s.slotAt e.toNat slot.toNat).st ≠ .running) :
    Starts s m e 2 slot.toNat (.unbind m e slot) (fun u => u.slotAt e.toNat slot.toNat = Slot.free ∧
      ∀ c, (s.slotAt e.toNat slot.toNat).chuck = some c → Map.get Chuck.empty (u.engine e.toNat).chucks c = Chuck.empty) := by
  refine starts_of_performs h (by decide) rfl (State.unbindTask_apart hfree hrun) (State.fld_freeSlot ..) ⟨?_, fun c hc => ?_⟩
  · rw [State.cmdEnds_slotAt, State.slotAt_freeSlot]
  · rw [State.cmdEnds_chucks]
    exact State.chuck_freeSlot hc

theorem unbind_starts_running (hst : (s.slotAt e.toNat slot.toNat).st = .running) :
    Starts s m e 2 slot.toNat (.unbind m e slot) (fun u => (u.slotAt e.toNat slot.toNat).unbindReq = true) := by
  refine starts_of_performs h (by decide) rfl (State.unbindTask_running hst) (State.fld_updSlot ..) ?_
  rw [State.cmdEnds_slotAt, State.slotAt_updSlot]

theorem wake_starts (vec : BitVec 4) (hfree : (s.slotAt e.toNat slot.toNat).st ≠ .free) :
    Starts s m e 5 slot.toNat (.wake m e slot vec) (fun u => bit (u.slotAt e.toNat slot.toNat).pend vec.toNat = true ∧
      Map.get 0 (u.slotAt e.toNat slot.toNat).evids vec.toNat = 0x800 ∧
      ((s.slotAt e.toNat slot.toNat).st = .waiting → (s.engine e.toNat).dbg.halted = false → (u.slotAt e.toNat slot.toNat).st = .ready)) := by
  have hbound : (s.cmdTaken e.toNat slot.toNat 0 vec.toNat).slotFree e.toNat slot.toNat = false := State.slotFree_eq_false hfree
  have hperform : (s.cmdTaken e.toNat slot.toNat 0 vec.toNat).schedPerform e.toNat 5 slot.toNat 0 vec.toNat =
      (0, (s.cmdTaken e.toNat slot.toNat 0 vec.toNat).deliver e.toNat slot.toNat vec.toNat 0x800) :=
    if_neg (by simp [hbound])
  obtain ⟨hpend, hid, hst⟩ := State.slotAt_deliver (s.cmdTaken e.toNat slot.toNat 0 vec.toNat) e.toNat slot.toNat 0x800 vec.isLt
  refine starts_of_performs h (by decide) rfl hperform (State.fld_deliver _ _ _ _ _ (tileOf_lt e) (statOfs_lt _) 0 0) ?_
  rw [State.cmdEnds_slotAt]
  exact ⟨hpend, hid, fun hw hh => hst.trans (if_pos ⟨hw, hh⟩)⟩

theorem query_starts :
    Starts s m e 7 slot.toNat (.query m e slot) (fun u => u.fld (tileBlk (tileOf e.toNat)) (statOfs e.toNat) 11 9 = (s.slotAt e.toNat slot.toNat).st.code ∧
      u.fld (tileBlk (tileOf e.toNat)) (statOfs e.toNat) 31 16 = (s.slotAt e.toNat slot.toNat).pend.toNat ∧
      u.fld (tileBlk (tileOf e.toNat)) (statOfs e.toNat) 15 15 = (s.slotAt e.toNat slot.toNat).chuck.isSome.toNat) := by
  obtain ⟨hpend, hchuck, hst, hbusy⟩ := State.fld_querySlot (s.cmdTaken e.toNat slot.toNat 0 0) e.toNat slot.toNat
  rw [State.cmdTaken_slotAt] at hpend hchuck hst
  have hperform : (s.cmdTaken e.toNat slot.toNat 0 0).schedPerform e.toNat 7 slot.toNat 0 0 =
      (0, (s.cmdTaken e.toNat slot.toNat 0 0).querySlot e.toNat slot.toNat) := rfl
  refine starts_of_performs h (by decide) rfl hperform hbusy ?_
  simp only [State.cmdEnds_fld]
  exact ⟨hst, hpend, hchuck⟩

theorem bind_starts {d : Slot} (hfree : (s.slotAt e.toNat slot.toNat).st = .free)
    (hd : s.Describes ((if (s.engine e.toNat).allFree then s.fld (tileBlk (tileOf e.toNat)) (0x180 + 4 * (e.toNat % 32)) 29 0
      else s.effFld (tileBlk (tileOf e.toNat)) (0x180 + 4 * (e.toNat % 32)) 29 0) * 2 ^ 14 + 256 * slot.toNat) d)
    (hpaired : d.paired = ((if (s.engine e.toNat).allFree then s.fld (tileBlk (tileOf e.toNat)) (0x100 + 4 * (e.toNat % 32)) 1 1
      else s.effFld (tileBlk (tileOf e.toNat)) (0x100 + 4 * (e.toNat % 32)) 1 1) == 1)) :
    Starts s m e 1 slot.toNat (.bind m e slot) (fun u => u.slotAt e.toNat slot.toNat = { d with readyAt := (s.engine e.toNat).readyCtr }) := by
  have hblk : ∀ t, tileBlk t ≠ 1 ∧ tileBlk t ≠ 2 ∧ tileBlk t ≠ 0x0D := fun t => by simp only [tileBlk]; omega
  obtain ⟨h1, h2, h3⟩ := hblk (tileOf e.toNat)
  refine starts_of_performs h (by decide) rfl (State.schedPerform_bind hfree hd hpaired) ?_ ?_
  · rw [State.fld_bound _ _ _ (tileOf_lt e) _ (statOfs_lt _), State.fld, State.bindStart_reg _ _ h1 h2 h3 (statOfs_lt _), State.fld]
  · rw [State.cmdEnds_slotAt, State.slotAt_bound _ _ _ (tileOf_lt e), State.bindStart_engine, State.cmdTaken_engine]

theorem reload_starts {d : Slot} (hbound : (s.slotAt e.toNat slot.toNat).st ≠ .free) (hd : s.Describes (s.descAddr e.toNat slot.toNat) d) :
    Starts s m e 8 slot.toNat (.reload m e slot) (fun u => u.slotAt e.toNat slot.toNat =
      { s.slotAt e.toNat slot.toNat with prio := d.prio, emask := d.emask, slice := d.slice }) := by
  refine starts_of_performs h (by decide) rfl (State.schedPerform_reload hbound hd) (State.fld_updSlot ..) ?_
  rw [State.cmdEnds_slotAt, State.slotAt_updSlot, State.cmdTaken_slotAt]

/-- SPILL of a chuck whose task does not run, by a master that may give it. -/
theorem exec_spill_spilled {chuck : BitVec 3} {r : Nat} {u : State} (hc : chuck ≠ 7)
    (hocc : (Map.get Chuck.empty (s.engine e.toNat).chucks chuck.toNat).occ = some r) (hrun : (s.slotAt e.toNat r).st ≠ .running)
    (hden : s.schedDenied m e.toNat 6 0 chuck.toNat = false)
    (hspill : (spill e.toNat (s.slotAt e.toNat r) (Map.get Chuck.empty (s.engine e.toNat).chucks chuck.toNat)).run
      (((s.schedCmd m e.toNat 0 0 chuck.toNat 0).setFld (tileBlk (tileOf e.toNat)) (statOfs e.toNat) 0 0 1).sbDrain e.toNat) = .ok () u) :
    ∃ v, exec (.spill m e chuck) s = .next v ∧ (v.engine e.toNat).cmd = some 0 ∧
      Map.get Chuck.empty (v.engine e.toNat).chucks chuck.toNat = Chuck.empty ∧ (v.slotAt e.toNat r).chuck = none := by
  have hc7 : chuck.toNat < 7 := by
    have := chuck.isLt
    have : chuck.toNat ≠ 7 := fun h7 => hc (BitVec.eq_of_toNat_eq h7)
    omega
  rw [State.schedCmd_zero 0 0 h.owns hc7] at hspill
  have hperform : (s.cmdTaken e.toNat 0 chuck.toNat 0).schedPerform e.toNat 6 0 chuck.toNat 0 =
      (0, (u.updSlot e.toNat r (fun q => { q with chuck := none })).emptyChuck e.toNat chuck.toNat) :=
    State.spillChuck_spilled hocc hrun hspill
  have hexec := exec_command (i := .spill m e chuck) h (by decide) hc7 rfl
  simp only [hden, Bool.false_eq_true, if_false, hperform] at hexec
  refine ⟨_, hexec, State.cmdEnds_cmd .., ?_, ?_⟩
  · rw [State.cmdEnds_chucks, State.emptyChuck_chuck]
  · rw [State.cmdEnds_slotAt, State.slotAt_emptyChuck, State.slotAt_updSlot]

end

/-- Settles O36: a command is taken or denied by `starts_of_performs`, and each one's effect is what its own function of the scheduler leaves. -/
theorem schedulerCommands : Obligations.SchedulerCommands := by
  unfold Obligations.SchedulerCommands
  intro s m e slot vec chuck t
  dsimp only
  rintro hm hl hbusy rfl
  have h : TakesCmd s m e := ⟨hm, hl, hbusy⟩
  exact ⟨suspend_starts_waits h slot, suspend_starts_running h slot, resume_starts h slot, unbind_starts_apart h slot, unbind_starts_running h slot,
    wake_starts h slot vec, query_starts h slot,
    fun d => ⟨fun hfree ⟨hlo, hhi, herr, hslot⟩ hpaired => bind_starts h slot hfree ⟨hlo, hhi, herr, hslot⟩ hpaired,
      fun hbound ⟨hlo, hhi, herr, hslot⟩ => reload_starts h slot hbound ⟨hlo, hhi, herr, hslot⟩⟩,
    fun r u hc hocc hrun hden hspill => exec_spill_spilled h hc hocc hrun hden hspill, fun c hc => exec_schedCommandComplete hc⟩

end Sys2Proof.Machine
end

section
/-!
# What firmware reads (14_cretal_mailboxes, R491 to R494, R505 to R508)

Firmware reaches registers while Cretal's MPU stands as it was. A register without WO and RC fields reads the same twice, and its read
changes nothing.
-/

namespace Sys2Proof.Machine

open Sys2Proof

/-! ## An answer -/

/-- The service of a request that asks for the command: what the command's own run comes to (R505, R506). -/
theorem serve_asked {s : State} {n : BitVec 5} {code : Nat} {q : Req} (h : Asks s n code q) (body : Req → FM (List Byte)) :
    s.serve n.toNat code body = match (body q).run s with
      | .ok p t => t.answer q 0 p
      | .error (.ans st p) t => t.answer q st p
      | .error .bg t => t
      | .error .wait _ => s := by
  obtain ⟨⟨hram, -, -⟩, hserved, hcode, hcrc, hnew, hform⟩ := h
  simp only [State.serve, hserved]
  rw [if_neg (fun hne => hne.1 hcode), cretalRun_of _ _ hram, State.serveReq, if_neg (not_not_intro hcrc), hnew]
  dsimp only
  rw [hform] <;> rfl

section
variable {s t : State} {n : BitVec 5} {code : Nat} {q : Req} {body : Req → FM (List Byte)} {i : Instr} {st : Nat} {p : List Byte}

/-- A command that ends well answers OK. -/
theorem answers_ok (h : Asks s n code q) (hi : exec i s = .next (s.serve n.toNat code body)) (hrun : (body q).run s = .ok p t) : Answers i s t q 0 p := by
  rw [Answers, hi, serve_asked h, hrun]

/-- A command that ends with a status answers it. -/
theorem answers_status (h : Asks s n code q) (hi : exec i s = .next (s.serve n.toNat code body)) (hrun : (body q).run s = .error (.ans st p) t) :
    Answers i s t q st p := by
  rw [Answers, hi, serve_asked h, hrun]

end

theorem need_fails {c : Bool} (st : Nat) (s : State) (h : c = false) : (need c st).run s = .error (.ans st []) s := by
  rw [need, if_neg (by simp [h]), fail, fm_throw]

/-! ## Cretal's MPU as it was -/

/-- What the checks of Cretal's accesses read is as in `s`: the modes and Cretal's MPU. -/
def State.MpuStands (s u : State) : Prop := u.safe = s.safe ∧ u.eff = s.eff ∧ ∀ o, o < 0x10000 → u.reg 0x100 o = s.reg 0x100 o

theorem State.MpuStands.mpuWin {s u : State} (h : s.MpuStands u) (pa : Nat) :
    u.mpuWin 0x100 0x1000 pa 16 = s.mpuWin 0x100 0x1000 pa 16 := by
  obtain ⟨hsafe, heff, hreg⟩ := h
  have hstands : s.Stands { u with eng := s.eng } := ⟨hsafe, heff, rfl, hreg⟩
  exact hstands.mpuWin pa (le_refl _)

/-- Cretal's MPU decides a read or a write as before (R341, R342). -/
theorem State.MpuStands.mpuDecide {s u : State} (h : s.MpuStands u) (pa : Nat) {acc : Access} (hacc : acc ≠ .exec) (mt : MemType) :
    u.mpuDecide .cretal pa acc true false mt = s.mpuDecide .cretal pa acc true false mt := by
  obtain ⟨hsafe, -, hreg⟩ := id h
  have hstrict : u.mpuStrict .cretal = s.mpuStrict .cretal := by
    have hctl : u.fld (mpuAt .cretal).1 (mpuAt .cretal).2.2 0 0 = s.fld (mpuAt .cretal).1 (mpuAt .cretal).2.2 0 0 :=
      congrArg (bits · 0 0) (hreg 0x1100 (by omega))
    rw [State.mpuStrict, State.mpuStrict, State.mode_of_safe hsafe, hctl]
  have hexec : (acc == Access.exec) = false := by simpa using hacc
  unfold State.mpuDecide
  dsimp only [mpuAt]
  rw [h.mpuWin]
  cases hw : s.mpuWin 0x100 0x1000 pa 16 with
  | none => simp only [hstrict, hexec, Bool.false_and]
  | some w =>
    have := State.mpuWin_lt hw
    dsimp only
    rw [hreg _ (by omega)]

theorem State.MpuStands.cretalRegs {s u : State} (h : s.MpuStands u) (hs : CretalRegs s) : CretalRegs u := by
  intro b o acc hb ho hacc
  have hlets : u.lets .cretal b o acc = s.lets .cretal b o acc := by simp only [State.lets, h.mpuDecide _ hacc]
  exact hlets.trans (hs b o acc hb ho hacc)

/-! ## Reads of registers -/

theorem fwRead_run {s : State} {b o : Nat} (h : s.lets .cretal b o .read = true) :
    (fwRead b o).run s = .ok (s.regRead .cretal b o).1 (s.regRead .cretal b o).2 := by
  rw [fwRead, fm_bind, fwReach_run h]
  dsimp only
  rw [fm_bind, fm_get]
  dsimp only
  rw [fm_bind]
  rfl

/-- `u` is `s` but for the registers of `l` and for what neither the modes nor the registers show. -/
def State.RegsOnly (s : State) (l : List (Nat × Nat)) (u : State) : Prop :=
  u.safe = s.safe ∧ u.eff = s.eff ∧ ∀ c p, (∀ a ∈ l, regKey c p ≠ regKey a.1 a.2) → u.reg c p = s.reg c p

theorem State.RegsOnly.refl (s : State) (l : List (Nat × Nat)) : s.RegsOnly l s := ⟨rfl, rfl, fun _ _ _ => rfl⟩

theorem State.RegsOnly.cons {s t u : State} {a : Nat × Nat} {l : List (Nat × Nat)} (h : s.RegsOnly [a] t) (h' : t.RegsOnly l u) :
    s.RegsOnly (a :: l) u := by
  obtain ⟨hsafe, heff, hreg⟩ := h
  obtain ⟨hsafe', heff', hreg'⟩ := h'
  refine ⟨hsafe'.trans hsafe, heff'.trans heff, fun c p hne => ?_⟩
  obtain ⟨hhead, htail⟩ := List.forall_mem_cons.mp hne
  exact (hreg' c p htail).trans (hreg c p (by simpa using hhead))

/-- Registers of the blocks of Table 01-7 are not Cretal's MPU. -/
theorem State.RegsOnly.mpuStands {s u : State} {l : List (Nat × Nat)} (h : s.RegsOnly l u) (hl : ∀ a ∈ l, a.1 < 0x100 ∧ a.2 < 0x10000) :
    s.MpuStands u := by
  obtain ⟨hsafe, heff, hreg⟩ := h
  refine ⟨hsafe, heff, fun o ho => hreg 0x100 o (fun a ha => ?_)⟩
  obtain ⟨hb, hp⟩ := hl a ha
  exact regKey_ne_of_blk (by omega) hp ho

theorem State.regsOnly_readLive (s : State) (m : Master) (b o : Nat) : s.RegsOnly [(b, o)] (s.readLive m b o).2 := by
  unfold State.readLive
  split
  · exact .refl s _
  · dsimp only
    split
    · exact .refl s _
    · exact ⟨rfl, rfl, fun c p hne => State.reg_setReg_ne s _ (hne (b, o) List.mem_cons_self)⟩

/-- The blocks whose registers read without an effect on another unit: not MBX, SENSE or DBG. -/
def readsApart (b : Nat) : Prop := b < 0x100 ∧ b ≠ 5 ∧ b ≠ 0x0E ∧ b ≠ 0x1E

theorem blkOf_ne_mbx {b : Nat} (h : b ≠ 5) : blkOf b ≠ some .mbx := by
  unfold blkOf
  split
  case h_6 => exact absurd rfl h
  case h_23 => split_ifs <;> simp
  all_goals simp

theorem State.regsOnly_readSpan (s : State) (m : Master) {b : Nat} (o : Nat) (hb : readsApart b) (l : List (Nat × Nat)) :
    s.RegsOnly l (s.readSpan m b o).2.2 := by
  obtain ⟨-, -, -, hdbg⟩ := hb
  unfold State.readSpan
  rw [if_neg hdbg]
  split <;> exact .refl s l

theorem State.regsOnly_regRead (s : State) (m : Master) {b : Nat} (o : Nat) (hb : readsApart b) : s.RegsOnly [(b, o)] (s.regRead m b o).2 := by
  obtain ⟨-, hmbx, hsense, hdbg⟩ := id hb
  unfold State.regRead
  dsimp only
  rw [if_neg (fun h => blkOf_ne_mbx hmbx h.1)]
  split
  · exact s.regsOnly_readSpan m o hb _
  · split
    · exact .refl s _
    · rw [if_neg (fun h : b = 0x1E ∧ _ => hdbg h.1), if_neg (fun h : b = 0x0E ∧ _ => hsense h.1)]
      split
      · exact s.regsOnly_readSpan m _ hb _
      · exact s.regsOnly_readLive m b o

/-- Firmware reads registers one after another (R492): only those registers change. -/
theorem fwReads_run {s : State} (hs : CretalRegs s) {l : List (Nat × Nat)} (hl : ∀ p ∈ l, readsApart p.1 ∧ p.2 < 0x10000) :
    ∃ p t, (fwReads l).run s = .ok p t ∧ s.RegsOnly l t := by
  have hfold : ∀ (l : List (Nat × Nat)) (acc : List Byte) (u : State), (∀ p ∈ l, readsApart p.1 ∧ p.2 < 0x10000) → CretalRegs u →
      ∃ p t, (l.foldlM (fun acc p => do
        let w ← fwRead p.1 p.2
        pure (acc ++ toBytes 4 w.toNat)) acc : FM (List Byte)).run u = .ok p t ∧ u.RegsOnly l t := by
    intro l
    induction l with
    | nil => exact fun acc u _ _ => ⟨acc, u, fm_pure _ _, .refl u _⟩
    | cons a l ih =>
      intro acc u hl hu
      obtain ⟨hblk, hofs⟩ := hl a List.mem_cons_self
      have hread := u.regsOnly_regRead .cretal a.2 hblk
      have hregs : CretalRegs (u.regRead .cretal a.1 a.2).2 := (hread.mpuStands (by simp [hblk.1, hofs])).cretalRegs hu
      obtain ⟨p, t, hrun, ht⟩ := ih (acc ++ toBytes 4 (u.regRead .cretal a.1 a.2).1.toNat) _ (fun p hp => hl p (List.mem_cons_of_mem a hp)) hregs
      refine ⟨p, t, ?_, hread.cons ht⟩
      rw [List.foldlM_cons, fm_bind, fm_bind, fwRead_run (hu _ _ _ hblk.1 hofs (by decide))]
      dsimp only
      rw [fm_pure]
      exact hrun
  exact hfold l [] s hl hs

/-! ## Registers without WO and RC fields -/

theorem fldsRead_plain (clear : Bool) {l : List Fld} (h : ∀ f ∈ l, f.acc ≠ .wo ∧ f.acc ≠ .rc) (w st : Word) : fldsRead clear l w st = (w, st) := by
  unfold fldsRead
  induction l with
  | nil => rfl
  | cons f l ih =>
    obtain ⟨hwo, hrc⟩ := h f List.mem_cons_self
    rw [List.foldl_cons]
    cases hacc : f.acc
    case wo => exact absurd hacc hwo
    case rc => exact absurd hacc hrc
    all_goals exact ih (fun g hg => h g (List.mem_cons_of_mem f hg))

/-- A register outside MBX, SENSE and DBG, of one word, whose row has no field that reads apart from its value or changes with a read. -/
structure PlainReg (b o : Nat) : Prop where
  apart : readsApart b
  notLow : spanLow b o = false
  notHigh : 4 ≤ o → spanLow b (o - 4) = false
  row : ∃ r, regRow b o = some r ∧ ∀ f ∈ r.flds, f.acc ≠ .wo ∧ f.acc ≠ .rc

/-- The read of a plain register gives its value and changes nothing. -/
theorem PlainReg.regRead {b o : Nat} (h : PlainReg b o) (s : State) (m : Master) : s.regRead m b o = (s.readComputed (masterIdx m) b o, s) := by
  obtain ⟨⟨-, hmbx, hsense, hdbg⟩, hlow, hhigh, r, hrow, hflds⟩ := h
  have hno : ¬(4 ≤ o ∧ spanLow b (o - 4) = true) := fun hc => by simp [hhigh hc.1] at hc
  unfold State.regRead
  dsimp only
  rw [if_neg (fun hc => blkOf_ne_mbx hmbx hc.1), if_neg (by simp [hlow]), if_neg hno]
  dsimp only
  rw [if_neg (fun hc => hno ⟨hc.1, hc.2.1⟩), if_neg (fun hc : b = 0x1E ∧ _ => hdbg hc.1), if_neg (fun hc : b = 0x0E ∧ _ => hsense hc.1)]
  unfold State.readLive
  rw [hrow]
  dsimp only
  rw [fldsRead_plain _ hflds, if_pos rfl]

/-- Firmware reads a plain register (R492). -/
theorem PlainReg.fwRead {b o : Nat} (h : PlainReg b o) {s : State} (hs : CretalRegs s) (ho : o < 0x10000) :
    (fwRead b o).run s = .ok (s.readComputed 1024 b o) s := by
  rw [fwRead_run (hs b o .read h.apart.1 ho (by decide)), h.regRead]
  rfl

end Sys2Proof.Machine
end

section
/-!
# The firmware commands that report: registers and memory (14_cretal_mailboxes, Tables 14-12 and 14-13)

Each command's body is followed on a state where firmware reaches what it uses.
-/

namespace Sys2Proof.Machine

open Sys2Proof

/-! ## Registers that read as they are -/

theorem plainReg_sysid : PlainReg 0 0 := ⟨by unfold readsApart; omega, rfl, by decide, _, rfl, by decide⟩
theorem plainReg_budget : PlainReg 2 0x10 := ⟨by unfold readsApart; omega, rfl, by decide, _, rfl, by decide⟩
theorem plainReg_grant : PlainReg 2 0x14 := ⟨by unfold readsApart; omega, rfl, by decide, _, rfl, by decide⟩
theorem plainReg_safeCause : PlainReg 6 0x14 := ⟨by unfold readsApart; omega, rfl, by decide, _, rfl, by decide⟩
theorem plainReg_timeStat : PlainReg 0x0C 0x1C := ⟨by unfold readsApart; omega, rfl, by decide, _, rfl, by decide⟩

/-! ## Reads through Cretal's MPU -/

theorem forM_run_mem {α : Type} {f : α → FM Unit} {s : State} {l : List α} (h : ∀ a ∈ l, (f a).run s = .ok ⟨⟩ s) : (l.forM f).run s = .ok ⟨⟩ s := by
  induction l with
  | nil => exact fm_pure _ _
  | cons a l ih =>
    rw [List.forM, fm_bind, h a List.mem_cons_self]
    exact ih (fun b hb => h b (List.mem_cons_of_mem a hb))

theorem State.mpuCheck_fst (s : State) (u : MpuUnit) (pa : Nat) (acc : Access) (atK paired : Bool) (mt : MemType) (lvl src : Nat) :
    (s.mpuCheck u pa acc atK paired mt lvl src).1 = (s.mpuDecide u pa acc atK paired mt).1 := by
  rw [State.mpuCheck]
  rcases s.mpuDecide u pa acc atK paired mt with ⟨_ | r, w⟩ <;> rfl

/-- An access that the MPU allows leaves the state as it was. -/
theorem State.mpuCheck_allowed {s : State} {u : MpuUnit} {pa : Nat} {acc : Access} {atK paired : Bool} {mt : MemType} (lvl src : Nat)
    (h : (s.mpuDecide u pa acc atK paired mt).1 = 0) : s.mpuCheck u pa acc atK paired mt lvl src = (0, s) := by
  have hfst : (s.mpuCheck u pa acc atK paired mt lvl src).1 = 0 := (s.mpuCheck_fst ..).trans h
  exact Prod.ext hfst (State.mpuCheck_pass s hfst)

/-- Firmware reads lines that Cretal's MPU lets it at (R493). -/
theorem fwLook_lines {s : State} {pa n : Nat}
    (h : ∀ a, pa / 64 * 64 ≤ a → a < pa + n → (s.mpuDecide .cretal a .read true false (plainMt pa)).1 = 0) : (fwLook pa n).run s = .ok ⟨⟩ s := by
  refine forM_run_mem (fun i hi => ?_)
  have hline : pa / 64 * 64 + 64 * i < pa + n := by
    have := List.mem_range.mp hi
    omega
  have hpass := h _ (Nat.le_add_right _ (64 * i)) hline
  rw [fm_bind, fm_get]
  dsimp only
  rw [State.mpuCheck_allowed _ _ hpass, if_neg (by simp), fm_pure]

/-- Firmware reads an entry through the lineage window (Table 01-6). -/
theorem fwEntry_run {s : State} (hs : CretalReaches s) {i : Nat} (hi : i < 0x10000) : (fwEntry i).run s = .ok ⟨⟩ s := by
  refine fwLook_lines (fun a hlo hhi => ?_)
  have hmt : plainMt (0x40000000 + 4 * i) = plainMt a := by
    rw [plainMt, plainMt, if_neg (by omega), if_neg (by omega)]
  rw [hmt]
  exact hs.windows a (by omega)

/-- Firmware reads the header of an image slot through the xSPI window (Table 01-6). -/
theorem fwLook_slot {s : State} (hs : CretalReaches s) {k : Nat} (hk : k < 2) (hsize : 2 * s.slotSize ≤ 0x10000000) :
    (fwLook (s.slotBase k) 16).run s = .ok ⟨⟩ s := by
  have hbase : s.slotBase k ≤ 0x28000000 := by
    have : k * s.slotSize ≤ 1 * s.slotSize := Nat.mul_le_mul_right _ (by omega)
    rw [State.slotBase]
    omega
  have hlow : 0x20000000 ≤ s.slotBase k := Nat.le_add_right _ _
  refine fwLook_lines (fun a hlo hhi => ?_)
  have hmt : plainMt (s.slotBase k) = plainMt a := by
    rw [plainMt, plainMt, if_neg (by omega), if_neg (by omega)]
  rw [hmt]
  exact hs.windows a (by omega)

/-! ## The bodies of the commands -/

theorem fwGetInfo_run {s : State} (hs : CretalRegs s) (q : Req) : (fwGetInfo q).run s =
    .ok (toBytes 2 (bits (s.regRead .cretal 0 0).1 31 16) ++ [0xA2, 3, 2, BitVec.ofNat 8 s.otp.life, BitVec.ofNat 8 s.mode.code,
      BitVec.ofNat 8 (s.fld 0x0C 0x1C 20 16)] ++ toBytes 4 Config.fwBuild.toNat) s := by
  rw [fwGetInfo, fm_bind, plainReg_sysid.fwRead hs (by omega), plainReg_sysid.regRead]
  dsimp only
  rw [fm_bind, plainReg_timeStat.fwRead hs (by omega)]
  dsimp only
  rw [fm_bind, fm_get]
  rfl

theorem fwModeGet_run {s : State} (hs : CretalRegs s) (q : Req) : (fwModeGet q).run s =
    .ok ([BitVec.ofNat 8 s.mode.code, BitVec.ofNat 8 (s.fld 6 0x30 0 0), 0, 0] ++ toBytes 4 (s.regRead .cretal 6 0x14).1.toNat) s := by
  rw [fwModeGet, fm_bind, fm_get]
  dsimp only
  rw [fm_bind, plainReg_safeCause.fwRead hs (by omega), plainReg_safeCause.regRead]
  rfl

theorem fwReadLog_run (s : State) (q : Req) : (fwReadLog q).run s =
    .ok (toBytes 2 (q.num 0 2 + ((s.fw.log.drop (q.num 0 2)).take 14).length) ++ toBytes 1 ((s.fw.log.drop (q.num 0 2)).take 14).length ++
      List.replicate 13 0 ++ ((s.fw.log.drop (q.num 0 2)).take 14).flatMap LogEntry.bytes) s := by
  rw [fwReadLog]
  dsimp only
  rw [fm_bind, fm_get]
  rfl

theorem fwImgList_run {s : State} {q : Req} (hs : CretalReaches s) (hflag : q.flag Domain.image = true) (hsize : 2 * s.slotSize ≤ 0x10000000)
    {one : Nat → List Byte} (hone : one = fun k => if Map.get 0 s.img.st k = 0 then List.replicate 16 0
      else [BitVec.ofNat 8 (Map.get 0 s.img.st k)] ++ s.slotBytes k 6 1 ++ [0, 0] ++ s.slotBytes k 8 8 ++ List.replicate 4 0) :
    (fwImgList q).run s = .ok (one 0 ++ one 1) s := by
  have hlook : ([0, 1].forM (fun k => if Map.get 0 s.img.st k = 0 then pure () else fwLook (s.slotBase k) 16) : FM Unit).run s = .ok ⟨⟩ s := by
    refine forM_run_mem (fun k hk => ?_)
    have hk2 : k < 2 := by
      simp only [List.mem_cons, List.not_mem_nil, or_false] at hk
      omega
    split
    · exact fm_pure _ _
    · exact fwLook_slot hs hk2 hsize
  rw [fwImgList, fm_bind, need_run _ _ hflag]
  dsimp only
  rw [fm_bind, fm_get]
  dsimp only
  rw [fm_bind, hlook, hone]
  exact fm_pure _ _

theorem fwLinQuery_run {s : State} {q : Req} (hs : CretalReaches s) (hi : q.num 0 2 < 0x10000) (howns : s.ownsLin q (q.num 0 2) = true) :
    (fwLinQuery q).run s = .ok (toBytes 4 (s.linEntry false (q.num 0 2)).toNat) s := by
  rw [fwLinQuery, fm_bind, fwEntry_run hs hi]
  dsimp only
  rw [fm_bind, fm_get]
  dsimp only
  rw [fm_bind, need_run _ _ howns]
  exact fm_pure _ _

theorem fwPort_run {s : State} {q : Req} {p : Nat} (hp : p < 8) (howns : s.ownsPort q p = true) : (fwPort q p).run s = .ok ⟨⟩ s := by
  rw [fwPort, fm_bind, need_run _ _ (decide_eq_true hp)]
  dsimp only
  rw [fm_bind, fm_get]
  exact need_run _ _ howns

theorem State.regWrite_kick (s : State) : s.regWrite .cretal 6 0x20 0x5AFE0000 = s.updSafe (fun f => { f with kickOpen := true }) := rfl

/-- The count that HEARTBEAT expects (R514). -/
def Fw.beats (f : Fw) (c : Nat) : Bool :=
  match f.hb with
  | none => true
  | some h => c == (h + 1) % 2 ^ 32

theorem Fw.beats_iff (f : Fw) (c : Nat) : f.beats c = true ↔ ∀ h, f.hb = some h → c = (h + 1) % 2 ^ 32 := by
  unfold Fw.beats
  split
  · simp [*]
  · simp [*]

/-- A task that may give HEARTBEAT, in the modes for it (R514). -/
def State.mayBeat (s : State) (q : Req) : Bool := q.paired && q.flag Domain.heartbeat && (s.mode == .start || s.mode == .run)

theorem State.mayBeat_iff (s : State) (q : Req) :
    s.mayBeat q = true ↔ q.paired = true ∧ q.flag Domain.heartbeat = true ∧ (s.mode = .start ∨ s.mode = .run) := by
  simp [State.mayBeat, and_assoc]

/-- The state after a HEARTBEAT with count `c`: the count is kept and the kick window is open. -/
def State.beaten (s : State) (c : Nat) : State := (s.updFw (fun f => { f with hb := some c })).updSafe (fun f => { f with kickOpen := true })

theorem fwHeartbeat_eq (q : Req) (s : State) : (fwHeartbeat q).run s = (do
    need (s.mayBeat q) 6
    need (s.fw.beats (q.num 0 4)) 7
    modify (fun s => s.updFw (fun f => { f with hb := some (q.num 0 4) }))
    fwWrite 6 0x20 0x5AFE0000
    pure (toBytes 4 (q.num 0 4)) : FM (List Byte)).run s := by
  rw [fwHeartbeat, fm_bind, fm_get]
  rfl

theorem fwHeartbeat_run {s : State} {q : Req} (hs : CretalRegs s) (hmay : s.mayBeat q = true) (hnext : s.fw.beats (q.num 0 4) = true) :
    (fwHeartbeat q).run s = .ok (toBytes 4 (q.num 0 4)) (s.beaten (q.num 0 4)) := by
  have hlets : (s.updFw (fun f => { f with hb := some (q.num 0 4) })).lets .cretal 6 0x20 .write = true := hs 6 0x20 .write (by omega) (by omega) (by decide)
  rw [fwHeartbeat_eq, fm_bind, need_run _ _ hmay]
  dsimp only
  rw [fm_bind, need_run _ _ hnext]
  dsimp only
  rw [fm_bind, fm_modify]
  dsimp only
  rw [fm_bind, fwWrite, fm_bind, fwReach_run hlets]
  dsimp only
  rw [fm_modify, State.regWrite_kick]
  exact fm_pure _ _

theorem fwHeartbeat_late {s : State} {q : Req} (hmay : s.mayBeat q = true) (hnext : s.fw.beats (q.num 0 4) = false) :
    (fwHeartbeat q).run s = .error (.ans 7 []) s := by
  rw [fwHeartbeat_eq, fm_bind, need_run _ _ hmay]
  dsimp only
  rw [fm_bind, need_fails _ _ hnext]

theorem fwHeartbeat_denied {s : State} {q : Req} (hmay : s.mayBeat q = false) : (fwHeartbeat q).run s = .error (.ans 6 []) s := by
  rw [fwHeartbeat_eq, fm_bind, need_fails _ _ hmay]

/-- PWR_GRANT as it reads gives the grant (Table 15-4). -/
theorem State.readComputed_grant (s : State) (mi : Nat) : bits (s.readComputed mi 2 0x14) 25 16 = s.grant % 1024 := by
  have hread : s.readComputed mi 2 0x14 = setBits (setBits (s.reg 2 0x14) 25 16 s.grant) 9 0 s.resv := rfl
  rw [hread, bits_setBits_apart _ (by omega) (by omega) (by omega), ← setBits_mod]
  exact bits_setBits_self _ (by omega) (by omega) (Nat.mod_lt _ (by decide))

end Sys2Proof.Machine
end

section
/-!
# TASK_QUERY (14_cretal_mailboxes, Table 14-13; R264)

Firmware gives QUERY to each engine of the task, which writes SCHED_STATn, and reads SCHED_STATn of the task's own engine.
-/

namespace Sys2Proof.Machine

open Sys2Proof

/-- The state after firmware's QUERY of a slot, done. -/
def State.queried (s : State) (n e : Nat) : State := (((s.cmdTaken e n 0 0).querySlot e n).cmdEnds e 0).schedDone e 0

/-- What SCHED_STATn of an engine tells of a slot (Table 06-9). -/
def State.Tells (s : State) (e : Nat) (t : Slot) : Prop :=
  s.fld (tileBlk (tileOf e)) (statOfs e) 11 9 = t.st.code ∧ s.fld (tileBlk (tileOf e)) (statOfs e) 15 15 = t.chuck.isSome.toNat ∧
    s.fld (tileBlk (tileOf e)) (statOfs e) 31 16 = t.pend.toNat

theorem State.reg_queried (s : State) (n e : Nat) {b o : Nat} (hcmd : regKey b o ≠ regKey (tileBlk (tileOf e)) (cmdOfs e))
    (hstat : regKey b o ≠ regKey (tileBlk (tileOf e)) (statOfs e)) : (s.queried n e).reg b o = s.reg b o := by
  have hquery : ((s.cmdTaken e n 0 0).querySlot e n).reg b o = (s.cmdTaken e n 0 0).reg b o := by
    rw [State.querySlot]
    iterate 4 rw [State.reg_setFld_ne _ _ _ _ (b := tileBlk (tileOf e)) (o := 0x204 + 8 * (e % 32)) hstat]
  have hends : (((s.cmdTaken e n 0 0).querySlot e n).cmdEnds e 0).reg b o = ((s.cmdTaken e n 0 0).querySlot e n).reg b o := State.reg_updEngine ..
  have hdone : ∀ t : State, (t.schedDone e 0).reg b o = t.reg b o := fun t => by
    have hreg : (t.schedDone e 0).reg b o =
        ((t.setFld (tileBlk (tileOf e)) (statOfs e) 0 0 0).setFld (tileBlk (tileOf e)) (statOfs e) 8 5 0).reg b o := rfl
    rw [hreg, State.reg_setFld_ne _ _ _ _ hstat, State.reg_setFld_ne _ _ _ _ hstat]
  rw [State.queried, hdone, hends, hquery, s.cmdTaken_reg _ _ _ _ hcmd hstat]

theorem State.slotAt_setFld (s : State) (b o hi lo v i k : Nat) : (s.setFld b o hi lo v).slotAt i k = s.slotAt i k := by
  rw [State.slotAt, State.engine, State.setFld_eng, ← State.engine, State.slotAt]

theorem State.slotAt_updEngine (s : State) {e : Nat} {f : Engine → Engine} (hf : ∀ x, (f x).slots = x.slots) (i k : Nat) :
    (s.updEngine e f).slotAt i k = s.slotAt i k := by
  by_cases h : i = e
  · rw [State.slotAt, h, State.engine_updEngine_self, hf, State.slotAt]
  · rw [State.slotAt, State.engine_updEngine_ne _ _ h, State.slotAt]

theorem State.slotAt_raise (s : State) (id i k : Nat) : (s.raise id).slotAt i k = s.slotAt i k := by
  rw [State.slotAt, State.engine, State.raise_eng, ← State.engine, State.slotAt]

theorem State.slotAt_schedDone (s : State) (e c i k : Nat) : (s.schedDone e c).slotAt i k = s.slotAt i k := by
  rw [State.schedDone, State.slotAt_raise, State.slotAt_updEngine _ (by intro x; rfl), State.slotAt_setFld, State.slotAt_setFld]

theorem State.slotAt_querySlot (s : State) (e n i k : Nat) : (s.querySlot e n).slotAt i k = s.slotAt i k := by
  rw [State.querySlot]
  iterate 4 rw [State.slotAt_setFld]

theorem State.slotAt_queried (s : State) (n e i k : Nat) : (s.queried n e).slotAt i k = s.slotAt i k := by
  rw [State.queried, State.slotAt_schedDone, State.cmdEnds, State.slotAt_updEngine _ (by intro x; rfl), State.slotAt_querySlot, State.cmdTaken_slotAt]

theorem State.safe_queried (s : State) (n e : Nat) : (s.queried n e).safe = s.safe ∧ (s.queried n e).eff = s.eff := by
  simp [State.queried, State.schedDone, State.querySlot, State.cmdEnds, State.cmdTaken, State.cmdFields]

theorem State.mpuStands_queried (s : State) (n : Nat) (e : Eid) : s.MpuStands (s.queried n e.toNat) := by
  have htile := tileOf_lt e
  have hcmd : cmdOfs e.toNat < 0x10000 := by
    unfold cmdOfs
    omega
  obtain ⟨hsafe, heff⟩ := s.safe_queried n e.toNat
  refine ⟨hsafe, heff, fun o ho => s.reg_queried n e.toNat ?_ ?_⟩
  · exact regKey_ne_of_blk (by unfold tileBlk; omega) hcmd ho
  · exact regKey_ne_of_blk (by unfold tileBlk; omega) (statOfs_lt _) ho

theorem State.queried_tells (s : State) (n e : Nat) : (s.queried n e).Tells e (s.slotAt e n) := by
  obtain ⟨hpend, hchuck, hst, -⟩ := (s.cmdTaken e n 0 0).fld_querySlot e n
  refine ⟨?_, ?_, ?_⟩
  all_goals
    rw [State.queried, State.fld_schedDone]
    iterate 2 rw [State.fld_setFld_apart _ _ _ (by decide) (by decide) (by decide)]
    rw [State.cmdEnds_fld]
  · exact hst
  · exact hchuck
  · exact hpend

/-- The register of an engine's scheduler is no other engine's. -/
theorem statKey_ne {e i : Nat} (h : i ≠ e) : regKey (tileBlk (tileOf i)) (statOfs i) ≠ regKey (tileBlk (tileOf e)) (cmdOfs e) ∧
    regKey (tileBlk (tileOf i)) (statOfs i) ≠ regKey (tileBlk (tileOf e)) (statOfs e) := by
  unfold regKey tileBlk tileOf statOfs cmdOfs
  omega

theorem State.fld_queried_ne (s : State) (n : Nat) {e i : Nat} (h : i ≠ e) (hi lo : Nat) :
    (s.queried n e).fld (tileBlk (tileOf i)) (statOfs i) hi lo = s.fld (tileBlk (tileOf i)) (statOfs i) hi lo := by
  obtain ⟨hcmd, hstat⟩ := statKey_ne h
  rw [State.fld, s.reg_queried n e hcmd hstat, State.fld]

theorem State.Tells.queried_ne {s : State} {i : Nat} {t : Slot} (h : s.Tells i t) (n : Nat) {e : Nat} (hne : i ≠ e) : (s.queried n e).Tells i t := by
  unfold State.Tells at h ⊢
  simpa only [State.fld_queried_ne s n hne] using h

/-! ## Firmware's QUERY -/

theorem fm_set (s t : State) : (set t : FM PUnit).run s = .ok ⟨⟩ t := (EStateM.run_set t s).trans (Eq.refl _)

theorem fwSched_query {s : State} (hs : CretalRegs s) (n : Nat) (e : Eid) (hfree : s.fld (tileBlk (tileOf e.toNat)) (statOfs e.toNat) 0 0 = 0) :
    (fwSched e.toNat 7 n).run s = .ok ⟨⟩ (s.queried n e.toNat) := by
  have htile := tileOf_lt e
  have hlets : s.lets .cretal (tileBlk (tileOf e.toNat)) (0x200 + 8 * (e.toNat % 32)) .write = true :=
    hs _ _ _ (by unfold tileBlk; omega) (by omega) (by decide)
  have hcmd : s.schedCmd .cretal e.toNat 7 n 0 0 = ((s.cmdTaken e.toNat n 0 0).querySlot e.toNat n).cmdEnds e.toNat 0 :=
    State.schedCmd_taken n 0 (Or.inl rfl) (by decide) (by decide) hfree
  have hstat : s.fld (tileBlk (tileOf e.toNat)) (0x204 + 8 * (e.toNat % 32)) 0 0 = 0 := hfree
  rw [fwSched, fm_bind, fm_get]
  dsimp only
  rw [if_neg (by omega), fm_bind, fwReach_run hlets]
  dsimp only
  rw [fm_bind, fm_get]
  dsimp only
  rw [hcmd, State.cmdEnds_cmd, fm_bind, fm_set]
  dsimp only
  rw [if_neg (by simp)]
  exact fm_pure _ _

/-- The slots after firmware's QUERY of slot `n` of each engine. -/
def State.queriedAll (s : State) (n : Nat) (l : List Nat) : State := l.foldl (fun t e => t.queried n e) s

theorem State.queriedAll_cons (s : State) (n e : Nat) (l : List Nat) : s.queriedAll n (e :: l) = (s.queried n e).queriedAll n l := by
  rw [State.queriedAll, List.foldl_cons, State.queriedAll]

theorem State.slotAt_queriedAll (s : State) (n : Nat) (l : List Nat) (i k : Nat) : (s.queriedAll n l).slotAt i k = s.slotAt i k := by
  induction l generalizing s with
  | nil => rfl
  | cons e l ih => rw [State.queriedAll_cons, ih, State.slotAt_queried]

theorem State.Tells.queriedAll_ne {s : State} {i : Nat} {t : Slot} (h : s.Tells i t) (n : Nat) {l : List Nat} (hi : i ∉ l) :
    (s.queriedAll n l).Tells i t := by
  induction l generalizing s with
  | nil => exact h
  | cons e l ih =>
    rw [List.mem_cons, not_or] at hi
    rw [State.queriedAll_cons]
    exact ih (h.queried_ne n hi.1) hi.2

/-- Each engine's SCHED_STATn tells of its own slot. -/
theorem State.queriedAll_tells (s : State) (n : Nat) {l : List Nat} (hl : l.Nodup) : ∀ i ∈ l, (s.queriedAll n l).Tells i (s.slotAt i n) := by
  induction l generalizing s with
  | nil => simp
  | cons e l ih =>
    obtain ⟨he, hl⟩ := List.nodup_cons.mp hl
    rw [State.queriedAll_cons]
    refine List.forall_mem_cons.mpr ⟨(s.queried_tells n e).queriedAll_ne n he, fun i hi => ?_⟩
    rw [← s.slotAt_queried n e i n]
    exact ih (s.queried n e) hl i hi

/-- Firmware's QUERY of the engines of a task, none of which has a command under way. -/
theorem fwSched_queryAll {s : State} (hs : CretalRegs s) (n : Nat) {l : List Nat} (hl : l.Nodup) (hlt : ∀ i ∈ l, i < 1024)
    (hfree : ∀ i ∈ l, s.fld (tileBlk (tileOf i)) (statOfs i) 0 0 = 0) :
    (l.forM (fun i => fwSched i 7 n)).run s = .ok ⟨⟩ (s.queriedAll n l) ∧ CretalRegs (s.queriedAll n l) := by
  induction l generalizing s with
  | nil => exact ⟨fm_pure _ _, hs⟩
  | cons e l ih =>
    obtain ⟨he, hl'⟩ := List.nodup_cons.mp hl
    obtain ⟨helt, hlt'⟩ := List.forall_mem_cons.mp hlt
    obtain ⟨hefree, hfree'⟩ := List.forall_mem_cons.mp hfree
    obtain ⟨x, rfl⟩ : ∃ x : Eid, x.toNat = e := ⟨BitVec.ofNat 10 e, by rw [BitVec.toNat_ofNat, Nat.mod_eq_of_lt helt]⟩
    rw [List.forM, fm_bind, fwSched_query hs n x hefree, State.queriedAll_cons]
    refine ih ((s.mpuStands_queried n x).cretalRegs hs) hl' hlt' (fun i hi => ?_)
    rw [s.fld_queried_ne n (ne_of_mem_of_not_mem hi he)]
    exact hfree' i hi

/-! ## SCHED_STATn as it reads -/

theorem blkOf_tile {t : Nat} (ht : t < 32) : blkOf (tileBlk t) = some .tile := by
  interval_cases t <;> rfl

theorem tileRows_eq : ∃ f0 f1 f2 f3 l, tileRows = rN 0x100 4 32 .mgmt f0 :: rN 0x180 4 32 .mgmt f1 :: rN 0x200 8 32 .anyone f2 ::
    rN 0x204 8 32 .anyone f3 :: l ∧ ∀ f ∈ f3, f.acc ≠ .wo ∧ f.acc ≠ .rc :=
  ⟨_, _, _, _, _, rfl, by decide⟩

theorem schedStat_row {k : Nat} (hk : k < 32) : ∃ r, findRow tileRows (0x204 + 8 * k) = some r ∧ ∀ f ∈ r.flds, f.acc ≠ .wo ∧ f.acc ≠ .rc := by
  obtain ⟨f0, f1, f2, f3, l, hrows, hflds⟩ := tileRows_eq
  refine ⟨rN 0x204 8 32 .anyone f3, ?_, hflds⟩
  rw [hrows, findRow, findRow, findRow, findRow]
  rw [if_neg (by dsimp only [rN]; omega), if_neg (by dsimp only [rN]; omega), if_neg (by dsimp only [rN]; omega), if_pos (by dsimp only [rN]; omega)]

theorem plainReg_schedStat (e : Eid) : PlainReg (tileBlk (tileOf e.toNat)) (statOfs e.toNat) := by
  have htile := tileOf_lt e
  have hk : e.toNat % 32 < 32 := Nat.mod_lt _ (by decide)
  have hlow : ∀ o, 0x200 ≤ o → o < 0x304 → spanLow (tileBlk (tileOf e.toNat)) o = false := fun o hlo hhi => by
    rw [spanLow, blkOf_tile htile]
    simp
    omega
  refine ⟨by unfold readsApart tileBlk; omega, hlow _ (by unfold statOfs; omega) (by unfold statOfs; omega),
    fun _ => hlow _ (by unfold statOfs; omega) (by unfold statOfs; omega), ?_⟩
  obtain ⟨r, hr, hflds⟩ := schedStat_row hk
  refine ⟨r, ?_, hflds⟩
  rw [regRow, blkOf_tile htile]
  dsimp only
  rw [if_neg (by unfold statOfs; omega)]
  exact hr

theorem State.readComputed_schedStat (s : State) (mi : Nat) (e : Eid) :
    s.readComputed mi (tileBlk (tileOf e.toNat)) (statOfs e.toNat) = s.reg (tileBlk (tileOf e.toNat)) (statOfs e.toNat) := by
  have htile := tileOf_lt e
  have hmpu : mpuOf (tileBlk (tileOf e.toNat)) (statOfs e.toNat) = none := by
    unfold mpuOf
    dsimp only
    rw [if_pos (by unfold tileBlk; omega)]
    iterate 4 rw [if_neg (by unfold statOfs; omega)]
  rw [State.readComputed, blkOf_tile htile]
  dsimp only
  rw [hmpu]

/-! ## The command -/

theorem State.taskEngines_nodup (s : State) (gid : Nat) : (s.taskEngines gid).Nodup := by
  unfold State.taskEngines
  dsimp only
  split
  · simp
  · simp

theorem State.taskEngines_lt (s : State) {gid : Nat} (h : gid < 0x10000) : ∀ i ∈ s.taskEngines gid, i < 1024 := by
  unfold State.taskEngines
  dsimp only
  split
  · simp
    omega
  · simp
    omega

theorem State.mem_taskEngines (s : State) {gid : Nat} (h : gid < 0x10000) : gid / 64 ∈ s.taskEngines gid := by
  unfold State.taskEngines
  dsimp only
  split
  · simp
    omega
  · simp

theorem fwTaskQuery_run {s : State} {q : Req} (hs : CretalRegs s) (hgid : q.num 0 2 < 0x10000) (howns : q.ownsEngine (q.num 0 2 / 64) = true)
    (hfree : ∀ i ∈ s.taskEngines (q.num 0 2), s.fld (tileBlk (tileOf i)) (statOfs i) 0 0 = 0) :
    let sl := s.slotAt (q.num 0 2 / 64) (q.num 0 2 % 64)
    (fwTaskQuery q).run s = .ok ([BitVec.ofNat 8 sl.st.code, BitVec.ofNat 8 sl.chuck.isSome.toNat] ++ toBytes 2 sl.pend.toNat)
      (s.queriedAll (q.num 0 2 % 64) (s.taskEngines (q.num 0 2))) := by
  intro sl
  obtain ⟨hrun, hregs⟩ := fwSched_queryAll hs (q.num 0 2 % 64) (s.taskEngines_nodup _) (s.taskEngines_lt hgid) hfree
  obtain ⟨hst, hchuck, hpend⟩ := s.queriedAll_tells (q.num 0 2 % 64) (s.taskEngines_nodup (q.num 0 2)) _ (s.mem_taskEngines hgid)
  obtain ⟨e, he⟩ : ∃ x : Eid, x.toNat = q.num 0 2 / 64 := ⟨BitVec.ofNat 10 (q.num 0 2 / 64), by rw [BitVec.toNat_ofNat]; omega⟩
  rw [← he] at hst hchuck hpend
  have hread := (plainReg_schedStat e).fwRead hregs (statOfs_lt _)
  rw [State.readComputed_schedStat] at hread
  rw [fwTaskQuery, fm_bind, need_run _ _ howns]
  dsimp only
  rw [fm_bind, fm_get]
  dsimp only
  rw [fm_bind, hrun]
  dsimp only
  rw [State.fld] at hst hchuck hpend
  rw [← he, ← statOfs, fm_bind, hread]
  dsimp only
  rw [fm_pure, hst, hchuck, hpend, he]

end Sys2Proof.Machine
end

section
/-!
# The firmware commands that report, settled (14_cretal_mailboxes, Tables 14-12 and 14-13)
-/

namespace Sys2Proof.Machine

open Sys2Proof

/-- A number of `n` bytes is below 256 to the `n`. -/
theorem ofBytes_lt (l : List Byte) : ofBytes l < 256 ^ l.length := by
  induction l with
  | nil => simp [ofBytes]
  | cons b l ih =>
    have := b.isLt
    rw [ofBytes, List.length_cons, pow_succ]
    omega

theorem Req.num_lt (q : Req) (o n : Nat) : q.num o n < 256 ^ n :=
  (ofBytes_lt _).trans_le (Nat.pow_le_pow_right (by decide) (List.length_take_le _ _))

section
variable {s : State} {n : BitVec 5} {q : Req}

/-- A command that reads registers answers with what it read (R505). -/
theorem reads_answer {code : Nat} {i : Instr} {body : Req → FM (List Byte)} {l : List (Nat × Nat)} (h : Asks s n code q)
    (hi : exec i s = .next (s.serve n.toNat code body)) (hbody : (body q).run s = (fwReads l).run s)
    (hl : ∀ p ∈ l, readsApart p.1 ∧ p.2 < 0x10000) : ∃ p t, (fwReads l).run s = .ok p t ∧ Answers i s t q 0 (p ++ []) := by
  obtain ⟨p, t, hrun, -⟩ := fwReads_run h.reaches.regs hl
  refine ⟨p, t, hrun, ?_⟩
  rw [List.append_nil]
  exact answers_ok h hi (hbody.trans hrun)

theorem heartbeat_answers (h : Asks s n 0x0002 q) :
    let may := q.paired = true ∧ q.flag Domain.heartbeat = true ∧ (s.mode = .start ∨ s.mode = .run)
    let next := ∀ h, s.fw.hb = some h → q.num 0 4 = (h + 1) % 2 ^ 32
    (may → next → ∃ t, Answers (.heartbeat n) s t q 0 (toBytes 4 (q.num 0 4)) ∧ t.safe.kickOpen = true ∧ t.fw.hb = some (q.num 0 4)) ∧
    (may → ¬next → Answers (.heartbeat n) s s q 7 []) ∧ (¬may → Answers (.heartbeat n) s s q 6 []) := by
  intro may next
  have hmay : s.mayBeat q = true ↔ may := s.mayBeat_iff q
  have hnext : s.fw.beats (q.num 0 4) = true ↔ next := s.fw.beats_iff _
  refine ⟨fun hm hn => ⟨s.beaten (q.num 0 4), answers_ok h rfl (fwHeartbeat_run h.reaches.regs (hmay.mpr hm) (hnext.mpr hn)), rfl, rfl⟩,
    fun hm hn => answers_status h rfl (fwHeartbeat_late (hmay.mpr hm) ?_), fun hm => answers_status h rfl (fwHeartbeat_denied ?_)⟩
  · rwa [← hnext, Bool.not_eq_true] at hn
  · rwa [← hmay, Bool.not_eq_true] at hm

theorem powerStatus_answers (h : Asks s n 0x0501 q) : Answers (.powerStatus n) s s q 0 (toBytes 4 (25 * s.budget) ++ toBytes 4 (25 * (s.grant % 1024)) ++
    toBytes 8 ((List.range 32).foldl (fun a k => a + s.tileCur k * 4 ^ k) 0)) := by
  refine answers_ok h rfl ?_
  rw [fm_bind, plainReg_budget.fwRead h.reaches.regs (by omega)]
  dsimp only
  rw [fm_bind, plainReg_grant.fwRead h.reaches.regs (by omega)]
  dsimp only
  rw [fm_bind, fm_get]
  dsimp only
  rw [State.readComputed_grant]
  exact fm_pure _ _

theorem trunkStatus_answers (h : Asks s n 0x0703 q) :
    ∃ p t, (fwReads [(0x18, 0x10), (0x19, 0x10)]).run s = .ok p t ∧ Answers (.trunkStatus n) s t q 0 (p ++ [BitVec.ofNat 8 (s.fld 0x0C 0x1C 13 8)]) := by
  obtain ⟨p, t, hrun, ht⟩ := fwReads_run h.reaches.regs (l := [(0x18, 0x10), (0x19, 0x10)]) (by simp [readsApart])
  have hregs : CretalRegs t := (ht.mpuStands (by simp)).cretalRegs h.reaches.regs
  have hread : t.readComputed 1024 0x0C 0x1C = s.reg 0x0C 0x1C := ht.2.2 0x0C 0x1C (by simp [regKey])
  refine ⟨p, t, hrun, answers_ok h rfl ?_⟩
  rw [fm_bind, hrun]
  dsimp only
  rw [fm_bind, plainReg_timeStat.fwRead hregs (by omega), hread]
  exact fm_pure _ _

end

/-- Settles O51: each command's body is followed to its answer, on a state where firmware reaches what it uses. -/
theorem firmwareReports : Obligations.FirmwareReports := by
  intro s n q reads id e sl
  have hnum : q.num 0 2 < 0x10000 := q.num_lt 0 2
  refine ⟨fun h => ⟨s, answers_ok h rfl (fwGetInfo_run h.reaches.regs q), rfl⟩, heartbeat_answers,
    fun h => reads_answer h rfl rfl (by simp [readsApart]), fun h => answers_ok h rfl (fwReadLog_run s q),
    fun h hflag hsize => answers_ok h rfl (fwImgList_run h.reaches hflag hsize rfl), fun h howns hfree => ?_,
    fun h howns => answers_ok h rfl (fwLinQuery_run h.reaches hnum howns),
    fun h => ⟨s, answers_ok h rfl (fwModeGet_run h.reaches.regs q), rfl⟩, fun h hport howns => ?_, fun h => ⟨s, powerStatus_answers h, rfl⟩,
    fun h => reads_answer h rfl rfl (by simp [readsApart]), trunkStatus_answers⟩
  · exact ⟨_, answers_ok h rfl (fwTaskQuery_run h.reaches.regs hnum howns hfree), s.slotAt_queriedAll _ _ _ _⟩
  · refine reads_answer h rfl ?_ (by simp [readsApart]; omega)
    rw [fm_bind, fwPort_run hport howns]
    rfl

end Sys2Proof.Machine
end

section
/-!
# The scheduler's choice and its decisions (06_tasks_scheduler, R239, R247 to R251, R254, R267)

The choice is a maximum of the READY tasks; a decision of an unpaired engine has its effect at once.
-/

namespace Sys2Proof.Machine

open Sys2Proof

/-! ## The choice (R247) -/

/-- One slot more in the search of `Engine.pick`. -/
def pickStep (b : Option (Nat × Slot)) (p : Nat × Slot) : Option (Nat × Slot) :=
  if p.2.st ≠ .ready then b else match b with
    | none => some p
    | some q => if slotBefore p q then some p else some q

theorem Engine.pick_eq (x : Engine) : x.pick = x.slots.foldl pickStep none := rfl

/-- The task `r` goes before the task `p`, or is it (R247). -/
def Slot.leads (r p : Slot) : Prop := p.prio.toNat < r.prio.toNat ∨ (p.prio = r.prio ∧ r.readyAt ≤ p.readyAt)

theorem Slot.leads_refl (r : Slot) : r.leads r := .inr ⟨rfl, le_refl _⟩

theorem Slot.leads_trans {a b c : Slot} (h : a.leads b) (h' : b.leads c) : a.leads c := by
  rcases h with h | ⟨h, hr⟩ <;> rcases h' with h' | ⟨h', hr'⟩
  · exact .inl (h'.trans h)
  · exact .inl (by rwa [h'])
  · exact .inl (by rwa [← h])
  · exact .inr ⟨h'.trans h, hr.trans hr'⟩

/-- Of two tasks the one that `slotBefore` names leads. -/
theorem leads_of_slotBefore {p q : Nat × Slot} (h : slotBefore p q = true) : p.2.leads q.2 := by
  simp only [slotBefore, Bool.or_eq_true, Bool.and_eq_true, decide_eq_true_eq, beq_iff_eq] at h
  rcases h with h | ⟨h, hr⟩
  · exact .inl h
  · exact .inr ⟨h.symm, hr.le⟩

theorem leads_of_not_slotBefore {p q : Nat × Slot} (h : ¬slotBefore p q = true) : q.2.leads p.2 := by
  simp only [slotBefore, Bool.or_eq_true, Bool.and_eq_true, decide_eq_true_eq, beq_iff_eq, not_or, not_and, not_lt] at h
  obtain ⟨hprio, hready⟩ := h
  rcases Nat.lt_or_eq_of_le hprio with hlt | heq
  · exact .inl hlt
  · have heq : p.2.prio = q.2.prio := BitVec.eq_of_toNat_eq heq
    exact .inr ⟨heq, hready heq⟩

/-- What the search over the slots `l` has found: none where none is READY, else a READY one that leads every READY one. -/
def Picked (l : List (Nat × Slot)) : Option (Nat × Slot) → Prop
  | none => ∀ p ∈ l, p.2.st ≠ .ready
  | some r => r ∈ l ∧ r.2.st = .ready ∧ ∀ p ∈ l, p.2.st = .ready → r.2.leads p.2

theorem picked_step {l : List (Nat × Slot)} {b : Option (Nat × Slot)} (h : Picked l b) (p : Nat × Slot) : Picked (l ++ [p]) (pickStep b p) := by
  unfold pickStep
  split
  next hst =>
    cases b with
    | none =>
      intro q hq
      rcases List.mem_append.mp hq with hq | hq
      · exact h q hq
      · rwa [List.mem_singleton.mp hq]
    | some r =>
      obtain ⟨hmem, hready, hlead⟩ := h
      refine ⟨List.mem_append_left _ hmem, hready, fun q hq hqr => ?_⟩
      rcases List.mem_append.mp hq with hq | hq
      · exact hlead q hq hqr
      · rw [List.mem_singleton.mp hq] at hqr
        exact absurd hqr hst
  next hst =>
    have hp : p.2.st = .ready := by simpa using hst
    have hmem : p ∈ l ++ [p] := List.mem_append_right _ List.mem_cons_self
    cases b with
    | none =>
      refine ⟨hmem, hp, fun q hq hqr => ?_⟩
      rcases List.mem_append.mp hq with hq | hq
      · exact absurd hqr (h q hq)
      · rw [List.mem_singleton.mp hq]
        exact p.2.leads_refl
    | some r =>
      obtain ⟨hrmem, hready, hlead⟩ := h
      dsimp only
      split
      next hb =>
        refine ⟨hmem, hp, fun q hq hqr => ?_⟩
        rcases List.mem_append.mp hq with hq | hq
        · exact Slot.leads_trans (leads_of_slotBefore hb) (hlead q hq hqr)
        · rw [List.mem_singleton.mp hq]
          exact p.2.leads_refl
      next hb =>
        refine ⟨List.mem_append_left _ hrmem, hready, fun q hq hqr => ?_⟩
        rcases List.mem_append.mp hq with hq | hq
        · exact hlead q hq hqr
        · rw [List.mem_singleton.mp hq]
          exact leads_of_not_slotBefore hb

theorem picked_foldl (l : List (Nat × Slot)) : Picked l (l.foldl pickStep none) := by
  induction l using List.reverseRecOn with
  | nil => simp [Picked]
  | append_singleton l p ih =>
    rw [List.foldl_append]
    exact picked_step ih p

theorem Engine.pick_leads {x : Engine} {n : Nat} {t : Slot} (h : x.pick = some (n, t)) :
    (n, t) ∈ x.slots ∧ t.st = .ready ∧ ∀ p ∈ x.slots, p.2.st = .ready → t.leads p.2 := by
  have := picked_foldl x.slots
  rwa [← Engine.pick_eq, h] at this

/-! ## The lowest vector (R254) -/

theorem lowestVec_spec {m : BitVec 16} (h : m ≠ 0) : bit m (lowestVec m) = true ∧ ∀ j, j < lowestVec m → bit m j = false := by
  have hex : ∃ j, m.getLsbD j = true := by
    by_contra hno
    refine h (BitVec.eq_of_getLsbD_eq (fun i hi => ?_))
    simpa using fun hb => hno ⟨i, hb⟩
  have hlt : Nat.find hex < 16 := BitVec.lt_of_getLsbD (Nat.find_spec hex)
  have hwide : ∀ j, (m.setWidth 64).getLsbD j = m.getLsbD j := fun j => by
    rw [BitVec.getLsbD_setWidth]
    by_cases hj : j < 16
    · simp [show j < 64 by omega]
    · simp [BitVec.getLsbD_of_ge m j (by omega)]
  have hlow : ∀ j, j < Nat.find hex → m.getLsbD j = false := fun j hj => by simpa using Nat.find_min hex hj
  have hvec : lowestVec m = Nat.find hex :=
    ctzFrom_eq hlt.le (fun j hj => by rw [Nat.zero_add, hwide, hlow j hj]) (fun _ => by rw [Nat.zero_add, hwide, Nat.find_spec hex])
  rw [hvec]
  exact ⟨Nat.find_spec hex, hlow⟩

/-! ## Decisions of an unpaired engine -/

section
variable {s : State} {e : Nat}

theorem State.stopLong_none (h : (s.engine e).long = none) : s.stopLong e = s := by rw [State.stopLong, h]

theorem State.sendDecision_unpaired (hpair : s.pairedEng e = false) (c : Choice) : s.sendDecision e c = s := by
  rw [State.sendDecision, hpair]
  rfl

theorem State.stopped_of_atPoint (h : s.atPoint e = true) : (s.engine e).stopped = false := by
  simp only [State.atPoint, Bool.and_eq_true, Bool.not_eq_true'] at h
  tauto

/-- An unpaired engine at a preemption point carries out its own decision (R247). -/
theorem State.runDecision_own {mine : Choice → Bool} {c : Choice} (f : Choice → State → State) (hpoint : s.atPoint e = true)
    (hpair : s.pairedEng e = false) (hown : s.ownChoice e = some c) (hmine : mine c = true) : s.runDecision e mine f = f c s := by
  rw [State.runDecision, hpoint, hpair, hown]
  simp [hmine, State.sendDecision_unpaired hpair, State.stopped_of_atPoint hpoint]

theorem State.sliceDue_unpaired (hpair : s.pairedEng e = false) : s.sliceDue e = false := by
  rw [State.sliceDue, hpair]
  rfl

/-- An engine with no RUNNING task decides where a task is READY. -/
theorem State.ownChoice_idle {k : Nat} {t : Slot} (hrun : (s.engine e).running = false) (hpick : (s.engine e).pick = some (k, t)) :
    s.ownChoice e = some (.slot k) ∧ s.decideNow e = (some (k, t), s) := by
  have hnow : s.decideNow e = (some (k, t), s) := by simp [State.decideNow, hrun, hpick]
  refine ⟨?_, hnow⟩
  simp [State.ownChoice, hrun, hpick, hnow]

/-- A RUNNING task makes room for a READY one of higher priority (R247, R249). -/
theorem State.ownChoice_higher {k : Nat} {t : Slot} (hpair : s.pairedEng e = false) (hrun : (s.engine e).running = true)
    (hunbind : (s.curSlot e).unbindReq = false) (hsuspend : (s.curSlot e).suspendReq = false) (hpick : (s.engine e).pick = some (k, t))
    (hprio : (s.curSlot e).prio.toNat < t.prio.toNat) :
    s.ownChoice e = some (.slot k) ∧ s.decideNow e = (some (k, t), (s.makeReady e (s.engine e).slot).idle e) := by
  have hnow : s.decideNow e = (some (k, t), (s.makeReady e (s.engine e).slot).idle e) := by
    simp [State.decideNow, hrun, hpick, hunbind, hsuspend, hprio]
  have hdue : s.decisionDue e = true := by
    obtain ⟨hmem, hready, -⟩ := Engine.pick_leads hpick
    simp only [State.decisionDue, Bool.or_eq_true, List.any_eq_true]
    exact .inr ⟨(k, t), hmem, by simp [hready, hprio]⟩
  refine ⟨?_, hnow⟩
  simp [State.ownChoice, hrun, State.sliceDue_unpaired hpair, hdue, hnow]

/-- A RUNNING task that no decision takes away takes its lowest vector (R254, R279). -/
theorem State.ownChoice_event (hpair : s.pairedEng e = false) (hrun : (s.engine e).running = true)
    (hpend : (s.curSlot e).pend &&& (s.curSlot e).emask ≠ 0) (hdue : s.decisionDue e = false) :
    s.ownChoice e = some (.event (lowestVec ((s.curSlot e).pend &&& (s.curSlot e).emask))) := by
  have hpend : ¬(s.curSlot e).pend &&& (s.curSlot e).emask = 0#16 := hpend
  simp [State.ownChoice, hrun, State.sliceDue_unpaired hpair, hdue, hpend]

theorem State.startSwitch_resident {k c : Nat} {t : Slot} (h : t.chuck = some c) (u : State) :
    u.startSwitch e k t = u.updEngine e (fun x => { x with sw := some { slot := k, chuck := c, victim := none } }) := by
  rw [State.startSwitch, h]

/-- A RUNNING task that goes to the tail of its priority is READY, and the engine has no RUNNING task (R247, R250). -/
theorem State.makeReady_idle (s : State) (e : Nat) :
    let u := (s.makeReady e (s.engine e).slot).idle e
    (u.engine e).running = false ∧ (u.engine e).slot = (s.engine e).slot ∧ (u.curSlot e).st = .ready ∧ (u.curSlot e).readyAt = (s.engine e).readyCtr := by
  intro u
  have hslot : (u.engine e).slot = (s.engine e).slot := by simp [u, State.idle_engine, State.makeReady, Engine.tick, State.updSlot]
  have hcur : u.curSlot e = (s.makeReady e (s.engine e).slot).slotAt e (s.engine e).slot := by
    rw [State.curSlot, hslot]
    simp only [u, State.idle_engine, State.slotAt]
  rw [State.slotAt_makeReady] at hcur
  exact ⟨by simp [u, State.idle_engine], hslot, by rw [hcur], by rw [hcur]⟩

end

section
variable {s : State} {e : Eid} {k c : Nat} {t : Slot}

theorem exec_schedulingDecision_idle (hpoint : s.atPoint e.toNat = true) (hpair : s.pairedEng e.toNat = false)
    (hlong : (s.engine e.toNat).long = none) (hrun : (s.engine e.toNat).running = false) (hpick : (s.engine e.toNat).pick = some (k, t))
    (hchuck : t.chuck = some c) :
    exec (.schedulingDecision e) s =
      .next (s.updEngine e.toNat (fun x => { x with sw := some { slot := k, chuck := c, victim := none } })) := by
  obtain ⟨hown, hnow⟩ := State.ownChoice_idle hrun hpick
  change execSchedulingDecision e s = _
  rw [execSchedulingDecision, State.runDecision_own _ hpoint hpair hown rfl, State.switchNow, State.stopLong_none hlong, hnow]
  exact congrArg _ (State.startSwitch_resident hchuck s)

theorem exec_schedulingDecision_higher (hpoint : s.atPoint e.toNat = true) (hpair : s.pairedEng e.toNat = false)
    (hlong : (s.engine e.toNat).long = none) (hrun : (s.engine e.toNat).running = true) (hunbind : (s.curSlot e.toNat).unbindReq = false)
    (hsuspend : (s.curSlot e.toNat).suspendReq = false) (hpick : (s.engine e.toNat).pick = some (k, t))
    (hprio : (s.curSlot e.toNat).prio.toNat < t.prio.toNat) (hchuck : t.chuck = some c) :
    ∃ u, exec (.schedulingDecision e) s = .next u ∧ (u.engine e.toNat).sw = some { slot := k, chuck := c, victim := none } ∧
      (u.engine e.toNat).running = false ∧ (u.curSlot e.toNat).st = .ready := by
  obtain ⟨hown, hnow⟩ := State.ownChoice_higher hpair hrun hunbind hsuspend hpick hprio
  obtain ⟨hidle, -, hready, -⟩ := s.makeReady_idle e.toNat
  have hexec : exec (.schedulingDecision e) s = .next (((s.makeReady e.toNat (s.engine e.toNat).slot).idle e.toNat).updEngine e.toNat
      (fun x => { x with sw := some { slot := k, chuck := c, victim := none } })) := by
    change execSchedulingDecision e s = _
    rw [execSchedulingDecision, State.runDecision_own _ hpoint hpair hown rfl, State.switchNow, State.stopLong_none hlong, hnow]
    exact congrArg _ (State.startSwitch_resident hchuck _)
  refine ⟨_, hexec, ?_, ?_, ?_⟩
  · rw [State.engine_updEngine_self]
  · rw [State.engine_updEngine_self]
    exact hidle
  · rw [State.curSlot, State.engine_updEngine_self]
    exact hready

/-- The slice of an unpaired engine's RUNNING task ends at a preemption point (R250). -/
theorem exec_sliceExpiry_unpaired (hpoint : s.atPoint e.toNat = true) (hpair : s.pairedEng e.toNat = false)
    (hrun : (s.engine e.toNat).running = true) (hslice : (s.curSlot e.toNat).sliceNow ≠ 0) : exec (.sliceExpiry e) s = .next (s.endSlice e.toNat) := by
  have hslice : ¬(s.curSlot e.toNat).sliceNow = 0#16 := hslice
  change execSliceExpiry e s = _
  simp [execSliceExpiry, hpair, hpoint, hrun, hslice]

theorem exec_sliceExpiry_tail (hexec : exec (.sliceExpiry e) s = .next (s.endSlice e.toNat)) (hlong : (s.engine e.toNat).long = none)
    (hpeer : ∃ p ∈ (s.engine e.toNat).slots, p.1 ≠ (s.engine e.toNat).slot ∧ p.2.st = .ready ∧ p.2.prio = (s.curSlot e.toNat).prio) :
    ∃ u, exec (.sliceExpiry e) s = .next u ∧ (u.engine e.toNat).running = false ∧ (u.curSlot e.toNat).st = .ready ∧
      (u.curSlot e.toNat).readyAt = (s.engine e.toNat).readyCtr := by
  have hready : s.peerReady e.toNat = true := by
    obtain ⟨p, hmem, hne, hst, hprio⟩ := hpeer
    exact List.any_eq_true.mpr ⟨p, hmem, by simp [hne, hst, hprio]⟩
  obtain ⟨hidle, -, hst, hat⟩ := s.makeReady_idle e.toNat
  rw [State.endSlice, hready, if_pos rfl, State.stopLong_none hlong] at hexec
  exact ⟨_, hexec, hidle, hst, hat⟩

theorem exec_sliceExpiry_restart (hexec : exec (.sliceExpiry e) s = .next (s.endSlice e.toNat))
    (hpeer : ∀ p ∈ (s.engine e.toNat).slots, p.1 = (s.engine e.toNat).slot ∨ p.2.st ≠ .ready ∨ p.2.prio ≠ (s.curSlot e.toNat).prio) :
    exec (.sliceExpiry e) s = .next (s.updSlot e.toNat (s.engine e.toNat).slot (fun q => { q with used := 0 })) := by
  have hready : ¬s.peerReady e.toNat = true := by
    intro h
    obtain ⟨p, hmem, hp⟩ := List.any_eq_true.mp h
    simp only [Bool.and_eq_true, bne_iff_ne, beq_iff_eq] at hp
    have := hpeer p hmem
    tauto
  rwa [State.endSlice, if_neg hready] at hexec

theorem exec_eventEntry_unpaired (hpoint : s.atPoint e.toNat = true) (hpair : s.pairedEng e.toNat = false)
    (hlong : (s.engine e.toNat).long = none) (hrun : (s.engine e.toNat).running = true)
    (hpend : (s.curSlot e.toNat).pend &&& (s.curSlot e.toNat).emask ≠ 0) (hdue : s.decisionDue e.toNat = false) :
    let v := lowestVec ((s.curSlot e.toNat).pend &&& (s.curSlot e.toNat).emask)
    exec (.eventEntry e) s = .next ((s.updSlot e.toNat (s.engine e.toNat).slot (fun q => { q with pend := setBit q.pend v false })).enterK e.toNat
      { code := 0x20 + v, val := (Map.get 0 (s.curSlot e.toNat).evids v).toNat, reg := none, acc := 0 } (s.chuck e.toNat).pcc false) := by
  intro v
  have hchuck : (s.updSlot e.toNat (s.engine e.toNat).slot (fun q => { q with pend := setBit q.pend v false })).chuck e.toNat = s.chuck e.toNat := by
    rw [State.chuck, State.updSlot, State.engine_updEngine_self, State.chuck]
  change execEventEntry e s = _
  rw [execEventEntry, State.runDecision_own _ hpoint hpair (State.ownChoice_event hpair hrun hpend hdue) rfl]
  change Host.Outcome.next (s.enterEvent e.toNat v) = _
  rw [State.enterEvent, State.stopLong_none hlong, hchuck]

end

end Sys2Proof.Machine
end

section
/-!
# States that differ in how the engines are listed

An empty store buffer drains to a state in which every engine is as before, though the map of the engines may list them otherwise. What
reads the engines through `State.engine` alone succeeds in both states with the same result.
-/

namespace Sys2Proof.Machine

open Sys2Proof

/-- The states differ in the map of the engines alone, and every engine is the same. -/
def State.Alike (s t : State) : Prop := t = { s with eng := t.eng } ∧ ∀ e, t.engine e = s.engine e

/-- Where `x` succeeds at `s`, `y` succeeds at `t` with the same result, in states that are alike. -/
def Follows {α : Type} (x y : EM α) (s t : State) : Prop := ∀ a s', x.run s = .ok a s' → ∃ t', y.run t = .ok a t' ∧ s'.Alike t'

section
variable {α β : Type} {s t : State}

theorem follows_pure (h : s.Alike t) (a : α) : Follows (pure a) (pure a) s t := by
  intro b s' hrun
  rw [em_pure] at hrun
  cases hrun
  exact ⟨t, em_pure _ _, h⟩

theorem follows_bind {x y : EM α} {f g : α → EM β} (hx : Follows x y s t) (hf : ∀ a s' t', s'.Alike t' → Follows (f a) (g a) s' t') :
    Follows (x >>= f) (y >>= g) s t := by
  intro b s'' hrun
  rw [em_bind] at hrun
  cases hxs : x.run s with
  | error b u => rw [hxs] at hrun; cases hrun
  | ok a s' =>
    obtain ⟨t', hyt, ht'⟩ := hx a s' hxs
    rw [hxs] at hrun
    obtain ⟨t'', hgt, ht''⟩ := hf a s' t' ht' b s'' hrun
    exact ⟨t'', (em_bind_of_ok hyt).trans hgt, ht''⟩

theorem follows_get {f g : State → EM β} (h : Follows (f s) (g t) s t) : Follows (get >>= f) (get >>= g) s t := by
  intro b s' hrun
  obtain ⟨t', hyt, ht'⟩ := h b s' ((em_bind_of_ok (em_get s)).symm.trans hrun)
  exact ⟨t', (em_bind_of_ok (em_get t)).trans hyt, ht'⟩

theorem follows_set {u v : State} (h : u.Alike v) : Follows (set u) (set v) s t := by
  intro b s' hrun
  rw [em_set] at hrun
  cases hrun
  exact ⟨v, em_set _ _, h⟩

theorem follows_fault (code val : Nat) (reg : Option Nat) (acc : Nat) (y : EM α) : Follows (fault code val reg acc) y s t := by
  intro b s' hrun
  rw [em_fault] at hrun
  cases hrun

theorem follows_fault_bind (code val : Nat) (reg : Option Nat) (acc : Nat) (f : α → EM β) (y : EM β) :
    Follows (fault code val reg acc >>= f) y s t := by
  intro b s' hrun
  rw [em_bind, em_fault] at hrun
  cases hrun

theorem follows_set_fault (u : State) (code val : Nat) (reg : Option Nat) (acc : Nat) (y : EM α) :
    Follows (do set u; fault code val reg acc) y s t := by
  intro b s' hrun
  rw [em_bind, em_set] at hrun
  dsimp only at hrun
  rw [em_fault] at hrun
  cases hrun

theorem follows_foldlM {γ : Type} {f : α → γ → EM α} (hf : ∀ a c s t, s.Alike t → Follows (f a c) (f a c) s t) (l : List γ) (a : α)
    (h : s.Alike t) : Follows (l.foldlM f a) (l.foldlM f a) s t := by
  induction l generalizing a s t with
  | nil => exact follows_pure h a
  | cons c l ih =>
    rw [List.foldlM_cons]
    exact follows_bind (hf a c s t h) (fun a' s' t' h' => ih a' h')

end

/-! ## What reads and changes alike states -/

section
variable {s t : State}

theorem State.Alike.engine (h : s.Alike t) (e : Nat) : t.engine e = s.engine e := h.2 e

theorem State.Alike.esys (h : s.Alike t) (e n : Nat) : t.esys e n = s.esys e n := by rw [State.esys, h.engine, State.esys]

theorem State.Alike.curSlot (h : s.Alike t) (e : Nat) : t.curSlot e = s.curSlot e := by rw [State.curSlot, h.engine, State.curSlot]

theorem State.Alike.fld (h : s.Alike t) (b o hi lo : Nat) : t.fld b o hi lo = s.fld b o hi lo := by rw [h.1]; rfl

theorem State.Alike.mem (h : s.Alike t) : t.mem = s.mem := by rw [h.1]

theorem State.Alike.freeCtr (h : s.Alike t) : t.freeCtr = s.freeCtr := by rw [h.1]

theorem State.Alike.wcache (h : s.Alike t) : t.wcache = s.wcache := by rw [h.1]

theorem State.Alike.region (h : s.Alike t) (pa : Nat) : t.region pa = s.region pa := by rw [h.1]; rfl

theorem State.Alike.isMemory (h : s.Alike t) (pa : Nat) : t.isMemory pa = s.isMemory pa := by rw [State.isMemory, h.region, State.isMemory]

theorem State.Alike.cacheOf (h : s.Alike t) (c : Nat) : t.cacheOf c = s.cacheOf c := by rw [h.1]; rfl

theorem State.Alike.cacheIn (h : s.Alike t) (lo n : Nat) : t.cacheIn lo n = s.cacheIn lo n := by
  induction n generalizing lo with
  | zero => rfl
  | succ n ih => simp only [State.cacheIn, h.cacheOf, ih]

theorem State.Alike.oneRegion (h : s.Alike t) (lo n : Nat) : t.oneRegion lo n = s.oneRegion lo n := by
  simp only [State.oneRegion, h.region, h.cacheIn]

theorem State.Alike.busBad (h : s.Alike t) (pa n : Nat) (mt : MemType) (wr atom : Bool) : t.busBad pa n mt wr atom = s.busBad pa n mt wr atom := by
  rw [State.busBad, h.region, State.busBad]

theorem State.Alike.mpuDecide (h : s.Alike t) (u : MpuUnit) (pa : Nat) (acc : Access) (atK paired : Bool) (mt : MemType) :
    t.mpuDecide u pa acc atK paired mt = s.mpuDecide u pa acc atK paired mt := by rw [h.1]; rfl

theorem State.Alike.linEntry (h : s.Alike t) (chB : Bool) (i : Nat) : t.linEntry chB i = s.linEntry chB i := by rw [h.1]; rfl

/-- A change that neither reads nor changes the engines. -/
theorem State.Alike.blind (h : s.Alike t) {g : State → State} (hg : ∀ (s : State) m, g { s with eng := m } = { g s with eng := m })
    (heng : ∀ s, (g s).eng = s.eng) : (g s).Alike (g t) := by
  have hgt : g t = { g s with eng := t.eng } := by
    conv_lhs => rw [h.1]
    exact hg s t.eng
  refine ⟨by rw [hgt], fun e => ?_⟩
  rw [hgt, State.engine, State.engine, heng]
  exact h.2 e

theorem State.Alike.setEngine (h : s.Alike t) (e : Nat) (x : Engine) : (s.setEngine e x).Alike (t.setEngine e x) := by
  refine ⟨?_, fun i => ?_⟩
  · conv_lhs => rw [State.setEngine, h.1]
    rfl
  · by_cases hi : i = e
    · rw [hi, State.engine_setEngine_self, State.engine_setEngine_self]
    · rw [State.engine_setEngine_ne _ _ hi, State.engine_setEngine_ne _ _ hi, h.engine]

theorem State.Alike.updEngine (h : s.Alike t) (e : Nat) (f : Engine → Engine) : (s.updEngine e f).Alike (t.updEngine e f) := by
  rw [State.updEngine, State.updEngine, h.engine]
  exact h.setEngine e _

theorem State.Alike.perf (h : s.Alike t) (e code : Nat) : (s.perf e code).Alike (t.perf e code) := h.updEngine e _

theorem State.Alike.setFreeCtr (h : s.Alike t) (n : Nat) : ({ s with freeCtr := n } : State).Alike { t with freeCtr := n } :=
  h.blind (g := fun s => { s with freeCtr := n }) (fun _ _ => rfl) (fun _ => rfl)

/-! ## Memory -/

theorem State.Alike.decode (h : s.Alike t) (k : Nat) : (t.decode k).1 = (s.decode k).1 ∧ (s.decode k).2.Alike (t.decode k).2 := by
  refine ⟨by rw [State.decode, State.decode, h.mem, h.freeCtr], ?_⟩
  by_cases hw : (errWeight (s.mem.err (alignDown k 16))).1 ≤ 2
  · have hs : (s.decode k).2 = s := if_pos hw
    have ht : (t.decode k).2 = t := if_pos (by rwa [h.mem])
    rwa [hs, ht]
  · have hs : (s.decode k).2 = { s with freeCtr := s.freeCtr + 1 } := if_neg hw
    have ht : (t.decode k).2 = { t with freeCtr := t.freeCtr + 1 } := if_neg (by rwa [h.mem])
    rw [hs, ht, h.freeCtr]
    exact h.setFreeCtr _

theorem State.Alike.setReg (h : s.Alike t) (b o : Nat) (w : Word) : (s.setReg b o w).Alike (t.setReg b o w) :=
  h.blind (g := fun s => s.setReg b o w) (fun _ _ => rfl) (fun _ => rfl)

theorem State.Alike.count16 (h : s.Alike t) (b o lo : Nat) : (s.count16 b o lo).Alike (t.count16 b o lo) :=
  h.blind (g := fun s => s.count16 b o lo) (fun _ _ => rfl) (fun _ => rfl)

theorem State.Alike.raise (h : s.Alike t) (id : Nat) : (s.raise id).Alike (t.raise id) :=
  h.blind (g := fun s => s.raise id) (fun _ _ => rfl) (fun _ => rfl)

theorem State.Alike.setCeq (h : s.Alike t) (l : List (Nat × MCell)) : ({ s with ceq := l } : State).Alike { t with ceq := l } :=
  h.blind (g := fun s => { s with ceq := l }) (fun _ _ => rfl) (fun _ => rfl)

/-- The log of a corrected error keeps states alike. -/
theorem State.Alike.logCorrected (h : s.Alike t) (key pa pos src master : Nat) :
    (s.logError key pa 0 pos src master).Alike (t.logError key pa 0 pos src master) := by
  have hcount := h.count16 (logBlk key).1 0x4C 0
  have hset := fun w => ((hcount.setReg (logBlk key).1 0x40 (BitVec.ofNat 32 pa)).setReg (logBlk key).1 0x44 (BitVec.ofNat 32 (pa >>> 32))).setReg
    (logBlk key).1 0x48 w
  simp only [State.logError, if_true, Nat.zero_ne_one, if_false, h.fld, hcount.fld]
  split_ifs
  · exact ((hset _).raise _).raise _
  · exact hcount.raise _
  · exact (hset _).raise _
  · exact hcount

/-- A corrected error: logged, and its cell queued for the scrub. -/
def State.corrected (s : State) (key pa pos src master : Nat) (c : MCell) : State :=
  { s.logError key (alignDown pa 16) 0 pos src master with ceq := s.ceq ++ [(alignDown key 16, c)] }

theorem State.Alike.corrected (h : s.Alike t) (key pa pos src master : Nat) (c : MCell) :
    (s.corrected key pa pos src master c).Alike (t.corrected key pa pos src master c) := by
  have hceq : t.ceq = s.ceq := by rw [h.1]
  rw [State.corrected, State.corrected, hceq]
  exact (h.logCorrected key (alignDown pa 16) pos src master).setCeq _

theorem State.Alike.readCell {c : MCell} {s' : State} (h : s.Alike t) {key pa src master : Nat} (hread : s.readCell key pa src master = (some c, s')) :
    ∃ t', t.readCell key pa src master = (some c, t') ∧ s'.Alike t' := by
  obtain ⟨hfst, hsnd⟩ := h.decode key
  rw [State.readCell] at hread
  split at hread
  next hx =>
    simp only [Prod.mk.injEq, Option.some.injEq] at hread
    obtain ⟨rfl, rfl⟩ := hread
    exact ⟨t, by rw [State.readCell, if_pos hx, h.mem], h⟩
  next hx =>
    rw [State.readCell, if_neg hx]
    rcases hs : s.decode key with ⟨o, u⟩
    rcases ht : t.decode key with ⟨o', v⟩
    rw [hs, ht] at hfst hsnd
    rw [hs] at hread
    dsimp only at hread hfst hsnd ⊢
    subst hfst
    cases o' with
    | clean c' =>
      simp only [Prod.mk.injEq, Option.some.injEq] at hread
      obtain ⟨rfl, rfl⟩ := hread
      exact ⟨v, rfl, hsnd⟩
    | ce c' pos =>
      simp only [Prod.mk.injEq, Option.some.injEq] at hread
      obtain ⟨rfl, rfl⟩ := hread
      exact ⟨_, rfl, hsnd.corrected key pa pos src master c'⟩
    | ue ty pos => simp at hread

theorem State.Alike.follows_readMem (h : s.Alike t) (e pa src : Nat) (reg : Option Nat) (acc : Nat) :
    Follows (readMem e pa src reg acc) (readMem e pa src reg acc) s t := by
  refine follows_get ?_
  rcases hs : s.readCell (keyOf e pa) pa src e with ⟨o, s'⟩
  cases o with
  | none => exact follows_set_fault s' 0x16 (alignDown pa 16) reg acc _
  | some c =>
    obtain ⟨t', ht, h'⟩ := h.readCell hs
    rw [ht]
    refine follows_bind (follows_set h') (fun _ u v huv => ?_)
    dsimp only
    rw [h'.engine]
    exact follows_pure huv _

/-! ## The lineage check -/

theorem State.Alike.linRead {v : Word} {s' : State} {chB : Bool} {i src master : Nat} (h : s.Alike t) (hread : s.linRead chB i src master = (some v, s')) :
    ∃ t', t.linRead chB i src master = (some v, t') ∧ s'.Alike t' := by
  obtain ⟨hfst, hsnd⟩ := h.decode (linKey chB i)
  rw [State.linRead] at hread
  rw [State.linRead, h.mem, h.linEntry]
  dsimp only at hread ⊢
  split at hread
  next herr =>
    simp only [Prod.mk.injEq, Option.some.injEq] at hread
    obtain ⟨rfl, rfl⟩ := hread
    exact ⟨t, by rw [if_pos herr], h⟩
  next herr =>
    rw [if_neg herr]
    rcases hs : s.decode (linKey chB i) with ⟨o, u⟩
    rcases ht : t.decode (linKey chB i) with ⟨o', w⟩
    rw [hs, ht] at hfst hsnd
    rw [hs] at hread
    dsimp only at hread hfst hsnd ⊢
    subst hfst
    cases o' with
    | clean c =>
      simp only [Prod.mk.injEq, Option.some.injEq] at hread
      obtain ⟨rfl, rfl⟩ := hread
      exact ⟨w, rfl, hsnd⟩
    | ce c pos =>
      simp only [Prod.mk.injEq, Option.some.injEq] at hread
      obtain ⟨rfl, rfl⟩ := hread
      exact ⟨_, rfl, hsnd.corrected _ _ pos src master c⟩
    | ue ty pos => simp at hread

theorem State.Alike.filtInstall (h : s.Alike t) (e i g : Nat) : (s.filtInstall e i g).Alike (t.filtInstall e i g) := by
  rw [State.filtInstall, State.filtInstall, h.engine]
  dsimp only
  split
  · exact h.setEngine e _
  · rw [h.freeCtr]
    exact (h.setEngine e _).setFreeCtr _

theorem State.Alike.filtFill {g : Nat} {s' : State} {e i : Nat} (h : s.Alike t) (hfill : s.filtFill e i = (some g, s')) :
    ∃ t', t.filtFill e i = (some g, t') ∧ s'.Alike t' := by
  rw [State.filtFill] at hfill
  rcases hs : s.linRead (inB e) i 0xA e with ⟨o, u⟩
  rw [hs] at hfill
  cases o with
  | none => simp at hfill
  | some v =>
    obtain ⟨w, ht, h'⟩ := h.linRead hs
    rw [State.filtFill, ht]
    dsimp only at hfill ⊢
    split at hfill
    next hlive =>
      simp only [Prod.mk.injEq, Option.some.injEq] at hfill
      obtain ⟨rfl, rfl⟩ := hfill
      exact ⟨_, by rw [if_pos hlive], h'.filtInstall e i _⟩
    next => simp at hfill

theorem linkOk_root {c : Cell} (hi : capLin c = 0) (e : Nat) (s : State) : (linkOk e c true).run s = .ok (capGen c == 0) s := by
  simp only [linkOk, hi, if_true, em_pure]

theorem linkOk_hit {e : Nat} {c : Cell} {s : State} {p : Nat × Nat} (hi : capLin c ≠ 0)
    (h : (s.engine e).filt.find? (fun p => p.1 == capLin c) = some p) : (linkOk e c true).run s = .ok (p.2 == capGen c) s := by
  simp only [linkOk]
  rw [if_neg hi, em_bind, em_get]
  simp only [h, if_true, Bool.not_true, Bool.false_eq_true, if_false, em_pure]

theorem linkOk_miss {e : Nat} {c : Cell} {s : State} (hi : capLin c ≠ 0) (h : (s.engine e).filt.find? (fun p => p.1 == capLin c) = none) :
    (linkOk e c true).run s =
      .ok (((s.perf e 10).filtFill e (capLin c)).1 == some (capGen c)) ((s.perf e 10).filtFill e (capLin c)).2 := by
  simp only [linkOk]
  rw [if_neg hi, em_bind, em_get]
  simp only [h, if_true]
  rw [em_bind, em_get]
  dsimp only
  rw [em_bind, em_set]
  exact em_pure _ _

theorem State.Alike.linkOk {e : Nat} {c : Cell} {s' : State} (h : s.Alike t) (hrun : (linkOk e c true).run s = .ok true s') :
    ∃ t', (linkOk e c true).run t = .ok true t' ∧ s'.Alike t' := by
  by_cases hi : capLin c = 0
  · rw [linkOk_root hi] at hrun ⊢
    obtain ⟨hb, rfl⟩ := EStateM.Result.ok.inj hrun
    exact ⟨t, by rw [hb], h⟩
  · cases hf : (s.engine e).filt.find? (fun p => p.1 == capLin c) with
    | some p =>
      rw [linkOk_hit hi hf] at hrun
      rw [linkOk_hit hi (by rwa [h.engine])]
      obtain ⟨hb, rfl⟩ := EStateM.Result.ok.inj hrun
      exact ⟨t, by rw [hb], h⟩
    | none =>
      rw [linkOk_miss hi hf] at hrun
      rw [linkOk_miss hi (by rwa [h.engine])]
      obtain ⟨hb, rfl⟩ := EStateM.Result.ok.inj hrun
      obtain ⟨t', ht, h'⟩ := (h.perf e 10).filtFill (Prod.ext (beq_iff_eq.mp hb) rfl)
      rw [ht]
      exact ⟨t', by simp, h'⟩

theorem State.Alike.follows_capSource (h : s.Alike t) (e : Nat) (c : Cell) (val : Nat) (reg : Option Nat) (acc : Nat) :
    Follows (capSource e c val reg acc true) (capSource e c val reg acc true) s t := by
  unfold capSource
  split
  · exact follows_fault _ _ _ _ _
  · split
    · exact follows_fault _ _ _ _ _
    · split
      · exact follows_fault _ _ _ _ _
      · intro a s' hrun
        rw [em_bind] at hrun ⊢
        cases hlink : (Machine.linkOk e c true).run s with
        | error b u =>
          rw [hlink] at hrun
          cases hrun
        | ok b u =>
          rw [hlink] at hrun
          dsimp only at hrun
          cases b with
          | false =>
            rw [if_pos (by decide), em_fault] at hrun
            cases hrun
          | true =>
            obtain ⟨v, ht, h'⟩ := h.linkOk hlink
            rw [ht]
            dsimp only
            rw [if_neg (by simp)] at hrun ⊢
            exact follows_pure h' _ _ _ hrun

end

end Sys2Proof.Machine
end

section
/-!
# Translation and the save area in states that are alike (08_translation; 06_tasks_scheduler, R234 to R236)
-/

namespace Sys2Proof.Machine

open Sys2Proof

section
variable {s t : State}

/-! ## The walk (R316) -/

theorem State.Alike.setWcache (h : s.Alike t) (w : Map (List WalkEntry)) : ({ s with wcache := w } : State).Alike { t with wcache := w } :=
  h.blind (g := fun s => { s with wcache := w }) (fun _ _ => rfl) (fun _ => rfl)

theorem State.Alike.setWalks (h : s.Alike t) (w : Map (List WalkEntry)) (n : Nat) :
    ({ s with wcache := w, freeCtr := n } : State).Alike { t with wcache := w, freeCtr := n } :=
  h.blind (g := fun s => { s with wcache := w, freeCtr := n }) (fun _ _ => rfl) (fun _ => rfl)

theorem State.Alike.wcPut (h : s.Alike t) (e : Nat) (w : WalkEntry) : (s.wcPut e w).Alike (t.wcPut e w) := by
  by_cases hl : (Map.get [] s.wcache (clusterOf e)).length < 64
  · have hs : s.wcPut e w = { s with wcache := Map.put (Map.get [] s.wcache (clusterOf e) ++ [w]) s.wcache (clusterOf e) } := if_pos hl
    have ht : t.wcPut e w = { t with wcache := Map.put (Map.get [] t.wcache (clusterOf e) ++ [w]) t.wcache (clusterOf e) } :=
      if_pos (by rwa [h.wcache])
    rw [hs, ht, h.wcache]
    exact h.setWcache _
  · have hs : s.wcPut e w = { s with
        wcache := Map.put ((Map.get [] s.wcache (clusterOf e)).eraseIdx (Config.lfsr s.freeCtr % 64) ++ [w]) s.wcache (clusterOf e)
        freeCtr := s.freeCtr + 1 } := if_neg hl
    have ht : t.wcPut e w = { t with
        wcache := Map.put ((Map.get [] t.wcache (clusterOf e)).eraseIdx (Config.lfsr t.freeCtr % 64) ++ [w]) t.wcache (clusterOf e)
        freeCtr := t.freeCtr + 1 } := if_neg (by rwa [h.wcache])
    rw [hs, ht, h.wcache, h.freeCtr]
    exact h.setWalks _ _

theorem State.Alike.leafOf (h : s.Alike t) (e va l : Nat) (d : Dword) : t.leafOf e va l d = s.leafOf e va l d := by
  simp only [State.leafOf, h.oneRegion, h.esys]

/-- The index into the table of level `n + 1` (R316). -/
def walkIdx (va n : Nat) : Nat := if n + 1 = 5 then bits (BitVec.ofNat 56 va) 54 48 else bits (BitVec.ofNat 56 va) (12 + 9 * n + 8) (12 + 9 * n)

/-- The address of the descriptor that a walk reads at level `n + 1` (R316), in the twin's location for a relocated walk. -/
def walkAddr (va : Nat) (reloc : Bool) (tb n : Nat) : Nat :=
  if reloc = true then (twinLoc (tb + 8 * walkIdx va n)).getD (tb + 8 * walkIdx va n) else tb + 8 * walkIdx va n

/-- The descriptor that a cell holds at an address. -/
def walkWord (m : MCell) (a : Nat) : Dword := BitVec.ofNat 64 (m.bits.toNat >>> (8 * (a % 16)))

/-- The walk-cache entry of a table descriptor read at level `n + 1` (R319). -/
def walkEntry (e va ttb n : Nat) (d : Dword) : WalkEntry :=
  { owner := e, half := va.testBit 55, tb := ttb, level := n, vaTag := va >>> (12 + 9 * n), next := bits d 43 12 * 4096 }

/-- A walk from a valid descriptor `d` at level `n + 1` finds a leaf: there, or through the table it names (R316). -/
def State.LeafFrom (u : State) (e va ttb : Nat) (reloc : Bool) (n : Nat) (d : Dword) (r : WalkRes × State) : Prop :=
  bit d 0 = true ∧
  ((bit d 1 = true ∧ n ≠ 0 ∧ bits d 63 44 = 0 ∧ bits d 11 2 = 0 ∧
      (u.wcPut e (walkEntry e va ttb n d)).walkFrom e va ttb reloc (bits d 43 12 * 4096) n = r) ∨
    (bit d 1 = false ∧ (u.leafOf e va (n + 1) d, u) = r))

/-- A walk finds a leaf from the memory cell that holds the descriptor at `a`. -/
def State.LeafAt (s : State) (e va ttb : Nat) (reloc : Bool) (n a : Nat) (r : WalkRes × State) : Prop :=
  s.isMemory a = true ∧ ∃ m u, s.readCell a a 4 e = (some m, u) ∧ (kindOfTag m.tag = some .raw ∨ kindOfTag m.tag = some .int) ∧
    u.LeafFrom e va ttb reloc n (walkWord m a) r

/-- What a walk comes to from the descriptor `d` read at level `n + 1`. -/
def State.walkDesc (u : State) (e va ttb : Nat) (reloc : Bool) (n : Nat) (d : Dword) : WalkRes × State :=
  if !bit d 0 then (.fail 0x0A ((n + 1) * 16 + 3), u)
  else if bit d 1 then
    if n + 1 = 1 then (.fail 0x0E ((n + 1) * 16 + 5), u)
    else if bits d 63 44 ≠ 0 ∨ bits d 11 2 ≠ 0 then (.fail 0x0E ((n + 1) * 16 + 4), u)
    else (u.wcPut e (walkEntry e va ttb n d)).walkFrom e va ttb reloc (bits d 43 12 * 4096) n
  else (u.leafOf e va (n + 1) d, u)

theorem State.walkDesc_leaf_iff {u : State} {e va ttb : Nat} {reloc : Bool} {n : Nat} {d : Dword} {l : TlbEntry} {af : Bool} {s' : State} :
    u.walkDesc e va ttb reloc n d = (.leaf l af, s') ↔ u.LeafFrom e va ttb reloc n d (.leaf l af, s') := by
  rw [State.walkDesc, State.LeafFrom]
  split_ifs with hvalid htab hn hres
  · simp_all
  · simp_all
  · simp only [reduceCtorEq, Prod.mk.injEq, false_and, false_iff]
    rintro ⟨-, ⟨-, -, hhi, hlo, -⟩ | ⟨hleaf, -⟩⟩
    · exact hres.elim (fun h => h hhi) (fun h => h hlo)
    · simp [htab] at hleaf
  · simp_all
  · simp_all

theorem State.walkFrom_leaf_iff {e va ttb : Nat} {reloc : Bool} {n tb : Nat} {l : TlbEntry} {af : Bool} {s' : State} :
    s.walkFrom e va ttb reloc tb (n + 1) = (.leaf l af, s') ↔ s.LeafAt e va ttb reloc n (walkAddr va reloc tb n) (.leaf l af, s') := by
  rw [State.walkFrom, State.LeafAt, ← walkIdx, ← walkAddr]
  generalize walkAddr va reloc tb n = a
  cases hm : s.isMemory a
  · simp
  · rcases hr : s.readCell a a 4 e with ⟨_ | m, u⟩
    · simp
    · have hd : BitVec.ofNat 64 (m.bits.toNat >>> (8 * (a % 16))) = walkWord m a := rfl
      dsimp only
      rw [hd, if_neg (by simp), ← walkEntry, ← State.walkDesc]
      rcases hk : kindOfTag m.tag with _ | k
      · simp [hk]
      · cases k <;> simp [hk, State.walkDesc_leaf_iff]

theorem State.Alike.leafFrom {e va ttb : Nat} {reloc : Bool} {n : Nat} {d : Dword} {l : TlbEntry} {af : Bool} {s' : State} (h : s.Alike t)
    (hs : s.LeafFrom e va ttb reloc n d (.leaf l af, s'))
    (hnext : ∀ {u v : State} {tb : Nat}, u.Alike v → u.walkFrom e va ttb reloc tb n = (.leaf l af, s') →
      ∃ t', v.walkFrom e va ttb reloc tb n = (.leaf l af, t') ∧ s'.Alike t') :
    ∃ t', t.LeafFrom e va ttb reloc n d (.leaf l af, t') ∧ s'.Alike t' := by
  obtain ⟨hvalid, ⟨htab, hn, hhi, hlo, hwalk⟩ | ⟨hleaf, hl⟩⟩ := hs
  · obtain ⟨t', ht, h'⟩ := hnext (h.wcPut e (walkEntry e va ttb n d)) hwalk
    exact ⟨t', ⟨hvalid, .inl ⟨htab, hn, hhi, hlo, ht⟩⟩, h'⟩
  · obtain ⟨hres, rfl⟩ := Prod.mk.inj hl
    exact ⟨t, ⟨hvalid, .inr ⟨hleaf, by rw [h.leafOf, hres]⟩⟩, h⟩

theorem State.Alike.walkFrom {e va ttb : Nat} {reloc : Bool} {n tb : Nat} {l : TlbEntry} {af : Bool} {s' : State} (h : s.Alike t)
    (hwalk : s.walkFrom e va ttb reloc tb n = (.leaf l af, s')) : ∃ t', t.walkFrom e va ttb reloc tb n = (.leaf l af, t') ∧ s'.Alike t' := by
  induction n generalizing s t tb with
  | zero => simp [State.walkFrom] at hwalk
  | succ n ih =>
    obtain ⟨hmem, m, u, hread, hkind, hfrom⟩ := State.walkFrom_leaf_iff.mp hwalk
    obtain ⟨v, ht, huv⟩ := h.readCell hread
    obtain ⟨t', hfrom', h'⟩ := huv.leafFrom hfrom ih
    exact ⟨t', State.walkFrom_leaf_iff.mpr ⟨by rwa [h.isMemory], m, v, ht, hkind, hfrom'⟩, h'⟩

theorem State.Alike.walkVa {e va : Nat} {l : TlbEntry} {af : Bool} {s' : State} (h : s.Alike t) (hwalk : s.walkVa e va = (.leaf l af, s')) :
    ∃ t', t.walkVa e va = (.leaf l af, t') ∧ s'.Alike t' := by
  simp only [State.walkVa, h.esys, h.curSlot, h.wcache] at hwalk ⊢
  revert hwalk
  split
  · exact h.walkFrom
  · exact h.walkFrom

theorem State.Alike.tlbPut (h : s.Alike t) (e : Nat) (l : TlbEntry) : (s.tlbPut e l).Alike (t.tlbPut e l) := by
  rw [State.tlbPut, State.tlbPut, h.engine]
  dsimp only
  split
  · exact h.setEngine e _
  · rw [h.freeCtr]
    exact (h.setEngine e _).setFreeCtr _

theorem State.Alike.walked {e va : Nat} {acc : Access} {lvl : Level} {user kgu : Bool} {l : TlbEntry} {s' : State} (h : s.Alike t)
    (hwalk : s.walked e va acc lvl user kgu = (.ok l, s')) : ∃ t', t.walked e va acc lvl user kgu = (.ok l, t') ∧ s'.Alike t' := by
  rw [State.walked] at hwalk ⊢
  rcases hs : s.walkVa e va with ⟨⟨l', af⟩ | ⟨c, sub⟩, u⟩
  · obtain ⟨v, ht, huv⟩ := h.walkVa hs
    have hput : (if af = true then u.tlbPut e l' else u).Alike (if af = true then v.tlbPut e l' else v) := by
      split
      · exact huv.tlbPut e l'
      · exact huv
    rw [hs] at hwalk
    rw [ht]
    dsimp only at hwalk ⊢
    cases hp : pageCheck l' af acc lvl user kgu with
    | some f => simp [hp] at hwalk
    | none =>
      simp only [hp, Prod.mk.injEq, Except.ok.injEq] at hwalk ⊢
      obtain ⟨rfl, rfl⟩ := hwalk
      exact ⟨_, ⟨rfl, rfl⟩, hput⟩
  · rw [hs] at hwalk
    simp at hwalk

/-! ## Translation (R301, R302, R321 to R326) -/

theorem State.Alike.halfFault (h : s.Alike t) (e va : Nat) : t.halfFault e va = s.halfFault e va := by
  simp only [State.halfFault, h.esys]

theorem State.Alike.follows_tlbMiss (h : s.Alike t) (e : Nat) {r : XReq} (hinl : r.inl = true) : Follows (tlbMiss e r) (tlbMiss e r) s t := by
  unfold tlbMiss
  rw [if_pos hinl]
  refine follows_get ?_
  rcases hs : s.walked e r.va r.acc r.lvl r.user r.kgu with ⟨f | l, s'⟩
  · exact follows_set_fault s' f.1 (xval r.va f.2) r.reg r.accCode _
  · obtain ⟨t', ht, h'⟩ := h.walked hs
    rw [ht]
    exact follows_bind (follows_set h') (fun _ u v huv => follows_pure huv _)

theorem State.Alike.follows_translate (h : s.Alike t) (e : Nat) {r : XReq} (hinl : r.inl = true) : Follows (translate e r) (translate e r) s t := by
  have hmiss : ∀ (f : Engine → Engine), Follows (do set (s.updEngine e f); tlbMiss e r) (do set (t.updEngine e f); tlbMiss e r) s t := fun f =>
    follows_bind (follows_set (h.updEngine e f)) (fun _ u v huv => huv.follows_tlbMiss e hinl)
  unfold translate
  refine follows_get ?_
  rw [h.halfFault, h.engine, h.esys]
  split
  · exact follows_pure h _
  · split
    · exact follows_fault _ _ _ _ _
    · split
      · split
        · exact hmiss _
        · exact follows_fault _ _ _ _ _
        · exact follows_pure h _
      · exact h.follows_tlbMiss e hinl
      · exact hmiss _

theorem State.Alike.follows_mpuE (h : s.Alike t) (e pa : Nat) (acc : Access) (lvl : Level) (paired : Bool) (mt : MemType) (reg : Option Nat)
    (accCode : Nat) : Follows (mpuE e pa acc lvl paired mt reg accCode) (mpuE e pa acc lvl paired mt reg accCode) s t := by
  refine follows_get ?_
  dsimp only
  by_cases hd : (s.mpuDecide (.engine (BitVec.ofNat 10 e)) pa acc (lvl != .t) paired mt).1 = 0
  · rw [State.mpuCheck_allowed _ _ hd, State.mpuCheck_allowed _ _ (by rwa [h.mpuDecide])]
    exact follows_bind (follows_set h) (fun _ u v huv => follows_pure huv _)
  · rw [if_pos (by rwa [State.mpuCheck_fst])]
    exact follows_set_fault _ 0x0F pa reg accCode _

/-! ## The save area (R234 to R236) -/

theorem State.Alike.follows_saveCheck (h : s.Alike t) (e : Nat) (c : Cell) : Follows (saveCheck e c) (saveCheck e c) s t := by
  unfold saveCheck
  refine follows_bind (h.follows_capSource e c _ none 0) (fun _ u v huv => ?_)
  split
  · dsimp only
    split
    · exact follows_fault_bind _ _ _ _ _ _
    · exact follows_fault _ _ _ _ _
  · dsimp only
    split
    · exact follows_fault_bind _ _ _ _ _ _
    · exact follows_pure huv _

theorem State.Alike.follows_saveLine (h : s.Alike t) (e : Nat) (c : Cell) (i : Nat) (acc : Access) (paired : Bool) :
    Follows (saveLine e c i acc paired) (saveLine e c i acc paired) s t := by
  unfold saveLine
  refine follows_bind (h.follows_translate e rfl) (fun p u v huv => ?_)
  refine follows_bind (huv.follows_mpuE e p.1 acc .k paired p.2 none 0) (fun _ u v huv => ?_)
  refine follows_get ?_
  rw [huv.busBad]
  split
  · exact follows_fault _ _ _ _ _
  · exact follows_pure huv _

/-- The fill of a task reads the same cells in states that are alike. -/
theorem State.Alike.follows_fillCellsOf (h : s.Alike t) (e : Nat) (sl : Slot) : Follows (fillCellsOf e sl) (fillCellsOf e sl) s t := by
  unfold fillCellsOf
  refine follows_bind (h.follows_saveCheck e sl.save) (fun _ u v huv => ?_)
  refine follows_foldlM (fun acc i u v huv => ?_) _ _ huv
  refine follows_bind (huv.follows_saveLine e sl.save i .read sl.paired) (fun pa u v huv => ?_)
  refine follows_foldlM (fun acc j u v huv => ?_) _ _ huv
  refine follows_bind (huv.follows_readMem e (pa + 16 * j) 0xB none 0) (fun m u v huv => ?_)
  split
  · exact follows_fault _ _ _ _ _
  · exact follows_pure huv _

end

end Sys2Proof.Machine
end

section
/-!
# TASK_SWITCH and dispatch (06_tasks_scheduler, R238 to R244)

A switch with no victim and an empty store buffer dispatches the task: from the chuck it holds, or from the chuck filled from its save area.
-/

namespace Sys2Proof.Machine

open Sys2Proof

/-! ## Dispatch (R238, R240, R241) -/

theorem State.eng_tracePut (s : State) (k ty : Nat) (body : List Byte) : (s.tracePut k ty body).eng = s.eng := by
  unfold State.tracePut
  dsimp only
  split_ifs <;> rfl

theorem eng_foldl {α : Type} {f : State → α → State} (hf : ∀ u a, (f u a).eng = u.eng) (l : List α) (u : State) : (l.foldl f u).eng = u.eng := by
  induction l generalizing u with
  | nil => rfl
  | cons a l ih => rw [List.foldl_cons, ih, hf]

theorem State.eng_traceEv (s : State) (e ty : Nat) (body : List Byte) : (s.traceEv e ty body).eng = s.eng := by
  unfold State.traceEv
  split
  · refine eng_foldl (fun u k => ?_) _ s
    dsimp only
    rw [apply_ite State.eng, State.eng_tracePut, ite_self]
  · rfl

theorem State.engine_traceEv (s : State) (e ty : Nat) (body : List Byte) (i : Nat) : (s.traceEv e ty body).engine i = s.engine i := by
  rw [State.engine, s.eng_traceEv, State.engine]

/-- The signature takes a record and nothing else of the engine changes (R395). -/
theorem State.engine_sigTake (s : State) (e : Nat) (l : List Byte) : ∃ g, (s.sigTake e l).engine e = { s.engine e with sig := g } := by
  unfold State.sigTake
  split
  · exact ⟨_, s.engine_updEngine_self ..⟩
  · exact ⟨(s.engine e).sig, rfl⟩

/-- The dispatch of slot `n` in chuck `c` as the engine holds it: the scheduler's copies and the slot RUNNING (R238, R240, R241). -/
def Engine.dispatched (x : Engine) (n c : Nat) : Engine :=
  let t := Map.get Slot.free x.slots n
  { x with
    slot := n, cur := c, level := .t, running := true, resv := none, sw := none, lchk := []
    sys := Map.put (t.psalt.setWidth 64) (Map.put (t.ceil.setWidth 64) (Map.put (t.asid.setWidth 64) (Map.put t.ttb0 x.sys 0x108) 0x10B) 0x107) 0x10D
    slots := Map.put { t with st := .running, firstFill := false, lastRun := x.readyCtr, used := 0, sliceNow := t.slice } x.slots n
    readyCtr := x.readyCtr + 1 }

/-- The engine given to the task. -/
def State.givenTo (s : State) (e n c : Nat) : State :=
  s.updEngine e (fun x => { x with slot := n, cur := c, level := .t, running := true, resv := none, sw := none, lchk := [] })

/-- The effect of PFLUSH before the first run of the task `t` (R216). -/
def State.flushedFor (s : State) (e n : Nat) (t : Slot) : State := if t.firstFill then s.updEngine e (fun x => x.pflush n (s.taskId e)) else s

/-- The scheduler's copies of the task's TTB0, ASID, TASKCEIL and PSALT (R240). -/
def State.copiesOf (s : State) (e : Nat) (t : Slot) : State :=
  (((s.setEsys e 0x108 t.ttb0).setEsys e 0x10B (t.asid.setWidth 64)).setEsys e 0x107 (t.ceil.setWidth 64)).setEsys e 0x10D (t.psalt.setWidth 64)

/-- The slot RUNNING. -/
def State.runs (s : State) (e n : Nat) : State :=
  (s.updSlot e n (fun t => { t with st := .running, firstFill := false, lastRun := (s.engine e).readyCtr, used := 0, sliceNow := t.slice })).updEngine
    e Engine.tick

theorem State.dispatch_eq (s : State) (e n c : Nat) :
    let t := s.slotAt e n
    s.dispatch e n c = (((((s.givenTo e n c).flushedFor e n t).copiesOf e t).runs e n).sigTake e ([0x06] ++ toBytes 2 (taskIdOf e n t.paired))).traceEv
      e 4 (toBytes 2 (taskIdOf e n t.paired)) := rfl

theorem State.engine_flushedFor (s : State) (e n : Nat) (t : Slot) :
    ∃ d b, (s.flushedFor e n t).engine e = { s.engine e with dirc := d, btb := b } := by
  unfold State.flushedFor
  split
  · exact ⟨_, _, s.engine_updEngine_self ..⟩
  · exact ⟨(s.engine e).dirc, (s.engine e).btb, rfl⟩

theorem State.engine_copiesOf (s : State) (e : Nat) (t : Slot) : (s.copiesOf e t).engine e = { s.engine e with
    sys := Map.put (t.psalt.setWidth 64) (Map.put (t.ceil.setWidth 64) (Map.put (t.asid.setWidth 64) (Map.put t.ttb0 (s.engine e).sys 0x108) 0x10B)
      0x107) 0x10D } := by
  simp only [State.copiesOf, State.setEsys, State.engine_updEngine_self]

/-- Slot `n` of an engine RUNNING, the last of all to run (R239). -/
def Engine.runs (x : Engine) (n : Nat) : Engine :=
  let t := Map.get Slot.free x.slots n
  { x with
    slots := Map.put { t with st := .running, firstFill := false, lastRun := x.readyCtr, used := 0, sliceNow := t.slice } x.slots n
    readyCtr := x.readyCtr + 1 }

theorem State.engine_runs (s : State) (e n : Nat) : (s.runs e n).engine e = (s.engine e).runs n := by
  simp only [State.runs, State.updSlot, State.engine_updEngine_self, Engine.tick, Map.upd, Engine.runs]

/-- A dispatch leaves the engine dispatched, but for its predictors and its signature. -/
theorem State.engine_dispatch (s : State) (e n c : Nat) :
    ∃ d b g, (s.dispatch e n c).engine e = { (s.engine e).dispatched n c with dirc := d, btb := b, sig := g } := by
  rw [State.dispatch_eq, State.engine_traceEv]
  obtain ⟨g, hg⟩ := State.engine_sigTake ((((s.givenTo e n c).flushedFor e n (s.slotAt e n)).copiesOf e (s.slotAt e n)).runs e n) e
    ([0x06] ++ toBytes 2 (taskIdOf e n (s.slotAt e n).paired))
  obtain ⟨d, b, hflush⟩ := (s.givenTo e n c).engine_flushedFor e n (s.slotAt e n)
  have hgiven : (s.givenTo e n c).engine e =
      { s.engine e with slot := n, cur := c, level := .t, running := true, resv := none, sw := none, lchk := [] } := s.engine_updEngine_self ..
  have hcopies := ((s.givenTo e n c).flushedFor e n (s.slotAt e n)).engine_copiesOf e (s.slotAt e n)
  rw [hflush, hgiven] at hcopies
  refine ⟨d, b, g, ?_⟩
  rw [hg, State.engine_runs, hcopies]
  rfl

theorem State.dispatch_engine (s : State) (e n c : Nat) :
    let v := s.dispatch e n c
    (v.engine e).sw = none ∧ (v.engine e).running = true ∧ (v.engine e).level = .t ∧ (v.engine e).slot = n ∧ (v.engine e).cur = c ∧
      (v.engine e).resv = none ∧ v.chuck e = Map.get Chuck.empty (s.engine e).chucks c := by
  intro v
  obtain ⟨d, b, g, hv⟩ := s.engine_dispatch e n c
  rw [State.chuck, hv]
  exact ⟨rfl, rfl, rfl, rfl, rfl, rfl, rfl⟩

theorem State.dispatch_slot (s : State) (e n c : Nat) :
    let v := s.dispatch e n c
    (v.curSlot e).st = .running ∧ (v.curSlot e).chuck = (s.slotAt e n).chuck := by
  intro v
  obtain ⟨d, b, g, hv⟩ := s.engine_dispatch e n c
  rw [State.curSlot, hv, Engine.dispatched]
  dsimp only
  rw [Map.get_put_self]
  exact ⟨rfl, rfl⟩

theorem State.dispatch_copies (s : State) (e n c : Nat) :
    let v := s.dispatch e n c
    let t := s.slotAt e n
    v.esys e 0x108 = t.ttb0 ∧ v.esys e 0x10B = t.asid.setWidth 64 ∧ v.esys e 0x107 = t.ceil.setWidth 64 ∧ v.esys e 0x10D = t.psalt.setWidth 64 := by
  intro v t
  obtain ⟨d, b, g, hv⟩ := s.engine_dispatch e n c
  have hsys : ∀ k, v.esys e k = Map.get (engSysReset k) ((s.engine e).dispatched n c).sys k := fun k => by rw [State.esys, hv]
  simp only [hsys, Engine.dispatched]
  refine ⟨?_, ?_, ?_, Map.get_put_self ..⟩
  · rw [Map.get_put_ne _ _ _ (by decide), Map.get_put_ne _ _ _ (by decide), Map.get_put_ne _ _ _ (by decide), Map.get_put_self]
    rfl
  · rw [Map.get_put_ne _ _ _ (by decide), Map.get_put_ne _ _ _ (by decide), Map.get_put_self]
    rfl
  · rw [Map.get_put_ne _ _ _ (by decide), Map.get_put_self]
    rfl

/-! ## TASK_SWITCH (R241 to R244) -/

/-- An empty store buffer drains to the same engines. -/
theorem State.sbDrain_alike {s : State} {e : Nat} (h : (s.engine e).sb = []) : s.Alike (s.sbDrain e) := by
  have hdrain : s.sbDrain e = s.updEngine e (fun x => { x with sb := [] }) := by rw [State.sbDrain, h, List.foldl_nil]
  rw [hdrain]
  refine ⟨rfl, fun i => ?_⟩
  by_cases hi : i = e
  · rw [hi, State.engine_updEngine_self, ← h]
  · rw [State.engine_updEngine_ne _ _ hi]

/-- The chuck `c` filled for slot `n` (R243). -/
def State.chuckFilled (s : State) (e n c : Nat) (k : Chuck) : State :=
  (s.updEngine e (fun x => { x with chucks := Map.put k x.chucks c })).updSlot e n (fun t => { t with chuck := some c })

theorem State.chuckFilled_spec (s : State) (e n c : Nat) (k : Chuck) :
    Map.get Chuck.empty ((s.chuckFilled e n c k).engine e).chucks c = k ∧ ((s.chuckFilled e n c k).slotAt e n).chuck = some c := by
  refine ⟨?_, by rw [State.chuckFilled, State.slotAt_updSlot]⟩
  rw [State.chuckFilled, State.updSlot, State.engine_updEngine_self, State.engine_updEngine_self]
  exact Map.get_put_self ..

section
variable {s : State} {e : Eid} {w : Switch}

/-- A switch with no victim to a READY task that holds a chuck (R241). -/
theorem exec_taskSwitch_resident {c : Nat} (hsw : (s.engine e.toNat).sw = some w) (hvictim : w.victim = none)
    (hready : (s.slotAt e.toNat w.slot).st = .ready) (halike : s.Alike (s.sbDrain e.toNat)) (hchuck : (s.slotAt e.toNat w.slot).chuck = some c) :
    exec (.taskSwitch e) s = .next ((s.sbDrain e.toNat).dispatch e.toNat w.slot c) := by
  have hslot : Map.get Slot.free ((s.sbDrain e.toNat).engine e.toNat).slots w.slot = s.slotAt e.toNat w.slot := by rw [halike.engine, State.slotAt]
  have hst : ¬(Map.get Slot.free (s.engine e.toNat).slots w.slot).st ≠ .ready := not_not_intro hready
  change execTaskSwitch e s = _
  rw [execTaskSwitch]
  dsimp only
  rw [hsw]
  dsimp only
  rw [if_neg hst, hvictim]
  dsimp only [Option.filter_none]
  rw [hslot, hchuck]

/-- A switch with no victim to a READY task that holds no chuck fills one first (R243). -/
theorem exec_taskSwitch_filled {l : List Cell} {u : State} (hsw : (s.engine e.toNat).sw = some w) (hvictim : w.victim = none)
    (hready : (s.slotAt e.toNat w.slot).st = .ready) (halike : s.Alike (s.sbDrain e.toNat)) (hchuck : (s.slotAt e.toNat w.slot).chuck = none)
    (hfill : (fillCellsOf e.toNat (s.slotAt e.toNat w.slot)).run (s.sbDrain e.toNat) = .ok l u) :
    exec (.taskSwitch e) s = .next ((u.chuckFilled e.toNat w.slot w.chuck
      (chuckOf l (s.slotAt e.toNat w.slot).firstFill (s.slotAt e.toNat w.slot).cls w.slot)).dispatch e.toNat w.slot w.chuck) := by
  have hslot : Map.get Slot.free ((s.sbDrain e.toNat).engine e.toNat).slots w.slot = s.slotAt e.toNat w.slot := by rw [halike.engine, State.slotAt]
  have hst : ¬(Map.get Slot.free (s.engine e.toNat).slots w.slot).st ≠ .ready := not_not_intro hready
  change execTaskSwitch e s = _
  rw [execTaskSwitch]
  dsimp only
  rw [hsw]
  dsimp only
  rw [if_neg hst, hvictim]
  dsimp only [Option.filter_none]
  rw [hslot, hchuck]
  dsimp only
  rw [hfill]
  rfl

end

end Sys2Proof.Machine
end

section
/-!
# The save area (06_tasks_scheduler, R234, R235)

A chuck comes back from the cells that it was spilled to: each field is read from the cells that hold it.
-/

namespace Sys2Proof.Machine

open Sys2Proof

/-! ## Cells of two items -/

theorem pairCell_toNat (lo hi : Dword) : (pairCell lo hi).bits.toNat = lo.toNat + hi.toNat * 2 ^ 64 := by
  have hlo := lo.isLt
  have hhi := hi.isLt
  simp only [pairCell, BitVec.toNat_add, BitVec.toNat_shiftLeft, BitVec.toNat_setWidth, Nat.shiftLeft_eq]
  omega

theorem pairCell_lo (lo hi : Dword) : BitVec.ofNat 64 (pairCell lo hi).bits.toNat = lo := by
  have hlo := lo.isLt
  apply BitVec.eq_of_toNat_eq
  rw [BitVec.toNat_ofNat, pairCell_toNat]
  omega

theorem pairCell_hi (lo hi : Dword) : BitVec.ofNat 64 ((pairCell lo hi).bits.toNat >>> 64) = hi := by
  have hlo := lo.isLt
  have hhi := hi.isLt
  apply BitVec.eq_of_toNat_eq
  rw [BitVec.toNat_ofNat, pairCell_toNat, Nat.shiftRight_eq_div_pow]
  omega

/-! ## Cells of several words -/

theorem ofBytes_append (a b : List Byte) : ofBytes (a ++ b) = ofBytes a + 256 ^ a.length * ofBytes b := by
  induction a with
  | nil => simp [ofBytes]
  | cons x a ih =>
    rw [List.cons_append, ofBytes, ofBytes, ih, List.length_cons, pow_succ]
    ring

/-- Words of 16 bits, the first in the low bits. -/
def packWords (l : List (BitVec 16)) : Nat := ofBytes (l.flatMap (fun w => toBytes 2 w.toNat))

theorem packWords_cons (w : BitVec 16) (l : List (BitVec 16)) : packWords (w :: l) = w.toNat + 2 ^ 16 * packWords l := by
  have hw : w.toNat < 256 ^ 2 := w.isLt
  rw [packWords, List.flatMap_cons, ofBytes_append, ofBytes_toBytes, Nat.mod_eq_of_lt hw, length_toBytes]
  rfl

theorem packWords_lt (l : List (BitVec 16)) : packWords l < 2 ^ (16 * l.length) := by
  induction l with
  | nil => decide
  | cons w l ih =>
    have hw := w.isLt
    rw [packWords_cons, List.length_cons, Nat.mul_succ, Nat.add_comm (16 * l.length) 16, pow_add]
    nlinarith

theorem packWords_word (l : List (BitVec 16)) {i : Nat} (h : i < l.length) : BitVec.ofNat 16 (packWords l >>> (16 * i)) = l[i] := by
  induction l generalizing i with
  | nil => simp at h
  | cons w l ih =>
    have hw := w.isLt
    cases i with
    | zero =>
      apply BitVec.eq_of_toNat_eq
      rw [packWords_cons, BitVec.toNat_ofNat, Nat.mul_zero, Nat.shiftRight_zero, List.getElem_cons_zero]
      omega
    | succ i =>
      have hshift : packWords (w :: l) >>> (16 * (i + 1)) = packWords l >>> (16 * i) := by
        rw [packWords_cons, Nat.mul_succ, Nat.add_comm (16 * i) 16, Nat.shiftRight_add, Nat.shiftRight_eq_div_pow _ 16]
        congr 1
        omega
      rw [hshift, List.getElem_cons_succ]
      exact ih (by simpa using h)

/-! ## The cells of a chuck (Table 06-5) -/

section
variable (c : Chuck)

theorem saveCells_reg {i : Nat} (h : i < 31) : c.saveCells.getD i Cell.null = c.reg (i + 1) := by
  interval_cases i <;> rfl

/-- The item `i` of the cells of 64-bit registers; the last place holds none. -/
def Chuck.saveItem (i : Nat) : Dword := if i < 15 then c.sysr (saveItems.getD i 0) else 0

theorem saveCells_items {i : Nat} (h : i < 8) : c.saveCells.getD (32 + i) Cell.null = pairCell (c.saveItem (2 * i)) (c.saveItem (2 * i + 1)) := by
  interval_cases i <;> rfl

theorem saveCells_preds : (c.saveCells.getD 40 Cell.null).bits = BitVec.ofNat 128 (packWords ((List.range 7).map (fun i => c.pred (i + 1)))) := rfl

theorem saveCells_accs {k : Nat} (h : k < 4) : c.saveCells.getD (42 + 2 * k) Cell.null = pairCell (c.acc k).l0 (c.acc k).l1 ∧
    c.saveCells.getD (43 + 2 * k) Cell.null = pairCell (c.acc k).l2 (c.acc k).l3 := by
  interval_cases k <;> exact ⟨rfl, rfl⟩

theorem saveCells_signs : (c.saveCells.getD 50 Cell.null).bits =
    BitVec.ofNat 128 ((c.acc 0).s.toNat + 16 * (c.acc 1).s.toNat + 256 * (c.acc 2).s.toNat + 4096 * (c.acc 3).s.toNat) := rfl

end

/-! ## The chuck from its cells -/

/-- A map of entries made from numbers gives the entry of each. -/
theorem Map.get_map {α : Type} (d : α) {k : Nat → Nat} {v : Nat → α} {l : List Nat} {a : Nat} (ha : a ∈ l) (hk : ∀ b ∈ l, k b = k a → b = a) :
    Map.get d (l.map (fun i => (k i, v i))) (k a) = v a := by
  induction l with
  | nil => simp at ha
  | cons b l ih =>
    rw [List.map_cons, Map.get]
    split
    next h => rw [hk b List.mem_cons_self h]
    next h =>
      rcases List.mem_cons.mp ha with rfl | ha
      · exact absurd rfl h
      · exact ih ha (fun b hb => hk b (List.mem_cons_of_mem _ hb))

section
variable (c : Chuck) (cls : Bool) (slot : Nat)

theorem chuckOf_reg {r : Nat} (h : r < 32) : (chuckOf c.saveCells false cls slot).reg r = c.reg r := by
  rcases Nat.eq_zero_or_pos r with rfl | hr
  · simp
  · obtain ⟨i, rfl⟩ : ∃ i, r = i + 1 := ⟨r - 1, by omega⟩
    have hcell : (chuckOf c.saveCells false cls slot).reg (i + 1) = c.saveCells.getD i Cell.null := by
      rw [Chuck.reg, if_neg (by omega)]
      exact Map.get_map (k := (· + 1)) (v := fun i => c.saveCells.getD i Cell.null) _ (List.mem_range.mpr (by omega)) (fun b _ hb => by simpa using hb)
    rw [hcell, saveCells_reg c (by omega)]

theorem chuckOf_pcc : (chuckOf c.saveCells false cls slot).pcc = alignPcc c.pcc := rfl

/-- An item is read from its half of its cell. -/
theorem saveCells_half {i : Nat} (h : i < 15) :
    BitVec.ofNat 64 ((c.saveCells.getD (32 + i / 2) Cell.null).bits.toNat >>> (64 * (i % 2))) = c.sysr (saveItems.getD i 0) := by
  have hitem : c.saveItem i = c.sysr (saveItems.getD i 0) := if_pos h
  rw [saveCells_items c (by omega), ← hitem]
  rcases Nat.mod_two_eq_zero_or_one i with hi | hi
  · rw [hi, Nat.mul_zero, Nat.shiftRight_zero, pairCell_lo]
    congr 1
    omega
  · rw [hi, Nat.mul_one, pairCell_hi]
    congr 1
    omega

theorem saveItems_inj : ∀ a < 15, ∀ b < 15, saveItems.getD b 0 = saveItems.getD a 0 → b = a := by decide

/-- A bit set to what it is. -/
theorem setBit_of_bit {n : Nat} (x : BitVec n) {i : Nat} {b : Bool} (hi : i < n) (h : bit x i = b) : setBit x i b = x := by
  refine BitVec.eq_of_getLsbD_eq (fun k _ => ?_)
  have hk := bit_setBit x hi b k
  rw [bit, bit] at hk
  rw [hk]
  split
  next hki => rw [hki, ← h, bit]
  next => rfl

theorem chuckOf_sysr (hmask : ∀ n ∈ saveItems, c.sysr n &&& sysMask n = c.sysr n) (hcls : bit (c.sysr 0) 16 = cls) {n : Nat} (hn : n ∈ saveItems) :
    (chuckOf c.saveCells false cls slot).sysr n = c.sysr n := by
  obtain ⟨i, hi, rfl⟩ : ∃ i, i < 15 ∧ saveItems.getD i 0 = n := by
    obtain ⟨i, hi, rfl⟩ := List.mem_iff_getElem.mp hn
    exact ⟨i, hi, List.getD_eq_getElem _ _ hi⟩
  have hvalue : (chuckOf c.saveCells false cls slot).sysr (saveItems.getD i 0) =
      if saveItems.getD i 0 = 0 then setBit (c.sysr (saveItems.getD i 0)) 16 cls else c.sysr (saveItems.getD i 0) := by
    have hhalf := saveCells_half c hi
    have hget := Map.get_map (if saveItems.getD i 0 = 0 then (0x20300 : Dword) else 0) (k := fun i => saveItems.getD i 0) (v := fun i =>
      if saveItems.getD i 0 = 0 then
        setBit (BitVec.ofNat 64 ((c.saveCells.getD (32 + i / 2) Cell.null).bits.toNat >>> (64 * (i % 2))) &&& sysMask (saveItems.getD i 0)) 16 cls
      else BitVec.ofNat 64 ((c.saveCells.getD (32 + i / 2) Cell.null).bits.toNat >>> (64 * (i % 2))) &&& sysMask (saveItems.getD i 0))
      (List.mem_range.mpr hi) (fun b hb => saveItems_inj i hi b (List.mem_range.mp hb))
    rw [hhalf, hmask _ hn] at hget
    exact hget
  rw [hvalue]
  split
  next h0 => rw [h0, setBit_of_bit _ (by decide) hcls]
  next => rfl

theorem chuckOf_pred {p : Nat} (hp : p < 8) : (chuckOf c.saveCells false true slot).pred p = c.pred p := by
  rcases Nat.eq_zero_or_pos p with rfl | hpos
  · rfl
  · obtain ⟨i, rfl⟩ : ∃ i, p = i + 1 := ⟨p - 1, by omega⟩
    have hlen : i < ((List.range 7).map (fun i => c.pred (i + 1))).length := by
      rw [List.length_map, List.length_range]
      omega
    have hword : (chuckOf c.saveCells false true slot).pred (i + 1) =
        BitVec.ofNat 16 ((c.saveCells.getD 40 Cell.null).bits.toNat >>> (16 * i)) := by
      rw [Chuck.pred, if_neg (by omega)]
      exact Map.get_map (k := (· + 1)) (v := fun i => BitVec.ofNat 16 ((c.saveCells.getD 40 Cell.null).bits.toNat >>> (16 * i))) _
        (List.mem_range.mpr (by omega)) (fun b _ hb => by simpa using hb)
    have hfit : packWords ((List.range 7).map (fun i => c.pred (i + 1))) < 2 ^ 128 :=
      (packWords_lt _).trans_le (Nat.pow_le_pow_right (by decide) (by simp))
    rw [hword, saveCells_preds, BitVec.toNat_ofNat, Nat.mod_eq_of_lt hfit, packWords_word _ hlen]
    simp

theorem saveCells_sign {a : Nat} (ha : a < 4) : BitVec.ofNat 4 ((c.saveCells.getD 50 Cell.null).bits.toNat >>> (4 * a)) = (c.acc a).s := by
  have h0 := (c.acc 0).s.isLt
  have h1 := (c.acc 1).s.isLt
  have h2 := (c.acc 2).s.isLt
  have h3 := (c.acc 3).s.isLt
  rw [saveCells_signs]
  apply BitVec.eq_of_toNat_eq
  rw [BitVec.toNat_ofNat, BitVec.toNat_ofNat, Nat.shiftRight_eq_div_pow]
  interval_cases a <;> omega

theorem chuckOf_acc {a : Nat} (ha : a < 4) : (chuckOf c.saveCells false true slot).acc a = c.acc a := by
  obtain ⟨hlow, hhigh⟩ := saveCells_accs c ha
  have hget : (chuckOf c.saveCells false true slot).acc a =
      { l0 := BitVec.ofNat 64 (c.saveCells.getD (42 + 2 * a) Cell.null).bits.toNat
        l1 := BitVec.ofNat 64 ((c.saveCells.getD (42 + 2 * a) Cell.null).bits.toNat >>> 64)
        l2 := BitVec.ofNat 64 (c.saveCells.getD (43 + 2 * a) Cell.null).bits.toNat
        l3 := BitVec.ofNat 64 ((c.saveCells.getD (43 + 2 * a) Cell.null).bits.toNat >>> 64)
        s := BitVec.ofNat 4 ((c.saveCells.getD 50 Cell.null).bits.toNat >>> (4 * a)) } :=
    Map.get_map (k := fun i => i) (l := List.range 4) _ (List.mem_range.mpr ha) (fun b _ hb => hb)
  rw [hget, hlow, hhigh, pairCell_lo, pairCell_hi, pairCell_lo, pairCell_hi, saveCells_sign c ha]

end

end Sys2Proof.Machine
end

section
/-!
# The scheduler's choice, dispatch, slices, and spill with fill, settled (06_tasks_scheduler)
-/

namespace Sys2Proof.Machine

open Sys2Proof

section
variable {s : State} {e : Eid} {w : Switch} {t : Slot}

/-- A task that holds no chuck runs in the one filled from its save area (R241 to R244). -/
theorem taskSwitch_fills {l : List Cell} {v : State} (hsw : (s.engine e.toNat).sw = some w) (hvictim : w.victim = none)
    (hslot : s.slotAt e.toNat w.slot = t) (hready : t.st = .ready) (hsb : (s.engine e.toNat).sb = []) (hchuck : t.chuck = none)
    (hfill : (fillCellsOf e.toNat t).run s = .ok l v) :
    ∃ u, exec (.taskSwitch e) s = .next u ∧ (u.engine e.toNat).running = true ∧ (u.engine e.toNat).slot = w.slot ∧
      (u.engine e.toNat).cur = w.chuck ∧ (u.engine e.toNat).sw = none ∧ u.chuck e.toNat = chuckOf l t.firstFill t.cls w.slot ∧
      (u.curSlot e.toNat).st = .running ∧ (u.curSlot e.toNat).chuck = some w.chuck := by
  subst hslot
  have halike := State.sbDrain_alike hsb
  obtain ⟨v', hfill', -⟩ := halike.follows_fillCellsOf e.toNat (s.slotAt e.toNat w.slot) l v hfill
  have hexec := exec_taskSwitch_filled hsw hvictim hready halike hchuck hfill'
  obtain ⟨hregs, hheld⟩ := v'.chuckFilled_spec e.toNat w.slot w.chuck
    (chuckOf l (s.slotAt e.toNat w.slot).firstFill (s.slotAt e.toNat w.slot).cls w.slot)
  obtain ⟨hsw', hrun, -, hslot', hcur, -, hchuck'⟩ := State.dispatch_engine (v'.chuckFilled e.toNat w.slot w.chuck
    (chuckOf l (s.slotAt e.toNat w.slot).firstFill (s.slotAt e.toNat w.slot).cls w.slot)) e.toNat w.slot w.chuck
  obtain ⟨hst, hholds⟩ := State.dispatch_slot (v'.chuckFilled e.toNat w.slot w.chuck
    (chuckOf l (s.slotAt e.toNat w.slot).firstFill (s.slotAt e.toNat w.slot).cls w.slot)) e.toNat w.slot w.chuck
  exact ⟨_, hexec, hrun, hslot', hcur, hsw', hchuck'.trans hregs, hst, hholds.trans hheld⟩

/-- A task that holds a chuck is dispatched in it, under the scheduler's copies of its slot (R238, R240, R241). -/
theorem taskSwitch_dispatches (hsw : (s.engine e.toNat).sw = some w) (hvictim : w.victim = none) (hslot : s.slotAt e.toNat w.slot = t)
    (hready : t.st = .ready) (hsb : (s.engine e.toNat).sb = []) (hchuck : t.chuck = some w.chuck) :
    ∃ u, exec (.taskSwitch e) s = .next u ∧ (u.engine e.toNat).sw = none ∧ (u.engine e.toNat).running = true ∧
      (u.engine e.toNat).level = .t ∧ (u.engine e.toNat).slot = w.slot ∧ (u.engine e.toNat).cur = w.chuck ∧ (u.engine e.toNat).resv = none ∧
      (u.curSlot e.toNat).st = .running ∧ u.esys e.toNat 0x108 = t.ttb0 ∧ u.esys e.toNat 0x10B = t.asid.setWidth 64 ∧
      u.esys e.toNat 0x107 = t.ceil.setWidth 64 ∧ u.esys e.toNat 0x10D = t.psalt.setWidth 64 ∧
      u.chuck e.toNat = Map.get Chuck.empty (s.engine e.toNat).chucks w.chuck := by
  subst hslot
  have halike := State.sbDrain_alike hsb
  have hexec := exec_taskSwitch_resident hsw hvictim hready halike hchuck
  have hslots : (s.sbDrain e.toNat).slotAt e.toNat w.slot = s.slotAt e.toNat w.slot := by rw [State.slotAt, halike.engine, State.slotAt]
  obtain ⟨hsw', hrun, hlevel, hslot', hcur, hresv, hchuck'⟩ := State.dispatch_engine (s.sbDrain e.toNat) e.toNat w.slot w.chuck
  obtain ⟨hst, -⟩ := State.dispatch_slot (s.sbDrain e.toNat) e.toNat w.slot w.chuck
  obtain ⟨httb0, hasid, hceil, hpsalt⟩ := State.dispatch_copies (s.sbDrain e.toNat) e.toNat w.slot w.chuck
  rw [hslots] at httb0 hasid hceil hpsalt
  rw [halike.engine] at hchuck'
  exact ⟨_, hexec, hsw', hrun, hlevel, hslot', hcur, hresv, hst, httb0, hasid, hceil, hpsalt, hchuck'⟩

end

/-- Settles O37: the choice is a maximum over the slots, a decision of an unpaired engine has its effect at once, a switch dispatches from the
chuck or from the save area, and a save area gives back the chuck it was written from. -/
theorem scheduling : Obligations.Scheduling := by
  refine ⟨fun x n t h => Engine.pick_leads h, ?_, ?_, ?_⟩
  · intro s e k c t n x hpoint hpair hlong
    refine ⟨exec_schedulingDecision_idle hpoint hpair hlong, ?_, ?_, ?_⟩
    · rintro r hrun rfl hunbind hsuspend hpick hprio hchuck
      exact exec_schedulingDecision_higher hpoint hpair hlong hrun hunbind hsuspend hpick hprio hchuck
    · rintro hrun rfl hslice
      have hexec := exec_sliceExpiry_unpaired hpoint hpair hrun hslice
      exact ⟨exec_sliceExpiry_tail hexec hlong, exec_sliceExpiry_restart hexec⟩
    · rintro hrun rfl hpend hdue v
      obtain ⟨hbit, hlow⟩ := lowestVec_spec hpend
      exact ⟨hbit, hlow, exec_eventEntry_unpaired hpoint hpair hlong hrun hpend hdue⟩
  · intro s e w t n hsw hvictim hslot hready hsb
    exact ⟨fun hchuck l v hfill => taskSwitch_fills hsw hvictim hslot hready hsb hchuck hfill,
      fun hchuck => taskSwitch_dispatches hsw hvictim hslot hready hsb hchuck⟩
  · intro c cls slot hmask hcls d
    refine ⟨fun r hr => chuckOf_reg c cls slot hr, chuckOf_pcc c cls slot, fun n hn => chuckOf_sysr c cls slot hmask hcls hn, rfl, ?_⟩
    rintro rfl
    exact ⟨fun p hp => chuckOf_pred c slot hp, fun a ha => chuckOf_acc c slot ha⟩

end Sys2Proof.Machine
end
